-- ==== Sys2Proof/Word.lean ====
section
/-! DEFINITION. The byte, and the word type the machine's data is made of: register values, addresses and image fields are
natural numbers that the operation storing them keeps below a power of two; signed quantities (encoder positions,
scores, samples) are integers. The bit-field and byte-order helpers stand in Machine/Bits.lean. -/

namespace Sys2Proof

/-- A byte of memory (R6: a byte has 8 bits). -/
abbrev Byte := BitVec 8

/-- Bytes of a buffer, image or packet, lowest address first. -/
abbrev Bytes := List Byte

end Sys2Proof
end

