-- ==== Sys2Proof/Machine/Bits.lean ====
section
/-! DEFINITION. Bit fields, two's-complement readings, little-endian byte order (R6, R7), CRCs and small list helpers. -/

namespace Sys2Proof.Machine

/-- Bits `[hi:lo]` of `x` (R6). -/
def bits (x hi lo : Nat) : Nat := (x >>> lo) % 2 ^ (hi + 1 - lo)

/-- `x` with bits `[hi:lo]` replaced by the low bits of `v`. -/
def putBits (x hi lo v : Nat) : Nat :=
  x - (bits x hi lo <<< lo) + ((v % 2 ^ (hi + 1 - lo)) <<< lo)

/-- Bit `n` of `x` as a truth value. -/
def bit (x n : Nat) : Bool := (x >>> n) % 2 == 1

/-- The two's-complement reading of the low `n` bits of `x`. -/
def sint (n x : Nat) : Int :=
  let y := x % 2 ^ n
  if y < 2 ^ (n - 1) then (y : Int) else (y : Int) - ((2 ^ n : Nat) : Int)

/-- The `n`-bit two's-complement pattern of an integer (wrapping modulo `2^n`). -/
def uint (n : Nat) (i : Int) : Nat := (i % ((2 ^ n : Nat) : Int)).toNat

/-- Saturation of an integer to signed `n` bits. -/
def clampInt (n : Nat) (i : Int) : Int :=
  let hi : Int := ((2 ^ (n - 1) : Nat) : Int) - 1
  if hi < i then hi else if i < -hi - 1 then -hi - 1 else i

/-- Quotient rounded up. -/
def ceilDiv (a b : Nat) : Nat := (a + b - 1) / b

/-- 1 for true, 0 for false. -/
def b2n (b : Bool) : Nat := if b then 1 else 0

/-- The `n` little-endian bytes of `v` (R7). -/
def leBytes : Nat → Nat → Bytes
  | 0, _ => []
  | n + 1, v => BitVec.ofNat 8 v :: leBytes n (v / 256)

/-- The number that a little-endian byte list spells (R7). -/
def leNat : Bytes → Nat
  | [] => 0
  | b :: bs => b.toNat + 256 * leNat bs

/-- The `size`-byte little-endian field at offset `off` of a byte list (bytes beyond its end read as zero). -/
def leField (bs : Bytes) (off size : Nat) : Nat := leNat ((bs.drop off).take size)

/-- The `size`-byte field at byte offset `off` of a number read as little-endian bytes. -/
def numField (x off size : Nat) : Nat := (x >>> (8 * off)) % 2 ^ (8 * size)

/-- One step of a reflected CRC of width 32 with polynomial `poly` (already bit-reversed). -/
def crcBits (poly : Nat) : Nat → Nat → Nat
  | 0, r => r
  | n + 1, r => crcBits poly n (if r % 2 = 1 then (r / 2) ^^^ poly else r / 2)

/-- A reflected CRC-32 register after the bytes `bs`. -/
def crcRun (poly : Nat) : Nat → Bytes → Nat
  | r, [] => r
  | r, b :: bs => crcRun poly (crcBits poly 8 (r ^^^ b.toNat)) bs

/-- The running register of the CRC-32C of R292, polynomial 0x1EDC_6F41 in reflected form. -/
def crc32cRun (r : Nat) (bs : Bytes) : Nat := crcRun 0x82F63B78 r bs

/-- CRC-32C: initial value and final XOR all ones (R292). -/
def crc32c (bs : Bytes) : Nat := crc32cRun 0xFFFFFFFF bs ^^^ 0xFFFFFFFF

/-- The value held for a key in a sparse table, or the default where the table lists none. -/
def tget {α : Type} : List (Nat × α) → Nat → α → α
  | [], _, d => d
  | (k, v) :: t, n, d => if k = n then v else tget t n d

/-- The value a sparse table lists for a key, if any. -/
def tfind {α : Type} : List (Nat × α) → Nat → Option α
  | [], _ => none
  | (k, v) :: t, n => if k = n then some v else tfind t n

/-- A sparse table with the value of one key replaced; the keys stay strictly rising. -/
def tput {α : Type} : List (Nat × α) → Nat → α → List (Nat × α)
  | [], n, v => [(n, v)]
  | (k, w) :: t, n, v =>
    if n < k then (n, v) :: (k, w) :: t
    else if n = k then (n, v) :: t
    else (k, w) :: tput t n v

/-- A sparse table without one key. -/
def tdel {α : Type} : List (Nat × α) → Nat → List (Nat × α)
  | [], _ => []
  | (k, w) :: t, n => if k = n then tdel t n else (k, w) :: tdel t n

/-- The keys of a table are strictly rising. -/
def tsorted {α : Type} : List (Nat × α) → Bool
  | [] => true
  | [_] => true
  | (a, _) :: (b, w) :: t => decide (a < b) && tsorted ((b, w) :: t)

/-- Insertion into a list ordered by a key, after equal keys. -/
def insertBy {α : Type} (key : α → Int) (x : α) : List α → List α
  | [] => [x]
  | y :: ys => if key x < key y then x :: y :: ys else y :: insertBy key x ys

/-- A list sorted by a key, stable. -/
def sortBy {α : Type} (key : α → Int) (l : List α) : List α := l.foldl (fun acc x => insertBy key x acc) []

/-- The list with its `n`-th element replaced. -/
def setAt {α : Type} : List α → Nat → α → List α
  | [], _, _ => []
  | _ :: xs, 0, v => v :: xs
  | x :: xs, n + 1, v => x :: setAt xs n v

/-- The first index at which a list's element satisfies a test, counted from `n`. -/
def findIdx {α : Type} (p : α → Bool) : Nat → List α → Option Nat
  | _, [] => none
  | n, x :: xs => if p x then some n else findIdx p (n + 1) xs

/-- The integers `a, a + 1, …` to the number of `n`. -/
def rangeFrom : Nat → Nat → List Nat
  | _, 0 => []
  | a, n + 1 => a :: rangeFrom (a + 1) n

/-- The sum of a list of naturals. -/
def sumNat (l : List Nat) : Nat := l.foldl (· + ·) 0

/-- The largest of a list of naturals, 0 for none. -/
def maxNat (l : List Nat) : Nat := l.foldl max 0

end Sys2Proof.Machine
end

