-- ==== Sys2Proof/Machine/Crypto.lean ====
section
/-! DEFINITION. The cryptography of 18_trust_update.md: SHA-384 and HMAC-SHA-384 (FIPS 180-4, FIPS 198-1), AES-256-GCM
(FIPS 197, SP 800-38D) and the verification of ECDSA signatures over P-384 (FIPS 186-5). -/

namespace Sys2Proof.Machine

/-! ## SHA-384 -/

/-- Round constants 0 to 19 of SHA-512. -/
def sha5K0 : List Nat :=
  [0x428a2f98d728ae22, 0x7137449123ef65cd, 0xb5c0fbcfec4d3b2f, 0xe9b5dba58189dbbc,
   0x3956c25bf348b538, 0x59f111f1b605d019, 0x923f82a4af194f9b, 0xab1c5ed5da6d8118,
   0xd807aa98a3030242, 0x12835b0145706fbe, 0x243185be4ee4b28c, 0x550c7dc3d5ffb4e2,
   0x72be5d74f27b896f, 0x80deb1fe3b1696b1, 0x9bdc06a725c71235, 0xc19bf174cf692694,
   0xe49b69c19ef14ad2, 0xefbe4786384f25e3, 0x0fc19dc68b8cd5b5, 0x240ca1cc77ac9c65]

/-- Round constants 20 to 39 of SHA-512. -/
def sha5K1 : List Nat :=
  [0x2de92c6f592b0275, 0x4a7484aa6ea6e483, 0x5cb0a9dcbd41fbd4, 0x76f988da831153b5,
   0x983e5152ee66dfab, 0xa831c66d2db43210, 0xb00327c898fb213f, 0xbf597fc7beef0ee4,
   0xc6e00bf33da88fc2, 0xd5a79147930aa725, 0x06ca6351e003826f, 0x142929670a0e6e70,
   0x27b70a8546d22ffc, 0x2e1b21385c26c926, 0x4d2c6dfc5ac42aed, 0x53380d139d95b3df,
   0x650a73548baf63de, 0x766a0abb3c77b2a8, 0x81c2c92e47edaee6, 0x92722c851482353b]

/-- Round constants 40 to 59 of SHA-512. -/
def sha5K2 : List Nat :=
  [0xa2bfe8a14cf10364, 0xa81a664bbc423001, 0xc24b8b70d0f89791, 0xc76c51a30654be30,
   0xd192e819d6ef5218, 0xd69906245565a910, 0xf40e35855771202a, 0x106aa07032bbd1b8,
   0x19a4c116b8d2d0c8, 0x1e376c085141ab53, 0x2748774cdf8eeb99, 0x34b0bcb5e19b48a8,
   0x391c0cb3c5c95a63, 0x4ed8aa4ae3418acb, 0x5b9cca4f7763e373, 0x682e6ff3d6b2b8a3,
   0x748f82ee5defb2fc, 0x78a5636f43172f60, 0x84c87814a1f0ab72, 0x8cc702081a6439ec]

/-- Round constants 60 to 79 of SHA-512. -/
def sha5K3 : List Nat :=
  [0x90befffa23631e28, 0xa4506cebde82bde9, 0xbef9a3f7b2c67915, 0xc67178f2e372532b,
   0xca273eceea26619c, 0xd186b8c721c0c207, 0xeada7dd6cde0eb1e, 0xf57d4f7fee6ed178,
   0x06f067aa72176fba, 0x0a637dc5a2c898a6, 0x113f9804bef90dae, 0x1b710b35131c471b,
   0x28db77f523047d84, 0x32caab7b40c72493, 0x3c9ebe0a15c9bebc, 0x431d67c49c100d4c,
   0x4cc5d4becb3e42b6, 0x597f299cfc657e2a, 0x5fcb6fab3ad6faec, 0x6c44198c4a475817]

/-- Rotation of a 64-bit word to the right. -/
def rotr64 (x n : Nat) : Nat := (x >>> n) ||| ((x <<< (64 - n)) % 2 ^ 64)

/-- The next word of the message schedule from the last 16, newest first. -/
def sha5Next (w : List Nat) : Nat :=
  let a := w.getD 14 0
  let b := w.getD 1 0
  let s0 := rotr64 a 1 ^^^ rotr64 a 8 ^^^ (a >>> 7)
  let s1 := rotr64 b 19 ^^^ rotr64 b 61 ^^^ (b >>> 6)
  (w.getD 15 0 + s0 + w.getD 6 0 + s1) % 2 ^ 64

/-- The schedule, newest word first, lengthened by `n` words. -/
def sha5Schedule : Nat → List Nat → List Nat
  | 0, w => w
  | n + 1, w => sha5Schedule n (sha5Next w :: w)

/-- One round on the eight working words. -/
def sha5Round (v : List Nat) (kw : Nat × Nat) : List Nat :=
  match v with
  | [a, b, c, d, e, f, g, h] =>
    let s1 := rotr64 e 14 ^^^ rotr64 e 18 ^^^ rotr64 e 41
    let ch := (e &&& f) ^^^ ((e ^^^ 0xFFFFFFFFFFFFFFFF) &&& g)
    let t1 := h + s1 + ch + kw.1 + kw.2
    let s0 := rotr64 a 28 ^^^ rotr64 a 34 ^^^ rotr64 a 39
    let maj := (a &&& b) ^^^ (a &&& c) ^^^ (b &&& c)
    [(t1 + s0 + maj) % 2 ^ 64, a, b, c, (d + t1) % 2 ^ 64, e, f, g]
  | _ => v

/-- The 64-bit big-endian words of a byte list. -/
def beWords64 : Nat → Bytes → List Nat
  | 0, _ => []
  | n + 1, bs => beNat (bs.take 8) :: beWords64 n (bs.drop 8)

/-- One block of 128 bytes folded into the state. -/
def sha5Block (v : List Nat) (blk : Bytes) : List Nat :=
  let w := (sha5Schedule 64 (beWords64 16 blk).reverse).reverse
  let r := ((sha5K0 ++ sha5K1 ++ sha5K2 ++ sha5K3).zip w).foldl sha5Round v
  (v.zip r).map (fun p => (p.1 + p.2) % 2 ^ 64)

/-- `n` blocks folded in order. -/
def sha5Blocks : Nat → List Nat → Bytes → List Nat
  | 0, v, _ => v
  | n + 1, v, bs => sha5Blocks n (sha5Block v (bs.take 128)) (bs.drop 128)

/-- The message padded to whole blocks of 128 bytes. -/
def sha5Pad (bs : Bytes) : Bytes :=
  bs ++ (0x80#8 :: List.replicate ((239 - bs.length % 128) % 128) 0) ++ beBytes 16 (8 * bs.length)

/-- SHA-384: 48 bytes. -/
def sha384 (bs : Bytes) : Bytes :=
  let p := sha5Pad bs
  ((sha5Blocks (p.length / 128)
    [0xcbbb9d5dc1059ed8, 0x629a292a367cd507, 0x9159015a3070dd17, 0x152fecd8f70e5939,
   0x67332667ffc00b31, 0x8eb44a8768581511, 0xdb0c2e0d64f98fa7, 0x47b5481dbefa4fa4] p).flatMap (beBytes 8)).take 48

/-- HMAC-SHA-384 under a key of at most 128 bytes. -/
def hmac384 (key msg : Bytes) : Bytes :=
  let k := key ++ List.replicate (128 - key.length) 0
  sha384 (k.map (· ^^^ 0x5C#8) ++ sha384 (k.map (· ^^^ 0x36#8) ++ msg))

/-! ## AES-256 -/

/-- Doubling in GF(2^8) with the polynomial 0x11B. -/
def xtime (a : Nat) : Nat := if a < 128 then 2 * a else (2 * a) ^^^ 0x11B

/-- The product of `a` and the low `n` bits of `b` in GF(2^8). -/
def gfMul : Nat → Nat → Nat → Nat
  | 0, _, _ => 0
  | n + 1, a, b => (if b % 2 = 1 then a else 0) ^^^ gfMul n (xtime a) (b / 2)

def gf (a b : Nat) : Nat := gfMul 8 a b

/-- The inverse a^254, zero for zero. -/
def gfInv (a : Nat) : Nat :=
  let a2 := gf a a
  let a4 := gf a2 a2
  let a8 := gf a4 a4
  let a16 := gf a8 a8
  let a32 := gf a16 a16
  let a64 := gf a32 a32
  gf (gf a2 a4) (gf (gf a8 a16) (gf (gf a32 a64) (gf a64 a64)))

/-- Rotation of a byte to the left. -/
def rotl8 (x n : Nat) : Nat := (x <<< n ||| x >>> (8 - n)) % 256

/-- The S-box. -/
def sbox (a : Nat) : Nat :=
  let b := gfInv a
  b ^^^ rotl8 b 1 ^^^ rotl8 b 2 ^^^ rotl8 b 3 ^^^ rotl8 b 4 ^^^ 0x63

/-- The S-box as a table. -/
def sboxTable : Array Nat := ((rangeFrom 0 256).map sbox).toArray

def subByte (t : Array Nat) (a : Nat) : Nat := t.getD a 0

/-- The next four-byte word of the key schedule from the last eight words, newest first; `i` is its number. -/
def aesNextWord (t : Array Nat) (i rcon : Nat) (w : List (List Nat)) : List Nat :=
  let last := w.headD []
  let x :=
    if i % 8 = 0 then
      (match last with
       | [a, b, c, d] => [subByte t b ^^^ rcon, subByte t c, subByte t d, subByte t a]
       | l => l)
    else if i % 8 = 4 then last.map (subByte t)
    else last
  ((w.getD 7 []).zip x).map (fun p => p.1 ^^^ p.2)

/-- The key schedule lengthened by `n` words from word `i` on, newest first. -/
def aesExpand (t : Array Nat) : Nat → Nat → Nat → List (List Nat) → List (List Nat)
  | 0, _, _, w => w
  | n + 1, i, rcon, w => aesExpand t n (i + 1) (if i % 8 = 0 then xtime rcon else rcon) (aesNextWord t i rcon w :: w)

/-- A list cut into parts of four. -/
def fours : Nat → List Nat → List (List Nat)
  | 0, _ => []
  | n + 1, l => l.take 4 :: fours n (l.drop 4)

/-- The 15 round keys of a 32-byte key, 16 bytes each. -/
def aesKeys (t : Array Nat) (key : List Nat) : List (List Nat) :=
  let w := (aesExpand t 52 8 1 (fours 8 key).reverse).reverse
  (rangeFrom 0 15).map (fun r => ((w.drop (4 * r)).take 4).flatMap id)

/-- SubBytes and ShiftRows. -/
def aesShift (t : Array Nat) (s : List Nat) : List Nat :=
  (rangeFrom 0 16).map (fun i => subByte t (s.getD ((i + 4 * (i % 4)) % 16) 0))

/-- MixColumns. -/
def aesMix (s : List Nat) : List Nat :=
  (rangeFrom 0 16).map (fun i =>
    let c := i / 4 * 4
    let g (k : Nat) : Nat := s.getD (c + (i + k) % 4) 0
    gf 2 (g 0) ^^^ gf 3 (g 1) ^^^ g 2 ^^^ g 3)

def xorList (a b : List Nat) : List Nat := (a.zip b).map (fun p => p.1 ^^^ p.2)

/-- The rounds after the first key. -/
def aesRounds (t : Array Nat) : List (List Nat) → List Nat → List Nat
  | [], s => s
  | [k], s => xorList (aesShift t s) k
  | k :: ks, s => aesRounds t ks (xorList (aesMix (aesShift t s)) k)

/-- One block enciphered under expanded keys. -/
def aesBlock (t : Array Nat) (ks : List (List Nat)) (b : List Nat) : List Nat :=
  aesRounds t (ks.drop 1) (xorList b (ks.headD []))

/-! ## GCM -/

/-- The product in GF(2^128) of R of SP 800-38D: `n` bits of `x`, most significant first, against `v`. -/
def ghMul : Nat → Nat → Nat → Nat → Nat
  | 0, _, _, z => z
  | n + 1, x, v, z =>
    ghMul n x (if v % 2 = 1 then (v / 2) ^^^ (0xE1 * 2 ^ 120) else v / 2) (if (x >>> n) % 2 = 1 then z ^^^ v else z)

/-- GHASH over whole blocks. -/
def ghash (h : Nat) : Nat → Bytes → Nat → Nat
  | 0, _, y => y
  | n + 1, bs, y => ghash h n (bs.drop 16) (ghMul 128 (y ^^^ beNat (bs.take 16)) h 0)

/-- Zeros up to a whole block. -/
def pad16 (bs : Bytes) : Bytes := bs ++ List.replicate ((16 - bs.length % 16) % 16) 0

/-- The key stream of `n` blocks from counter `i` on. -/
def ctrStream (t : Array Nat) (ks : List (List Nat)) (iv : Bytes) : Nat → Nat → Bytes
  | 0, _ => []
  | n + 1, i => (aesBlock t ks ((iv ++ beBytes 4 i).map (·.toNat))).map (BitVec.ofNat 8) ++ ctrStream t ks iv n (i + 1)

def xorBytes (a b : Bytes) : Bytes := (a.zip b).map (fun p => p.1 ^^^ p.2)

/-- AES-256-GCM with a 12-byte IV: what the key stream makes of the text, and the tag over the ciphertext `ct`. -/
def gcm (key iv aad text : Bytes) (ct : Bytes → Bytes) : Bytes × Bytes :=
  let t := sboxTable
  let ks := aesKeys t (key.map (·.toNat))
  let h := beNat ((aesBlock t ks (List.replicate 16 0)).map (BitVec.ofNat 8))
  let out := xorBytes text (ctrStream t ks iv (ceilDiv text.length 16) 2)
  let c := ct out
  let m := pad16 aad ++ pad16 c ++ beBytes 8 (8 * aad.length) ++ beBytes 8 (8 * c.length)
  (out, xorBytes (beBytes 16 (ghash h (m.length / 16) m 0)) (ctrStream t ks iv 1 1))

/-- Encryption: ciphertext and tag. -/
def gcmSeal (key iv aad text : Bytes) : Bytes × Bytes := gcm key iv aad text id

/-- Decryption: the plaintext, when the tag is right. -/
def gcmOpen (key iv aad ct tag : Bytes) : Option Bytes :=
  let r := gcm key iv aad ct (fun _ => ct)
  if r.2 = tag then some r.1 else none

/-! ## ECDSA over P-384 -/

def p384P : Nat := 2 ^ 384 - 2 ^ 128 - 2 ^ 96 + 2 ^ 32 - 1
def p384N : Nat :=
  0xffffffffffffffffffffffffffffffffffffffffffffffffc7634d81f4372ddf581a0db248b0a77aecec196accc52973
def p384B : Nat :=
  0xb3312fa7e23ee7e4988e056be3f82d19181d9c6efe8141120314088f5013875ac656398d8a2ed19d2a85c8edd3ec2aef
def p384Gx : Nat :=
  0xaa87ca22be8b05378eb1c71ef320ad746e1d3b628ba79b9859f741e082542a385502f25dbf55296c3a545e3872760ab7
def p384Gy : Nat :=
  0x3617de4a96262c6f5d9e98bf9292dc29f8f41dbd289a147ce9da3113b5f0b8c00a60b1ce1d7e819d7a431d7c90ea0e5f

/-- `b ^ e` modulo `m`, over the low `n` bits of `e`. -/
def powMod (m : Nat) : Nat → Nat → Nat → Nat
  | 0, _, _ => 1 % m
  | n + 1, b, e => (if e % 2 = 1 then b else 1) * powMod m n (b * b % m) (e / 2) % m

/-- The inverse modulo a prime of at most 384 bits. -/
def invMod (m a : Nat) : Nat := powMod m 384 (a % m) (m - 2)

/-- A point in Jacobian coordinates; z = 0 is the point at infinity. -/
structure JPoint where
  x : Nat
  y : Nat
  z : Nat
  deriving DecidableEq, Repr

def fSub (a b : Nat) : Nat := (a + p384P - b % p384P) % p384P
def fMul (a b : Nat) : Nat := a * b % p384P

/-- Twice a point (a = −3). -/
def JPoint.dbl (p : JPoint) : JPoint :=
  let d := fMul p.z p.z
  let g := fMul p.y p.y
  let b := fMul p.x g
  let al := 3 * fMul (fSub p.x d) ((p.x + d) % p384P) % p384P
  let x := fSub (fMul al al) (8 * b)
  let z := fSub (fSub (fMul (p.y + p.z) (p.y + p.z)) g) d
  ⟨x, fSub (fMul al (fSub (4 * b) x)) (8 * fMul g g), z⟩

/-- The sum of two points. -/
def JPoint.add (p q : JPoint) : JPoint :=
  if p.z = 0 then q
  else if q.z = 0 then p
  else
    let z1 := fMul p.z p.z
    let z2 := fMul q.z q.z
    let u1 := fMul p.x z2
    let u2 := fMul q.x z1
    let s1 := fMul p.y (fMul q.z z2)
    let s2 := fMul q.y (fMul p.z z1)
    if u1 = u2 then (if s1 = s2 then p.dbl else ⟨1, 1, 0⟩)
    else
      let h := fSub u2 u1
      let r := fSub s2 s1
      let h2 := fMul h h
      let h3 := fMul h h2
      let v := fMul u1 h2
      let x := fSub (fSub (fMul r r) h3) (2 * v)
      ⟨x, fSub (fMul r (fSub v x)) (fMul s1 h3), fMul h (fMul p.z q.z)⟩

/-- The low `n` bits of `k` times a point. -/
def JPoint.mul : Nat → Nat → JPoint → JPoint
  | 0, _, _ => ⟨1, 1, 0⟩
  | n + 1, k, p => let r := JPoint.mul n (k / 2) p.dbl; if k % 2 = 1 then r.add p else r

/-- An ECDSA signature (r then s, 48 bytes each) by a public key (x then y) over a 48-byte digest. -/
def ecdsaOk (pub sig digest : Bytes) : Bool :=
  let x := beNat (pub.take 48)
  let y := beNat ((pub.drop 48).take 48)
  let r := beNat (sig.take 48)
  let s := beNat ((sig.drop 48).take 48)
  if p384P ≤ x || p384P ≤ y || fMul y y != (fMul x (fMul x x) + 3 * (p384P - x) + p384B) % p384P then false
  else if r = 0 || s = 0 || p384N ≤ r || p384N ≤ s then false
  else
    let w := invMod p384N s
    let u1 := beNat digest * w % p384N
    let u2 := r * w % p384N
    let q := (JPoint.mul 384 u1 ⟨p384Gx, p384Gy, 1⟩).add (JPoint.mul 384 u2 ⟨x, y, 1⟩)
    if q.z = 0 then false
    else
      let zi := invMod p384P q.z
      fMul q.x (fMul zi zi) % p384N == r

end Sys2Proof.Machine
end

