-- ==== Sys2Proof/Config.lean ====
section
/-! DEFINITION. What an implementation fixes and the spec leaves open: the free values. None of these constants has a body
that a proof could see, so a claim that holds in the model holds whatever the value is. -/

namespace Sys2Proof

/-- The value drawn as the `n`-th free value of a run: a result the spec leaves undefined. -/
opaque Config.free : Nat → Nat

/-- Whether A leading B counts up before DIR_INV (R101 fixes the sign only by "the quadrature order"). -/
opaque Config.aLeadsUp : Bool

/-- The set of the TLB that a block falls into (R261 says only that it is chosen from the context and the block number),
and the way that pseudo-LRU replaces. -/
opaque Config.tlbSet : Nat → Nat → Nat
opaque Config.tlbVictim : Nat → Nat

/-- A quotient as the implementation rounds it, where the spec states a precision but no direction of rounding (the
tracker's positions and velocities, R134). -/
opaque Config.quant : Int → Int → Int

/-- Which way "rounded" goes when the exact value lies half way between two steps: the spec does not say. -/
opaque Config.tieUp : Bool

/-- The output of half-band stage 1 or 2 for its last 39 inputs, newest first (R178 gives its response, not its taps or its
arithmetic). -/
opaque Config.halfBand : Nat → List Int → Int

/-- The bit pattern of a NaN that an epilogue writes, by type (R203 names no pattern). -/
opaque Config.nanBits : Nat → Nat

/-- What max(0, x) of R203 gives for the two values it does not order: whether NaN (0) and minus zero (1) stay. -/
opaque Config.reluKeeps : Nat → Bool

/-- Where in the first GiB of LPDDR5X channel 0 the firmware places the model store (R244), as a number of 4 KiB blocks. -/
opaque Config.modelStore : Nat

/-- The fuses that hold the device's keys and digests (R397): DUK, DEVID, the digests of the firmware roots and of the
debug-unlock keys; none where an entry is not programmed. -/
opaque Config.duk : Bytes
opaque Config.devid : Nat
opaque Config.rootDigest : Nat → Option Bytes
opaque Config.debugDigest : Nat → Option Bytes

end Sys2Proof
end

