-- ==== Sys2Proof/Syntax.lean ====
section
/-! DEFINITION. The commands the block takes from outside: one constructor for each row of the spec's table of
operations and events, and the plain data its operands are made of. A word spells no row (the table gives no bits). -/

namespace Sys2Proof

/-- What an ATS Translation Request for one 4 KiB page answers (R263): the page's bus address, its rights and the size
in pages of the completion it came with. A page that is not listed answers a failure (R266). -/
structure AtsPage where
  hva : Nat
  bus : Nat
  write : Bool
  sizePages : Nat
  deriving DecidableEq, Repr

/-- What the host's memory and its IOMMU answer while the device runs one command. Host memory is not the device's
state: its bytes come with the command that reads them. `mem` lists blocks by bus address (an unlisted byte reads
zero), `poison` the bus addresses of granules that arrive poisoned, `noResp` those of walk reads that end in an error
completion or none (R260), `ats` the pages the IOMMU translates, `far` the bytes of imported Herd windows that their
exporters answer (R278), by 2^48 * import table + offset. -/
structure HostEnv where
  mem : List (Nat × Bytes)
  poison : List Nat
  noResp : List Nat
  ats : List AtsPage
  far : List (Nat × Bytes)
  deriving DecidableEq, Repr

/-- The empty environment. -/
def HostEnv.none : HostEnv := ⟨[], [], [], [], []⟩

/-- One activity of a plan: context, handle, whether the record is an item record, the record's index in its section,
and the item ID (item record) or the cycle number (cycle record) it runs for (R47, Table 3.5). -/
structure RecRun where
  c : Nat
  h : Nat
  item : Bool
  idx : Nat
  n : Nat
  deriving DecidableEq, Repr

/-- What the beat boundary brings from outside: the energy delivered to the package in the beat just ended, in 0.1 µJ
(R312), and the dies whose copy of device time differs from the H-die counter (R34). -/
structure BeatEnv where
  energy : Nat
  timeDiff : List Nat
  deriving DecidableEq, Repr

/-- Who reaches a register: context 0 through BAR0, or the function of a context through its BAR2 (R22). -/
inductive RegPort where
  | bar0
  | bar2 (c : Nat)
  deriving DecidableEq, Repr

/-- A CSI-2 packet as it leaves the D-PHY: data type and virtual channel of its header, its header ECC (0 good, 1
corrected, 2 multi-bit error), whether its CRC-16 holds, and its payload (R120, R121). -/
structure CsiPacket where
  dt : Nat
  vc : Nat
  ecc : Nat
  crcOk : Bool
  payload : Bytes
  deriving DecidableEq, Repr

/-- What a boot stage finds (R423): whether its work could be finished, and what the ROM, the parts and the self-tests
answered. -/
structure BootEnv where
  ok : Bool
  errCode : Nat
  vals : List Nat
  deriving DecidableEq, Repr

/-- A Ditcharid flit as it arrives: whether its CRC holds, its type and its body (R371). -/
structure Flit where
  crcOk : Bool
  typ : Nat
  body : List Nat
  deriving DecidableEq, Repr


/-- One command of the block: one constructor per row of the spec's table of operations and events. The rows that are
opcodes of Table 4.9 name the context and local queue whose oldest waiting packet the device takes, and what host
memory answers while it runs. -/
inductive Instr where
  /-- Command that does nothing and completes with DETAIL 0 (R95). -/
  | nop (c : Nat) (q : Nat) (env : HostEnv)
  /-- Command that returns its VALUE unchanged in DETAIL (R95). -/
  | echo (c : Nat) (q : Nat) (env : HostEnv)
  /-- Command that returns the device value named by SELECT in DETAIL (R95). -/
  | queryDevice (c : Nat) (q : Nat) (env : HostEnv)
  /-- Copies a plan image into an EMPTY handle and checks its format (R56). -/
  | planLoad (c : Nat) (q : Nat) (env : HostEnv)
  /-- Runs the admission checks on a loaded plan or swap pair and holds its claims (R54). -/
  | planAdmit (c : Nat) (q : Nat) (env : HostEnv)
  /-- Fixes the anchor beat or swap boundary, then loads the timetable, weights and programs and wakes the claimed domains before the anchor (R58). -/
  | planArm (c : Nat) (q : Nat) (env : HostEnv)
  /-- Fixes the stop boundary of a plan, optionally cancelling its pending outputs (R61). -/
  | planStop (c : Nat) (q : Nat) (env : HostEnv)
  /-- Frees a plan handle and releases its image or claims (R56). -/
  | planUnload (c : Nat) (q : Nat) (env : HostEnv)
  /-- Writes the 128-byte plan status block to host memory (R67). -/
  | planStatus (c : Nat) (q : Nat) (env : HostEnv)
  /-- Decrypts if needed, checks and copies a model image into the model store (R216). -/
  | modelLoad (c : Nat) (q : Nat) (env : HostEnv)
  /-- Frees a resident model of the context (R217). -/
  | modelEvict (c : Nat) (q : Nat) (env : HostEnv)
  /-- Writes one entry for each resident model of the context (R217). -/
  | modelList (c : Nat) (q : Nat) (env : HostEnv)
  /-- Creates a HOST, LOCAL, MIGR or REMOTE range entry and translates or places its backing (R280). -/
  | bufPin (c : Nat) (q : Nat) (env : HostEnv)
  /-- Frees a range slot with its runs, memory or pool (R281). -/
  | bufUnpin (c : Nat) (q : Nat) (env : HostEnv)
  /-- Drops cached translations over a span and translates the held descriptors again (R282). -/
  | tlbInvalidate (c : Nat) (q : Nat) (env : HostEnv)
  /-- Moves the pages of a MIGR span to the home that DIR names (R277). -/
  | pageMigrate (c : Nat) (q : Nat) (env : HostEnv)
  /-- Creates a COMMAND, DMA_RING or VERDICT queue at a local queue number (R96). -/
  | ringCreate (c : Nat) (q : Nat) (env : HostEnv)
  /-- Destroys a queue, aborting its uncommitted commands (R97). -/
  | ringDestroy (c : Nat) (q : Nat) (env : HostEnv)
  /-- Stores or removes a DMA program in the context's program store (R309). -/
  | dmaProgLoad (c : Nat) (q : Nat) (env : HostEnv)
  /-- Stops a background capture and returns the channel to IDLE (R174). -/
  | acqConfigStop (c : Nat) (q : Nat) (env : HostEnv)
  /-- Applies a channel block with its profiles to an IDLE channel (R174). -/
  | acqConfigApply (c : Nat) (q : Nat) (env : HostEnv)
  /-- Starts a background capture on an IDLE channel with a profile (R166). -/
  | acqConfigStart (c : Nat) (q : Nat) (env : HostEnv)
  /-- Forces a COMMAND trigger on a WAITING channel (R156). -/
  | acqConfigForce (c : Nat) (q : Nat) (env : HostEnv)
  /-- Sets or clears pair mode on a pair of IDLE channels (R152). -/
  | acqConfigPair (c : Nat) (q : Nat) (env : HostEnv)
  /-- Stops a running DFC channel (R187). -/
  | dfcCoefLoadStop (c : Nat) (q : Nat) (env : HostEnv)
  /-- Checks a DFC configuration block and applies it to a stopped channel (R189). -/
  | dfcCoefLoadLoad (c : Nat) (q : Nat) (env : HostEnv)
  /-- Starts a DFC channel, anchored at the next beat boundary (R187). -/
  | dfcCoefLoadStart (c : Nat) (q : Nat) (env : HostEnv)
  /-- Schedules a decimator sync at tick AT (R175). -/
  | acqSync (c : Nat) (q : Nat) (env : HostEnv)
  /-- Copies stored background segments of a channel to host memory (R176). -/
  | acqReadout (c : Nat) (q : Nat) (env : HostEnv)
  /-- Disables an event port (R147). -/
  | evpConfigDisable (c : Nat) (q : Nat) (env : HostEnv)
  /-- Enables an event port with a block, or replaces its block (R147). -/
  | evpConfigEnable (c : Nat) (q : Nat) (env : HostEnv)
  /-- Replaces only the group and profile tables of a port (R147). -/
  | evpConfigGroups (c : Nat) (q : Nat) (env : HostEnv)
  /-- Replaces the hot-pixel mask of a port or adds to it (R147). -/
  | evpMaskLoad (c : Nat) (q : Nat) (env : HostEnv)
  /-- Sets a domain's target state, idle time and kept banks (R346). -/
  | pwrPolicySet (c : Nat) (q : Nat) (env : HostEnv)
  /-- Wakes a domain and commits when it is ON on its functional clock (R346). -/
  | pwrPolicyWake (c : Nat) (q : Nat) (env : HostEnv)
  /-- Sets whether the always-on regulator may use LP mode (R346). -/
  | pwrPolicyAon (c : Nat) (q : Nat) (env : HostEnv)
  /-- Sets the budget, window, reserve and gain, effective at the next beat boundary (R325). -/
  | energyBudgetSet (c : Nat) (q : Nat) (env : HostEnv)
  /-- Puts a list of domains to sleep one at a time, rolling back on a refusal (R344). -/
  | pwrGroupSleep (c : Nat) (q : Nat) (env : HostEnv)
  /-- Arms an injection on a detector in SINGLE, COUNT or PERSISTENT mode (R366). -/
  | faultInject (c : Nat) (q : Nat) (env : HostEnv)
  /-- Ends the active fault injection (R365). -/
  | faultInjectClear (c : Nat) (q : Nat) (env : HostEnv)
  /-- Copies fault log or device log records to host memory (R367). -/
  | faultLogRead (c : Nat) (q : Nat) (env : HostEnv)
  /-- Self-tests one Tine engine, chain unit or PPU channel (R368). -/
  | selftestRun (c : Nat) (q : Nat) (env : HostEnv)
  /-- Trains links, runs the join checks and steps device time to the leader's (R380). -/
  | herdJoinJoin (c : Nat) (q : Nat) (env : HostEnv)
  /-- Makes a DETACHED device the LEADER of a Herd of one (R381). -/
  | herdJoinFound (c : Nat) (q : Nat) (env : HostEnv)
  /-- Sets a new epoch on the leader (R381). -/
  | herdJoinEpoch (c : Nat) (q : Nat) (env : HostEnv)
  /-- Fixes the leave boundary and puts the device in LEAVING (R394). -/
  | herdLeave (c : Nat) (q : Nat) (env : HostEnv)
  /-- Writes the Herd status block to host memory (R395). -/
  | herdStatus (c : Nat) (q : Nat) (env : HostEnv)
  /-- Exports part of a range as a window to chosen members (R388). -/
  | windowExport (c : Nat) (q : Nat) (env : HostEnv)
  /-- Withdraws an exported window and revokes its importers' ranges (R389). -/
  | windowWithdraw (c : Nat) (q : Nat) (env : HostEnv)
  /-- Writes firmware data into the inactive flash slot (R406). -/
  | fwDownload (c : Nat) (q : Nat) (env : HostEnv)
  /-- Authenticates the inactive slot's image and writes its verified marker (R406). -/
  | fwVerify (c : Nat) (q : Nat) (env : HostEnv)
  /-- Writes a trial boot record naming the inactive slot, optionally starting a warm reset (R407). -/
  | fwActivate (c : Nat) (q : Nat) (env : HostEnv)
  /-- Confirms the trial image and blows SVN fuses (R408). -/
  | fwConfirm (c : Nat) (q : Nat) (env : HostEnv)
  /-- Resets a context: discards packets, aborts commands, stops plans and DMA, clears counters (R88). -/
  | ctxReset (c : Nat) (q : Nat) (env : HostEnv)
  /-- Aborts the oldest uncommitted command with a TAG on an SQ, or reports it too late (R83). -/
  | abort (c : Nat) (q : Nat) (env : HostEnv)
  /-- Write of an SQ tail doorbell, accepted or ignored, which starts fetching and descriptor translation (R74). -/
  | fnSqdb (c : Nat) (q : Nat) (tail : Nat) (env : HostEnv)
  /-- Write of a CQ head doorbell, which frees completion entries (R75). -/
  | fnCqdb (c : Nat) (q : Nat) (head : Nat)
  /-- Write that enables or disables queue 0 and resets its pointers (R98). -/
  | fnQ0Ctrl (c : Nat) (v : Nat)
  /-- Write of RELOCK that leaves ENC_LOST, setting POS to HWM and QLVL to 0 (R103). -/
  | lioEncRelock (n : Nat)
  /-- Write that fires one pulse on an unclaimed output (R115). -/
  | lioLoForce (j : Nat) (len : Nat)
  /-- Write that starts an AFE SPI transfer, or refuses it for a planned channel (R173). -/
  | acqSpiTx (v : Nat)
  /-- Write that makes a ring channel stop raising reads (R306). -/
  | dmxPauseSet (n : Nat)
  /-- Write that resumes a paused ring channel from the point it stopped (R306). -/
  | dmxPauseClear (n : Nat)
  /-- Write that drops every TLB and walk-cache entry and retranslates held descriptors (R272). -/
  | atuTlbFlush (env : HostEnv)
  /-- Key operation that unwraps KSU_BLOB into a key slot (R410). -/
  | ksuKeyLoad (slot : Nat)
  /-- Key operation that empties a key slot (R410). -/
  | ksuKeyClear (slot : Nat)
  /-- Key operation that wraps a plaintext key under KWK into KSU_BLOB (R410). -/
  | ksuKeyWrap (slot : Nat)
  /-- Write of UNLOCK that checks the debug signature and, on success, zeroizes and starts a warm reset (R415). -/
  | ksuDbgUnlock (keysel : Nat)
  /-- Write that blows the revocation fuse of a firmware root (R419). -/
  | ksuRevoke (v : Nat)
  /-- Write that blows the PROV_LOCK fuse (R397). -/
  | ksuProvLock (v : Nat)
  /-- Write that starts a domain reset through OFF, or refuses it (R430). -/
  | glbDomrst (domain : Nat) (key : Nat)
  /-- Write that retrains a Ditcharid link to a wider width (R376). -/
  | hrdLinkRetrain (l : Nat)
  /-- Write to a register with no row of its own, following its access code (R8). -/
  | registerWrite (port : RegPort) (off : Nat) (size : Nat) (v : Nat)
  /-- A BAR0 access of the wrong size or alignment is discarded and counted (R22). -/
  | bar0BadAccess (off : Nat) (size : Nat) (write : Bool)
  /-- A host access to device memory through BAR4, open only when debug is unlocked (R25). -/
  | bar4Access (off : Nat) (size : Nat) (write : Bool) (v : Nat)
  /-- A TAP instruction is loaded and takes effect at the pads or debug registers (R414). -/
  | tapInstruction (ir : Nat) (dr : Nat)
  /-- The write response of a reply arrives and the command commits (R81). -/
  | replyWriteResponse (c : Nat) (q : Nat)
  /-- A command's host memory access gets no completion in 50 ms and ends with ST_TIMEOUT (R82). -/
  | commandTimeout (c : Nat) (q : Nat)
  /-- COAL_US runs out after the first unsignalled CQ entry and the vector is signalled (R95). -/
  | cqCoalesceTimeout (c : Nat) (q : Nat)
  /-- Device time reaches a multiple of 500 ticks and the beat-locked work of the new beat begins (R35). -/
  | beatBoundary (env : BeatEnv)
  /-- A DRAINING plan has issued its last record and its outputs have fired or been cancelled, so it becomes STOPPED (R61). -/
  | planDrained (c : Nat) (h : Nat)
  /-- HWM reaches a window entry, so an item is created with an ID and a slot or NOT_INSPECTED (R16). -/
  | itemCreate (c : Nat)
  /-- The verdict composer reads an item's sources and forms its result (R51). -/
  | verdictCompose (c : Nat) (id : Nat) (env : HostEnv)
  /-- At beat b + L the item's payload and verdict record are written to the verdict ring (R18). -/
  | itemVerdict (c : Nat) (id : Nat) (env : HostEnv)
  /-- A Tine record runs its layers on a logical engine within its charged cycles (R209). -/
  | tineRun (run : RecRun)
  /-- A chain unit streams elements through its program's stages (R227). -/
  | chainOp (run : RecRun)
  /-- A PPU channel S sorts scores and keeps the first K (R231). -/
  | ppuSort (run : RecRun)
  /-- A PPU channel D decodes boxes and suppresses overlaps in OUT_MAX iterations (R235). -/
  | ppuDetect (run : RecRun)
  /-- A program channel runs a DMA program for its record (R300). -/
  | dmxRun (run : RecRun)
  /-- A patch builder accumulates an item's motion-compensated patch and writes it (R138). -/
  | evpPatch (run : RecRun)
  /-- A predict-mode record computes a trigger time and issues a window on a fabric line (R143). -/
  | evpPredict (run : RecRun)
  /-- Recorders capture the item's segments on their trigger source and write them (R171). -/
  | acqArm (run : RecRun)
  /-- A strobe record sends a train of pulses from its reference (R118). -/
  | strobe (run : RecRun)
  /-- A record pushes bytes through claimed link slots into another member's window (R386). -/
  | herdXfer (run : RecRun)
  /-- Program instruction that copies lines with a transform and optional CRC (R295). -/
  | dmxMove (n : Nat)
  /-- Program instruction that advances the offsets and jumps back until COUNT runs out (R295). -/
  | dmxLoop (n : Nat)
  /-- Program instruction that waits for a beat of the record (R295). -/
  | dmxWaitBeat (n : Nat)
  /-- Program instruction that waits for an edge on a line input (R295). -/
  | dmxWaitTrig (n : Nat)
  /-- Program instruction that waits for a semaphore to reach a value and subtracts it (R295). -/
  | dmxWaitSem (n : Nat)
  /-- The condition a WAIT waits for arrives and the program continues (R295). -/
  | dmxWaitRelease (n : Nat)
  /-- A WAIT TRIG or WAIT SEM runs out and the rest of the program is skipped (R300). -/
  | dmxWaitTimeout (n : Nat)
  /-- Program instruction that adds to the channel's semaphore once prior transfers complete (R295). -/
  | dmxSignal (n : Nat)
  /-- Program instruction that ends the record once every transfer is complete (R295). -/
  | dmxEnd (n : Nat)
  /-- A DMX_RUN transfer is incomplete at the end of its span, so its data is discarded and its items are faulted (R300). -/
  | recordLate (n : Nat)
  /-- A ring descriptor copies data between DVAs and writes its completion entry (R303). -/
  | descMove (n : Nat) (env : HostEnv)
  /-- A ring descriptor that transfers nothing and writes only a completion (R303). -/
  | descNop (n : Nat) (env : HostEnv)
  /-- A pausing channel has written its buffered data and reaches PAUSED (R306). -/
  | dmxPaused (n : Nat)
  /-- A faulted descriptor's translation succeeds and its ring leaves WAITING (R274). -/
  | ringFaultServed (c : Nat) (q : Nat)
  /-- A fault is not served within FTMO and the descriptor ends with FAULT_TIMEOUT (R275). -/
  | faultTimeout (c : Nat) (q : Nat)
  /-- A PRG Response arrives and the fault is retranslated or DENIED (R264). -/
  | prgResponse (c : Nat) (q : Nat) (code : Nat) (env : HostEnv)
  /-- An ATS Invalidation Request drops translations and revokes covered ranges (R272). -/
  | atsInvalidation (pasid : Option Nat) (hva : Nat) (len : Nat) (env : HostEnv)
  /-- A descriptor still running 10 ms after an invalidation is stopped with INVALIDATED (R272). -/
  | invalidateStop (n : Nat)
  /-- A page-table walk read gets no completion in 50 ms and the walk ends with WALK_ERROR (R260). -/
  | walkTimeout (c : Nat) (q : Nat)
  /-- The decoder sees a change of A or B and counts, or records a quadrature error (R101). -/
  | encCount (n : Nat) (a : Bool) (b : Bool) (held : Nat)
  /-- A Z edge captures POS and may set a mark for SOURCE 2 rules (R107). -/
  | encZEdge (n : Nat) (z : Bool) (held : Nat)
  /-- POS has not changed for STOP_US and WEB_STOPPED is raised (R104). -/
  | webStopped (n : Nat)
  /-- A filtered line-input edge captures its raw time and HWM as a mark (R108). -/
  | liEdge (i : Nat) (level : Bool) (held : Nat) (phase : Nat)
  /-- A line input stays active longer than MAX_MS and is marked stuck (R108). -/
  | liStuck (i : Nat)
  /-- HWM reaches a pending entry's position and the output pulse starts or merges (R111). -/
  | outputFire (j : Nat)
  /-- A pulse has lasted its length and the output returns to its inactive level (R109). -/
  | outputPulseEnd (j : Nat)
  /-- A CSI-2 long packet is checked and its words are decoded into the FIFO or acted on (R121). -/
  | csi2LongPacket (p : Nat) (pkt : CsiPacket)
  /-- A CSI-2 short packet is accepted and ignored (R121). -/
  | csi2ShortPacket (p : Nat) (pkt : CsiPacket)
  /-- A 1,024 µs mapper window closes, so the offset and rate are updated and DRIFT or LOCKED is decided (R40). -/
  | mapperWindowClose (p : Nat)
  /-- No TIME_HIGH word arrives for 1,024 µs and the port enters DESYNC with SILENT (R43). -/
  | mapperSilent (p : Nat)
  /-- An event leaves the FIFO and passes the mask, filter, surface, corner, flow and tracker stages (R128). -/
  | eventProcess (p : Nat)
  /-- A track gets no association for COAST_US and coasts or is freed (R134). -/
  | trackCoastTimeout (p : Nat) (m : Nat)
  /-- The sweeper visits a pixel and empties cells older than 32,768 units (R131). -/
  | surfaceSweep (p : Nat) (x : Nat) (y : Nat)
  /-- A fabric line's FIRE occurs at t_f and is delivered to listening records (R144). -/
  | fabricFire (line : Nat)
  /-- An issued window ends and ARM is deasserted on the line (R144). -/
  | fabricArmClose (line : Nat)
  /-- A trigger condition occurs and is accepted, or ignored by holdoff or busy (R160). -/
  | acqTrigger (ch : Nat) (src : Nat) (k : Nat) (samples : List (List Int))
  /-- PRE × DEC samples are recorded and the channel goes to WAITING (R166). -/
  | acqFillDone (ch : Nat)
  /-- The last point of a record is stored and the segment is stored or combined (R166). -/
  | acqSegmentDone (ch : Nat) (rec : Nat) (samples : List Int)
  /-- Re-arm ends and the channel returns to FILLING or WAITING (R161). -/
  | acqRearmDone (ch : Nat)
  /-- Calibration of a channel converges and the channel becomes TRACKING (R153). -/
  | acqCalTracking (ch : Nat)
  /-- An AFE SPI transfer completes and DONE is set (R173). -/
  | spiTransferDone (rx : Nat)
  /-- At the sync tick every running DFC channel re-anchors and DFC segments are cut (R190). -/
  | dfcSync (cut : List (Nat × Nat × List Int))
  /-- In beat k + 1 the block of beat k's outputs is written into the ring (R193). -/
  | dfcStreamBlock (ch : Nat) (samples : List Int)
  /-- A SYNC_IN edge makes a DFC sync when armed, or is counted as ignored (R191). -/
  | syncInEdge (rising : Bool)
  /-- The leader starts a SYNC_OUT pulse at each multiple of 100,000 ticks (R379). -/
  | syncOutPulse
  /-- An energy bubble falls due for an item record whose slack is used up and the record is shed (R319). -/
  | recordShed (run : RecRun)
  /-- A record still running at the end of its ISSUE beats is stopped and its items are faulted (R320). -/
  | recordOverrun (run : RecRun)
  /-- A droop detector trips and inserts LEN bubbles into its die's units (R322). -/
  | droop (d : Nat)
  /-- The temperature sensors are read every 100 µs and the effective budget is recomputed (R323). -/
  | thermalSample (t : List Int)
  /-- Every die reads below 105 °C for 100 ms and the reset completes (R324). -/
  | thermHoldEnd
  /-- A fault detector fires, the FMU logs it and reacts at its level (R353). -/
  | detectorFire (id : Nat) (site : Nat)
  /-- The FMU performs the context-reset steps without a reply and raises RECOVERED (R361). -/
  | contextRecovery (c : Nat) (det : Nat)
  /-- At the next cycle boundary the spare starts copying a fenced engine's banks (R355). -/
  | replacementBegin (e : Nat) (n : Nat)
  /-- The spare takes the fenced engine's logical number and the fenced engine becomes FAILED (R355). -/
  | replacementSwap (e : Nat)
  /-- At the owning plan's cycle boundary the spare starts to shadow its target (R214). -/
  | rotationStepBegin (e : Nat)
  /-- The background copy of the target's banks to the spare completes (R213). -/
  | shadowCopyDone (e : Nat)
  /-- The shadow takes the target's logical number and the target goes to SELFTEST (R213). -/
  | spareSwap (e : Nat)
  /-- A released engine's self-test ends and it becomes SPARE or FAILED (R213). -/
  | engineSelftestDone (e : Nat) (n : Nat) (pass : Bool)
  /-- Zeroing of banks released by a claim completes (R243). -/
  | bankZeroDone
  /-- The scrubber reads an unclaimed ECC word and rewrites it clean if it was corrected (R252). -/
  | sramScrub (la : Nat)
  /-- An unclaimed domain has been idle for IDLE_US and starts entering its TARGET state (R332). -/
  | domainIdleTimeout (d : Nat)
  /-- A domain completes its entry into RETENTION or OFF (R332). -/
  | domainEntryDone (d : Nat)
  /-- A demand reaches a sleeping domain and starts its wake or abandons its entry (R340). -/
  | domainDemand (d : Nat)
  /-- A domain finishes its wake and opens isolation (R339). -/
  | domainWakeDone (d : Nat)
  /-- A domain's multiplexer has seen 4 functional-clock edges and releases FIO (R29). -/
  | clkSwitchDone (d : Nat)
  /-- A clock switch does not complete within 64 FIO cycles and the domain stays on FIO (R29). -/
  | clkSwitchFail (d : Nat)
  /-- A domain reset brings its domain back ON and raises DOMRST_DONE (R430). -/
  | domainResetDone
  /-- The always-on supply falls below its threshold and a power-on reset follows (R342). -/
  | aonBrownOut
  /-- Supplies rise into range and a power-on reset begins (R420). -/
  | powerOn
  /-- PERST_N is held low for 500 ns and a PERST# reset begins (R439). -/
  | perstAssert
  /-- PERST_N is deasserted and the boot starts (R422). -/
  | perstDeassert
  /-- A warm device reset starts, keeping the PCIe link and running the boot from stage 2 (R426). -/
  | warmDeviceReset (cause : Nat) (det : Nat)
  /-- A boot stage completes and the next begins (R423). -/
  | bootStageDone (env : BootEnv)
  /-- A tamper sensor fires and the KSU zeroes its secrets before a warm reset (R417). -/
  | tamper (det : Nat)
  /-- A Function Level Reset of a VF resets its context and disables it (R90). -/
  | vfFlr (n : Nat) (env : HostEnv)
  /-- A Function Level Reset of the PF is a warm device reset that clears VF Enable (R426). -/
  | pfFlr
  /-- VF Enable is set and the contexts of the enabled VFs become ACTIVE (R69). -/
  | vfEnableSet (num : Nat)
  /-- VF Enable is cleared and every VF context is reset and DISABLED (R90). -/
  | vfEnableClear (env : HostEnv)
  /-- A Ditcharid flit arrives, is CRC-checked and acted on by its type (R371). -/
  | flitReceive (l : Nat) (flit : Flit) (env : HostEnv)
  /-- A PLANNED flit has no good copy by the end of the tail of beat k + 1 and its items are INCOMPLETE (R374). -/
  | flitLost (l : Nat) (slot : Nat)
  /-- A forwarded result is not acknowledged in time and is reported to the leader (R391). -/
  | resultUndelivered (id : Nat) (dev : Nat)
  /-- A lane fails and the link stops for two beats and narrows its width (R375). -/
  | laneFault (l : Nat) (lane : Nat)
  /-- A link has no good flit for 2 beats and goes DOWN (R375). -/
  | linkDown (l : Nat)
  /-- Link training completes and the link is UP at a width (R375). -/
  | linkTrained (l : Nat) (lanes : Nat) (peer : Nat) (peerLink : Nat)
  /-- A LEAVING device's Herd plans are STOPPED, so it becomes DETACHED and HERD_LEAVE replies (R394). -/
  | herdLeaveDone
  /-- A host read of a register clears its RC fields and latches the other words of a 64-bit register or wide entry (R8). -/
  | registerRead (port : RegPort) (off : Nat) (size : Nat)
  /-- An issued window reaches its start t_f − HW and ARM is asserted on its fabric line (R144). -/
  | fabricArmOpen (line : Nat)
  /-- The predicted position of an ACTIVE or COASTING track leaves the frame and the track goes to FREE (R134). -/
  | trackLeavesFrame (p : Nat) (m : Nat)
  /-- Ditcharid link training does not complete within 400 beats and the link is left DOWN (R375). -/
  | linkTrainingTimeout (l : Nat)
  /-- A flit that is not acknowledged by the end of its beat's tail is replayed, and after 8 failed replays the link goes DOWN (R374). -/
  | flitReplay (l : Nat) (id : Nat)
  /-- The host disables and re-enables PRI in the PF's configuration space, ending the stopped state after a Response Failure (R264). -/
  | priEnable (alloc : Nat) (ats : Bool)
  /-- The last monitored rail that was outside its window returns to its window, and the held warm reset proceeds to stage 2 (R440). -/
  | railReturn (rail : Nat)
  /-- A port's D-PHY lanes change between LP stop state, HS and error, or complete skew calibration (R120). -/
  | dphyStateChange (p : Nat) (st : Nat) (lanes : Nat) (deskew : Bool)
  deriving DecidableEq, Repr

end Sys2Proof
end

