-- ==== Sys2Proof/Machine/State.lean ====
section
/-! DEFINITION. The state of the block: device time, the register file, memory with its ECC faults, and the machinery of
every block behind the registers (commands and queues, plans and items, ranges and translations, channels, line I/O,
event ports, acquisition, engines, power, faults, Herd, trust). Registers are held once, in `regs`, as the values that
differ from the reset values their definitions carry; what a register shows of the machinery below is computed when it
is read. -/

namespace Sys2Proof.Machine

/-- The access codes of Table 0.3 (R8). -/
inductive Access where
  | rw | ro | wo | w1c | w1s | rc
  deriving DecidableEq, Repr

/-- One field of a register table: bits, access code, reset value. -/
structure FieldDesc where
  hi : Nat
  lo : Nat
  acc : Access
  reset : Nat
  deriving DecidableEq, Repr

/-- One row of a register map: first offset, two instance counts with their strides, width in bits, fields. -/
structure RegDesc where
  off : Nat
  count1 : Nat
  stride1 : Nat
  count2 : Nat
  stride2 : Nat
  width : Nat
  fields : List FieldDesc
  deriving DecidableEq, Repr

/-- One register: the key it is held under, its width in bits and its reset value. -/
structure Reg where
  key : Nat
  width : Nat
  reset : Nat
  deriving DecidableEq, Repr

/-- One field of one register. -/
structure Fld where
  reg : Reg
  hi : Nat
  lo : Nat
  deriving DecidableEq, Repr

/-- Context states (Table 4.1). -/
inductive CtxPhase where
  | disabled | active | resetting
  deriving DecidableEq, Repr

/-- Plan states (Table 3.13). -/
inductive PlanPhase where
  | empty | loaded | admitted | armed | running | draining | stopped
  deriving DecidableEq, Repr

/-! ## What leaves the device -/

/-- What the device sends out, oldest first in `State.out`. -/
inductive Out where
  /-- a posted write of bytes to host memory (R290) -/
  | hostWrite (bus : Nat) (data : Bytes) (poisoned : Bool)
  /-- an MSI-X message of a function's vector -/
  | msix (fn vec : Nat)
  /-- a PRI Page Request: PASID, page address, write bit (R274) -/
  | pageRequest (pasid page : Nat) (write : Bool)
  /-- an ATS Invalidation Completion (R271) -/
  | invalidateDone (pasid : Option Nat)
  /-- a Ditcharid flit on a link: type and body (R371) -/
  | flit (link typ : Nat) (body : List Nat)
  /-- a train of strobe edges: strobe, TF64 of the first edge, width, period, count (R118) -/
  | strobe (stb first width period count : Nat)
  /-- an AFE SPI frame (R173) -/
  | spi (frame : Nat)
  /-- a pulse on SYNC_OUT (R379) -/
  | syncOut
  /-- a TAP data register shifted out (R414) -/
  | tap (value : Nat)
  /-- the completion of a host read of a register or of BAR4 (R22, R25) -/
  | read (value : Nat)
  deriving DecidableEq, Repr

/-! ## Commands and queues -/

/-- What a command that cannot end in its own step waits for. -/
inductive Wait where
  /-- PLAN_ADMIT until released banks are zero (R243) -/
  | zeroing
  /-- ABORT until its target, the command with this sequence number, has committed (R83) -/
  | abortHeld (seq : Nat)
  /-- CTX_RESET of a context until the commands it aborted (their number) have committed (R88) -/
  | resetting (target aborted : Nat)
  /-- RING_DESTROY until the commands of the queue have committed (R97) -/
  | destroying (q : Nat)
  /-- TLB_INVALIDATE, BUF_UNPIN or PAGE_MIGRATE until the descriptors that ran at a tick end (R272) -/
  | descriptors (retranslated dropped since : Nat)
  /-- a timed change at a beat boundary (R81) -/
  | atBeat (k : Nat)
  /-- a timed change at a tick (R81) -/
  | atTick (t : Nat)
  /-- a domain's wake (R346) -/
  | wake (domain : Nat)
  /-- a group sleep: the domains still entering (R344) -/
  | group
  /-- self-tests under way (R368) -/
  | selftest
  /-- a Herd join under way (R380, R381) -/
  | join
  /-- a Herd leave under way (R394) -/
  | leave
  deriving DecidableEq, Repr

/-- The states of Table 4.5 before COMMITTED; a reply result is a status with its DETAIL. -/
inductive CmdPhase where
  | queued
  | executing (w : Wait)
  | replyPending (status detail : Nat)
  | committing
  deriving DecidableEq, Repr

/-- An accepted command packet that has not committed: its acceptance number, the eight header bytes and the 56
parameter bytes as little-endian numbers, the latter with the bytes at or above 8 + LEN read as zero (R79), and its
phase. `timed` says that it has made its timed change (R81), `idx` which SQ entry it came from. -/
structure Cmd where
  seq : Nat
  idx : Nat
  hdr : Nat
  par : Nat
  phase : CmdPhase
  timed : Bool
  deriving DecidableEq, Repr

/-- A ring descriptor or the fault it waits on: see R271. -/
inductive Seg where
  /-- host memory at a bus address -/
  | host (bus len : Nat)
  /-- device memory at a local address -/
  | la (addr len : Nat)
  /-- an imported Herd window at an offset -/
  | remote (imp off len : Nat)
  deriving DecidableEq, Repr

/-- Where a ring descriptor stands (R271, R274, R305). -/
inductive DescPhase where
  /-- accepted, not translated yet -/
  | fresh
  /-- every page translated and held -/
  | held
  /-- a recoverable fault waits to be served: reason, DVA, tick of the fault, whether a Page Request is out -/
  | faulted (reason dva since : Nat) (requested : Bool)
  /-- the translation failed for good: reason, DVA -/
  | failed (reason dva : Nat)
  /-- started and still running -/
  | running
  deriving DecidableEq, Repr

/-- A descriptor of a DMA ring as the ATU holds it: its SQ index, its 64 bytes (none until they are read), where it stands, its held translations (one
segment list for each source and each destination span, in order), the runs they use (R271), and the tick it started. -/
structure Desc where
  idx : Nat
  raw : Option Nat
  phase : DescPhase
  src : List (List Seg)
  dst : List (List Seg)
  runs : Nat
  startT : Nat
  deriving DecidableEq, Repr

/-- Ring states (Table 13.9). -/
inductive RingPhase where
  | running | waiting | stopped
  deriving DecidableEq, Repr

/-- One global queue that holds a queue (R71 to R77): type (Table of R72), sizes, where its memory lies (bus addresses
when `phys`, else DVAs), H, T, P, E, PHASE, interrupt settings, entries not signalled yet and the
tick of the first of them, the uncommitted commands,
and for a DMA ring its channel, priority, error mode, state and descriptors (R302, R305). -/
structure Queue where
  typ : Nat
  phys : Bool
  sqN : Nat
  cqN : Nat
  sqAddr : Nat
  cqAddr : Nat
  h : Nat
  t : Nat
  p : Nat
  e : Nat
  phase : Bool
  vector : Nat
  coalesce : Nat
  coalUs : Nat
  unsig : Nat
  unsigT : Nat
  payDva : Nat
  payStride : Nat
  cmds : List Cmd
  chan : Nat
  prio : Nat
  cont : Bool
  ring : RingPhase
  descs : List Desc
  deriving DecidableEq, Repr

/-- A context: its state, next item ID (R17), and the DMA writes DISCARDED by the reset in progress (R88). -/
structure Ctx where
  phase : CtxPhase
  nextItem : Nat
  discarded : Nat
  deriving DecidableEq, Repr

/-! ## Plan images (Tables 3.1 to 3.11) -/

/-- Claim entry (Table 3.3). -/
structure Claim where
  kind : Nat
  count : Nat
  first : Nat
  p0 : Nat
  p1 : Nat
  deriving DecidableEq, Repr

/-- Activity record (Table 3.5). -/
structure Rec where
  kind : Nat
  flags : Nat
  claimFirst : Nat
  claimCount : Nat
  beat : Nat
  issue : Nat
  span : Nat
  slack : Nat
  model : Nat
  inBuf : Nat
  outBuf : Nat
  op0 : Nat
  op1 : Nat
  op2 : Nat
  deriving DecidableEq, Repr

/-- Class descriptor (Table 3.7). -/
structure ClassD where
  cls : Nat
  minGap : Nat
  recFirst : Nat
  recCount : Nat
  deriving DecidableEq, Repr

/-- Trigger rule (Table 3.8). -/
structure Rule where
  cls : Nat
  source : Nat
  srcIndex : Nat
  group : Nat
  entryOfs : Int
  window : Nat
  rep : Nat
  count : Nat
  deriving DecidableEq, Repr

/-- Model reference (Table 3.9). -/
structure ModelRef where
  id : Nat
  bytes : Nat
  hashLo : Nat
  deriving DecidableEq, Repr

/-- Buffer reference (Table 3.9). -/
structure BufRef where
  rangeId : Nat
  rights : Nat
  offset : Nat
  length : Nat
  deriving DecidableEq, Repr

/-- Verdict rule (Table 3.10). -/
structure VerdictRule where
  cls : Nat
  failResult : Nat
  nscores : Nat
  scoreSrc : Nat
  scoreOfs : Nat
  low : List Int
  high : List Int
  gradeSrc : Nat
  gradeOfs : Nat
  paySrc : Nat
  payGran : Nat
  deriving DecidableEq, Repr

/-- Reject rule (Table 3.11). -/
structure RejectRule where
  cls : Nat
  output : Nat
  mask : Nat
  offset : Nat
  pulse : Nat
  deriving DecidableEq, Repr

/-- A plan image whose format has been checked (R48 to R50). `hash` is PLAN_HASH as a little-endian number (R49),
`herd` the 64 bytes of the HERD section as one. -/
structure PlanImage where
  hash : Nat
  len : Nat
  flags : Nat
  cyc : Nat
  slots : Nat
  lat : Nat
  vmax : Nat
  enc : Nat
  epoch : Nat
  claims : List Claim
  decl : Nat
  cycRecs : List Rec
  classes : List ClassD
  itemRecs : List Rec
  rules : List Rule
  models : List ModelRef
  bufs : List BufRef
  verdicts : List VerdictRule
  rejects : List RejectRule
  herd : Nat
  deriving DecidableEq, Repr

/-- A window entry that a mark has made and HWM has not reached: rule, entry index, position, mark time (TF64). -/
structure Entry where
  rule : Nat
  j : Nat
  pos : Int
  markT : Nat
  deriving DecidableEq, Repr

/-- A plan handle that is not EMPTY: its state, the image that this device runs (of a Herd plan its own partition, the rest
blanked, R382), the image as it was loaded, anchor A, the beat at which it goes RUNNING (A, the swap boundary, or a join boundary of a Herd plan: R384), stop boundary (0 none), CANCEL, the swap partner it was
admitted with (N's side), the entries waiting for HWM, the slots taken in the newest cycle, the entry beat of each
class's last item with a slot (R59, R62), which cycle records have run, and the counters of Table 3.16. -/
structure Plan where
  phase : PlanPhase
  img : PlanImage
  whole : PlanImage
  anchor : Nat
  start : Nat
  stop : Nat
  cancel : Bool
  partner : Option Nat
  armedSwap : Bool
  admFree : Bool
  entries : List Entry
  lastZ : List (Nat × Int)
  takenCycle : Nat
  taken : Nat
  lastTake : List (Nat × Nat)
  cycRan : List (Nat × Nat)
  items : Nat
  niSlot : Nat
  niGap : Nat
  faulted : Nat
  incomplete : Nat
  deriving DecidableEq, Repr

/-- What the verdict composer formed for an item: result, scores, grades, and the bytes of the payload record, each with
whether it is poisoned (R51, Table 4.6, R92). -/
structure Composed where
  result : Nat
  scores : List Int
  grades : Nat
  payload : List (Byte × Bool)
  deriving DecidableEq, Repr

/-- An item in flight (R16 to R18): its context, plan handle, ID, class, rule, window-entry position, stamp, entry beat,
slot with its cycle (none when NOT_INSPECTED), the results that replace PASS (R51), the item records that have run, what
the composer formed, its entry index within the rule with the mark's TF64 time (R143), and whether a predicted window was
issued for it (R144). -/
structure Item where
  c : Nat
  h : Nat
  id : Nat
  cls : Nat
  rule : Nat
  pos : Int
  stamp : Nat
  beat : Nat
  slot : Option (Nat × Nat)
  faulted : Bool
  incomplete : Bool
  ran : List Nat
  composed : Option Composed
  j : Nat
  markT : Nat
  windowed : Bool
  deriving DecidableEq, Repr

/-- A register access that waits for its power domain (R340): the domain, port, offset, size, and the value of a write. -/
structure Parked where
  dom : Nat
  port : RegPort
  off : Nat
  size : Nat
  value : Option Nat
  deriving DecidableEq, Repr


/-! ## Memory, ranges and translations -/

/-- What is wrong with a stored ECC word (R248 to R250): a correctable error, or an uncorrectable one; the syndrome a
read reports. A poisoned word is uncorrectable with syndrome 0x3C. -/
inductive EccFault where
  | ce (syndrome : Nat)
  | ue (syndrome : Nat)
  deriving DecidableEq, Repr

/-- A range entry (R265, Table 12.2): kind, rights (bits R, W, A), RANGE_ID, start DVA and length, its runs of host
memory (HOST), the local address of its backing (LOCAL) or pool (MIGR), the pool's pages and the pages whose home is
LOCAL with their pool pages in the order they came (R276), and the import table it maps through (REMOTE). -/
structure Range where
  kind : Nat
  rights : Nat
  revoked : Bool
  id : Nat
  dva : Nat
  len : Nat
  runs : List (Nat × Nat)
  la : Nat
  mem : Nat
  pool : Nat
  homes : List (Nat × Nat)
  imp : Nat
  deriving DecidableEq, Repr

/-- A TLB entry: a run of 1 to 64 pages of one size (R261). Page numbers count pages of that size. -/
structure TlbEntry where
  c : Nat
  pageLog : Nat
  page : Nat
  count : Nat
  bus : Nat
  rights : Nat
  deriving DecidableEq, Repr

/-- An ATS Invalidation Request whose completion waits for running descriptors (R272): PASID, span, tick of arrival. -/
structure AtsInval where
  pasid : Option Nat
  hva : Nat
  len : Nat
  since : Nat
  deriving DecidableEq, Repr

/-- An import table (R278): exporting member, window, length, rights, importing context. -/
structure Import where
  device : Nat
  window : Nat
  len : Nat
  rights : Nat
  ctx : Nat
  deriving DecidableEq, Repr

/-! ## DMA programs and channels -/

/-- Instructions of a DMA program (Tables 13.2 and 13.3). -/
inductive DInstr where
  | fin
  | move (src dst : Nat) (crc : Bool) (xform esize way len srcOfs dstOfs : Nat) (srcStride dstStride : Int)
      (pstride lines blag : Nat)
  | loop (target count : Nat) (sinc dinc : Int)
  | wait (kind arg value timeout : Nat)
  | signal (value : Nat)
  deriving DecidableEq, Repr

/-- A program in the program store (R309): its CRC-32C and its instructions. -/
structure Prog where
  crc : Nat
  code : List DInstr
  deriving DecidableEq, Repr

/-- A program channel at work on a DMX_RUN record (R299, R300): the record, the program copied when the plan was armed,
the next instruction, the offset registers SO and DO, the loops entered (index, executions so far, SO and DO at entry),
the tick the WAIT it stands at began, and the running CRC. -/
structure ChanRun where
  run : RecRun
  code : List DInstr
  pc : Nat
  so : Int
  dofs : Int
  loops : List (Nat × Nat × Int × Int)
  waiting : Option Nat
  crc : Nat
  deriving DecidableEq, Repr

/-! ## Line I/O -/

/-- The decoder of an encoder behind its registers (R100 to R107): filtered A and B, POS and HWM, the valid counts since
QLVL last changed, the direction of the last count, whether HWM − POS is above BTLIM, the previous Z mark, the filtered
Z, the tick of the last count, HWM at the start of the beat, and the ticks in which HWM took a new value, with the value,
newest first, reaching back 16 beats. -/
structure Enc where
  a : Bool
  b : Bool
  z : Bool
  pos : Int
  hwm : Int
  valid : Nat
  dir : Option Bool
  above : Bool
  prevZ : Option Int
  lastCount : Nat
  beatHwm : Int
  hist : List (Nat × Int)
  deriving DecidableEq, Repr

/-- A line input behind its registers (R108): filtered level, the tick its active period began, and a captured edge that
waits for MIN_US to pass: time and the HWM of each encoder in that tick. `capT` is the tick of the last capture, `short`
counts active periods ignored. -/
structure LineIn where
  active : Bool
  since : Nat
  held : Option (Nat × List Int)
  capT : Option Nat
  short : Nat
  deriving DecidableEq, Repr

/-- A pending output entry (R109, R110): position, pulse length in ticks, encoder, owning context and handle, and
whether it is due whatever HWM is (FLUSH, Table 5.1). -/
structure OutEntry where
  pos : Int
  pulse : Nat
  enc : Nat
  c : Nat
  h : Nat
  flush : Bool
  deriving DecidableEq, Repr

/-- An output behind its registers: pending entries in order of position and the tick at which the active pulse ends. -/
structure LineOut where
  pend : List OutEntry
  pulseEnd : Option Nat
  deriving DecidableEq, Repr

/-! ## Event ports -/

/-- A track (R134, Table 6.4): state (1 TENTATIVE, 2 ACTIVE, 3 COASTING), group, hits, position in 1/16 pixel, velocity in
1/64 pixel per ms, mapped time of the last update, and the tick of the last association or coasting step. -/
structure Track where
  st : Nat
  group : Nat
  hits : Nat
  x : Int
  y : Int
  vx : Int
  vy : Int
  tLast : Int
  since : Nat
  deriving DecidableEq, Repr

/-- One cell of a patch accumulator (R139): positive and negative events, largest mapped time, largest flow. -/
structure PatchCell where
  pos : Nat
  neg : Nat
  tLast : Int
  flow : Nat
  deriving DecidableEq, Repr

/-- A patch builder at work (R138): the activity, its port and builder number, t0, P0, V as a ratio in counts per tick, the profile's 16
bytes, the item's entry position and index, W0, its last beat, and the cells that have taken events. -/
structure Builder where
  run : RecRun
  port : Nat
  slot : Nat
  t0 : Nat
  p0 : Int
  vNum : Int
  vDen : Nat
  prof : Nat
  pos : Int
  j : Nat
  w0 : Int
  last : Nat
  cells : List (Nat × PatchCell)
  deriving DecidableEq, Repr

/-- The sensor mapper of a port behind its CLK registers (R40 to R43): unwrapped and raw sensor time of the last
TIME_HIGH word, its tick, the tick of the last good observation, the first sensor time of the window, the smallest
observation of the window with its sensor time and arrival, those of the last 16 windows, the mappings with the sensor
time they apply from (newest first), whether the next observation restarts the mapping, and the last mapped event
time (R41). -/
structure Mapper where
  s : Nat
  raw : Nat
  tick : Nat
  good : Nat
  win : Nat
  least : Option (Int × Nat × Nat)
  mins : List (Nat × Nat)
  maps : List (Nat × Int × Int)
  restart : Bool
  lastEv : Int
  deriving DecidableEq, Repr

/-- A sensor port behind its registers: the applied configuration block as a number (Table 6.7), the FIFO (word, GAP),
the receiver's flags (the next word carries GAP, EVENT words wait for a TIME_HIGH word after a CRC error, a TIME_HIGH
word has come), the unwrapped time high at the FIFO's exit, the tracks by slot, each group's previous mark, the events
that left the FIFO in this beat, and whether the surface's unlisted cells are empty (else they hold the zeros of
R253). -/
structure EvpPort where
  blk : Nat
  fifo : List (Nat × Bool)
  gap : Bool
  crcWait : Bool
  seenTh : Bool
  exitS : Nat
  exitRaw : Nat
  tracks : List (Nat × Track)
  prevMark : List (Nat × Int)
  rate : Nat
  cleared : Bool
  mapper : Mapper
  deriving DecidableEq, Repr

/-- A window issued on a trigger-fabric line (R144): the line, the item it was issued for, t_f in 1/8,192 tick, the
half-window in ticks, and whether it is open and has fired. -/
structure FabricWin where
  line : Nat
  c : Nat
  id : Nat
  tf : Nat
  hw : Nat
  isOpen : Bool
  fired : Bool
  deriving DecidableEq, Repr

/-! ## Acquisition and filters -/

/-- A capture at work, a recorder's or a background one (R158 to R164): its 48-byte profile, the time of the trigger
sample of the record being captured (TF64) with the trigger time and FRAC, the records stored in the segment, the first
record's TRIG, FRAC and T0, the smallest and largest FRAC, over-range samples, whether DISCONT or NOCAL is due, the values
formed so far, the last accepted trigger and the triggers still to ignore (R160), when the channel has re-armed and
filled (R161, planned captures), and the number of the next trigger of a train. -/
structure Capture where
  prof : Nat
  cur : Option Int
  trig : Nat
  frac : Nat
  stored : Nat
  trig0 : Nat
  frac0 : Nat
  t0 : Int
  lo : Nat
  hi : Nat
  ovr : Nat
  discont : Bool
  nocal : Bool
  vals : List Int
  holdT : Option Int
  holdN : Nat
  readyT : Int
  next : Nat
  deriving DecidableEq, Repr

/-- A channel behind its registers (R166): the applied block (Table 7.5), the background capture, and the stored segments
(SEQ, local address, size), oldest first. -/
structure AcqChan where
  blk : Nat
  cap : Option Capture
  segs : List (Nat × Nat × Nat)
  deriving DecidableEq, Repr

/-- An ACQ_ARM record at work (R169 to R172): its start beat, last beat and OP words, the FIRE and the ARM window it has
heard, and per channel the recorder number and capture. -/
structure AcqRun where
  run : RecRun
  start : Nat
  last : Nat
  op0 : Nat
  op1 : Nat
  op2 : Nat
  pos : Int
  fire : Option Nat
  arm : Option (Int × Int)
  recs : List (Nat × Nat × Capture)
  deriving DecidableEq, Repr

/-- A FIRE, or an ARM window that opened, on a fabric line: line, whether it is a FIRE, its time or window in TF64, and the
beat it happened in. -/
structure FabEvent where
  line : Nat
  fire : Bool
  lo : Int
  hi : Int
  beat : Nat
  deriving DecidableEq, Repr

/-- A STROBE record that waits for its line (R118): OP words and its first beat. -/
structure StrobeRun where
  run : RecRun
  op0 : Nat
  op1 : Nat
  op2 : Nat
  start : Nat
  deriving DecidableEq, Repr

/-- A DFC channel behind its registers (R178 to R193): the applied block (Table 8.4), the grids still to come and the
present one as raw sample indices, the next raw sample, outputs formed on the grid, the CIC's integrators, phase and
combs, the half-band stages' and the FIR's histories (newest first) with their phases, PEAK, ENV (× 256) and the squares
of RMS, and whether a raw sample since the last block was over-range or an output saturated. -/
structure DfcChan where
  blk : Nat
  grids : List Nat
  s0 : Nat
  next : Nat
  made : Nat
  ints : List Int
  phase : Nat
  combs : List Int
  h1 : List Int
  p1 : Nat
  h2 : List Int
  p2 : Nat
  fh : List Int
  fp : Nat
  peak : Nat
  env : Nat
  sqs : List Nat
  ovr : Bool
  sat : Bool
  deriving DecidableEq, Repr
/-! ## Engines, chain units, post-processing -/

/-- A layer descriptor (Table 9.3): filter, stride, dilation, pads, input size, channels, type, layouts, epilogue bits,
weights and zero point. -/
structure Layer where
  fh : Nat
  fw : Nat
  sh : Nat
  sw : Nat
  dh : Nat
  dw : Nat
  pt : Nat
  pb : Nat
  pl : Nat
  pr : Nat
  ih : Nat
  iw : Nat
  c : Nat
  k : Nat
  dtype : Nat
  inL : Nat
  outL : Nat
  epi : Nat
  wOfs : Nat
  wLen : Nat
  zp : Nat
  deriving DecidableEq, Repr

/-- A resident model (R216, R217): context, MODEL_ID, length, HASH_LO, layers, whether it was loaded encrypted, its plaintext,
and the 4 KiB blocks of the model store that it occupies. -/
structure Model where
  c : Nat
  id : Nat
  len : Nat
  hash : Nat
  layers : List Layer
  enc : Bool
  img : Bytes
  blocks : List Nat
  deriving DecidableEq, Repr

/-- Spare rotation and fault replacement on a C-die (R213, R214, R354 to R357): whether a step is due and waits for its
boundary, the engine it shadows, the engine whose banks are being copied with the tick the copy began and whether it is
complete, the fenced engines in the order they were found, and the engines under self-test with the tick it began and why
(0 a released engine, 1 an abandoned shadow, 2 SELFTEST_RUN, 3 start-up). -/
structure EngDie where
  due : Bool
  target : Option Nat
  copying : Option Nat
  copyT : Nat
  copied : Bool
  fenced : List Nat
  tests : List (Nat × Nat × Nat)
  deriving DecidableEq, Repr

/-- A chain program or anchor table copied for a plan while it was ARMED (R226, R233): plan key, unit ID, BUFFERS index,
bytes, and whether the copy read poison. -/
structure Copy where
  plan : Nat
  unit : Nat
  buf : Nat
  data : Bytes
  bad : Bool
  deriving DecidableEq, Repr

/-- A DMA program copied into a program channel's store while a plan was ARMED (R299): plan key, channel, PROG_ID, program. -/
structure ChanProg where
  plan : Nat
  chan : Nat
  id : Nat
  prog : Prog
  deriving DecidableEq, Repr


/-! ## The Herd -/

/-- A window that another member exports to this device, as its CONTROL flits told (R388). -/
structure FarExport where
  device : Nat
  window : Nat
  len : Nat
  rights : Nat
  planned : Bool
  deriving DecidableEq, Repr

/-- What the leader has told of itself (R380, R384): its member index, firmware version (major and minor), epoch, the member
indices used as a mask, the PLAN_HASH of its Herd plan in ADMITTED to DRAINING (0 for none) with that plan's state code
(Table 3.18) and anchor A (0 for none), and the swap boundary k of an armed swap (0 for none) with the hash of its N. -/
structure LeaderInfo where
  idx : Nat
  fw : Nat
  epoch : Nat
  used : Nat
  hash : Nat
  planState : Nat
  anchor : Nat
  swap : Nat
  swapHash : Nat
  deriving DecidableEq, Repr

/-- Another member as its CONTROL flits told (Table 17.10): index, hops to the leader, direct-link mask, firmware version, and
whether it holds a Herd plan in ADMITTED to DRAINING (R381). -/
structure Member where
  idx : Nat
  hops : Nat
  links : Nat
  fw : Nat
  live : Bool
  deriving DecidableEq, Repr

/-- A RESULT message that has been sent and not acknowledged (R390, R391): item, class, destination member, result, the
beat b + L, and the flit's sequence number with its link (none when it was not sent). -/
structure Forward where
  id : Nat
  cls : Nat
  dest : Nat
  result : Nat
  beat : Nat
  via : Option (Nat × Nat)
  deriving DecidableEq, Repr

/-- A PLANNED flit sent and not acknowledged (R374): link, slot, beat, sequence number, its body, the run that sent it, how
often it was replayed, and whether it was NAKed. -/
structure SentFlit where
  link : Nat
  slot : Nat
  beat : Nat
  seq : Nat
  body : List Nat
  run : RecRun
  replays : Nat
  nak : Bool
  deriving DecidableEq, Repr

/-- What the device knows of its Herd behind the HRD registers: the other members' windows, the leader, the other members,
the depth of the peer on each link that leads to the leader (R377), the exchange in progress (t1, t2, t3 in TF64, the
parent's Θ in ps), consecutive exchanges without a result and whether the last one had one (R378), the start of a join,
whether its checks 2 to 4 have passed, and its Θ values (R380), the leave boundary (R394), members that have announced
theirs, unacknowledged messages and flits, the next sequence number of each link and the last good one received, links
stopped until a beat (R375), the beat of each link's last good flit, links in training with the beat it began, results
received and not evaluated (class, result, leader position: R390), whether HRD_ENC_OFS is to be set (R385), and the
messages about itself that this device has told last. -/
structure Herd where
  exports : List FarExport
  leader : Option LeaderInfo
  members : List Member
  paths : List (Nat × Nat)
  exchange : Option (Int × Int × Int × Int)
  missed : Nat
  had : Bool
  joinT : Nat
  checked : Bool
  thetas : List Int
  leaveAt : Option Nat
  leavers : List (Nat × Nat)
  forwards : List Forward
  sent : List SentFlit
  seqs : List (Nat × Nat)
  lastSeq : List (Nat × Nat)
  stopped : List (Nat × Nat)
  goodBeat : List (Nat × Nat)
  training : List (Nat × Nat)
  inbox : List (Nat × Nat × Int)
  ofsDue : Bool
  told : List (List Nat)
  deriving DecidableEq, Repr

def Herd.none : Herd where
  exports := []
  leader := .none
  members := []
  paths := []
  exchange := .none
  missed := 0
  had := true
  joinT := 0
  checked := false
  thetas := []
  leaveAt := .none
  leavers := []
  forwards := []
  sent := []
  seqs := []
  lastSeq := []
  stopped := []
  goodBeat := []
  training := []
  inbox := []
  ofsDue := false
  told := []


/-! ## Power, faults, trust -/

/-- What the PMC follows for a domain behind its registers (R332 to R340): the state being entered, the tick the present
phase began, the tick its idle timer was restarted, whether a demand waits for the entry to end, the tick its residency
was last brought up to date, the beats its wake takes, whether a domain reset is what it goes through (R430), and whether its
last clock switch failed (R29). While it wakes, `aim` is the state it leaves. -/
structure Dom where
  aim : Nat
  t : Nat
  idle : Nat
  demand : Bool
  resT : Nat
  lead : Nat
  reset : Bool
  stuck : Bool
  deriving DecidableEq, Repr

/-- A group sleep in progress (R344): its command, target, members not asked yet, members that have entered under it (newest
first), the member that is entering or waking, since when the next member has been busy, and the refusal (domain, reason,
index) that is being rolled back. -/
structure Group where
  c : Nat
  q : Nat
  seq : Nat
  target : Nat
  todo : List Nat
  done : List Nat
  moving : Option Nat
  asked : Option Nat
  refusal : Option (Nat × Nat × Nat)
  slept : Nat
  index : Nat
  deriving DecidableEq, Repr

/-- The running firmware image (R400, R403): slot, VERSION, CLASS, SVN, KEY_INDEX. -/
structure FwInfo where
  slot : Nat
  version : Nat
  cls : Nat
  svn : Nat
  key : Nat
  deriving DecidableEq, Repr


/-! ## Stops -/

/-- Why a step may stop. -/
inductive Fault where
  /-- Raised by every meaning when an operand names a unit, context, queue or access that the spec gives the device none
  of (a command outside `Instr.wellFormed`). Safe: no such command can reach the device. -/
  | noSuchUnit
  deriving DecidableEq, Repr

/-- Why a command has no meaning. -/
inductive Refusal where
  /-- Raised by `exec` alone, for a command whose meaning has not been written. Safe. -/
  | notModelled (mnemonic : String)
  deriving DecidableEq, Repr

/-- The state of the block. -/
structure State where
  /-- device time in ticks (R32) -/
  time : Nat
  /-- commands waiting, first in first out (of the model) -/
  pending : List Instr
  /-- what has left the device, oldest first (of the model) -/
  out : List Out
  /-- the model's own counter: how many free values have been drawn -/
  fresh : Nat
  /-- registers that differ from their reset values (R8) -/
  regs : List (Nat × Nat)
  /-- latched words of 64-bit registers and wide entries, by register key (R6, R23) -/
  latches : List (Nat × List Nat)
  /-- held low-half writes of 64-bit registers, by register key (R23) -/
  holds : List (Nat × Nat)
  /-- device-local memory by local address; an unlisted byte reads zero (R244, R253) -/
  mem : List Host.Cell
  /-- ECC words with a stored error, by local address (R248, R249) -/
  ecc : List (Nat × EccFault)
  /-- contexts (R69) -/
  ctxs : List (Nat × Ctx)
  /-- queues by global number (R71) -/
  queues : List (Nat × Queue)
  /-- commands accepted so far (R80) -/
  cmdSeq : Nat
  /-- plan handles that are not EMPTY, by 4 * context + handle (R56) -/
  plans : List (Nat × Plan)
  /-- items in flight, oldest first (R16, R18) -/
  items : List Item
  /-- range entries by number 32 * c + s (R265) -/
  ranges : List (Nat × Range)
  /-- generation of each range slot (R265) -/
  gens : List (Nat × Nat)
  /-- the TLB (R261) -/
  tlb : List TlbEntry
  /-- walk cache: bus address of a non-leaf entry and its value (R260) -/
  walkCache : List (Nat × Nat)
  /-- import tables (R278) -/
  imports : List (Nat × Import)
  /-- program store by 65536 * context + PROG_ID (R309) -/
  progs : List (Nat × Prog)
  /-- program channels at work (R300) -/
  chans : List (Nat × ChanRun)
  /-- encoders (R101 to R107) -/
  encs : List (Nat × Enc)
  /-- line inputs (R108) -/
  lineIns : List (Nat × LineIn)
  /-- log records that have not been read, by register key (R254) -/
  unread : List Nat
  /-- ECC words whose CE has been logged since the counter was last read (R254) -/
  ceSeen : List Nat
  /-- banks released and not yet zero (R243) -/
  zeroing : List Nat
  /-- sensor ports (R40, R121 to R136) -/
  ports : List (Nat × EvpPort)
  /-- cells of the event surface that differ from the port's default, by ((port * 800 + y) * 1280 + x) * 2 + polarity (R131) -/
  surface : List (Nat × Nat)
  /-- patch builders at work (R138) -/
  builders : List Builder
  /-- predicted windows on the trigger fabric (R144) -/
  windows : List FabricWin
  /-- acquisition channels (R159, R166) -/
  acqs : List (Nat × AcqChan)
  /-- ACQ_ARM records at work (R169, R171) -/
  acqRuns : List AcqRun
  /-- what the fabric lines carried in the present beat (R157) -/
  fabric : List FabEvent
  /-- STROBE records that wait for a line (R117) -/
  strobes : List StrobeRun
  /-- filter chains (R178, R187) -/
  dfcs : List (Nat × DfcChan)
  /-- the sync tick that a SYNC_IN edge has set (R191) -/
  syncIn : Option Nat
  /-- the E values available, newest first, at most 65,536 (R312) -/
  energies : List Nat
  /-- E of the beat just ended, not yet available (R312) -/
  energyNext : Option Nat
  /-- beats with planned bubbles and their rate, newest first (R318) -/
  betas : List (Nat × Nat)
  /-- droop responses: tick, die, bubbles (R322) -/
  droops : List (Nat × Nat × Nat)
  /-- resident models in the order of loading (R217) -/
  models : List Model
  /-- rotation and replacement by C-die 0 and 1 (R213, R214, R355) -/
  engDies : List (Nat × EngDie)
  /-- chain programs and anchor tables in the units' stores (R226, R235) -/
  copies : List Copy
  /-- the record that a unit ran last, by unit ID (Table 11.5, R353) -/
  lastRun : List (Nat × RecRun)
  /-- firings of unit detectors in the last 8,000 beats: unit ID, beat and record (R360) -/
  unitFires : List (Nat × Nat × Option RecRun)
  /-- context recoveries due or, when set, under way: context, detector (R361) -/
  recovers : List (Nat × Nat × Bool)
  /-- the beat from which a failed unit runs no record (R360) -/
  failFrom : List (Nat × Nat)
  /-- DMA programs in the program channels' stores (R299) -/
  chanProgs : List ChanProg
  /-- the global queue number of the ring a ring channel served last (R305) -/
  chanLast : List (Nat × Nat)
  /-- ATS Invalidation Requests not completed yet (R272) -/
  atsPend : List AtsInval
  /-- ranges that become REVOKED at the next beat boundary (R269) -/
  revoking : List Nat
  /-- ATS Enable of the PF (R263) -/
  atsOn : Bool
  /-- what the device knows of its Herd (R377 to R395) -/
  herd : Herd
  /-- power domains at work (R332 to R340) -/
  doms : List (Nat × Dom)
  /-- the group sleep in progress (R344) -/
  group : Option Group
  /-- device time at the last device reset (R424) -/
  resetT : Nat
  /-- the fault log ring, oldest first, each record with whether a FAULT_LOG_READ has returned it (R363) -/
  faultLog : List (Nat × Bool)
  /-- records ever written to FMU_DEVLOG, modulo 8 (R363) -/
  devHead : Nat
  /-- SITE of the active injection (R366) -/
  injSite : Nat
  /-- faulty package-link lanes (R353): link in the row order of Table 1.3, lane -/
  lanesBad : List (Nat × Nat)
  /-- the NOR device on the xSPI pins (R399), complemented: an unlisted byte is an erased 0xFF -/
  flash : List Host.Cell
  /-- security-version fuses blown (R397) -/
  svn : Nat
  /-- ROOT_REV fuses (R397) -/
  rootRev : Nat
  /-- the PROV_LOCK fuse (R397) -/
  provLock : Bool
  /-- customer key slots: KEY_ID and key (R410) -/
  keys : List (Nat × Nat × Nat)
  /-- the running firmware image (R403) -/
  fw : Option FwInfo
  /-- the tick since which every die has read below 105 °C in a thermal hold (R324) -/
  cool : Option Nat
  /-- monitored rails outside their windows: SITE of 0x1D, or 8 + die (R440) -/
  railsBad : List Nat
  /-- the TAP instruction in force (R414) -/
  tapIr : Nat
  /-- the pads follow the boundary register (R414) -/
  tapHigh : Bool
  /-- the FW_ACTIVATE whose commit starts a warm reset (R407) -/
  resetAfter : Option Nat
  /-- PERST_N is asserted (R422) -/
  perst : Bool
  /-- VFs enabled (R69) -/
  numVfs : Nat
  /-- line outputs (R110 to R115) -/
  lineOuts : List (Nat × LineOut)
  /-- register accesses that wait for a domain to wake (R340) -/
  parked : List Parked
  deriving DecidableEq, Repr

/-- The machine right after a power-on reset (R420, R421): device time zero, every register at its reset value, nothing
in memory but zeros, every context DISABLED, nothing queued; the boot of R423 has not begun. -/
def State.reset : State where
  time := 0
  pending := []
  out := []
  fresh := 0
  regs := []
  latches := []
  holds := []
  mem := []
  ecc := []
  ctxs := []
  queues := []
  cmdSeq := 0
  plans := []
  items := []
  ranges := []
  gens := []
  tlb := []
  walkCache := []
  imports := []
  progs := []
  chans := []
  encs := []
  lineIns := []
  unread := []
  ceSeen := []
  zeroing := []
  ports := []
  surface := []
  builders := []
  windows := []
  acqs := []
  acqRuns := []
  fabric := []
  strobes := []
  dfcs := []
  syncIn := none
  energies := []
  energyNext := none
  betas := []
  droops := []
  models := []
  engDies := []
  copies := []
  lastRun := []
  unitFires := []
  recovers := []
  failFrom := []
  chanProgs := []
  chanLast := []
  atsPend := []
  revoking := []
  atsOn := false
  herd := Herd.none
  doms := []
  group := none
  resetT := 0
  faultLog := []
  devHead := 0
  injSite := 0
  lanesBad := []
  flash := []
  svn := 0
  rootRev := 0
  provLock := false
  keys := []
  fw := none
  cool := none
  railsBad := []
  tapIr := 0
  tapHigh := false
  resetAfter := none
  perst := true
  numVfs := 0
  lineOuts := []
  parked := []

end Sys2Proof.Machine
end

