-- ==== Sys2Proof/Machine/Regs.lean ====
section
/-! DEFINITION. Every register of the spec's register chapters, by its name: where it lies, its width and its reset
value (`R.<NAME>`), and every named field of it (`F.<NAME>_<FIELD>`). Instance numbers are arguments, in the order
in which the register's name gives them. BAR0 registers are keyed by their BAR0 offset; the BAR2 register at offset
`o` of context `c` is keyed `(c + 1) * 2^32 + o`. -/

namespace Sys2Proof.Machine

/-- BAR0 base of the SRM instance of a die: 0 F, 1 C-die 0, 2 C-die 1, 3 H (11_memory.md, Registers). -/
def srmBase (d : Nat) : Nat :=
  if d = 0 then 0x01C00000 else if d = 1 then 0x02600000 else if d = 2 then 0x03600000 else 0x00400000

/-- Role register of physical engine `n` of die `e` at reset: engines 0 to 14 ACTIVE, carrying the logical engine of their
number in the die, engine 15 the SPARE (R14, Table 9.7). -/
def tineRoleReset (e n : Nat) : Nat := if n < 15 then (15 * e + n) * 256 else 1 + 31 * 256

/-- The domains marked fixed in Table 15.1. -/
def domFixed (d : Nat) : Bool :=
  d == 0 || d == 1 || d == 2 || d == 3 || d == 7 || d == 15 || d == 16 || d == 35 || d == 36 || d == 64 || d == 65

/-- DOMn_STATE at reset: ON, with FIXED as Table 15.1 sets it. -/
def domStateReset (d : Nat) : Nat := if domFixed d then 0x10 else 0

/-- Wake leads of a domain in beats, from RETENTION and from OFF (Table 15.4); 0 where the domain offers no such state. -/
def domLeads (d : Nat) : Nat × Nat :=
  if domFixed d then (0, 0)
  else if d < 7 then (2, 0)
  else if d < 11 then (8, 0)
  else if d < 15 then (0, 200)
  else if d < 25 then (41, 4001)
  else if d < 28 then (3, 3)
  else if d = 28 then (2, 2)
  else if d < 33 then (0, 40)
  else if d < 35 then (0, 1)
  else
    let k := (d - 35) % 29
    if k < 18 then (3, 3) else if k < 23 then (2, 2) else (3, 3)

/-- DOMn_LEAD: both leads. -/
def domLeadReset (d : Nat) : Nat := (domLeads d).1 + (domLeads d).2 * 65536


/-- GLB_ID (R420, 19_startup.md). -/
def R.GLB_ID : Reg := ⟨0x0, 32, 0xb04832⟩
/-- GLB_STATUS (R424, 19_startup.md). -/
def R.GLB_STATUS : Reg := ⟨0x4, 32, 0x0⟩
/-- GLB_RSTCAUSE (R429, 19_startup.md). -/
def R.GLB_RSTCAUSE : Reg := ⟨0x8, 32, 0xff00⟩
/-- GLB_RSTCNT (R420, 19_startup.md). -/
def R.GLB_RSTCNT : Reg := ⟨0xc, 32, 0x0⟩
/-- GLB_BOOT_T (R424, 19_startup.md). -/
def R.GLB_BOOT_T : Reg := ⟨0x10, 64, 0x0⟩
/-- GLB_BADACC (R431, 19_startup.md). -/
def R.GLB_BADACC : Reg := ⟨0x18, 32, 0x0⟩
/-- GLB_BADADDR (R431, 19_startup.md). -/
def R.GLB_BADADDR : Reg := ⟨0x1c, 32, 0x0⟩
/-- GLB_DOMRST (R430, 19_startup.md). -/
def R.GLB_DOMRST : Reg := ⟨0x20, 32, 0x0⟩
/-- GLB_EVENT (R430, 19_startup.md). -/
def R.GLB_EVENT : Reg := ⟨0x24, 32, 0x0⟩
/-- GLB_EVENT_EN (R430, 19_startup.md). -/
def R.GLB_EVENT_EN : Reg := ⟨0x28, 32, 0x0⟩
/-- GLB_IRQ_CFG (R430, 19_startup.md). -/
def R.GLB_IRQ_CFG : Reg := ⟨0x2c, 32, 0xff⟩

def F.GLB_ID_PART : Fld := ⟨R.GLB_ID, 15, 0⟩
def F.GLB_ID_STEPPING : Fld := ⟨R.GLB_ID, 23, 16⟩
def F.GLB_STATUS_READY : Fld := ⟨R.GLB_STATUS, 0, 0⟩
def F.GLB_STATUS_RECOVERY : Fld := ⟨R.GLB_STATUS, 1, 1⟩
def F.GLB_STATUS_THERM_HOLD : Fld := ⟨R.GLB_STATUS, 2, 2⟩
def F.GLB_STATUS_ERR : Fld := ⟨R.GLB_STATUS, 3, 3⟩
def F.GLB_STATUS_WARM : Fld := ⟨R.GLB_STATUS, 4, 4⟩
def F.GLB_STATUS_STAGE : Fld := ⟨R.GLB_STATUS, 11, 8⟩
def F.GLB_STATUS_ERR_CODE : Fld := ⟨R.GLB_STATUS, 23, 16⟩
def F.GLB_RSTCAUSE_CAUSE : Fld := ⟨R.GLB_RSTCAUSE, 3, 0⟩
def F.GLB_RSTCAUSE_DETECTOR : Fld := ⟨R.GLB_RSTCAUSE, 15, 8⟩
def F.GLB_RSTCAUSE_LOOP : Fld := ⟨R.GLB_RSTCAUSE, 19, 16⟩
def F.GLB_RSTCNT_WARM : Fld := ⟨R.GLB_RSTCNT, 15, 0⟩
def F.GLB_BOOT_T_T : Fld := ⟨R.GLB_BOOT_T, 63, 0⟩
def F.GLB_BADACC_COUNT : Fld := ⟨R.GLB_BADACC, 15, 0⟩
def F.GLB_BADACC_WRITE : Fld := ⟨R.GLB_BADACC, 16, 16⟩
def F.GLB_BADADDR_OFFSET : Fld := ⟨R.GLB_BADADDR, 25, 0⟩
def F.GLB_DOMRST_DOMAIN : Fld := ⟨R.GLB_DOMRST, 6, 0⟩
def F.GLB_DOMRST_KEY : Fld := ⟨R.GLB_DOMRST, 15, 8⟩
def F.GLB_DOMRST_RESULT : Fld := ⟨R.GLB_DOMRST, 18, 16⟩
def F.GLB_DOMRST_BUSY : Fld := ⟨R.GLB_DOMRST, 31, 31⟩
def F.GLB_EVENT_DOMRST_DONE : Fld := ⟨R.GLB_EVENT, 0, 0⟩
def F.GLB_EVENT_BADACC : Fld := ⟨R.GLB_EVENT, 1, 1⟩
def F.GLB_EVENT_EN_EN : Fld := ⟨R.GLB_EVENT_EN, 1, 0⟩
def F.GLB_IRQ_CFG_VECTOR : Fld := ⟨R.GLB_IRQ_CFG, 7, 0⟩

/-- CLK_STATUS (R32, 02_time.md). -/
def R.CLK_STATUS : Reg := ⟨0x10000, 32, 0x0⟩
/-- CLK_TIME (R32, 02_time.md). -/
def R.CLK_TIME : Reg := ⟨0x10008, 64, 0x0⟩
/-- CLK_TRIM (R37, 02_time.md). -/
def R.CLK_TRIM : Reg := ⟨0x10018, 32, 0x0⟩
/-- CLK_FIO_KHZ (R29, 02_time.md). -/
def R.CLK_FIO_KHZ : Reg := ⟨0x1001c, 32, 0x0⟩
/-- CLK_SWFAIL_CNT (R29, 02_time.md). -/
def R.CLK_SWFAIL_CNT : Reg := ⟨0x10020, 32, 0x0⟩
/-- CLK_ONFIO0 (R29, 02_time.md). -/
def R.CLK_ONFIO0 : Reg := ⟨0x10030, 32, 0xffffffff⟩
/-- CLK_ONFIO1 (R29, 02_time.md). -/
def R.CLK_ONFIO1 : Reg := ⟨0x10034, 32, 0xffffffff⟩
/-- CLK_ONFIO2 (R29, 02_time.md). -/
def R.CLK_ONFIO2 : Reg := ⟨0x10038, 32, 0x1fffffff⟩
/-- CLK_SMAP_STATE (R46, 02_time.md). -/
def R.CLK_SMAP_STATE (i : Nat) : Reg := ⟨0x10100 + i * 0x40, 32, 0x0⟩
/-- CLK_SMAP_OFFSET (R40, 02_time.md). -/
def R.CLK_SMAP_OFFSET (i : Nat) : Reg := ⟨0x10108 + i * 0x40, 64, 0x0⟩
/-- CLK_SMAP_DRIFT (R40, 02_time.md). -/
def R.CLK_SMAP_DRIFT (i : Nat) : Reg := ⟨0x10110 + i * 0x40, 32, 0x0⟩
/-- CLK_SMAP_CNT (R46, 02_time.md). -/
def R.CLK_SMAP_CNT (i : Nat) : Reg := ⟨0x10114 + i * 0x40, 32, 0x0⟩

def F.CLK_STATUS_PLL_LOCK : Fld := ⟨R.CLK_STATUS, 0, 0⟩
def F.CLK_STATUS_TIME_VALID : Fld := ⟨R.CLK_STATUS, 1, 1⟩
def F.CLK_STATUS_REFCLK_OK : Fld := ⟨R.CLK_STATUS, 2, 2⟩
def F.CLK_STATUS_TRIM_ACTIVE : Fld := ⟨R.CLK_STATUS, 3, 3⟩
def F.CLK_TIME_TIME : Fld := ⟨R.CLK_TIME, 63, 0⟩
def F.CLK_TRIM_TRIM : Fld := ⟨R.CLK_TRIM, 15, 0⟩
def F.CLK_FIO_KHZ_FIO_KHZ : Fld := ⟨R.CLK_FIO_KHZ, 17, 0⟩
def F.CLK_SWFAIL_CNT_SWFAIL : Fld := ⟨R.CLK_SWFAIL_CNT, 15, 0⟩
def F.CLK_ONFIO0_ONFIO : Fld := ⟨R.CLK_ONFIO0, 31, 0⟩
def F.CLK_ONFIO1_ONFIO : Fld := ⟨R.CLK_ONFIO1, 31, 0⟩
def F.CLK_ONFIO2_ONFIO : Fld := ⟨R.CLK_ONFIO2, 28, 0⟩
def F.CLK_SMAP_STATE_STATE (i : Nat) : Fld := ⟨R.CLK_SMAP_STATE i, 1, 0⟩
def F.CLK_SMAP_STATE_REASON (i : Nat) : Fld := ⟨R.CLK_SMAP_STATE i, 6, 4⟩
def F.CLK_SMAP_STATE_GOOD_WIN (i : Nat) : Fld := ⟨R.CLK_SMAP_STATE i, 12, 8⟩
def F.CLK_SMAP_OFFSET_OFFSET (i : Nat) : Fld := ⟨R.CLK_SMAP_OFFSET i, 63, 0⟩
def F.CLK_SMAP_DRIFT_DRIFT (i : Nat) : Fld := ⟨R.CLK_SMAP_DRIFT i, 31, 0⟩
def F.CLK_SMAP_CNT_DESYNC_CNT (i : Nat) : Fld := ⟨R.CLK_SMAP_CNT i, 15, 0⟩

/-- PMC_STATUS (R344, 15_power_domains.md). -/
def R.PMC_STATUS : Reg := ⟨0x20000, 32, 0x0⟩
/-- PMC_EVENT (R344, 15_power_domains.md). -/
def R.PMC_EVENT : Reg := ⟨0x20004, 32, 0x0⟩
/-- PMC_EVENT_EN (R344, 15_power_domains.md). -/
def R.PMC_EVENT_EN : Reg := ⟨0x20008, 32, 0x0⟩
/-- PMC_IRQ_CFG (R344, 15_power_domains.md). -/
def R.PMC_IRQ_CFG : Reg := ⟨0x2000c, 32, 0xff⟩
/-- PMC_AON (R341, 15_power_domains.md). -/
def R.PMC_AON : Reg := ⟨0x20010, 32, 0xe00⟩
/-- PMC_LASTREF (R344, 15_power_domains.md). -/
def R.PMC_LASTREF : Reg := ⟨0x20014, 32, 0x0⟩
/-- PMC_CNT (R344, 15_power_domains.md). -/
def R.PMC_CNT : Reg := ⟨0x20018, 32, 0x0⟩
/-- PMC_CNT2 (R344, 15_power_domains.md). -/
def R.PMC_CNT2 : Reg := ⟨0x2001c, 32, 0x0⟩
/-- PMC_DOM_CFG (R332, 15_power_domains.md). -/
def R.PMC_DOM_CFG (i : Nat) : Reg := ⟨0x21000 + i * 0x40, 32, 0x0⟩
/-- PMC_DOM_STATE (R328, 15_power_domains.md). -/
def R.PMC_DOM_STATE (i : Nat) : Reg := ⟨0x21004 + i * 0x40, 32, domStateReset i⟩
/-- PMC_DOM_KEEP0 (R330, 15_power_domains.md). -/
def R.PMC_DOM_KEEP0 (i : Nat) : Reg := ⟨0x21008 + i * 0x40, 64, 0x0⟩
/-- PMC_DOM_KEEP1 (R330, 15_power_domains.md). -/
def R.PMC_DOM_KEEP1 (i : Nat) : Reg := ⟨0x21010 + i * 0x40, 64, 0x0⟩
/-- PMC_DOM_RES_ON (R349, 15_power_domains.md). -/
def R.PMC_DOM_RES_ON (i : Nat) : Reg := ⟨0x21018 + i * 0x40, 64, 0x0⟩
/-- PMC_DOM_RES_RET (R349, 15_power_domains.md). -/
def R.PMC_DOM_RES_RET (i : Nat) : Reg := ⟨0x21020 + i * 0x40, 64, 0x0⟩
/-- PMC_DOM_RES_OFF (R349, 15_power_domains.md). -/
def R.PMC_DOM_RES_OFF (i : Nat) : Reg := ⟨0x21028 + i * 0x40, 64, 0x0⟩
/-- PMC_DOM_CNT (R349, 15_power_domains.md). -/
def R.PMC_DOM_CNT (i : Nat) : Reg := ⟨0x21030 + i * 0x40, 32, 0x0⟩
/-- PMC_DOM_LEAD (R338, 15_power_domains.md). -/
def R.PMC_DOM_LEAD (i : Nat) : Reg := ⟨0x21034 + i * 0x40, 32, domLeadReset i⟩

def F.PMC_STATUS_WAKING : Fld := ⟨R.PMC_STATUS, 0, 0⟩
def F.PMC_STATUS_GROUP : Fld := ⟨R.PMC_STATUS, 1, 1⟩
def F.PMC_EVENT_REFUSED : Fld := ⟨R.PMC_EVENT, 0, 0⟩
def F.PMC_EVENT_SWFAIL : Fld := ⟨R.PMC_EVENT, 1, 1⟩
def F.PMC_EVENT_LATE_WAKE : Fld := ⟨R.PMC_EVENT, 2, 2⟩
def F.PMC_EVENT_BOR : Fld := ⟨R.PMC_EVENT, 3, 3⟩
def F.PMC_EVENT_EN_EN : Fld := ⟨R.PMC_EVENT_EN, 3, 0⟩
def F.PMC_IRQ_CFG_VECTOR : Fld := ⟨R.PMC_IRQ_CFG, 7, 0⟩
def F.PMC_AON_LP_EN : Fld := ⟨R.PMC_AON, 0, 0⟩
def F.PMC_AON_LP : Fld := ⟨R.PMC_AON, 1, 1⟩
def F.PMC_AON_BOR : Fld := ⟨R.PMC_AON, 2, 2⟩
def F.PMC_AON_EST_MA : Fld := ⟨R.PMC_AON, 15, 8⟩
def F.PMC_LASTREF_DOMAIN : Fld := ⟨R.PMC_LASTREF, 6, 0⟩
def F.PMC_LASTREF_REASON : Fld := ⟨R.PMC_LASTREF, 11, 8⟩
def F.PMC_CNT_REFUSALS : Fld := ⟨R.PMC_CNT, 15, 0⟩
def F.PMC_CNT_ABORTS : Fld := ⟨R.PMC_CNT, 31, 16⟩
def F.PMC_CNT2_ROLLBACKS : Fld := ⟨R.PMC_CNT2, 15, 0⟩
def F.PMC_CNT2_LATE : Fld := ⟨R.PMC_CNT2, 31, 16⟩
def F.PMC_DOM_CFG_TARGET (i : Nat) : Fld := ⟨R.PMC_DOM_CFG i, 1, 0⟩
def F.PMC_DOM_CFG_IDLE_US (i : Nat) : Fld := ⟨R.PMC_DOM_CFG i, 27, 8⟩
def F.PMC_DOM_STATE_STATE (i : Nat) : Fld := ⟨R.PMC_DOM_STATE i, 1, 0⟩
def F.PMC_DOM_STATE_PHASE (i : Nat) : Fld := ⟨R.PMC_DOM_STATE i, 3, 2⟩
def F.PMC_DOM_STATE_FIXED (i : Nat) : Fld := ⟨R.PMC_DOM_STATE i, 4, 4⟩
def F.PMC_DOM_STATE_WINDOW (i : Nat) : Fld := ⟨R.PMC_DOM_STATE i, 5, 5⟩
def F.PMC_DOM_STATE_CLAIMED (i : Nat) : Fld := ⟨R.PMC_DOM_STATE i, 6, 6⟩
def F.PMC_DOM_KEEP0_KEEP (i : Nat) : Fld := ⟨R.PMC_DOM_KEEP0 i, 63, 0⟩
def F.PMC_DOM_KEEP1_KEEP (i : Nat) : Fld := ⟨R.PMC_DOM_KEEP1 i, 63, 0⟩
def F.PMC_DOM_RES_ON_TICKS (i : Nat) : Fld := ⟨R.PMC_DOM_RES_ON i, 63, 0⟩
def F.PMC_DOM_RES_RET_TICKS (i : Nat) : Fld := ⟨R.PMC_DOM_RES_RET i, 63, 0⟩
def F.PMC_DOM_RES_OFF_TICKS (i : Nat) : Fld := ⟨R.PMC_DOM_RES_OFF i, 63, 0⟩
def F.PMC_DOM_CNT_ENTRIES (i : Nat) : Fld := ⟨R.PMC_DOM_CNT i, 15, 0⟩
def F.PMC_DOM_CNT_REFUSED (i : Nat) : Fld := ⟨R.PMC_DOM_CNT i, 31, 16⟩
def F.PMC_DOM_LEAD_LEAD_RET (i : Nat) : Fld := ⟨R.PMC_DOM_LEAD i, 15, 0⟩
def F.PMC_DOM_LEAD_LEAD_OFF (i : Nat) : Fld := ⟨R.PMC_DOM_LEAD i, 31, 16⟩

/-- EMU_STATUS (R317, 14_energy.md). -/
def R.EMU_STATUS : Reg := ⟨0x30000, 32, 0x0⟩
/-- EMU_EVENT (R317, 14_energy.md). -/
def R.EMU_EVENT : Reg := ⟨0x30004, 32, 0x0⟩
/-- EMU_EVENT_EN (R317, 14_energy.md). -/
def R.EMU_EVENT_EN : Reg := ⟨0x30008, 32, 0x0⟩
/-- EMU_IRQ_CFG (R317, 14_energy.md). -/
def R.EMU_IRQ_CFG : Reg := ⟨0x3000c, 32, 0xff⟩
/-- EMU_BUDGET_UJ (R325, 14_energy.md). -/
def R.EMU_BUDGET_UJ : Reg := ⟨0x30010, 32, 0x17318⟩
/-- EMU_WINDOW (R325, 14_energy.md). -/
def R.EMU_WINDOW : Reg := ⟨0x30014, 32, 0xc8⟩
/-- EMU_RESERVE_UJ (R325, 14_energy.md). -/
def R.EMU_RESERVE_UJ : Reg := ⟨0x30018, 32, 0x128e⟩
/-- EMU_GAIN (R325, 14_energy.md). -/
def R.EMU_GAIN : Reg := ⟨0x3001c, 32, 0x1⟩
/-- EMU_EFF_UJ (R323, 14_energy.md). -/
def R.EMU_EFF_UJ : Reg := ⟨0x30020, 32, 0x17318⟩
/-- EMU_DEVALLOW_UJ (R314, 14_energy.md). -/
def R.EMU_DEVALLOW_UJ : Reg := ⟨0x30024, 32, 0x708⟩
/-- EMU_ADMITTED_UJ (R55, 14_energy.md). -/
def R.EMU_ADMITTED_UJ : Reg := ⟨0x30028, 32, 0x0⟩
/-- EMU_BETA (R317, 14_energy.md). -/
def R.EMU_BETA : Reg := ⟨0x3002c, 32, 0x0⟩
/-- EMU_LAST_K (R312, 14_energy.md). -/
def R.EMU_LAST_K : Reg := ⟨0x30030, 64, 0x0⟩
/-- EMU_LAST_E (R312, 14_energy.md). -/
def R.EMU_LAST_E : Reg := ⟨0x30038, 32, 0x0⟩
/-- EMU_WSUM (R313, 14_energy.md). -/
def R.EMU_WSUM : Reg := ⟨0x30040, 64, 0x0⟩
/-- EMU_TOTAL (R313, 14_energy.md). -/
def R.EMU_TOTAL : Reg := ⟨0x30048, 64, 0x0⟩
/-- EMU_CNT0 (R326, 14_energy.md). -/
def R.EMU_CNT0 : Reg := ⟨0x30050, 32, 0x0⟩
/-- EMU_CNT1 (R326, 14_energy.md). -/
def R.EMU_CNT1 : Reg := ⟨0x30054, 32, 0x0⟩
/-- EMU_MISS (R321, 14_energy.md). -/
def R.EMU_MISS : Reg := ⟨0x30058, 32, 0x0⟩
/-- EMU_UNMET (R319, 14_energy.md). -/
def R.EMU_UNMET : Reg := ⟨0x3005c, 32, 0x0⟩
/-- EMU_THERM_CFG (R323, 14_energy.md). -/
def R.EMU_THERM_CFG : Reg := ⟨0x30060, 32, 0x2064⟩
/-- EMU_TMAX (R323, 14_energy.md). -/
def R.EMU_TMAX : Reg := ⟨0x30064, 32, 0x0⟩
/-- EMU_TRIP_CNT (R324, 14_energy.md). -/
def R.EMU_TRIP_CNT : Reg := ⟨0x30068, 32, 0x0⟩
/-- EMU_TEMP (R323, 14_energy.md). -/
def R.EMU_TEMP (i : Nat) : Reg := ⟨0x30100 + i * 0x10, 32, 0x0⟩
/-- EMU_DROOP_CFG (R322, 14_energy.md). -/
def R.EMU_DROOP_CFG (i : Nat) : Reg := ⟨0x30104 + i * 0x10, 32, 0x40⟩
/-- EMU_DROOP_CNT (R322, 14_energy.md). -/
def R.EMU_DROOP_CNT (i : Nat) : Reg := ⟨0x30108 + i * 0x10, 32, 0x0⟩

def F.EMU_STATUS_BG_THROTTLE : Fld := ⟨R.EMU_STATUS, 0, 0⟩
def F.EMU_STATUS_PL_THROTTLE : Fld := ⟨R.EMU_STATUS, 1, 1⟩
def F.EMU_STATUS_DERATED : Fld := ⟨R.EMU_STATUS, 2, 2⟩
def F.EMU_STATUS_SENSOR_LOST : Fld := ⟨R.EMU_STATUS, 3, 3⟩
def F.EMU_EVENT_THROTTLE : Fld := ⟨R.EMU_EVENT, 0, 0⟩
def F.EMU_EVENT_PLANNED : Fld := ⟨R.EMU_EVENT, 1, 1⟩
def F.EMU_EVENT_MISS : Fld := ⟨R.EMU_EVENT, 2, 2⟩
def F.EMU_EVENT_UNMET : Fld := ⟨R.EMU_EVENT, 3, 3⟩
def F.EMU_EVENT_DROOP : Fld := ⟨R.EMU_EVENT, 4, 4⟩
def F.EMU_EVENT_THERM : Fld := ⟨R.EMU_EVENT, 5, 5⟩
def F.EMU_EVENT_SENSOR : Fld := ⟨R.EMU_EVENT, 6, 6⟩
def F.EMU_EVENT_EN_EN : Fld := ⟨R.EMU_EVENT_EN, 6, 0⟩
def F.EMU_IRQ_CFG_VECTOR : Fld := ⟨R.EMU_IRQ_CFG, 7, 0⟩
def F.EMU_BUDGET_UJ_B : Fld := ⟨R.EMU_BUDGET_UJ, 31, 0⟩
def F.EMU_WINDOW_W : Fld := ⟨R.EMU_WINDOW, 16, 0⟩
def F.EMU_RESERVE_UJ_RV : Fld := ⟨R.EMU_RESERVE_UJ, 31, 0⟩
def F.EMU_GAIN_GAIN : Fld := ⟨R.EMU_GAIN, 6, 0⟩
def F.EMU_EFF_UJ_B_EFF : Fld := ⟨R.EMU_EFF_UJ, 31, 0⟩
def F.EMU_DEVALLOW_UJ_ALLOW : Fld := ⟨R.EMU_DEVALLOW_UJ, 31, 0⟩
def F.EMU_ADMITTED_UJ_SUM : Fld := ⟨R.EMU_ADMITTED_UJ, 31, 0⟩
def F.EMU_BETA_BETA : Fld := ⟨R.EMU_BETA, 9, 0⟩
def F.EMU_LAST_K_K : Fld := ⟨R.EMU_LAST_K, 63, 0⟩
def F.EMU_LAST_E_E : Fld := ⟨R.EMU_LAST_E, 23, 0⟩
def F.EMU_WSUM_S : Fld := ⟨R.EMU_WSUM, 63, 0⟩
def F.EMU_TOTAL_TOTAL : Fld := ⟨R.EMU_TOTAL, 63, 0⟩
def F.EMU_CNT0_BG_BEATS : Fld := ⟨R.EMU_CNT0, 31, 0⟩
def F.EMU_CNT1_PL_BEATS : Fld := ⟨R.EMU_CNT1, 31, 0⟩
def F.EMU_MISS_MISS : Fld := ⟨R.EMU_MISS, 31, 0⟩
def F.EMU_UNMET_UNMET : Fld := ⟨R.EMU_UNMET, 31, 0⟩
def F.EMU_THERM_CFG_T_LIM : Fld := ⟨R.EMU_THERM_CFG, 7, 0⟩
def F.EMU_THERM_CFG_DERATE : Fld := ⟨R.EMU_THERM_CFG, 15, 8⟩
def F.EMU_TMAX_T : Fld := ⟨R.EMU_TMAX, 11, 0⟩
def F.EMU_TRIP_CNT_TRIPS : Fld := ⟨R.EMU_TRIP_CNT, 15, 0⟩
def F.EMU_TEMP_T (i : Nat) : Fld := ⟨R.EMU_TEMP i, 11, 0⟩
def F.EMU_DROOP_CFG_LEN (i : Nat) : Fld := ⟨R.EMU_DROOP_CFG i, 8, 0⟩
def F.EMU_DROOP_CNT_DROOPS (i : Nat) : Fld := ⟨R.EMU_DROOP_CNT i, 31, 0⟩

/-- FMU_STATUS (R350, 16_faults.md). -/
def R.FMU_STATUS : Reg := ⟨0x40000, 32, 0x1⟩
/-- FMU_CTL (R353, 16_faults.md). -/
def R.FMU_CTL : Reg := ⟨0x40004, 32, 0x301⟩
/-- FMU_EVENT (R363, 16_faults.md). -/
def R.FMU_EVENT : Reg := ⟨0x40008, 32, 0x0⟩
/-- FMU_EVENT_EN (R363, 16_faults.md). -/
def R.FMU_EVENT_EN : Reg := ⟨0x4000c, 32, 0x0⟩
/-- FMU_IRQ_CFG (R363, 16_faults.md). -/
def R.FMU_IRQ_CFG : Reg := ⟨0x40010, 32, 0xff⟩
/-- FMU_LOG_CTL (R363, 16_faults.md). -/
def R.FMU_LOG_CTL : Reg := ⟨0x40014, 32, 0x0⟩
/-- FMU_SEQ (R363, 16_faults.md). -/
def R.FMU_SEQ : Reg := ⟨0x40018, 32, 0x0⟩
/-- FMU_UNITFAIL (R360, 16_faults.md). -/
def R.FMU_UNITFAIL : Reg := ⟨0x4001c, 32, 0x0⟩
/-- FMU_INJ (R365, 16_faults.md). -/
def R.FMU_INJ : Reg := ⟨0x40020, 32, 0x0⟩
/-- FMU_INJ_AT (R366, 16_faults.md). -/
def R.FMU_INJ_AT : Reg := ⟨0x40028, 64, 0x0⟩
/-- FMU_RECOV (R361, 16_faults.md). -/
def R.FMU_RECOV : Reg := ⟨0x40030, 32, 0x0⟩
/-- FMU_DEVLOG (R363, 16_faults.md). -/
def R.FMU_DEVLOG (i : Nat) : Reg := ⟨0x40800 + i * 0x20, 256, 0x0⟩
/-- FMU_DET_CNT (R352, 16_faults.md). -/
def R.FMU_DET_CNT (i : Nat) : Reg := ⟨0x41000 + i * 0x10, 32, 0x0⟩
/-- FMU_DET_LAST (R352, 16_faults.md). -/
def R.FMU_DET_LAST (i : Nat) : Reg := ⟨0x41008 + i * 0x10, 64, 0x0⟩

def F.FMU_STATUS_EN : Fld := ⟨R.FMU_STATUS, 0, 0⟩
def F.FMU_STATUS_PROMISE : Fld := ⟨R.FMU_STATUS, 1, 1⟩
def F.FMU_STATUS_FW_REL : Fld := ⟨R.FMU_STATUS, 2, 2⟩
def F.FMU_STATUS_SPARE_FREE0 : Fld := ⟨R.FMU_STATUS, 3, 3⟩
def F.FMU_STATUS_SPARE_FREE1 : Fld := ⟨R.FMU_STATUS, 4, 4⟩
def F.FMU_STATUS_INJ_ACTIVE : Fld := ⟨R.FMU_STATUS, 5, 5⟩
def F.FMU_STATUS_DEV_PRIOR : Fld := ⟨R.FMU_STATUS, 6, 6⟩
def F.FMU_CTL_EN : Fld := ⟨R.FMU_CTL, 0, 0⟩
def F.FMU_CTL_PERM_LIM : Fld := ⟨R.FMU_CTL, 11, 8⟩
def F.FMU_EVENT_FAULT : Fld := ⟨R.FMU_EVENT, 0, 0⟩
def F.FMU_EVENT_RECOVERED : Fld := ⟨R.FMU_EVENT, 1, 1⟩
def F.FMU_EVENT_DEVICE : Fld := ⟨R.FMU_EVENT, 2, 2⟩
def F.FMU_EVENT_LOG_LOST : Fld := ⟨R.FMU_EVENT, 3, 3⟩
def F.FMU_EVENT_UNIT_FAILED : Fld := ⟨R.FMU_EVENT, 4, 4⟩
def F.FMU_EVENT_REPLACED : Fld := ⟨R.FMU_EVENT, 5, 5⟩
def F.FMU_EVENT_EN_EN : Fld := ⟨R.FMU_EVENT_EN, 5, 0⟩
def F.FMU_IRQ_CFG_VECTOR : Fld := ⟨R.FMU_IRQ_CFG, 7, 0⟩
def F.FMU_LOG_CTL_HEAD : Fld := ⟨R.FMU_LOG_CTL, 9, 0⟩
def F.FMU_LOG_CTL_LOST : Fld := ⟨R.FMU_LOG_CTL, 31, 16⟩
def F.FMU_SEQ_SEQ : Fld := ⟨R.FMU_SEQ, 31, 0⟩
def F.FMU_UNITFAIL_CHU : Fld := ⟨R.FMU_UNITFAIL, 7, 0⟩
def F.FMU_UNITFAIL_PPU : Fld := ⟨R.FMU_UNITFAIL, 11, 8⟩
def F.FMU_INJ_DETECTOR : Fld := ⟨R.FMU_INJ, 6, 0⟩
def F.FMU_INJ_MODE : Fld := ⟨R.FMU_INJ, 9, 8⟩
def F.FMU_INJ_LEFT : Fld := ⟨R.FMU_INJ, 31, 16⟩
def F.FMU_INJ_AT_AT : Fld := ⟨R.FMU_INJ_AT, 63, 0⟩
def F.FMU_RECOV_CTX : Fld := ⟨R.FMU_RECOV, 6, 0⟩
def F.FMU_RECOV_COUNT : Fld := ⟨R.FMU_RECOV, 31, 16⟩
def F.FMU_DEVLOG_RECORD (i : Nat) : Fld := ⟨R.FMU_DEVLOG i, 255, 0⟩
def F.FMU_DET_CNT_FIRED (i : Nat) : Fld := ⟨R.FMU_DET_CNT i, 15, 0⟩
def F.FMU_DET_CNT_INJECTED (i : Nat) : Fld := ⟨R.FMU_DET_CNT i, 31, 16⟩
def F.FMU_DET_LAST_T (i : Nat) : Fld := ⟨R.FMU_DET_LAST i, 63, 0⟩

/-- KSU_STATUS (R416, 18_trust_update.md). -/
def R.KSU_STATUS : Reg := ⟨0x50000, 32, 0x0⟩
/-- KSU_EVENT (R417, 18_trust_update.md). -/
def R.KSU_EVENT : Reg := ⟨0x50004, 32, 0x0⟩
/-- KSU_EVENT_EN (R417, 18_trust_update.md). -/
def R.KSU_EVENT_EN : Reg := ⟨0x50008, 32, 0x0⟩
/-- KSU_IRQ_CFG (R417, 18_trust_update.md). -/
def R.KSU_IRQ_CFG : Reg := ⟨0x5000c, 32, 0xff⟩
/-- KSU_BOOT (R403, 18_trust_update.md). -/
def R.KSU_BOOT : Reg := ⟨0x50010, 32, 0x0⟩
/-- KSU_OTP (R397, 18_trust_update.md). -/
def R.KSU_OTP : Reg := ⟨0x50014, 32, 0x0⟩
/-- KSU_KEYCTL (R410, 18_trust_update.md). -/
def R.KSU_KEYCTL : Reg := ⟨0x50018, 32, 0x0⟩
/-- KSU_KEYVALID (R410, 18_trust_update.md). -/
def R.KSU_KEYVALID : Reg := ⟨0x5001c, 32, 0x0⟩
/-- KSU_DEVID (R397, 18_trust_update.md). -/
def R.KSU_DEVID (i : Nat) : Reg := ⟨0x50020 + i * 0x4, 32, 0x0⟩
/-- KSU_DBG_CTL (R415, 18_trust_update.md). -/
def R.KSU_DBG_CTL : Reg := ⟨0x50030, 32, 0x0⟩
/-- KSU_TAMPER (R417, 18_trust_update.md). -/
def R.KSU_TAMPER : Reg := ⟨0x50034, 32, 0x0⟩
/-- KSU_REVOKE (R419, 18_trust_update.md). -/
def R.KSU_REVOKE : Reg := ⟨0x50038, 32, 0x0⟩
/-- KSU_BOOTSEQ (R402, 18_trust_update.md). -/
def R.KSU_BOOTSEQ : Reg := ⟨0x5003c, 32, 0x0⟩
/-- KSU_LOCKCTL (R397, 18_trust_update.md). -/
def R.KSU_LOCKCTL : Reg := ⟨0x50040, 32, 0x0⟩
/-- KSU_KEYID (R410, 18_trust_update.md). -/
def R.KSU_KEYID (i : Nat) : Reg := ⟨0x50100 + i * 0x4, 32, 0x0⟩
/-- KSU_BLOB (R410, 18_trust_update.md). -/
def R.KSU_BLOB (i : Nat) : Reg := ⟨0x50200 + i * 0x4, 32, 0x0⟩
/-- KSU_KEYIN (R410, 18_trust_update.md). -/
def R.KSU_KEYIN (i : Nat) : Reg := ⟨0x50240 + i * 0x4, 32, 0x0⟩
/-- KSU_KEYIN_ID (R410, 18_trust_update.md). -/
def R.KSU_KEYIN_ID : Reg := ⟨0x50260, 32, 0x0⟩
/-- KSU_DBG_CHAL (R415, 18_trust_update.md). -/
def R.KSU_DBG_CHAL (i : Nat) : Reg := ⟨0x50300 + i * 0x4, 32, 0x0⟩
/-- KSU_DBG_PUB (R415, 18_trust_update.md). -/
def R.KSU_DBG_PUB (i : Nat) : Reg := ⟨0x50400 + i * 0x4, 32, 0x0⟩
/-- KSU_DBG_SIG (R415, 18_trust_update.md). -/
def R.KSU_DBG_SIG (i : Nat) : Reg := ⟨0x50480 + i * 0x4, 32, 0x0⟩

def F.KSU_STATUS_DBG : Fld := ⟨R.KSU_STATUS, 0, 0⟩
def F.KSU_STATUS_TAMPER : Fld := ⟨R.KSU_STATUS, 1, 1⟩
def F.KSU_STATUS_RECOVERY : Fld := ⟨R.KSU_STATUS, 2, 2⟩
def F.KSU_STATUS_TRIAL : Fld := ⟨R.KSU_STATUS, 3, 3⟩
def F.KSU_STATUS_SLOT_RUN : Fld := ⟨R.KSU_STATUS, 4, 4⟩
def F.KSU_STATUS_SLOT_REC : Fld := ⟨R.KSU_STATUS, 5, 5⟩
def F.KSU_STATUS_CLASS : Fld := ⟨R.KSU_STATUS, 6, 6⟩
def F.KSU_STATUS_PROV_LOCK : Fld := ⟨R.KSU_STATUS, 7, 7⟩
def F.KSU_STATUS_DBG_LOCKOUT : Fld := ⟨R.KSU_STATUS, 8, 8⟩
def F.KSU_EVENT_TAMPER : Fld := ⟨R.KSU_EVENT, 0, 0⟩
def F.KSU_EVENT_KEY_DONE : Fld := ⟨R.KSU_EVENT, 1, 1⟩
def F.KSU_EVENT_DBG_FAIL : Fld := ⟨R.KSU_EVENT, 2, 2⟩
def F.KSU_EVENT_FALLBACK : Fld := ⟨R.KSU_EVENT, 3, 3⟩
def F.KSU_EVENT_EN_EN : Fld := ⟨R.KSU_EVENT_EN, 3, 0⟩
def F.KSU_IRQ_CFG_VECTOR : Fld := ⟨R.KSU_IRQ_CFG, 7, 0⟩
def F.KSU_BOOT_ATTEMPTS : Fld := ⟨R.KSU_BOOT, 1, 0⟩
def F.KSU_BOOT_FELLBACK : Fld := ⟨R.KSU_BOOT, 8, 8⟩
def F.KSU_OTP_SVN : Fld := ⟨R.KSU_OTP, 6, 0⟩
def F.KSU_OTP_ROOT_PRESENT : Fld := ⟨R.KSU_OTP, 11, 8⟩
def F.KSU_OTP_ROOT_REVOKED : Fld := ⟨R.KSU_OTP, 15, 12⟩
def F.KSU_OTP_DBGKEY_PRESENT : Fld := ⟨R.KSU_OTP, 17, 16⟩
def F.KSU_KEYCTL_SLOT : Fld := ⟨R.KSU_KEYCTL, 3, 0⟩
def F.KSU_KEYCTL_OP : Fld := ⟨R.KSU_KEYCTL, 9, 8⟩
def F.KSU_KEYCTL_RESULT : Fld := ⟨R.KSU_KEYCTL, 18, 16⟩
def F.KSU_KEYCTL_BUSY : Fld := ⟨R.KSU_KEYCTL, 31, 31⟩
def F.KSU_KEYVALID_VALID : Fld := ⟨R.KSU_KEYVALID, 15, 0⟩
def F.KSU_DEVID_DEVID (i : Nat) : Fld := ⟨R.KSU_DEVID i, 31, 0⟩
def F.KSU_DBG_CTL_UNLOCK : Fld := ⟨R.KSU_DBG_CTL, 0, 0⟩
def F.KSU_DBG_CTL_KEYSEL : Fld := ⟨R.KSU_DBG_CTL, 1, 1⟩
def F.KSU_DBG_CTL_RESULT : Fld := ⟨R.KSU_DBG_CTL, 18, 16⟩
def F.KSU_DBG_CTL_FAILS : Fld := ⟨R.KSU_DBG_CTL, 23, 20⟩
def F.KSU_TAMPER_VOLT : Fld := ⟨R.KSU_TAMPER, 7, 0⟩
def F.KSU_TAMPER_CLK : Fld := ⟨R.KSU_TAMPER, 15, 8⟩
def F.KSU_TAMPER_TEMP : Fld := ⟨R.KSU_TAMPER, 23, 16⟩
def F.KSU_REVOKE_INDEX : Fld := ⟨R.KSU_REVOKE, 1, 0⟩
def F.KSU_REVOKE_CONFIRM : Fld := ⟨R.KSU_REVOKE, 15, 8⟩
def F.KSU_BOOTSEQ_SEQ : Fld := ⟨R.KSU_BOOTSEQ, 31, 0⟩
def F.KSU_LOCKCTL_PROV_LOCK : Fld := ⟨R.KSU_LOCKCTL, 0, 0⟩
def F.KSU_KEYID_KEY_ID (i : Nat) : Fld := ⟨R.KSU_KEYID i, 31, 0⟩
def F.KSU_BLOB_BLOB (i : Nat) : Fld := ⟨R.KSU_BLOB i, 31, 0⟩
def F.KSU_KEYIN_KEYIN (i : Nat) : Fld := ⟨R.KSU_KEYIN i, 31, 0⟩
def F.KSU_KEYIN_ID_KEYIN_ID : Fld := ⟨R.KSU_KEYIN_ID, 31, 0⟩
def F.KSU_DBG_CHAL_CHAL (i : Nat) : Fld := ⟨R.KSU_DBG_CHAL i, 31, 0⟩
def F.KSU_DBG_PUB_PUB (i : Nat) : Fld := ⟨R.KSU_DBG_PUB i, 31, 0⟩
def F.KSU_DBG_SIG_SIG (i : Nat) : Fld := ⟨R.KSU_DBG_SIG i, 31, 0⟩

/-- CPX_STATUS (R424, 04_commands.md). -/
def R.CPX_STATUS : Reg := ⟨0x80000, 32, 0x0⟩
/-- CPX_FWVER (R95, 04_commands.md). -/
def R.CPX_FWVER : Reg := ⟨0x80004, 32, 0x0⟩
/-- CPX_CTXEN (R69, 04_commands.md). -/
def R.CPX_CTXEN (i : Nat) : Reg := ⟨0x80010 + i * 0x4, 32, 0x0⟩
/-- CPX_CTX_RIGHTS (R70, 04_commands.md). -/
def R.CPX_CTX_RIGHTS (i : Nat) : Reg := ⟨0x80100 + i * 0x10, 32, 0x0⟩
/-- CPX_CTX_STATE (R69, 04_commands.md). -/
def R.CPX_CTX_STATE (i : Nat) : Reg := ⟨0x80104 + i * 0x10, 32, 0x0⟩
/-- CPX_CTX_CMDS (R69, 04_commands.md). -/
def R.CPX_CTX_CMDS (i : Nat) : Reg := ⟨0x80108 + i * 0x10, 32, 0x0⟩
/-- CPX_Q_CFG (R72, 04_commands.md). -/
def R.CPX_Q_CFG (i : Nat) : Reg := ⟨0x90000 + i * 0x8, 32, 0x0⟩
/-- CPX_Q_PTR (R74, 04_commands.md). -/
def R.CPX_Q_PTR (i : Nat) : Reg := ⟨0x90004 + i * 0x8, 32, 0x0⟩
/-- CPX_PLN_STATE (R56, 04_commands.md). -/
def R.CPX_PLN_STATE (i : Nat) : Reg := ⟨0xc0000 + i * 0x80, 32, 0x0⟩
/-- CPX_PLN_ANCHOR (R58, 04_commands.md). -/
def R.CPX_PLN_ANCHOR (i : Nat) : Reg := ⟨0xc0008 + i * 0x80, 64, 0x0⟩
/-- CPX_PLN_ITEMS (R68, 04_commands.md). -/
def R.CPX_PLN_ITEMS (i : Nat) : Reg := ⟨0xc0010 + i * 0x80, 64, 0x0⟩
/-- CPX_PLN_NI_SLOT (R59, 04_commands.md). -/
def R.CPX_PLN_NI_SLOT (i : Nat) : Reg := ⟨0xc0018 + i * 0x80, 64, 0x0⟩
/-- CPX_PLN_NI_GAP (R59, 04_commands.md). -/
def R.CPX_PLN_NI_GAP (i : Nat) : Reg := ⟨0xc0020 + i * 0x80, 64, 0x0⟩
/-- CPX_PLN_FAULTED (R68, 04_commands.md). -/
def R.CPX_PLN_FAULTED (i : Nat) : Reg := ⟨0xc0028 + i * 0x80, 64, 0x0⟩
/-- CPX_PLN_INCOMPLETE (R68, 04_commands.md). -/
def R.CPX_PLN_INCOMPLETE (i : Nat) : Reg := ⟨0xc0030 + i * 0x80, 64, 0x0⟩
/-- CPX_PLN_REFCNT (R68, 04_commands.md). -/
def R.CPX_PLN_REFCNT (i : Nat) : Reg := ⟨0xc0038 + i * 0x80, 32, 0x0⟩

def F.CPX_STATUS_RUN : Fld := ⟨R.CPX_STATUS, 0, 0⟩
def F.CPX_STATUS_LOCKSTEP_OK : Fld := ⟨R.CPX_STATUS, 1, 1⟩
def F.CPX_FWVER_VERSION : Fld := ⟨R.CPX_FWVER, 23, 0⟩
def F.CPX_FWVER_SLOT : Fld := ⟨R.CPX_FWVER, 24, 24⟩
def F.CPX_CTXEN_EN (i : Nat) : Fld := ⟨R.CPX_CTXEN i, 31, 0⟩
def F.CPX_CTX_RIGHTS_ACQ (i : Nat) : Fld := ⟨R.CPX_CTX_RIGHTS i, 0, 0⟩
def F.CPX_CTX_RIGHTS_EVP (i : Nat) : Fld := ⟨R.CPX_CTX_RIGHTS i, 1, 1⟩
def F.CPX_CTX_RIGHTS_HERD (i : Nat) : Fld := ⟨R.CPX_CTX_RIGHTS i, 2, 2⟩
def F.CPX_CTX_STATE_STATE (i : Nat) : Fld := ⟨R.CPX_CTX_STATE i, 1, 0⟩
def F.CPX_CTX_CMDS_CMDS (i : Nat) : Fld := ⟨R.CPX_CTX_CMDS i, 31, 0⟩
def F.CPX_Q_CFG_TYPE (i : Nat) : Fld := ⟨R.CPX_Q_CFG i, 1, 0⟩
def F.CPX_Q_CFG_PHASE (i : Nat) : Fld := ⟨R.CPX_Q_CFG i, 2, 2⟩
def F.CPX_Q_CFG_CQ_SIZE_M1 (i : Nat) : Fld := ⟨R.CPX_Q_CFG i, 31, 16⟩
def F.CPX_Q_PTR_SQ_HEAD (i : Nat) : Fld := ⟨R.CPX_Q_PTR i, 15, 0⟩
def F.CPX_Q_PTR_CQ_NEXT (i : Nat) : Fld := ⟨R.CPX_Q_PTR i, 31, 16⟩
def F.CPX_PLN_STATE_H0 (i : Nat) : Fld := ⟨R.CPX_PLN_STATE i, 2, 0⟩
def F.CPX_PLN_STATE_H1 (i : Nat) : Fld := ⟨R.CPX_PLN_STATE i, 6, 4⟩
def F.CPX_PLN_STATE_H2 (i : Nat) : Fld := ⟨R.CPX_PLN_STATE i, 10, 8⟩
def F.CPX_PLN_STATE_H3 (i : Nat) : Fld := ⟨R.CPX_PLN_STATE i, 14, 12⟩
def F.CPX_PLN_STATE_RUN_H (i : Nat) : Fld := ⟨R.CPX_PLN_STATE i, 17, 16⟩
def F.CPX_PLN_STATE_RUN_V (i : Nat) : Fld := ⟨R.CPX_PLN_STATE i, 18, 18⟩
def F.CPX_PLN_STATE_SWAP_H (i : Nat) : Fld := ⟨R.CPX_PLN_STATE i, 21, 20⟩
def F.CPX_PLN_STATE_SWAP_V (i : Nat) : Fld := ⟨R.CPX_PLN_STATE i, 22, 22⟩
def F.CPX_PLN_STATE_DEGRADED (i : Nat) : Fld := ⟨R.CPX_PLN_STATE i, 24, 24⟩
def F.CPX_PLN_ANCHOR_ANCHOR (i : Nat) : Fld := ⟨R.CPX_PLN_ANCHOR i, 63, 0⟩
def F.CPX_PLN_ITEMS_ITEMS (i : Nat) : Fld := ⟨R.CPX_PLN_ITEMS i, 63, 0⟩
def F.CPX_PLN_NI_SLOT_NI_SLOT (i : Nat) : Fld := ⟨R.CPX_PLN_NI_SLOT i, 63, 0⟩
def F.CPX_PLN_NI_GAP_NI_GAP (i : Nat) : Fld := ⟨R.CPX_PLN_NI_GAP i, 63, 0⟩
def F.CPX_PLN_FAULTED_FAULTED (i : Nat) : Fld := ⟨R.CPX_PLN_FAULTED i, 63, 0⟩
def F.CPX_PLN_INCOMPLETE_INCOMPLETE (i : Nat) : Fld := ⟨R.CPX_PLN_INCOMPLETE i, 63, 0⟩
def F.CPX_PLN_REFCNT_REFCNT (i : Nat) : Fld := ⟨R.CPX_PLN_REFCNT i, 15, 0⟩

/-- ATU_STATUS (R264, 12_translation.md). -/
def R.ATU_STATUS : Reg := ⟨0x100000, 32, 0x0⟩
/-- ATU_EVENT (R274, 12_translation.md). -/
def R.ATU_EVENT : Reg := ⟨0x100004, 32, 0x0⟩
/-- ATU_EVENT_EN (R274, 12_translation.md). -/
def R.ATU_EVENT_EN : Reg := ⟨0x100008, 32, 0x0⟩
/-- ATU_IRQ_CFG (R274, 12_translation.md). -/
def R.ATU_IRQ_CFG : Reg := ⟨0x10000c, 32, 0xff⟩
/-- ATU_TLB_HIT (R261, 12_translation.md). -/
def R.ATU_TLB_HIT : Reg := ⟨0x100010, 64, 0x0⟩
/-- ATU_TLB_MISS (R261, 12_translation.md). -/
def R.ATU_TLB_MISS : Reg := ⟨0x100018, 64, 0x0⟩
/-- ATU_WALKS (R260, 12_translation.md). -/
def R.ATU_WALKS : Reg := ⟨0x100020, 64, 0x0⟩
/-- ATU_TLB_CTL (R272, 12_translation.md). -/
def R.ATU_TLB_CTL : Reg := ⟨0x100028, 32, 0x0⟩
/-- ATU_RUNS (R266, 12_translation.md). -/
def R.ATU_RUNS : Reg := ⟨0x10002c, 32, 0x0⟩
/-- ATU_PRI (R263, 12_translation.md). -/
def R.ATU_PRI : Reg := ⟨0x100030, 32, 0x0⟩
/-- ATU_CNT (R260, 12_translation.md). -/
def R.ATU_CNT : Reg := ⟨0x100034, 32, 0x0⟩
/-- ATU_FMT_BITS (R259, 12_translation.md). -/
def R.ATU_FMT_BITS (i : Nat) : Reg := ⟨0x100100 + i * 0x10, 32, 0x474140⟩
/-- ATU_FMT_ADDR (R259, 12_translation.md). -/
def R.ATU_FMT_ADDR (i : Nat) : Reg := ⟨0x100104 + i * 0x10, 32, 0x633⟩
/-- ATU_CTX_CFG (R258, 12_translation.md). -/
def R.ATU_CTX_CFG (i : Nat) : Reg := ⟨0x101000 + i * 0x40, 32, 0x3e83c00⟩
/-- ATU_CTX_PASID (R263, 12_translation.md). -/
def R.ATU_CTX_PASID (i : Nat) : Reg := ⟨0x101004 + i * 0x40, 32, 0x0⟩
/-- ATU_CTX_STAT (R271, 12_translation.md). -/
def R.ATU_CTX_STAT (i : Nat) : Reg := ⟨0x101008 + i * 0x40, 32, 0x0⟩
/-- ATU_CTX_FCNT (R274, 12_translation.md). -/
def R.ATU_CTX_FCNT (i : Nat) : Reg := ⟨0x10100c + i * 0x40, 32, 0x0⟩
/-- ATU_CTX_HVA_BASE (R256, 12_translation.md). -/
def R.ATU_CTX_HVA_BASE (i : Nat) : Reg := ⟨0x101010 + i * 0x40, 64, 0x0⟩
/-- ATU_CTX_DVA_BASE (R256, 12_translation.md). -/
def R.ATU_CTX_DVA_BASE (i : Nat) : Reg := ⟨0x101018 + i * 0x40, 64, 0x0⟩
/-- ATU_CTX_WIN_LEN (R256, 12_translation.md). -/
def R.ATU_CTX_WIN_LEN (i : Nat) : Reg := ⟨0x101020 + i * 0x40, 64, 0x0⟩
/-- ATU_CTX_ROOT (R258, 12_translation.md). -/
def R.ATU_CTX_ROOT (i : Nat) : Reg := ⟨0x101028 + i * 0x40, 64, 0x0⟩
/-- ATU_CTX_LASTF (R273, 12_translation.md). -/
def R.ATU_CTX_LASTF (i : Nat) : Reg := ⟨0x101030 + i * 0x40, 64, 0x0⟩
/-- ATU_CTX_LASTR (R273, 12_translation.md). -/
def R.ATU_CTX_LASTR (i : Nat) : Reg := ⟨0x101038 + i * 0x40, 32, 0x0⟩
/-- ATU_RNG (R265, 12_translation.md). -/
def R.ATU_RNG (i : Nat) : Reg := ⟨0x140000 + i * 0x20, 256, 0x0⟩
/-- ATU_IMP (R278, 12_translation.md). -/
def R.ATU_IMP (i : Nat) : Reg := ⟨0x160000 + i * 0x20, 256, 0x0⟩

def F.ATU_STATUS_PRI_STOPPED : Fld := ⟨R.ATU_STATUS, 0, 0⟩
def F.ATU_STATUS_WIGN : Fld := ⟨R.ATU_STATUS, 31, 16⟩
def F.ATU_EVENT_FAULT : Fld := ⟨R.ATU_EVENT, 0, 0⟩
def F.ATU_EVENT_REVOKED : Fld := ⟨R.ATU_EVENT, 1, 1⟩
def F.ATU_EVENT_PRI_FAIL : Fld := ⟨R.ATU_EVENT, 2, 2⟩
def F.ATU_EVENT_WALK_ERR : Fld := ⟨R.ATU_EVENT, 3, 3⟩
def F.ATU_EVENT_RUNS_FULL : Fld := ⟨R.ATU_EVENT, 4, 4⟩
def F.ATU_EVENT_EN_EN : Fld := ⟨R.ATU_EVENT_EN, 4, 0⟩
def F.ATU_IRQ_CFG_VECTOR : Fld := ⟨R.ATU_IRQ_CFG, 7, 0⟩
def F.ATU_TLB_HIT_N : Fld := ⟨R.ATU_TLB_HIT, 63, 0⟩
def F.ATU_TLB_MISS_N : Fld := ⟨R.ATU_TLB_MISS, 63, 0⟩
def F.ATU_WALKS_N : Fld := ⟨R.ATU_WALKS, 63, 0⟩
def F.ATU_TLB_CTL_FLUSH : Fld := ⟨R.ATU_TLB_CTL, 0, 0⟩
def F.ATU_RUNS_PIN_RUNS : Fld := ⟨R.ATU_RUNS, 17, 0⟩
def F.ATU_PRI_OUT : Fld := ⟨R.ATU_PRI, 9, 0⟩
def F.ATU_PRI_ALLOC : Fld := ⟨R.ATU_PRI, 25, 16⟩
def F.ATU_CNT_WALK_ERR_CNT : Fld := ⟨R.ATU_CNT, 15, 0⟩
def F.ATU_CNT_INV_STOP : Fld := ⟨R.ATU_CNT, 31, 16⟩
def F.ATU_FMT_BITS_PRESENT_POS (i : Nat) : Fld := ⟨R.ATU_FMT_BITS i, 5, 0⟩
def F.ATU_FMT_BITS_PRESENT_POL (i : Nat) : Fld := ⟨R.ATU_FMT_BITS i, 6, 6⟩
def F.ATU_FMT_BITS_WRITE_POS (i : Nat) : Fld := ⟨R.ATU_FMT_BITS i, 13, 8⟩
def F.ATU_FMT_BITS_WRITE_POL (i : Nat) : Fld := ⟨R.ATU_FMT_BITS i, 14, 14⟩
def F.ATU_FMT_BITS_LEAF_POS (i : Nat) : Fld := ⟨R.ATU_FMT_BITS i, 21, 16⟩
def F.ATU_FMT_BITS_LEAF_POL (i : Nat) : Fld := ⟨R.ATU_FMT_BITS i, 22, 22⟩
def F.ATU_FMT_BITS_ATOMIC_POS (i : Nat) : Fld := ⟨R.ATU_FMT_BITS i, 29, 24⟩
def F.ATU_FMT_BITS_ATOMIC_POL (i : Nat) : Fld := ⟨R.ATU_FMT_BITS i, 30, 30⟩
def F.ATU_FMT_BITS_ATOMIC_EN (i : Nat) : Fld := ⟨R.ATU_FMT_BITS i, 31, 31⟩
def F.ATU_FMT_ADDR_ADDR_HI (i : Nat) : Fld := ⟨R.ATU_FMT_ADDR i, 5, 0⟩
def F.ATU_FMT_ADDR_LEVELS (i : Nat) : Fld := ⟨R.ATU_FMT_ADDR i, 8, 8⟩
def F.ATU_FMT_ADDR_LEAF2M_EN (i : Nat) : Fld := ⟨R.ATU_FMT_ADDR i, 9, 9⟩
def F.ATU_FMT_ADDR_LEAF1G_EN (i : Nat) : Fld := ⟨R.ATU_FMT_ADDR i, 10, 10⟩
def F.ATU_CTX_CFG_SOURCE (i : Nat) : Fld := ⟨R.ATU_CTX_CFG i, 1, 0⟩
def F.ATU_CTX_CFG_PROFILE (i : Nat) : Fld := ⟨R.ATU_CTX_CFG i, 5, 4⟩
def F.ATU_CTX_CFG_FMODE (i : Nat) : Fld := ⟨R.ATU_CTX_CFG i, 8, 8⟩
def F.ATU_CTX_CFG_AHEAD_M1 (i : Nat) : Fld := ⟨R.ATU_CTX_CFG i, 15, 10⟩
def F.ATU_CTX_CFG_FTMO (i : Nat) : Fld := ⟨R.ATU_CTX_CFG i, 31, 16⟩
def F.ATU_CTX_PASID_PASID (i : Nat) : Fld := ⟨R.ATU_CTX_PASID i, 19, 0⟩
def F.ATU_CTX_STAT_RANGES (i : Nat) : Fld := ⟨R.ATU_CTX_STAT i, 5, 0⟩
def F.ATU_CTX_STAT_PENDING (i : Nat) : Fld := ⟨R.ATU_CTX_STAT i, 15, 8⟩
def F.ATU_CTX_STAT_HELD (i : Nat) : Fld := ⟨R.ATU_CTX_STAT i, 31, 16⟩
def F.ATU_CTX_FCNT_FAULTS (i : Nat) : Fld := ⟨R.ATU_CTX_FCNT i, 15, 0⟩
def F.ATU_CTX_FCNT_MIGR (i : Nat) : Fld := ⟨R.ATU_CTX_FCNT i, 31, 16⟩
def F.ATU_CTX_HVA_BASE_V (i : Nat) : Fld := ⟨R.ATU_CTX_HVA_BASE i, 63, 12⟩
def F.ATU_CTX_DVA_BASE_V (i : Nat) : Fld := ⟨R.ATU_CTX_DVA_BASE i, 63, 12⟩
def F.ATU_CTX_WIN_LEN_V (i : Nat) : Fld := ⟨R.ATU_CTX_WIN_LEN i, 63, 12⟩
def F.ATU_CTX_ROOT_V (i : Nat) : Fld := ⟨R.ATU_CTX_ROOT i, 63, 12⟩
def F.ATU_CTX_LASTF_DVA (i : Nat) : Fld := ⟨R.ATU_CTX_LASTF i, 63, 0⟩
def F.ATU_CTX_LASTR_REASON (i : Nat) : Fld := ⟨R.ATU_CTX_LASTR i, 7, 0⟩
def F.ATU_CTX_LASTR_QUEUE (i : Nat) : Fld := ⟨R.ATU_CTX_LASTR i, 14, 8⟩
def F.ATU_RNG_ENTRY (i : Nat) : Fld := ⟨R.ATU_RNG i, 255, 0⟩
def F.ATU_IMP_ENTRY (i : Nat) : Fld := ⟨R.ATU_IMP i, 255, 0⟩

/-- DMX_STATUS (R306, 13_dma.md). -/
def R.DMX_STATUS : Reg := ⟨0x180000, 32, 0x0⟩
/-- DMX_EVENT (R300, 13_dma.md). -/
def R.DMX_EVENT : Reg := ⟨0x180004, 32, 0x0⟩
/-- DMX_EVENT_EN (R300, 13_dma.md). -/
def R.DMX_EVENT_EN : Reg := ⟨0x180008, 32, 0x0⟩
/-- DMX_IRQ_CFG (R300, 13_dma.md). -/
def R.DMX_IRQ_CFG : Reg := ⟨0x18000c, 32, 0xff⟩
/-- DMX_SHARE (R287, 13_dma.md). -/
def R.DMX_SHARE : Reg := ⟨0x180010, 32, 0x0⟩
/-- DMX_SEM (R295, 13_dma.md). -/
def R.DMX_SEM (i : Nat) : Reg := ⟨0x180100 + i * 0x4, 32, 0x0⟩
/-- DMX_CH_STAT (R305, 13_dma.md). -/
def R.DMX_CH_STAT (i : Nat) : Reg := ⟨0x181000 + i * 0x40, 32, 0x0⟩
/-- DMX_CH_CTL (R306, 13_dma.md). -/
def R.DMX_CH_CTL (i : Nat) : Reg := ⟨0x181004 + i * 0x40, 32, 0x0⟩
/-- DMX_CH_POS (R306, 13_dma.md). -/
def R.DMX_CH_POS (i : Nat) : Reg := ⟨0x181008 + i * 0x40, 32, 0x0⟩
/-- DMX_CH_CRC (R292, 13_dma.md). -/
def R.DMX_CH_CRC (i : Nat) : Reg := ⟨0x18100c + i * 0x40, 32, 0xffffffff⟩
/-- DMX_CH_SRC (R306, 13_dma.md). -/
def R.DMX_CH_SRC (i : Nat) : Reg := ⟨0x181010 + i * 0x40, 64, 0x0⟩
/-- DMX_CH_DST (R306, 13_dma.md). -/
def R.DMX_CH_DST (i : Nat) : Reg := ⟨0x181018 + i * 0x40, 64, 0x0⟩
/-- DMX_CH_REM (R306, 13_dma.md). -/
def R.DMX_CH_REM (i : Nat) : Reg := ⟨0x181020 + i * 0x40, 64, 0x0⟩
/-- DMX_CH_DONE (R300, 13_dma.md). -/
def R.DMX_CH_DONE (i : Nat) : Reg := ⟨0x181028 + i * 0x40, 64, 0x0⟩
/-- DMX_CH_CNT (R289, 13_dma.md). -/
def R.DMX_CH_CNT (i : Nat) : Reg := ⟨0x181030 + i * 0x40, 32, 0x0⟩
/-- DMX_CH_CNT2 (R300, 13_dma.md). -/
def R.DMX_CH_CNT2 (i : Nat) : Reg := ⟨0x181034 + i * 0x40, 32, 0x0⟩
/-- DMX_CH_IRQ (R308, 13_dma.md). -/
def R.DMX_CH_IRQ (i : Nat) : Reg := ⟨0x181038 + i * 0x40, 32, 0xff⟩

def F.DMX_STATUS_WIGN : Fld := ⟨R.DMX_STATUS, 31, 16⟩
def F.DMX_EVENT_LATE : Fld := ⟨R.DMX_EVENT, 0, 0⟩
def F.DMX_EVENT_TMO : Fld := ⟨R.DMX_EVENT, 1, 1⟩
def F.DMX_EVENT_LATE_WD : Fld := ⟨R.DMX_EVENT, 2, 2⟩
def F.DMX_EVENT_RING_STOP : Fld := ⟨R.DMX_EVENT, 3, 3⟩
def F.DMX_EVENT_EN_EN : Fld := ⟨R.DMX_EVENT_EN, 3, 0⟩
def F.DMX_IRQ_CFG_VECTOR : Fld := ⟨R.DMX_IRQ_CFG, 7, 0⟩
def F.DMX_SHARE_PLANNED : Fld := ⟨R.DMX_SHARE, 6, 0⟩
def F.DMX_SHARE_HOST : Fld := ⟨R.DMX_SHARE, 14, 8⟩
def F.DMX_SEM_VALUE (i : Nat) : Fld := ⟨R.DMX_SEM i, 15, 0⟩
def F.DMX_CH_STAT_STATE (i : Nat) : Fld := ⟨R.DMX_CH_STAT i, 2, 0⟩
def F.DMX_CH_STAT_PRIO (i : Nat) : Fld := ⟨R.DMX_CH_STAT i, 5, 4⟩
def F.DMX_CH_STAT_CTX (i : Nat) : Fld := ⟨R.DMX_CH_STAT i, 14, 8⟩
def F.DMX_CH_STAT_BOUND (i : Nat) : Fld := ⟨R.DMX_CH_STAT i, 15, 15⟩
def F.DMX_CH_STAT_RINGS (i : Nat) : Fld := ⟨R.DMX_CH_STAT i, 20, 16⟩
def F.DMX_CH_CTL_PAUSE (i : Nat) : Fld := ⟨R.DMX_CH_CTL i, 0, 0⟩
def F.DMX_CH_POS_INDEX (i : Nat) : Fld := ⟨R.DMX_CH_POS i, 15, 0⟩
def F.DMX_CH_POS_QUEUE (i : Nat) : Fld := ⟨R.DMX_CH_POS i, 22, 16⟩
def F.DMX_CH_CRC_CRC (i : Nat) : Fld := ⟨R.DMX_CH_CRC i, 31, 0⟩
def F.DMX_CH_SRC_DVA (i : Nat) : Fld := ⟨R.DMX_CH_SRC i, 63, 0⟩
def F.DMX_CH_DST_DVA (i : Nat) : Fld := ⟨R.DMX_CH_DST i, 63, 0⟩
def F.DMX_CH_REM_BYTES (i : Nat) : Fld := ⟨R.DMX_CH_REM i, 24, 0⟩
def F.DMX_CH_REM_LINES (i : Nat) : Fld := ⟨R.DMX_CH_REM i, 43, 32⟩
def F.DMX_CH_DONE_DONE (i : Nat) : Fld := ⟨R.DMX_CH_DONE i, 63, 0⟩
def F.DMX_CH_CNT_LATE_WD (i : Nat) : Fld := ⟨R.DMX_CH_CNT i, 15, 0⟩
def F.DMX_CH_CNT_DISCARD (i : Nat) : Fld := ⟨R.DMX_CH_CNT i, 31, 16⟩
def F.DMX_CH_CNT2_LATE (i : Nat) : Fld := ⟨R.DMX_CH_CNT2 i, 15, 0⟩
def F.DMX_CH_CNT2_TMO (i : Nat) : Fld := ⟨R.DMX_CH_CNT2 i, 31, 16⟩
def F.DMX_CH_IRQ_VECTOR (i : Nat) : Fld := ⟨R.DMX_CH_IRQ i, 7, 0⟩
def F.DMX_CH_IRQ_EVERY (i : Nat) : Fld := ⟨R.DMX_CH_IRQ i, 31, 16⟩

/-- HRD_STATUS (R370, 17_herd.md). -/
def R.HRD_STATUS : Reg := ⟨0x200000, 32, 0x0⟩
/-- HRD_EVENT (R392, 17_herd.md). -/
def R.HRD_EVENT : Reg := ⟨0x200004, 32, 0x0⟩
/-- HRD_EVENT_EN (R392, 17_herd.md). -/
def R.HRD_EVENT_EN : Reg := ⟨0x200008, 32, 0x0⟩
/-- HRD_IRQ_CFG (R392, 17_herd.md). -/
def R.HRD_IRQ_CFG : Reg := ⟨0x20000c, 32, 0xff⟩
/-- HRD_CFG (R379, 17_herd.md). -/
def R.HRD_CFG : Reg := ⟨0x200010, 32, 0x0⟩
/-- HRD_EPOCH (R381, 17_herd.md). -/
def R.HRD_EPOCH : Reg := ⟨0x200014, 32, 0x0⟩
/-- HRD_OFFSET (R377, 17_herd.md). -/
def R.HRD_OFFSET : Reg := ⟨0x200018, 32, 0x0⟩
/-- HRD_TIME_CNT (R378, 17_herd.md). -/
def R.HRD_TIME_CNT : Reg := ⟨0x20001c, 32, 0x0⟩
/-- HRD_ENC_OFS (R385, 17_herd.md). -/
def R.HRD_ENC_OFS : Reg := ⟨0x200020, 64, 0x0⟩
/-- HRD_UNDEL (R391, 17_herd.md). -/
def R.HRD_UNDEL : Reg := ⟨0x200028, 32, 0x0⟩
/-- HRD_CNT (R385, 17_herd.md). -/
def R.HRD_CNT : Reg := ⟨0x20002c, 32, 0x0⟩
/-- HRD_LINK_STATE (R375, 17_herd.md). -/
def R.HRD_LINK_STATE (i : Nat) : Reg := ⟨0x200100 + i * 0x40, 32, 0x0⟩
/-- HRD_LINK_CTL (R376, 17_herd.md). -/
def R.HRD_LINK_CTL (i : Nat) : Reg := ⟨0x200104 + i * 0x40, 32, 0x0⟩
/-- HRD_LINK_ASYM (R377, 17_herd.md). -/
def R.HRD_LINK_ASYM (i : Nat) : Reg := ⟨0x200108 + i * 0x40, 32, 0x0⟩
/-- HRD_LINK_RTT (R377, 17_herd.md). -/
def R.HRD_LINK_RTT (i : Nat) : Reg := ⟨0x20010c + i * 0x40, 32, 0x0⟩
/-- HRD_LINK_CNT (R374, 17_herd.md). -/
def R.HRD_LINK_CNT (i : Nat) : Reg := ⟨0x200110 + i * 0x40, 32, 0x0⟩
/-- HRD_LINK_CNT2 (R375, 17_herd.md). -/
def R.HRD_LINK_CNT2 (i : Nat) : Reg := ⟨0x200114 + i * 0x40, 32, 0x0⟩
/-- HRD_LINK_SLOTS (R372, 17_herd.md). -/
def R.HRD_LINK_SLOTS (i : Nat) : Reg := ⟨0x200118 + i * 0x40, 32, 0x0⟩
/-- HRD_UNDLOG (R391, 17_herd.md). -/
def R.HRD_UNDLOG (i : Nat) : Reg := ⟨0x200400 + i * 0x10, 128, 0x0⟩
/-- HRD_EXP (R388, 17_herd.md). -/
def R.HRD_EXP (i : Nat) : Reg := ⟨0x200800 + i * 0x10, 128, 0x0⟩

def F.HRD_STATUS_STATE : Fld := ⟨R.HRD_STATUS, 1, 0⟩
def F.HRD_STATUS_SELF : Fld := ⟨R.HRD_STATUS, 4, 2⟩
def F.HRD_STATUS_LEADER : Fld := ⟨R.HRD_STATUS, 7, 5⟩
def F.HRD_STATUS_COUNT : Fld := ⟨R.HRD_STATUS, 11, 8⟩
def F.HRD_STATUS_TSTATE : Fld := ⟨R.HRD_STATUS, 13, 12⟩
def F.HRD_STATUS_PRESENT : Fld := ⟨R.HRD_STATUS, 23, 16⟩
def F.HRD_STATUS_LEAVING : Fld := ⟨R.HRD_STATUS, 24, 24⟩
def F.HRD_STATUS_WIGN : Fld := ⟨R.HRD_STATUS, 31, 25⟩
def F.HRD_EVENT_JOINED : Fld := ⟨R.HRD_EVENT, 0, 0⟩
def F.HRD_EVENT_DROP : Fld := ⟨R.HRD_EVENT, 1, 1⟩
def F.HRD_EVENT_TIME_DRIFT : Fld := ⟨R.HRD_EVENT, 2, 2⟩
def F.HRD_EVENT_TIME_LOST : Fld := ⟨R.HRD_EVENT, 3, 3⟩
def F.HRD_EVENT_LINK_SHORT : Fld := ⟨R.HRD_EVENT, 4, 4⟩
def F.HRD_EVENT_LINK_DOWN : Fld := ⟨R.HRD_EVENT, 5, 5⟩
def F.HRD_EVENT_UNDELIVERED : Fld := ⟨R.HRD_EVENT, 6, 6⟩
def F.HRD_EVENT_EN_EN : Fld := ⟨R.HRD_EVENT_EN, 6, 0⟩
def F.HRD_IRQ_CFG_VECTOR : Fld := ⟨R.HRD_IRQ_CFG, 7, 0⟩
def F.HRD_CFG_SYNC_OUT_EN : Fld := ⟨R.HRD_CFG, 0, 0⟩
def F.HRD_CFG_MARKER_NS : Fld := ⟨R.HRD_CFG, 31, 16⟩
def F.HRD_EPOCH_EPOCH : Fld := ⟨R.HRD_EPOCH, 31, 0⟩
def F.HRD_OFFSET_THETA : Fld := ⟨R.HRD_OFFSET, 31, 0⟩
def F.HRD_TIME_CNT_DRIFT : Fld := ⟨R.HRD_TIME_CNT, 15, 0⟩
def F.HRD_TIME_CNT_MARKER : Fld := ⟨R.HRD_TIME_CNT, 31, 16⟩
def F.HRD_ENC_OFS_OFS : Fld := ⟨R.HRD_ENC_OFS, 63, 0⟩
def F.HRD_UNDEL_UNDEL : Fld := ⟨R.HRD_UNDEL, 31, 0⟩
def F.HRD_CNT_ENC_MISMATCH : Fld := ⟨R.HRD_CNT, 15, 0⟩
def F.HRD_CNT_REJECT : Fld := ⟨R.HRD_CNT, 31, 16⟩
def F.HRD_LINK_STATE_STATE (i : Nat) : Fld := ⟨R.HRD_LINK_STATE i, 1, 0⟩
def F.HRD_LINK_STATE_WIDTH (i : Nat) : Fld := ⟨R.HRD_LINK_STATE i, 5, 4⟩
def F.HRD_LINK_STATE_LANES (i : Nat) : Fld := ⟨R.HRD_LINK_STATE i, 11, 8⟩
def F.HRD_LINK_STATE_PEER (i : Nat) : Fld := ⟨R.HRD_LINK_STATE i, 14, 12⟩
def F.HRD_LINK_STATE_PEER_LINK (i : Nat) : Fld := ⟨R.HRD_LINK_STATE i, 17, 16⟩
def F.HRD_LINK_CTL_RETRAIN (i : Nat) : Fld := ⟨R.HRD_LINK_CTL i, 0, 0⟩
def F.HRD_LINK_ASYM_ASYM (i : Nat) : Fld := ⟨R.HRD_LINK_ASYM i, 31, 0⟩
def F.HRD_LINK_RTT_RTT (i : Nat) : Fld := ⟨R.HRD_LINK_RTT i, 31, 0⟩
def F.HRD_LINK_CNT_REPLAY (i : Nat) : Fld := ⟨R.HRD_LINK_CNT i, 15, 0⟩
def F.HRD_LINK_CNT_LOST (i : Nat) : Fld := ⟨R.HRD_LINK_CNT i, 31, 16⟩
def F.HRD_LINK_CNT2_DEGRADE (i : Nat) : Fld := ⟨R.HRD_LINK_CNT2 i, 15, 0⟩
def F.HRD_LINK_CNT2_DOWN (i : Nat) : Fld := ⟨R.HRD_LINK_CNT2 i, 31, 16⟩
def F.HRD_LINK_SLOTS_EXIST (i : Nat) : Fld := ⟨R.HRD_LINK_SLOTS i, 7, 0⟩
def F.HRD_LINK_SLOTS_CLAIMED (i : Nat) : Fld := ⟨R.HRD_LINK_SLOTS i, 15, 8⟩
def F.HRD_UNDLOG_RECORD (i : Nat) : Fld := ⟨R.HRD_UNDLOG i, 127, 0⟩
def F.HRD_EXP_ENTRY (i : Nat) : Fld := ⟨R.HRD_EXP i, 127, 0⟩

/-- MEMC_STATUS (R245, 11_memory.md). -/
def R.MEMC_STATUS : Reg := ⟨0x280000, 32, 0x0⟩
/-- MEMC_CAP (R244, 11_memory.md). -/
def R.MEMC_CAP : Reg := ⟨0x280004, 32, 0x0⟩
/-- MEMC_SCRUB_CFG (R252, 11_memory.md). -/
def R.MEMC_SCRUB_CFG : Reg := ⟨0x280008, 32, 0x1⟩
/-- MEMC_LOG_CTL (R254, 11_memory.md). -/
def R.MEMC_LOG_CTL : Reg := ⟨0x28000c, 32, 0x0⟩
/-- MEMC_CH_CFG (R244, 11_memory.md). -/
def R.MEMC_CH_CFG (i : Nat) : Reg := ⟨0x280100 + i * 0x20, 32, 0x0⟩
/-- MEMC_CH_RESV (R246, 11_memory.md). -/
def R.MEMC_CH_RESV (i : Nat) : Reg := ⟨0x280104 + i * 0x20, 32, 0x0⟩
/-- MEMC_CH_CE (R248, 11_memory.md). -/
def R.MEMC_CH_CE (i : Nat) : Reg := ⟨0x280108 + i * 0x20, 32, 0x0⟩
/-- MEMC_CH_UE (R249, 11_memory.md). -/
def R.MEMC_CH_UE (i : Nat) : Reg := ⟨0x28010c + i * 0x20, 32, 0x0⟩
/-- MEMC_CH_PW (R250, 11_memory.md). -/
def R.MEMC_CH_PW (i : Nat) : Reg := ⟨0x280110 + i * 0x20, 32, 0x0⟩
/-- MEMC_CH_MR4 (R245, 11_memory.md). -/
def R.MEMC_CH_MR4 (i : Nat) : Reg := ⟨0x280114 + i * 0x20, 32, 0x0⟩
/-- MEMC_LOG (R254, 11_memory.md). -/
def R.MEMC_LOG (i : Nat) : Reg := ⟨0x280200 + i * 0x20, 256, 0x0⟩

def F.MEMC_STATUS_TRAINED : Fld := ⟨R.MEMC_STATUS, 3, 0⟩
def F.MEMC_STATUS_READY : Fld := ⟨R.MEMC_STATUS, 4, 4⟩
def F.MEMC_STATUS_HOT : Fld := ⟨R.MEMC_STATUS, 5, 5⟩
def F.MEMC_CAP_DATA_MIB : Fld := ⟨R.MEMC_CAP, 15, 0⟩
def F.MEMC_SCRUB_CFG_EN : Fld := ⟨R.MEMC_SCRUB_CFG, 0, 0⟩
def F.MEMC_LOG_CTL_HEAD : Fld := ⟨R.MEMC_LOG_CTL, 3, 0⟩
def F.MEMC_LOG_CTL_LOST : Fld := ⟨R.MEMC_LOG_CTL, 31, 16⟩
def F.MEMC_CH_CFG_SIZE (i : Nat) : Fld := ⟨R.MEMC_CH_CFG i, 1, 0⟩
def F.MEMC_CH_CFG_MTS (i : Nat) : Fld := ⟨R.MEMC_CH_CFG i, 31, 16⟩
def F.MEMC_CH_RESV_GRAN (i : Nat) : Fld := ⟨R.MEMC_CH_RESV i, 10, 0⟩
def F.MEMC_CH_CE_CE (i : Nat) : Fld := ⟨R.MEMC_CH_CE i, 31, 0⟩
def F.MEMC_CH_UE_UE (i : Nat) : Fld := ⟨R.MEMC_CH_UE i, 31, 0⟩
def F.MEMC_CH_PW_PW (i : Nat) : Fld := ⟨R.MEMC_CH_PW i, 31, 0⟩
def F.MEMC_CH_MR4_RATE (i : Nat) : Fld := ⟨R.MEMC_CH_MR4 i, 2, 0⟩
def F.MEMC_LOG_RECORD (i : Nat) : Fld := ⟨R.MEMC_LOG i, 255, 0⟩

/-- EVP_STATUS (R147, 06_events.md). -/
def R.EVP_STATUS : Reg := ⟨0x1000000, 32, 0x0⟩
/-- EVP_EVENT (R126, 06_events.md). -/
def R.EVP_EVENT : Reg := ⟨0x1000004, 32, 0x0⟩
/-- EVP_EVENT_EN (R126, 06_events.md). -/
def R.EVP_EVENT_EN : Reg := ⟨0x1000008, 32, 0x0⟩
/-- EVP_IRQ_CFG (R126, 06_events.md). -/
def R.EVP_IRQ_CFG : Reg := ⟨0x100000c, 32, 0xff⟩
/-- EVP_NOPORT (R140, 06_events.md). -/
def R.EVP_NOPORT : Reg := ⟨0x1000010, 32, 0x0⟩
/-- EVP_PRED_MISS (R144, 06_events.md). -/
def R.EVP_PRED_MISS : Reg := ⟨0x1000014, 32, 0x0⟩
/-- EVP_PRED_CNT (R144, 06_events.md). -/
def R.EVP_PRED_CNT : Reg := ⟨0x1000018, 32, 0x0⟩
/-- EVP_LASTFIRE (R144, 06_events.md). -/
def R.EVP_LASTFIRE : Reg := ⟨0x1000020, 64, 0x0⟩
/-- EVP_P_CFG (R147, 06_events.md). -/
def R.EVP_P_CFG (i : Nat) : Reg := ⟨0x1010000 + i * 0x10000, 32, 0x0⟩
/-- EVP_P_SIZE (R147, 06_events.md). -/
def R.EVP_P_SIZE (i : Nat) : Reg := ⟨0x1010004 + i * 0x10000, 32, 0x0⟩
/-- EVP_P_PHY (R120, 06_events.md). -/
def R.EVP_P_PHY (i : Nat) : Reg := ⟨0x1010008 + i * 0x10000, 32, 0x0⟩
/-- EVP_P_FIFO (R126, 06_events.md). -/
def R.EVP_P_FIFO (i : Nat) : Reg := ⟨0x101000c + i * 0x10000, 32, 0x0⟩
/-- EVP_P_IN (R126, 06_events.md). -/
def R.EVP_P_IN (i : Nat) : Reg := ⟨0x1010010 + i * 0x10000, 64, 0x0⟩
/-- EVP_P_RATE (R128, 06_events.md). -/
def R.EVP_P_RATE (i : Nat) : Reg := ⟨0x1010018 + i * 0x10000, 32, 0x0⟩
/-- EVP_P_PSTAT (R125, 06_events.md). -/
def R.EVP_P_PSTAT (i : Nat) : Reg := ⟨0x101001c + i * 0x10000, 32, 0x0⟩
/-- EVP_P_VFLOW (R136, 06_events.md). -/
def R.EVP_P_VFLOW (i : Nat) : Reg := ⟨0x1010020 + i * 0x10000, 64, 0x0⟩
/-- EVP_P_MARKPOS (R135, 06_events.md). -/
def R.EVP_P_MARKPOS (i : Nat) : Reg := ⟨0x1010028 + i * 0x10000, 64, 0x0⟩
/-- EVP_P_MARKT (R135, 06_events.md). -/
def R.EVP_P_MARKT (i : Nat) : Reg := ⟨0x1010030 + i * 0x10000, 64, 0x0⟩
/-- EVP_P_TRK (R134, 06_events.md). -/
def R.EVP_P_TRK (i : Nat) : Reg := ⟨0x1010038 + i * 0x10000, 32, 0x0⟩
/-- EVP_P_CNT (R148, 06_events.md). -/
def R.EVP_P_CNT (i : Nat) (j : Nat) : Reg := ⟨0x1010040 + i * 0x10000 + j * 0x4, 32, 0x0⟩
/-- EVP_P_TRACK (R134, 06_events.md). -/
def R.EVP_P_TRACK (i : Nat) (j : Nat) : Reg := ⟨0x1018000 + i * 0x10000 + j * 0x10, 128, 0x0⟩

def F.EVP_STATUS_EN : Fld := ⟨R.EVP_STATUS, 3, 0⟩
def F.EVP_STATUS_LOCKED : Fld := ⟨R.EVP_STATUS, 7, 4⟩
def F.EVP_STATUS_HS : Fld := ⟨R.EVP_STATUS, 11, 8⟩
def F.EVP_EVENT_FIFO_DROP : Fld := ⟨R.EVP_EVENT, 0, 0⟩
def F.EVP_EVENT_CRC_ERR : Fld := ⟨R.EVP_EVENT, 1, 1⟩
def F.EVP_EVENT_BAD_WORD : Fld := ⟨R.EVP_EVENT, 2, 2⟩
def F.EVP_EVENT_TRK_FULL : Fld := ⟨R.EVP_EVENT, 3, 3⟩
def F.EVP_EVENT_MISSED_ENTRY : Fld := ⟨R.EVP_EVENT, 4, 4⟩
def F.EVP_EVENT_PRED_MISS : Fld := ⟨R.EVP_EVENT, 5, 5⟩
def F.EVP_EVENT_NO_PORT : Fld := ⟨R.EVP_EVENT, 6, 6⟩
def F.EVP_EVENT_SENSOR_DROP : Fld := ⟨R.EVP_EVENT, 7, 7⟩
def F.EVP_EVENT_EN_EN : Fld := ⟨R.EVP_EVENT_EN, 7, 0⟩
def F.EVP_IRQ_CFG_VECTOR : Fld := ⟨R.EVP_IRQ_CFG, 7, 0⟩
def F.EVP_NOPORT_NOPORT : Fld := ⟨R.EVP_NOPORT, 31, 0⟩
def F.EVP_PRED_MISS_PRED_MISS : Fld := ⟨R.EVP_PRED_MISS, 31, 0⟩
def F.EVP_PRED_CNT_ISSUED : Fld := ⟨R.EVP_PRED_CNT, 31, 0⟩
def F.EVP_LASTFIRE_TF : Fld := ⟨R.EVP_LASTFIRE, 63, 0⟩
def F.EVP_P_CFG_FLAGS (i : Nat) : Fld := ⟨R.EVP_P_CFG i, 31, 0⟩
def F.EVP_P_SIZE_WIDTH (i : Nat) : Fld := ⟨R.EVP_P_SIZE i, 10, 0⟩
def F.EVP_P_SIZE_HEIGHT (i : Nat) : Fld := ⟨R.EVP_P_SIZE i, 26, 16⟩
def F.EVP_P_PHY_STATE (i : Nat) : Fld := ⟨R.EVP_P_PHY i, 1, 0⟩
def F.EVP_P_PHY_LANES (i : Nat) : Fld := ⟨R.EVP_P_PHY i, 4, 2⟩
def F.EVP_P_PHY_DESKEW (i : Nat) : Fld := ⟨R.EVP_P_PHY i, 8, 8⟩
def F.EVP_P_FIFO_LEVEL (i : Nat) : Fld := ⟨R.EVP_P_FIFO i, 16, 0⟩
def F.EVP_P_FIFO_MAXK (i : Nat) : Fld := ⟨R.EVP_P_FIFO i, 31, 17⟩
def F.EVP_P_IN_IN (i : Nat) : Fld := ⟨R.EVP_P_IN i, 63, 0⟩
def F.EVP_P_RATE_RATE (i : Nat) : Fld := ⟨R.EVP_P_RATE i, 19, 0⟩
def F.EVP_P_PSTAT_WORD (i : Nat) : Fld := ⟨R.EVP_P_PSTAT i, 31, 0⟩
def F.EVP_P_VFLOW_V (i : Nat) : Fld := ⟨R.EVP_P_VFLOW i, 31, 0⟩
def F.EVP_P_VFLOW_VALID (i : Nat) : Fld := ⟨R.EVP_P_VFLOW i, 32, 32⟩
def F.EVP_P_MARKPOS_POS (i : Nat) : Fld := ⟨R.EVP_P_MARKPOS i, 63, 0⟩
def F.EVP_P_MARKT_TF (i : Nat) : Fld := ⟨R.EVP_P_MARKT i, 63, 0⟩
def F.EVP_P_TRK_ACTIVE (i : Nat) : Fld := ⟨R.EVP_P_TRK i, 8, 0⟩
def F.EVP_P_TRK_TENT (i : Nat) : Fld := ⟨R.EVP_P_TRK i, 24, 16⟩
def F.EVP_P_CNT_N (i : Nat) (j : Nat) : Fld := ⟨R.EVP_P_CNT i j, 31, 0⟩
def F.EVP_P_TRACK_ENTRY (i : Nat) (j : Nat) : Fld := ⟨R.EVP_P_TRACK i j, 127, 0⟩

/-- ACQ_STATUS (R166, 07_acquisition.md). -/
def R.ACQ_STATUS : Reg := ⟨0x1200000, 32, 0x0⟩
/-- ACQ_EVENT (R167, 07_acquisition.md). -/
def R.ACQ_EVENT : Reg := ⟨0x1200004, 32, 0x0⟩
/-- ACQ_EVENT_EN (R167, 07_acquisition.md). -/
def R.ACQ_EVENT_EN : Reg := ⟨0x1200008, 32, 0x0⟩
/-- ACQ_IRQ_CFG (R167, 07_acquisition.md). -/
def R.ACQ_IRQ_CFG : Reg := ⟨0x120000c, 32, 0xff⟩
/-- ACQ_SYNC_LAST (R175, 07_acquisition.md). -/
def R.ACQ_SYNC_LAST : Reg := ⟨0x1200010, 64, 0x0⟩
/-- ACQ_FAB_ARM (R144, 07_acquisition.md). -/
def R.ACQ_FAB_ARM : Reg := ⟨0x1200020, 64, 0x0⟩
/-- ACQ_FAB_FIRES (R144, 07_acquisition.md). -/
def R.ACQ_FAB_FIRES : Reg := ⟨0x1200028, 32, 0x0⟩
/-- ACQ_SPI_CFG (R173, 07_acquisition.md). -/
def R.ACQ_SPI_CFG : Reg := ⟨0x1200040, 32, 0x1c03⟩
/-- ACQ_SPI_BIND (R173, 07_acquisition.md). -/
def R.ACQ_SPI_BIND : Reg := ⟨0x1200044, 32, 0x0⟩
/-- ACQ_SPI_TX (R173, 07_acquisition.md). -/
def R.ACQ_SPI_TX : Reg := ⟨0x1200048, 32, 0x0⟩
/-- ACQ_SPI_RX (R173, 07_acquisition.md). -/
def R.ACQ_SPI_RX : Reg := ⟨0x120004c, 32, 0x0⟩
/-- ACQ_SPI_STAT (R173, 07_acquisition.md). -/
def R.ACQ_SPI_STAT : Reg := ⟨0x1200050, 32, 0x0⟩
/-- ACQ_CH_STATE (R166, 07_acquisition.md). -/
def R.ACQ_CH_STATE (i : Nat) : Reg := ⟨0x1201000 + i * 0x100, 32, 0x0⟩
/-- ACQ_CH_SEQ (R166, 07_acquisition.md). -/
def R.ACQ_CH_SEQ (i : Nat) : Reg := ⟨0x1201004 + i * 0x100, 32, 0x0⟩
/-- ACQ_CH_OLDEST (R167, 07_acquisition.md). -/
def R.ACQ_CH_OLDEST (i : Nat) : Reg := ⟨0x1201008 + i * 0x100, 32, 0x0⟩
/-- ACQ_CH_TRIG (R158, 07_acquisition.md). -/
def R.ACQ_CH_TRIG (i : Nat) : Reg := ⟨0x1201010 + i * 0x100, 64, 0x0⟩
/-- ACQ_CH_CNT0 (R160, 07_acquisition.md). -/
def R.ACQ_CH_CNT0 (i : Nat) : Reg := ⟨0x1201018 + i * 0x100, 32, 0x0⟩
/-- ACQ_CH_CNT1 (R167, 07_acquisition.md). -/
def R.ACQ_CH_CNT1 (i : Nat) : Reg := ⟨0x120101c + i * 0x100, 32, 0x0⟩
/-- ACQ_CH_CNT2 (R151, 07_acquisition.md). -/
def R.ACQ_CH_CNT2 (i : Nat) : Reg := ⟨0x1201020 + i * 0x100, 32, 0x0⟩
/-- ACQ_CH_CAL (R153, 07_acquisition.md). -/
def R.ACQ_CH_CAL (i : Nat) : Reg := ⟨0x1201024 + i * 0x100, 32, 0x0⟩

def F.ACQ_STATUS_PAIR : Fld := ⟨R.ACQ_STATUS, 3, 0⟩
def F.ACQ_STATUS_PLANNED : Fld := ⟨R.ACQ_STATUS, 15, 8⟩
def F.ACQ_STATUS_TRACKING : Fld := ⟨R.ACQ_STATUS, 23, 16⟩
def F.ACQ_EVENT_FULL : Fld := ⟨R.ACQ_EVENT, 0, 0⟩
def F.ACQ_EVENT_OVR : Fld := ⟨R.ACQ_EVENT, 1, 1⟩
def F.ACQ_EVENT_SHORT : Fld := ⟨R.ACQ_EVENT, 2, 2⟩
def F.ACQ_EVENT_CAL_FAULT : Fld := ⟨R.ACQ_EVENT, 3, 3⟩
def F.ACQ_EVENT_DISCONT : Fld := ⟨R.ACQ_EVENT, 4, 4⟩
def F.ACQ_EVENT_SPI_DONE : Fld := ⟨R.ACQ_EVENT, 5, 5⟩
def F.ACQ_EVENT_EN_EN : Fld := ⟨R.ACQ_EVENT_EN, 5, 0⟩
def F.ACQ_IRQ_CFG_VECTOR : Fld := ⟨R.ACQ_IRQ_CFG, 7, 0⟩
def F.ACQ_SYNC_LAST_TIME : Fld := ⟨R.ACQ_SYNC_LAST, 63, 0⟩
def F.ACQ_FAB_ARM_ARM : Fld := ⟨R.ACQ_FAB_ARM, 63, 0⟩
def F.ACQ_FAB_FIRES_FIRES : Fld := ⟨R.ACQ_FAB_FIRES, 31, 0⟩
def F.ACQ_SPI_CFG_DIV : Fld := ⟨R.ACQ_SPI_CFG, 7, 0⟩
def F.ACQ_SPI_CFG_MODE : Fld := ⟨R.ACQ_SPI_CFG, 9, 8⟩
def F.ACQ_SPI_CFG_BITS_M1 : Fld := ⟨R.ACQ_SPI_CFG, 14, 10⟩
def F.ACQ_SPI_CFG_CS : Fld := ⟨R.ACQ_SPI_CFG, 17, 16⟩
def F.ACQ_SPI_BIND_BIND : Fld := ⟨R.ACQ_SPI_BIND, 31, 0⟩
def F.ACQ_SPI_TX_DATA : Fld := ⟨R.ACQ_SPI_TX, 31, 0⟩
def F.ACQ_SPI_RX_DATA : Fld := ⟨R.ACQ_SPI_RX, 31, 0⟩
def F.ACQ_SPI_STAT_BUSY : Fld := ⟨R.ACQ_SPI_STAT, 0, 0⟩
def F.ACQ_SPI_STAT_DONE : Fld := ⟨R.ACQ_SPI_STAT, 1, 1⟩
def F.ACQ_SPI_STAT_REFUSED : Fld := ⟨R.ACQ_SPI_STAT, 2, 2⟩
def F.ACQ_CH_STATE_STATE (i : Nat) : Fld := ⟨R.ACQ_CH_STATE i, 2, 0⟩
def F.ACQ_CH_STATE_CAL (i : Nat) : Fld := ⟨R.ACQ_CH_STATE i, 5, 4⟩
def F.ACQ_CH_STATE_OWNER (i : Nat) : Fld := ⟨R.ACQ_CH_STATE i, 14, 8⟩
def F.ACQ_CH_STATE_REC (i : Nat) : Fld := ⟨R.ACQ_CH_STATE i, 18, 16⟩
def F.ACQ_CH_SEQ_SEQ (i : Nat) : Fld := ⟨R.ACQ_CH_SEQ i, 31, 0⟩
def F.ACQ_CH_OLDEST_OLDEST (i : Nat) : Fld := ⟨R.ACQ_CH_OLDEST i, 31, 0⟩
def F.ACQ_CH_TRIG_TF (i : Nat) : Fld := ⟨R.ACQ_CH_TRIG i, 63, 0⟩
def F.ACQ_CH_CNT0_HOLDOFF (i : Nat) : Fld := ⟨R.ACQ_CH_CNT0 i, 15, 0⟩
def F.ACQ_CH_CNT0_BUSY (i : Nat) : Fld := ⟨R.ACQ_CH_CNT0 i, 31, 16⟩
def F.ACQ_CH_CNT1_FULL (i : Nat) : Fld := ⟨R.ACQ_CH_CNT1 i, 15, 0⟩
def F.ACQ_CH_CNT1_SHORT (i : Nat) : Fld := ⟨R.ACQ_CH_CNT1 i, 31, 16⟩
def F.ACQ_CH_CNT2_OVR_SEG (i : Nat) : Fld := ⟨R.ACQ_CH_CNT2 i, 15, 0⟩
def F.ACQ_CH_CNT2_DISCONT (i : Nat) : Fld := ⟨R.ACQ_CH_CNT2 i, 31, 16⟩
def F.ACQ_CH_CAL_SKEW_FS (i : Nat) : Fld := ⟨R.ACQ_CH_CAL i, 15, 0⟩

/-- DFC_STATUS (R187, 08_filters.md). -/
def R.DFC_STATUS : Reg := ⟨0x1400000, 32, 0x0⟩
/-- DFC_EVENT (R182, 08_filters.md). -/
def R.DFC_EVENT : Reg := ⟨0x1400004, 32, 0x0⟩
/-- DFC_EVENT_EN (R182, 08_filters.md). -/
def R.DFC_EVENT_EN : Reg := ⟨0x1400008, 32, 0x0⟩
/-- DFC_IRQ_CFG (R182, 08_filters.md). -/
def R.DFC_IRQ_CFG : Reg := ⟨0x140000c, 32, 0xff⟩
/-- DFC_SYNC_CFG (R191, 08_filters.md). -/
def R.DFC_SYNC_CFG : Reg := ⟨0x1400010, 32, 0x0⟩
/-- DFC_SYNC_AFTER (R191, 08_filters.md). -/
def R.DFC_SYNC_AFTER : Reg := ⟨0x1400018, 64, 0x0⟩
/-- DFC_SYNC_CNT (R191, 08_filters.md). -/
def R.DFC_SYNC_CNT : Reg := ⟨0x1400020, 32, 0x0⟩
/-- DFC_CH_STATE (R187, 08_filters.md). -/
def R.DFC_CH_STATE (i : Nat) : Reg := ⟨0x1401000 + i * 0x100, 32, 0x0⟩
/-- DFC_CH_RATE (R178, 08_filters.md). -/
def R.DFC_CH_RATE (i : Nat) : Reg := ⟨0x1401004 + i * 0x100, 32, 0x0⟩
/-- DFC_CH_DELAY (R183, 08_filters.md). -/
def R.DFC_CH_DELAY (i : Nat) : Reg := ⟨0x1401008 + i * 0x100, 32, 0x0⟩
/-- DFC_CH_SETTLE (R184, 08_filters.md). -/
def R.DFC_CH_SETTLE (i : Nat) : Reg := ⟨0x140100c + i * 0x100, 32, 0x0⟩
/-- DFC_CH_DET (R185, 08_filters.md). -/
def R.DFC_CH_DET (i : Nat) : Reg := ⟨0x1401010 + i * 0x100, 32, 0x0⟩
/-- DFC_CH_RMS (R185, 08_filters.md). -/
def R.DFC_CH_RMS (i : Nat) : Reg := ⟨0x1401014 + i * 0x100, 32, 0x0⟩
/-- DFC_CH_CNT (R182, 08_filters.md). -/
def R.DFC_CH_CNT (i : Nat) : Reg := ⟨0x1401018 + i * 0x100, 32, 0x0⟩
/-- DFC_CH_COEF_CRC (R189, 08_filters.md). -/
def R.DFC_CH_COEF_CRC (i : Nat) : Reg := ⟨0x140101c + i * 0x100, 32, 0x0⟩
/-- DFC_CH_LASTBLK (R193, 08_filters.md). -/
def R.DFC_CH_LASTBLK (i : Nat) : Reg := ⟨0x1401020 + i * 0x100, 64, 0x0⟩
/-- DFC_CH_ANCHOR (R183, 08_filters.md). -/
def R.DFC_CH_ANCHOR (i : Nat) : Reg := ⟨0x1401028 + i * 0x100, 64, 0x0⟩

def F.DFC_STATUS_RUNNING : Fld := ⟨R.DFC_STATUS, 7, 0⟩
def F.DFC_STATUS_STREAM : Fld := ⟨R.DFC_STATUS, 15, 8⟩
def F.DFC_STATUS_SETTLING : Fld := ⟨R.DFC_STATUS, 23, 16⟩
def F.DFC_EVENT_SAT : Fld := ⟨R.DFC_EVENT, 0, 0⟩
def F.DFC_EVENT_SYNC : Fld := ⟨R.DFC_EVENT, 1, 1⟩
def F.DFC_EVENT_DISCARD : Fld := ⟨R.DFC_EVENT, 2, 2⟩
def F.DFC_EVENT_EN_EN : Fld := ⟨R.DFC_EVENT_EN, 2, 0⟩
def F.DFC_IRQ_CFG_VECTOR : Fld := ⟨R.DFC_IRQ_CFG, 7, 0⟩
def F.DFC_SYNC_CFG_ARM : Fld := ⟨R.DFC_SYNC_CFG, 0, 0⟩
def F.DFC_SYNC_CFG_POL : Fld := ⟨R.DFC_SYNC_CFG, 1, 1⟩
def F.DFC_SYNC_AFTER_T : Fld := ⟨R.DFC_SYNC_AFTER, 63, 0⟩
def F.DFC_SYNC_CNT_APPLIED : Fld := ⟨R.DFC_SYNC_CNT, 15, 0⟩
def F.DFC_SYNC_CNT_IGNORED : Fld := ⟨R.DFC_SYNC_CNT, 31, 16⟩
def F.DFC_CH_STATE_STATE (i : Nat) : Fld := ⟨R.DFC_CH_STATE i, 1, 0⟩
def F.DFC_CH_STATE_OUT_SEL (i : Nat) : Fld := ⟨R.DFC_CH_STATE i, 5, 4⟩
def F.DFC_CH_STATE_HB (i : Nat) : Fld := ⟨R.DFC_CH_STATE i, 7, 6⟩
def F.DFC_CH_STATE_SYM (i : Nat) : Fld := ⟨R.DFC_CH_STATE i, 8, 8⟩
def F.DFC_CH_STATE_STREAM (i : Nat) : Fld := ⟨R.DFC_CH_STATE i, 9, 9⟩
def F.DFC_CH_RATE_R (i : Nat) : Fld := ⟨R.DFC_CH_RATE i, 12, 0⟩
def F.DFC_CH_RATE_FD (i : Nat) : Fld := ⟨R.DFC_CH_RATE i, 20, 16⟩
def F.DFC_CH_DELAY_DT2 (i : Nat) : Fld := ⟨R.DFC_CH_DELAY i, 22, 0⟩
def F.DFC_CH_SETTLE_SETTLE (i : Nat) : Fld := ⟨R.DFC_CH_SETTLE i, 15, 0⟩
def F.DFC_CH_SETTLE_LEFT (i : Nat) : Fld := ⟨R.DFC_CH_SETTLE i, 31, 16⟩
def F.DFC_CH_DET_PEAK (i : Nat) : Fld := ⟨R.DFC_CH_DET i, 15, 0⟩
def F.DFC_CH_DET_ENV (i : Nat) : Fld := ⟨R.DFC_CH_DET i, 31, 16⟩
def F.DFC_CH_RMS_RMS (i : Nat) : Fld := ⟨R.DFC_CH_RMS i, 15, 0⟩
def F.DFC_CH_CNT_SAT (i : Nat) : Fld := ⟨R.DFC_CH_CNT i, 15, 0⟩
def F.DFC_CH_CNT_DISCARD (i : Nat) : Fld := ⟨R.DFC_CH_CNT i, 31, 16⟩
def F.DFC_CH_COEF_CRC_CRC (i : Nat) : Fld := ⟨R.DFC_CH_COEF_CRC i, 31, 0⟩
def F.DFC_CH_LASTBLK_BEAT (i : Nat) : Fld := ⟨R.DFC_CH_LASTBLK i, 63, 0⟩
def F.DFC_CH_ANCHOR_S0 (i : Nat) : Fld := ⟨R.DFC_CH_ANCHOR i, 63, 0⟩

/-- LIO_STATUS (R116, 05_line_io.md). -/
def R.LIO_STATUS : Reg := ⟨0x1600000, 32, 0xf⟩
/-- LIO_EVENT (R104, 05_line_io.md). -/
def R.LIO_EVENT : Reg := ⟨0x1600004, 32, 0x0⟩
/-- LIO_EVENT_EN (R104, 05_line_io.md). -/
def R.LIO_EVENT_EN : Reg := ⟨0x1600008, 32, 0x0⟩
/-- LIO_IRQ_CFG (R104, 05_line_io.md). -/
def R.LIO_IRQ_CFG : Reg := ⟨0x160000c, 32, 0xff⟩
/-- LIO_ENC_CFG (R107, 05_line_io.md). -/
def R.LIO_ENC_CFG (i : Nat) : Reg := ⟨0x1600100 + i * 0x40, 32, 0x80040⟩
/-- LIO_ENC_CTRL (R103, 05_line_io.md). -/
def R.LIO_ENC_CTRL (i : Nat) : Reg := ⟨0x1600104 + i * 0x40, 32, 0x0⟩
/-- LIO_ENC_POS (R101, 05_line_io.md). -/
def R.LIO_ENC_POS (i : Nat) : Reg := ⟨0x1600108 + i * 0x40, 64, 0x0⟩
/-- LIO_ENC_HWM (R102, 05_line_io.md). -/
def R.LIO_ENC_HWM (i : Nat) : Reg := ⟨0x1600110 + i * 0x40, 64, 0x0⟩
/-- LIO_ENC_ZPOS (R107, 05_line_io.md). -/
def R.LIO_ENC_ZPOS (i : Nat) : Reg := ⟨0x1600118 + i * 0x40, 64, 0x0⟩
/-- LIO_ENC_STOP (R104, 05_line_io.md). -/
def R.LIO_ENC_STOP (i : Nat) : Reg := ⟨0x1600120 + i * 0x40, 32, 0x2710⟩
/-- LIO_ENC_BTLIM (R106, 05_line_io.md). -/
def R.LIO_ENC_BTLIM (i : Nat) : Reg := ⟨0x1600124 + i * 0x40, 32, 0xf4240⟩
/-- LIO_ENC_CNT (R101, 05_line_io.md). -/
def R.LIO_ENC_CNT (i : Nat) : Reg := ⟨0x1600128 + i * 0x40, 32, 0x0⟩
/-- LIO_ENC_STAT (R101, 05_line_io.md). -/
def R.LIO_ENC_STAT (i : Nat) : Reg := ⟨0x160012c + i * 0x40, 32, 0x0⟩
/-- LIO_LI_CFG (R108, 05_line_io.md). -/
def R.LIO_LI_CFG (i : Nat) : Reg := ⟨0x1600200 + i * 0x10, 32, 0x40⟩
/-- LIO_LI_LAST (R108, 05_line_io.md). -/
def R.LIO_LI_LAST (i : Nat) : Reg := ⟨0x1600208 + i * 0x10, 64, 0x0⟩
/-- LIO_LO_CFG (R109, 05_line_io.md). -/
def R.LIO_LO_CFG (i : Nat) : Reg := ⟨0x1600300 + i * 0x20, 32, 0x0⟩
/-- LIO_LO_FORCE (R115, 05_line_io.md). -/
def R.LIO_LO_FORCE (i : Nat) : Reg := ⟨0x1600304 + i * 0x20, 32, 0x0⟩
/-- LIO_LO_PEND (R113, 05_line_io.md). -/
def R.LIO_LO_PEND (i : Nat) : Reg := ⟨0x1600308 + i * 0x20, 32, 0x0⟩
/-- LIO_LO_FIRED (R111, 05_line_io.md). -/
def R.LIO_LO_FIRED (i : Nat) : Reg := ⟨0x160030c + i * 0x20, 32, 0x0⟩
/-- LIO_LO_CNT0 (R110, 05_line_io.md). -/
def R.LIO_LO_CNT0 (i : Nat) : Reg := ⟨0x1600310 + i * 0x20, 32, 0x0⟩
/-- LIO_LO_CNT1 (R112, 05_line_io.md). -/
def R.LIO_LO_CNT1 (i : Nat) : Reg := ⟨0x1600314 + i * 0x20, 32, 0x0⟩
/-- LIO_STB_CFG (R109, 05_line_io.md). -/
def R.LIO_STB_CFG (i : Nat) : Reg := ⟨0x1600600 + i * 0x20, 32, 0x0⟩
/-- LIO_STB_LAST (R118, 05_line_io.md). -/
def R.LIO_STB_LAST (i : Nat) : Reg := ⟨0x1600608 + i * 0x20, 64, 0x0⟩
/-- LIO_STB_CNT (R118, 05_line_io.md). -/
def R.LIO_STB_CNT (i : Nat) : Reg := ⟨0x1600610 + i * 0x20, 32, 0x0⟩

def F.LIO_STATUS_STOPPED : Fld := ⟨R.LIO_STATUS, 3, 0⟩
def F.LIO_STATUS_LOST : Fld := ⟨R.LIO_STATUS, 7, 4⟩
def F.LIO_STATUS_STUCK : Fld := ⟨R.LIO_STATUS, 15, 8⟩
def F.LIO_STATUS_WIGN : Fld := ⟨R.LIO_STATUS, 31, 16⟩
def F.LIO_EVENT_WEB_STOPPED : Fld := ⟨R.LIO_EVENT, 0, 0⟩
def F.LIO_EVENT_ENC_LOST : Fld := ⟨R.LIO_EVENT, 1, 1⟩
def F.LIO_EVENT_OVERSPEED : Fld := ⟨R.LIO_EVENT, 2, 2⟩
def F.LIO_EVENT_BACKTRACK : Fld := ⟨R.LIO_EVENT, 3, 3⟩
def F.LIO_EVENT_LI_STUCK : Fld := ⟨R.LIO_EVENT, 4, 4⟩
def F.LIO_EVENT_LATE : Fld := ⟨R.LIO_EVENT, 5, 5⟩
def F.LIO_EVENT_OUTQ_FULL : Fld := ⟨R.LIO_EVENT, 6, 6⟩
def F.LIO_EVENT_STB_MISS : Fld := ⟨R.LIO_EVENT, 7, 7⟩
def F.LIO_EVENT_EN_EN : Fld := ⟨R.LIO_EVENT_EN, 7, 0⟩
def F.LIO_IRQ_CFG_VECTOR : Fld := ⟨R.LIO_IRQ_CFG, 7, 0⟩
def F.LIO_ENC_CFG_EN (i : Nat) : Fld := ⟨R.LIO_ENC_CFG i, 0, 0⟩
def F.LIO_ENC_CFG_DIR_INV (i : Nat) : Fld := ⟨R.LIO_ENC_CFG i, 1, 1⟩
def F.LIO_ENC_CFG_Z_EN (i : Nat) : Fld := ⟨R.LIO_ENC_CFG i, 2, 2⟩
def F.LIO_ENC_CFG_Z_POL (i : Nat) : Fld := ⟨R.LIO_ENC_CFG i, 3, 3⟩
def F.LIO_ENC_CFG_FILT (i : Nat) : Fld := ⟨R.LIO_ENC_CFG i, 11, 4⟩
def F.LIO_ENC_CFG_LOSS_ACT (i : Nat) : Fld := ⟨R.LIO_ENC_CFG i, 13, 12⟩
def F.LIO_ENC_CFG_QERR_LIM (i : Nat) : Fld := ⟨R.LIO_ENC_CFG i, 23, 16⟩
def F.LIO_ENC_CTRL_RELOCK (i : Nat) : Fld := ⟨R.LIO_ENC_CTRL i, 0, 0⟩
def F.LIO_ENC_POS_POS (i : Nat) : Fld := ⟨R.LIO_ENC_POS i, 63, 0⟩
def F.LIO_ENC_HWM_HWM (i : Nat) : Fld := ⟨R.LIO_ENC_HWM i, 63, 0⟩
def F.LIO_ENC_ZPOS_ZPOS (i : Nat) : Fld := ⟨R.LIO_ENC_ZPOS i, 63, 0⟩
def F.LIO_ENC_STOP_STOP_US (i : Nat) : Fld := ⟨R.LIO_ENC_STOP i, 19, 0⟩
def F.LIO_ENC_BTLIM_BTLIM (i : Nat) : Fld := ⟨R.LIO_ENC_BTLIM i, 31, 0⟩
def F.LIO_ENC_CNT_QERR (i : Nat) : Fld := ⟨R.LIO_ENC_CNT i, 15, 0⟩
def F.LIO_ENC_CNT_REVERSALS (i : Nat) : Fld := ⟨R.LIO_ENC_CNT i, 31, 16⟩
def F.LIO_ENC_STAT_QLVL (i : Nat) : Fld := ⟨R.LIO_ENC_STAT i, 7, 0⟩
def F.LIO_ENC_STAT_SPEED (i : Nat) : Fld := ⟨R.LIO_ENC_STAT i, 31, 16⟩
def F.LIO_LI_CFG_POL (i : Nat) : Fld := ⟨R.LIO_LI_CFG i, 0, 0⟩
def F.LIO_LI_CFG_EDGE (i : Nat) : Fld := ⟨R.LIO_LI_CFG i, 2, 1⟩
def F.LIO_LI_CFG_FILT (i : Nat) : Fld := ⟨R.LIO_LI_CFG i, 11, 4⟩
def F.LIO_LI_CFG_MIN_US (i : Nat) : Fld := ⟨R.LIO_LI_CFG i, 19, 12⟩
def F.LIO_LI_CFG_MAX_MS (i : Nat) : Fld := ⟨R.LIO_LI_CFG i, 31, 20⟩
def F.LIO_LI_LAST_TIME (i : Nat) : Fld := ⟨R.LIO_LI_LAST i, 63, 0⟩
def F.LIO_LO_CFG_EN (i : Nat) : Fld := ⟨R.LIO_LO_CFG i, 0, 0⟩
def F.LIO_LO_CFG_POL (i : Nat) : Fld := ⟨R.LIO_LO_CFG i, 1, 1⟩
def F.LIO_LO_FORCE_LEN (i : Nat) : Fld := ⟨R.LIO_LO_FORCE i, 19, 0⟩
def F.LIO_LO_PEND_PEND (i : Nat) : Fld := ⟨R.LIO_LO_PEND i, 10, 0⟩
def F.LIO_LO_PEND_ACTIVE (i : Nat) : Fld := ⟨R.LIO_LO_PEND i, 31, 31⟩
def F.LIO_LO_FIRED_FIRED (i : Nat) : Fld := ⟨R.LIO_LO_FIRED i, 31, 0⟩
def F.LIO_LO_CNT0_LATE (i : Nat) : Fld := ⟨R.LIO_LO_CNT0 i, 15, 0⟩
def F.LIO_LO_CNT0_DROP (i : Nat) : Fld := ⟨R.LIO_LO_CNT0 i, 31, 16⟩
def F.LIO_LO_CNT1_MERGE (i : Nat) : Fld := ⟨R.LIO_LO_CNT1 i, 15, 0⟩
def F.LIO_LO_CNT1_CANCEL (i : Nat) : Fld := ⟨R.LIO_LO_CNT1 i, 31, 16⟩
def F.LIO_STB_CFG_EN (i : Nat) : Fld := ⟨R.LIO_STB_CFG i, 0, 0⟩
def F.LIO_STB_CFG_POL (i : Nat) : Fld := ⟨R.LIO_STB_CFG i, 1, 1⟩
def F.LIO_STB_LAST_TIME (i : Nat) : Fld := ⟨R.LIO_STB_LAST i, 63, 0⟩
def F.LIO_STB_CNT_TRAINS (i : Nat) : Fld := ⟨R.LIO_STB_CNT i, 15, 0⟩
def F.LIO_STB_CNT_MISS (i : Nat) : Fld := ⟨R.LIO_STB_CNT i, 31, 16⟩

/-- TINE_ROLE (R213, 09_engines.md). -/
def R.TINE_ROLE (i : Nat) (j : Nat) : Reg := ⟨0x2000000 + i * 0x1000000 + j * 0x40000, 32, tineRoleReset i j⟩
/-- TINE_STAT (R209, 09_engines.md). -/
def R.TINE_STAT (i : Nat) (j : Nat) : Reg := ⟨0x2000004 + i * 0x1000000 + j * 0x40000, 32, 0x0⟩
/-- TINE_LASTCYC (R209, 09_engines.md). -/
def R.TINE_LASTCYC (i : Nat) (j : Nat) : Reg := ⟨0x2000008 + i * 0x1000000 + j * 0x40000, 32, 0x0⟩
/-- TINE_RECS (R209, 09_engines.md). -/
def R.TINE_RECS (i : Nat) (j : Nat) : Reg := ⟨0x2000010 + i * 0x1000000 + j * 0x40000, 64, 0x0⟩
/-- TINE_CKCNT (R212, 09_engines.md). -/
def R.TINE_CKCNT (i : Nat) (j : Nat) : Reg := ⟨0x2000018 + i * 0x1000000 + j * 0x40000, 32, 0x0⟩
/-- TINE_BIST (R213, 09_engines.md). -/
def R.TINE_BIST (i : Nat) (j : Nat) : Reg := ⟨0x200001c + i * 0x1000000 + j * 0x40000, 32, 0x0⟩
/-- TINE_BIST_T (R213, 09_engines.md). -/
def R.TINE_BIST_T (i : Nat) (j : Nat) : Reg := ⟨0x2000020 + i * 0x1000000 + j * 0x40000, 64, 0x0⟩
/-- TINE_ROLE_T (R213, 09_engines.md). -/
def R.TINE_ROLE_T (i : Nat) (j : Nat) : Reg := ⟨0x2000028 + i * 0x1000000 + j * 0x40000, 64, 0x0⟩
/-- TINE_MAP (R218, 09_engines.md). -/
def R.TINE_MAP (i : Nat) (j : Nat) : Reg := ⟨0x2000100 + i * 0x1000000 + j * 0x4, 32, j⟩
/-- TINE_SPARE (R218, 09_engines.md). -/
def R.TINE_SPARE (i : Nat) : Reg := ⟨0x2000140 + i * 0x1000000, 32, 0x1f⟩
/-- TINE_MAPGEN (R218, 09_engines.md). -/
def R.TINE_MAPGEN (i : Nat) : Reg := ⟨0x2000144 + i * 0x1000000, 32, 0x0⟩
/-- TINE_ROTCFG (R214, 09_engines.md). -/
def R.TINE_ROTCFG (i : Nat) : Reg := ⟨0x2000148 + i * 0x1000000, 32, 0x1⟩
/-- TINE_ROTSKIP (R214, 09_engines.md). -/
def R.TINE_ROTSKIP (i : Nat) : Reg := ⟨0x200014c + i * 0x1000000, 32, 0x0⟩

def F.TINE_ROLE_ROLE (i : Nat) (j : Nat) : Fld := ⟨R.TINE_ROLE i j, 2, 0⟩
def F.TINE_ROLE_LOGICAL (i : Nat) (j : Nat) : Fld := ⟨R.TINE_ROLE i j, 12, 8⟩
def F.TINE_ROLE_CLAIMED (i : Nat) (j : Nat) : Fld := ⟨R.TINE_ROLE i j, 16, 16⟩
def F.TINE_STAT_BUSY (i : Nat) (j : Nat) : Fld := ⟨R.TINE_STAT i j, 0, 0⟩
def F.TINE_STAT_FREQ (i : Nat) (j : Nat) : Fld := ⟨R.TINE_STAT i j, 1, 1⟩
def F.TINE_STAT_BUBBLES (i : Nat) (j : Nat) : Fld := ⟨R.TINE_STAT i j, 23, 8⟩
def F.TINE_LASTCYC_CYC (i : Nat) (j : Nat) : Fld := ⟨R.TINE_LASTCYC i j, 31, 0⟩
def F.TINE_RECS_RECS (i : Nat) (j : Nat) : Fld := ⟨R.TINE_RECS i j, 63, 0⟩
def F.TINE_CKCNT_MISMATCH (i : Nat) (j : Nat) : Fld := ⟨R.TINE_CKCNT i j, 15, 0⟩
def F.TINE_BIST_DONE (i : Nat) (j : Nat) : Fld := ⟨R.TINE_BIST i j, 0, 0⟩
def F.TINE_BIST_PASS (i : Nat) (j : Nat) : Fld := ⟨R.TINE_BIST i j, 1, 1⟩
def F.TINE_BIST_RUNS (i : Nat) (j : Nat) : Fld := ⟨R.TINE_BIST i j, 31, 16⟩
def F.TINE_BIST_T_T (i : Nat) (j : Nat) : Fld := ⟨R.TINE_BIST_T i j, 63, 0⟩
def F.TINE_ROLE_T_T (i : Nat) (j : Nat) : Fld := ⟨R.TINE_ROLE_T i j, 63, 0⟩
def F.TINE_MAP_PHYS (i : Nat) (j : Nat) : Fld := ⟨R.TINE_MAP i j, 3, 0⟩
def F.TINE_SPARE_PHYS (i : Nat) : Fld := ⟨R.TINE_SPARE i, 3, 0⟩
def F.TINE_SPARE_VALID (i : Nat) : Fld := ⟨R.TINE_SPARE i, 4, 4⟩
def F.TINE_MAPGEN_GEN (i : Nat) : Fld := ⟨R.TINE_MAPGEN i, 31, 0⟩
def F.TINE_ROTCFG_ROT_EN (i : Nat) : Fld := ⟨R.TINE_ROTCFG i, 0, 0⟩
def F.TINE_ROTSKIP_SKIP (i : Nat) : Fld := ⟨R.TINE_ROTSKIP i, 15, 0⟩

/-- CHU_STAT (R229, 10_chains_post.md). -/
def R.CHU_STAT (i : Nat) (j : Nat) : Reg := ⟨0x2400000 + i * 0x1000000 + j * 0x40000, 32, 0x0⟩
/-- CHU_LASTCYC (R227, 10_chains_post.md). -/
def R.CHU_LASTCYC (i : Nat) (j : Nat) : Reg := ⟨0x2400004 + i * 0x1000000 + j * 0x40000, 32, 0x0⟩
/-- CHU_RECS (R227, 10_chains_post.md). -/
def R.CHU_RECS (i : Nat) (j : Nat) : Reg := ⟨0x2400008 + i * 0x1000000 + j * 0x40000, 64, 0x0⟩
/-- CHU_CMPCNT (R230, 10_chains_post.md). -/
def R.CHU_CMPCNT (i : Nat) (j : Nat) : Reg := ⟨0x2400010 + i * 0x1000000 + j * 0x40000, 32, 0x0⟩
/-- CHU_SAT (R220, 10_chains_post.md). -/
def R.CHU_SAT (i : Nat) (j : Nat) : Reg := ⟨0x2400014 + i * 0x1000000 + j * 0x40000, 32, 0x0⟩
/-- CHU_PROGS (R226, 10_chains_post.md). -/
def R.CHU_PROGS (i : Nat) (j : Nat) : Reg := ⟨0x2400018 + i * 0x1000000 + j * 0x40000, 32, 0x0⟩

def F.CHU_STAT_BUSY (i : Nat) (j : Nat) : Fld := ⟨R.CHU_STAT i j, 0, 0⟩
def F.CHU_STAT_FREQ (i : Nat) (j : Nat) : Fld := ⟨R.CHU_STAT i j, 1, 1⟩
def F.CHU_STAT_BUBBLES (i : Nat) (j : Nat) : Fld := ⟨R.CHU_STAT i j, 23, 8⟩
def F.CHU_LASTCYC_CYC (i : Nat) (j : Nat) : Fld := ⟨R.CHU_LASTCYC i j, 31, 0⟩
def F.CHU_RECS_RECS (i : Nat) (j : Nat) : Fld := ⟨R.CHU_RECS i j, 63, 0⟩
def F.CHU_CMPCNT_MISMATCH (i : Nat) (j : Nat) : Fld := ⟨R.CHU_CMPCNT i j, 15, 0⟩
def F.CHU_SAT_SAT (i : Nat) (j : Nat) : Fld := ⟨R.CHU_SAT i j, 31, 0⟩
def F.CHU_PROGS_RESIDENT (i : Nat) (j : Nat) : Fld := ⟨R.CHU_PROGS i j, 6, 0⟩

/-- PPU_STAT (R231, 10_chains_post.md). -/
def R.PPU_STAT (i : Nat) : Reg := ⟨0x2500000 + i * 0x1000000, 32, 0x0⟩
/-- PPU_S_LASTCYC (R232, 10_chains_post.md). -/
def R.PPU_S_LASTCYC (i : Nat) : Reg := ⟨0x2500004 + i * 0x1000000, 32, 0x0⟩
/-- PPU_D_LASTCYC (R236, 10_chains_post.md). -/
def R.PPU_D_LASTCYC (i : Nat) : Reg := ⟨0x2500008 + i * 0x1000000, 32, 0x0⟩
/-- PPU_S_RECS (R231, 10_chains_post.md). -/
def R.PPU_S_RECS (i : Nat) : Reg := ⟨0x2500010 + i * 0x1000000, 64, 0x0⟩
/-- PPU_D_RECS (R235, 10_chains_post.md). -/
def R.PPU_D_RECS (i : Nat) : Reg := ⟨0x2500018 + i * 0x1000000, 64, 0x0⟩
/-- PPU_CKCNT (R237, 10_chains_post.md). -/
def R.PPU_CKCNT (i : Nat) : Reg := ⟨0x2500020 + i * 0x1000000, 32, 0x0⟩
/-- PPU_D_LAST (R236, 10_chains_post.md). -/
def R.PPU_D_LAST (i : Nat) : Reg := ⟨0x2500024 + i * 0x1000000, 32, 0x0⟩
/-- PPU_ANCH (R233, 10_chains_post.md). -/
def R.PPU_ANCH (i : Nat) : Reg := ⟨0x2500028 + i * 0x1000000, 32, 0x0⟩

def F.PPU_STAT_S_BUSY (i : Nat) : Fld := ⟨R.PPU_STAT i, 0, 0⟩
def F.PPU_STAT_D_BUSY (i : Nat) : Fld := ⟨R.PPU_STAT i, 1, 1⟩
def F.PPU_STAT_BUBBLES (i : Nat) : Fld := ⟨R.PPU_STAT i, 23, 8⟩
def F.PPU_S_LASTCYC_CYC (i : Nat) : Fld := ⟨R.PPU_S_LASTCYC i, 31, 0⟩
def F.PPU_D_LASTCYC_CYC (i : Nat) : Fld := ⟨R.PPU_D_LASTCYC i, 31, 0⟩
def F.PPU_S_RECS_RECS (i : Nat) : Fld := ⟨R.PPU_S_RECS i, 63, 0⟩
def F.PPU_D_RECS_RECS (i : Nat) : Fld := ⟨R.PPU_D_RECS i, 63, 0⟩
def F.PPU_CKCNT_S_MISMATCH (i : Nat) : Fld := ⟨R.PPU_CKCNT i, 15, 0⟩
def F.PPU_CKCNT_D_MISMATCH (i : Nat) : Fld := ⟨R.PPU_CKCNT i, 31, 16⟩
def F.PPU_D_LAST_VALID_OUT (i : Nat) : Fld := ⟨R.PPU_D_LAST i, 8, 0⟩
def F.PPU_D_LAST_CAND_VALID (i : Nat) : Fld := ⟨R.PPU_D_LAST i, 28, 16⟩
def F.PPU_ANCH_ENTRIES (i : Nat) : Fld := ⟨R.PPU_ANCH i, 13, 0⟩

/-- FN_SQDB (R74, 04_commands.md). -/
def R.FN_SQDB (c : Nat) (i : Nat) : Reg := ⟨(c + 1) * 0x100000000 + 0x0 + i * 0x8, 32, 0x0⟩
/-- FN_CQDB (R75, 04_commands.md). -/
def R.FN_CQDB (c : Nat) (i : Nat) : Reg := ⟨(c + 1) * 0x100000000 + 0x4 + i * 0x8, 32, 0x0⟩
/-- FN_CTX_STATE (R69, 04_commands.md). -/
def R.FN_CTX_STATE (c : Nat) : Reg := ⟨(c + 1) * 0x100000000 + 0x1000, 32, 0x0⟩
/-- FN_CTX_ERR (R74, 04_commands.md). -/
def R.FN_CTX_ERR (c : Nat) : Reg := ⟨(c + 1) * 0x100000000 + 0x1004, 32, 0x0⟩
/-- FN_OVR_CNT (R74, 04_commands.md). -/
def R.FN_OVR_CNT (c : Nat) : Reg := ⟨(c + 1) * 0x100000000 + 0x1008, 32, 0x0⟩
/-- FN_VLOST (R93, 04_commands.md). -/
def R.FN_VLOST (c : Nat) : Reg := ⟨(c + 1) * 0x100000000 + 0x1010, 64, 0x0⟩
/-- FN_TIME (R38, 04_commands.md). -/
def R.FN_TIME (c : Nat) : Reg := ⟨(c + 1) * 0x100000000 + 0x1018, 64, 0x0⟩
/-- FN_Q0_SQBASE (R73, 04_commands.md). -/
def R.FN_Q0_SQBASE (c : Nat) : Reg := ⟨(c + 1) * 0x100000000 + 0x2000, 64, 0x0⟩
/-- FN_Q0_CQBASE (R73, 04_commands.md). -/
def R.FN_Q0_CQBASE (c : Nat) : Reg := ⟨(c + 1) * 0x100000000 + 0x2008, 64, 0x0⟩
/-- FN_Q0_SIZE (R98, 04_commands.md). -/
def R.FN_Q0_SIZE (c : Nat) : Reg := ⟨(c + 1) * 0x100000000 + 0x2010, 32, 0x0⟩
/-- FN_Q0_CTRL (R98, 04_commands.md). -/
def R.FN_Q0_CTRL (c : Nat) : Reg := ⟨(c + 1) * 0x100000000 + 0x2014, 32, 0xff00⟩
/-- FN_MSIX (R95, 04_commands.md). -/
def R.FN_MSIX (c : Nat) (i : Nat) : Reg := ⟨(c + 1) * 0x100000000 + 0x8000 + i * 0x4, 32, 0x0⟩
/-- FN_PBA (R95, 04_commands.md). -/
def R.FN_PBA (c : Nat) (i : Nat) : Reg := ⟨(c + 1) * 0x100000000 + 0x9000 + i * 0x4, 32, 0x0⟩

def F.FN_SQDB_TAIL (c : Nat) (i : Nat) : Fld := ⟨R.FN_SQDB c i, 15, 0⟩
def F.FN_CQDB_HEAD (c : Nat) (i : Nat) : Fld := ⟨R.FN_CQDB c i, 15, 0⟩
def F.FN_CTX_STATE_STATE (c : Nat) : Fld := ⟨R.FN_CTX_STATE c, 1, 0⟩
def F.FN_CTX_STATE_ERR (c : Nat) : Fld := ⟨R.FN_CTX_STATE c, 8, 8⟩
def F.FN_CTX_ERR_STATUS (c : Nat) : Fld := ⟨R.FN_CTX_ERR c, 15, 0⟩
def F.FN_CTX_ERR_QUEUE (c : Nat) : Fld := ⟨R.FN_CTX_ERR c, 22, 16⟩
def F.FN_CTX_ERR_VALID (c : Nat) : Fld := ⟨R.FN_CTX_ERR c, 31, 31⟩
def F.FN_OVR_CNT_OVR (c : Nat) : Fld := ⟨R.FN_OVR_CNT c, 15, 0⟩
def F.FN_VLOST_VLOST (c : Nat) : Fld := ⟨R.FN_VLOST c, 63, 0⟩
def F.FN_TIME_TIME (c : Nat) : Fld := ⟨R.FN_TIME c, 63, 0⟩
def F.FN_Q0_SQBASE_BASE (c : Nat) : Fld := ⟨R.FN_Q0_SQBASE c, 63, 12⟩
def F.FN_Q0_CQBASE_BASE (c : Nat) : Fld := ⟨R.FN_Q0_CQBASE c, 63, 12⟩
def F.FN_Q0_SIZE_SQ_M1 (c : Nat) : Fld := ⟨R.FN_Q0_SIZE c, 11, 0⟩
def F.FN_Q0_SIZE_CQ_M1 (c : Nat) : Fld := ⟨R.FN_Q0_SIZE c, 27, 16⟩
def F.FN_Q0_CTRL_ENABLE (c : Nat) : Fld := ⟨R.FN_Q0_CTRL c, 0, 0⟩
def F.FN_Q0_CTRL_VECTOR (c : Nat) : Fld := ⟨R.FN_Q0_CTRL c, 15, 8⟩
def F.FN_Q0_CTRL_COALESCE (c : Nat) : Fld := ⟨R.FN_Q0_CTRL c, 23, 16⟩
def F.FN_MSIX_WORD (c : Nat) (i : Nat) : Fld := ⟨R.FN_MSIX c i, 31, 0⟩
def F.FN_PBA_PENDING (c : Nat) (i : Nat) : Fld := ⟨R.FN_PBA c i, 31, 0⟩

/-- SRM_STATUS (R253, 11_memory.md). -/
def R.SRM_STATUS (d : Nat) : Reg := ⟨srmBase d + 0x0, 32, 0x0⟩
/-- SRM_SCRUB_CFG (R252, 11_memory.md). -/
def R.SRM_SCRUB_CFG (d : Nat) : Reg := ⟨srmBase d + 0x4, 32, 0x1⟩
/-- SRM_CE_CNT (R248, 11_memory.md). -/
def R.SRM_CE_CNT (d : Nat) : Reg := ⟨srmBase d + 0x8, 32, 0x0⟩
/-- SRM_UE_CNT (R249, 11_memory.md). -/
def R.SRM_UE_CNT (d : Nat) : Reg := ⟨srmBase d + 0xc, 32, 0x0⟩
/-- SRM_PW_CNT (R250, 11_memory.md). -/
def R.SRM_PW_CNT (d : Nat) : Reg := ⟨srmBase d + 0x10, 32, 0x0⟩
/-- SRM_OWN_CNT (R241, 11_memory.md). -/
def R.SRM_OWN_CNT (d : Nat) : Reg := ⟨srmBase d + 0x14, 32, 0x0⟩
/-- SRM_BLK_CNT (R242, 11_memory.md). -/
def R.SRM_BLK_CNT (d : Nat) : Reg := ⟨srmBase d + 0x18, 32, 0x0⟩
/-- SRM_LOG_CTL (R254, 11_memory.md). -/
def R.SRM_LOG_CTL (d : Nat) : Reg := ⟨srmBase d + 0x20, 32, 0x0⟩
/-- SRM_LOG (R254, 11_memory.md). -/
def R.SRM_LOG (d : Nat) (i : Nat) : Reg := ⟨srmBase d + 0x100 + i * 0x20, 256, 0x0⟩
/-- SRM_OWN (R241, 11_memory.md). -/
def R.SRM_OWN (d : Nat) (i : Nat) : Reg := ⟨srmBase d + 0x1000 + i * 0x4, 32, 0xffff⟩

def F.SRM_STATUS_ZERO_DONE (d : Nat) : Fld := ⟨R.SRM_STATUS d, 0, 0⟩
def F.SRM_STATUS_ZEROING (d : Nat) : Fld := ⟨R.SRM_STATUS d, 1, 1⟩
def F.SRM_SCRUB_CFG_EN (d : Nat) : Fld := ⟨R.SRM_SCRUB_CFG d, 0, 0⟩
def F.SRM_CE_CNT_CE (d : Nat) : Fld := ⟨R.SRM_CE_CNT d, 31, 0⟩
def F.SRM_UE_CNT_UE (d : Nat) : Fld := ⟨R.SRM_UE_CNT d, 31, 0⟩
def F.SRM_PW_CNT_PW (d : Nat) : Fld := ⟨R.SRM_PW_CNT d, 31, 0⟩
def F.SRM_OWN_CNT_OWN (d : Nat) : Fld := ⟨R.SRM_OWN_CNT d, 31, 0⟩
def F.SRM_BLK_CNT_BLK (d : Nat) : Fld := ⟨R.SRM_BLK_CNT d, 31, 0⟩
def F.SRM_LOG_CTL_HEAD (d : Nat) : Fld := ⟨R.SRM_LOG_CTL d, 3, 0⟩
def F.SRM_LOG_CTL_LOST (d : Nat) : Fld := ⟨R.SRM_LOG_CTL d, 31, 16⟩
def F.SRM_LOG_RECORD (d : Nat) (i : Nat) : Fld := ⟨R.SRM_LOG d i, 255, 0⟩
def F.SRM_OWN_OWNER (d : Nat) (i : Nat) : Fld := ⟨R.SRM_OWN d i, 15, 0⟩
def F.SRM_OWN_CTX (d : Nat) (i : Nat) : Fld := ⟨R.SRM_OWN d i, 22, 16⟩
def F.SRM_OWN_CLAIMED (d : Nat) (i : Nat) : Fld := ⟨R.SRM_OWN d i, 23, 23⟩
def F.SRM_OWN_ZEROING (d : Nat) (i : Nat) : Fld := ⟨R.SRM_OWN d i, 24, 24⟩
def F.SRM_OWN_OFF (d : Nat) (i : Nat) : Fld := ⟨R.SRM_OWN d i, 25, 25⟩

end Sys2Proof.Machine
end

