-- ==== Sys2Proof/Machine/Ops.lean ====
section
/-! DEFINITION. The named operations over the state: registers and their fields, events and interrupts, outputs, free
values, device-local memory with its ECC (R248 to R250) and error logs (R254), and the tables of contexts, queues,
plans and ranges. Every meaning reaches the state through these. -/

namespace Sys2Proof.Machine

/-- The quotient `a / b` rounded to the nearest integer; the direction of a tie is a free value. -/
def roundNear (a : Int) (b : Nat) : Int :=
  if (2 * a + b) % (2 * b : Nat) = 0 && !Config.tieUp then (2 * a + b) / (2 * b : Nat) - 1 else (2 * a + b) / (2 * b : Nat)

/-! ## Registers -/

/-- The value a register holds. -/
def State.rd (s : State) (r : Reg) : Nat := tget s.regs r.key r.reset

/-- A register set to a value; a value equal to the reset value is not listed. -/
def State.wr (s : State) (r : Reg) (v : Nat) : State :=
  { s with regs := if v % 2 ^ r.width = r.reset then tdel s.regs r.key else tput s.regs r.key (v % 2 ^ r.width) }

/-- The value a field holds. -/
def State.get (s : State) (f : Fld) : Nat := bits (s.rd f.reg) f.hi f.lo

/-- A field set to a value. -/
def State.put (s : State) (f : Fld) (v : Nat) : State := s.wr f.reg (putBits (s.rd f.reg) f.hi f.lo v)

/-- A field of one bit as a truth value. -/
def State.on (s : State) (f : Fld) : Bool := s.get f == 1

/-- Bit `n` of a field. -/
def State.getBit (s : State) (f : Fld) (n : Nat) : Bool := bit (s.get f) n

/-- Bit `n` of a field set to a truth value. -/
def State.putBit (s : State) (f : Fld) (n : Nat) (b : Bool) : State := s.put f (putBits (s.get f) n n (b2n b))

/-- A counter field raised by `n` that stops at its largest value (R8 counters of type RC). -/
def State.incSat (s : State) (f : Fld) (n : Nat := 1) : State :=
  s.put f (min (s.get f + n) (2 ^ (f.hi + 1 - f.lo) - 1))

/-- A counter field raised by `n`, wrapping at its width. -/
def State.incWrap (s : State) (f : Fld) (n : Nat := 1) : State := s.put f (s.get f + n)

/-- Every counter or register of a list put back to its reset value. -/
def State.clearRegs (s : State) (rs : List Reg) : State := rs.foldl (fun s r => s.wr r r.reset) s

/-! ## Time, outputs, interrupts, free values -/

/-- The beat that contains the present tick (R35). -/
def State.beat (s : State) : Nat := s.time / 500

/-- Device time in the T48 format (R38, R39). -/
def State.t48 (s : State) : Nat := s.time % 2 ^ 48

/-- Device time in the TF64 format with no fraction (R38). -/
def tf64 (t : Nat) : Nat := (t % 2 ^ 51) * 8192

/-- What leaves through pads that the boundary register covers: single-ended digital ones (R452). -/
def Out.bounded : Out → Bool
  | .strobe _ _ _ _ _ | .spi _ | .syncOut => true
  | .hostWrite _ _ _ | .msix _ _ | .pageRequest _ _ _ | .invalidateDone _ | .flit _ _ _ | .tap _ | .read _ => false

/-- Something leaves the device; while the pads follow the boundary register it is not seen at them (R414). -/
def State.emit (s : State) (o : Out) : State := if s.tapHigh && o.bounded then s else { s with out := s.out ++ [o] }

/-- An MSI-X vector of a function signalled; 0xFF names none (Table 4.19, Table 4.11). -/
def State.signal (s : State) (fn vec : Nat) : State := if vec < 64 then s.emit (.msix fn vec) else s

/-- A free value: a number the spec leaves open. Each call draws a new one. -/
def State.draw (s : State) : Nat × State := (Config.free s.fresh, { s with fresh := s.fresh + 1 })

/-! ## Contexts, queues, plans, items -/

/-- A context that has never been enabled (R69). -/
def Ctx.off : Ctx := ⟨.disabled, 0, 0⟩

def State.ctx (s : State) (c : Nat) : Ctx := tget s.ctxs c Ctx.off

def State.setCtx (s : State) (c : Nat) (x : Ctx) : State := { s with ctxs := tput s.ctxs c x }

/-- Global number of local queue `q` of context `c` (R71). -/
def gq (c q : Nat) : Nat := 128 * c + q

def State.queue? (s : State) (c q : Nat) : Option Queue := tfind s.queues (gq c q)

def State.setQueue (s : State) (c q : Nat) (x : Queue) : State := { s with queues := tput s.queues (gq c q) x }

def State.delQueue (s : State) (c q : Nat) : State := { s with queues := tdel s.queues (gq c q) }

/-- The queues of a context with their local numbers. -/
def State.ctxQueues (s : State) (c : Nat) : List (Nat × Queue) :=
  (s.queues.filter (fun p => p.1 / 128 == c)).map (fun p => (p.1 % 128, p.2))

/-- A change of one queue, where it exists. -/
def State.onQueue (s : State) (c q : Nat) (f : Queue → Queue) : State :=
  match s.queue? c q with
  | some x => s.setQueue c q (f x)
  | none => s

def State.plan? (s : State) (c h : Nat) : Option Plan := tfind s.plans (4 * c + h)

def State.setPlan (s : State) (c h : Nat) (p : Plan) : State := { s with plans := tput s.plans (4 * c + h) p }

def State.delPlan (s : State) (c h : Nat) : State := { s with plans := tdel s.plans (4 * c + h) }

/-- A change of one plan, where it exists. -/
def State.onPlan (s : State) (c h : Nat) (f : Plan → Plan) : State :=
  match s.plan? c h with
  | some p => s.setPlan c h (f p)
  | none => s

/-- The state of a plan handle (R56). -/
def State.planPhase (s : State) (c h : Nat) : PlanPhase :=
  match s.plan? c h with
  | some p => p.phase
  | none => .empty

/-- ADMITTED, ARMED, RUNNING or DRAINING: the plan holds its claims (R52). -/
def PlanPhase.live : PlanPhase → Bool
  | .admitted | .armed | .running | .draining => true
  | .empty | .loaded | .stopped => false

/-- The plans that hold claims, with context and handle. -/
def State.livePlans (s : State) : List (Nat × Nat × Plan) :=
  (s.plans.filter (fun p => p.2.phase.live)).map (fun p => (p.1 / 4, p.1 % 4, p.2))

/-- The code of a plan state in Tables 3.16 and 3.18. -/
def PlanPhase.code : PlanPhase → Nat
  | .empty => 0 | .loaded => 1 | .admitted => 2 | .armed => 3 | .running => 4 | .draining => 5 | .stopped => 6

/-- The claims that a record's range names (Table 3.5). -/
def PlanImage.recClaims (im : PlanImage) (r : Rec) : List Claim := (im.claims.drop r.claimFirst).take r.claimCount

/-- A plan claims resource `n` of a claim kind (Table 3.4). -/
def PlanImage.hasClaim (im : PlanImage) (kind n : Nat) : Bool :=
  im.claims.any (fun k => k.kind == kind && decide (k.first ≤ n) && decide (n < k.first + k.count))

/-- Some plan in ADMITTED to DRAINING claims the resource. -/
def State.claimed (s : State) (kind n : Nat) : Bool := s.livePlans.any (fun p => p.2.2.img.hasClaim kind n)

/-- Items changed where a test holds. -/
def State.mapItems (s : State) (p : Item → Bool) (f : Item → Item) : State :=
  { s with items := s.items.map (fun i => if p i then f i else i) }

def State.item? (s : State) (c id : Nat) : Option Item := s.items.find? (fun i => i.c == c && i.id == id)

/-- The items that a test picks receive FAULTED (R51). -/
def State.faultItems (s : State) (p : Item → Bool) : State := s.mapItems p (fun i => { i with faulted := true })

/-- The items that a test picks receive INCOMPLETE (R51). -/
def State.incompleteItems (s : State) (p : Item → Bool) : State := s.mapItems p (fun i => { i with incomplete := true })

/-! ## Power domains and readiness -/

/-- GLB_STATUS.READY (R424). -/
def State.ready (s : State) : Bool := s.on F.GLB_STATUS_READY

/-- A power domain is ON (Table 15.9: STATE 0). -/
def State.domOn (s : State) (d : Nat) : Bool := s.get (F.PMC_DOM_STATE_STATE d) == 0

/-- The CLK_ONFIO field that holds a domain's bit (Table 2.10). -/
def onFioFld (d : Nat) : Fld :=
  if d < 32 then F.CLK_ONFIO0_ONFIO else if d < 64 then F.CLK_ONFIO1_ONFIO else F.CLK_ONFIO2_ONFIO

/-- A domain runs on FIO, or is powered off (Table 2.10). -/
def State.onFio (s : State) (d : Nat) : Bool := s.getBit (onFioFld d) (d % 32)

/-- A domain can do planned work: ON, and on its functional clock (R30). Domain 0 has none and always reads on FIO. -/
def State.domWorks (s : State) (d : Nat) : Bool := s.domOn d && (d == 0 || !s.onFio d)

/-! ## Device-local memory -/

/-- One byte of memory. -/
def memByte : List Host.Cell → Nat → Byte
  | [], _ => 0
  | (k, b) :: t, a => if k = a then b else memByte t a

/-- Bytes as cells from an address upward; a zero byte is not listed. -/
def cellsFrom : Nat → Bytes → List Host.Cell
  | _, [] => []
  | a, b :: t => if b = 0 then cellsFrom (a + 1) t else (a, b) :: cellsFrom (a + 1) t

/-- The cells of a span of `n` bytes replaced by others that lie in it. -/
def memSpan (m : List Host.Cell) (a n : Nat) (cells : List Host.Cell) : List Host.Cell :=
  m.filter (fun c => decide (c.1 < a)) ++ cells ++ m.filter (fun c => decide (a + n ≤ c.1))

/-- Consecutive bytes written from an address upward. -/
def memPuts (m : List Host.Cell) (a : Nat) (bs : Bytes) : List Host.Cell := memSpan m a bs.length (cellsFrom a bs)

/-- Every byte of a span reads zero. -/
def memClear (m : List Host.Cell) (a n : Nat) : List Host.Cell := memSpan m a n []

/-- The cells of a span moved so that it begins at another address. -/
def memMove (m : List Host.Cell) (src dst n : Nat) : List Host.Cell :=
  memSpan m dst n ((m.filter (fun c => decide (src ≤ c.1) && decide (c.1 < src + n))).map (fun c => (c.1 - src + dst, c.2)))

/-- The canonical form of memory: addresses strictly rising, no listed byte zero. -/
def Memory.wf (m : List Host.Cell) : Bool := decide (m.Pairwise (fun x y => x.1 < y.1)) && m.all (fun c => c.2 != 0)

/-- Local address of the first byte of a bank (Table 11.1). -/
def bankLa (b : Nat) : Nat := b * 0x20000

/-- The die of a bank: 0 F, 1 C-die 0, 2 C-die 1, 3 H; 4 for an ID that names no bank (Table 11.1). -/
def bankDie (b : Nat) : Nat :=
  if b < 0x100 then 0 else if b < 0x2C0 then 1 else if b < 0x300 then 4 else if b < 0x4C0 then 2
  else if b < 0x500 then 4 else if b < 0x580 then 3 else 4

/-- The IDs that a KIND 4 claim may name (R239). -/
def bankClaimable (b : Nat) : Bool :=
  decide (b < 0x80) || (decide (0x200 ≤ b) && decide (b < 0x2C0)) || (decide (0x400 ≤ b) && decide (b < 0x4C0))

/-- First local address of LPDDR5X channel `ch` (R244). -/
def dramLa (ch : Nat) : Nat := 0x100000000 + ch * 0x200000000

/-- Bytes of the data region of each channel: seven eighths of the installed size (R244). -/
def State.dramBytes (s : State) : Nat :=
  let sz := s.get (F.MEMC_CH_CFG_SIZE 0)
  if sz = 0 then 0 else 2 ^ (30 + sz) / 8 * 7

/-- Where an address lies: an SRAM die, an LPDDR5X channel (4 + channel), or nowhere (8). -/
def laPlace (a : Nat) : Nat :=
  if a < 0x100000000 then (if bankDie (a / 0x20000) < 4 then bankDie (a / 0x20000) else 8)
  else if a < dramLa 4 then 4 + (a - 0x100000000) / 0x200000000 else 8

/-- The ring of 16 error records a place logs into (R254): head, lost, and record registers. -/
def placeHead (p : Nat) : Fld := if p < 4 then F.SRM_LOG_CTL_HEAD p else F.MEMC_LOG_CTL_HEAD
def placeLost (p : Nat) : Fld := if p < 4 then F.SRM_LOG_CTL_LOST p else F.MEMC_LOG_CTL_LOST
def placeLog (p e : Nat) : Reg := if p < 4 then R.SRM_LOG p e else R.MEMC_LOG e
def placeCe (p : Nat) : Fld := if p < 4 then F.SRM_CE_CNT_CE p else F.MEMC_CH_CE_CE (p - 4)
def placeUe (p : Nat) : Fld := if p < 4 then F.SRM_UE_CNT_UE p else F.MEMC_CH_UE_UE (p - 4)
def placePw (p : Nat) : Fld := if p < 4 then F.SRM_PW_CNT_PW p else F.MEMC_CH_PW_PW (p - 4)

/-- Who makes an access (Tables 11.4 and 11.5): unit ID, context (0xFF for the device's own paths), whether it is planned,
and the item it serves. -/
structure Who where
  unit : Nat
  ctx : Nat
  planned : Bool
  item : Nat
  deriving DecidableEq, Repr

/-- The CPX acting for a context's command (Table 11.5). -/
def Who.cpx (c : Nat) : Who := ⟨0x8000, c, false, 0⟩

/-- The bytes WHERE of an error record: bank ID, or 0x8000 + channel (Table 11.4). -/
def laWhere (a : Nat) : Nat := if a < 0x100000000 then a / 0x20000 else 0x8000 + (a - 0x100000000) / 0x200000000

/-- The 32 bytes of an error record (Table 11.4): time, word address, place, kind, syndrome, unit, context, flags PLANNED and
OVERFLOW, item. -/
def State.errRecord (s : State) (who : Who) (a kind syndrome : Nat) (ovr : Bool) : Nat :=
  s.time % 2 ^ 64 + (a / 8 * 8) * 2 ^ 64 + laWhere a * 2 ^ 128 + kind * 2 ^ 144 + syndrome * 2 ^ 152 +
    who.unit * 2 ^ 160 + who.ctx * 2 ^ 176 + (b2n who.planned + 2 * b2n ovr) * 2 ^ 184 + who.item * 2 ^ 192

/-- A log record is about to be written: it becomes unread, or, when the one it overwrites is unread, LOST counts it. -/
def State.noteUnread (s : State) (p key : Nat) : State :=
  if s.unread.contains key then s.incSat (placeLost p) else { s with unread := key :: s.unread }

/-- A record written into the ring of the place (R254). A record that overwrites an unread one counts LOST and carries
OVERFLOW. -/
def State.logError (s : State) (who : Who) (a kind syndrome : Nat) : State :=
  let p := laPlace a
  let e := s.get (placeHead p)
  let r := placeLog p e
  ((s.noteUnread p r.key).wr r (s.errRecord who a kind syndrome (s.unread.contains r.key))).put (placeHead p) ((e + 1) % 16)

/-- A corrected read of a word: one CE counted, logged when it is the first at its address since the counter was read
(R248, R254). -/
def State.countCe (s : State) (who : Who) (a syndrome : Nat) : State :=
  let s := s.incSat (placeCe (laPlace a))
  if s.ceSeen.contains (a / 8 * 8) then s
  else State.logError { s with ceSeen := a / 8 * 8 :: s.ceSeen } who a 1 syndrome

/-- An uncorrectable read of a word: one UE counted and logged, as POISON_READ when the syndrome is 0x3C (R249, R254). -/
def State.countUe (s : State) (who : Who) (a syndrome : Nat) : State :=
  (s.incSat (placeUe (laPlace a))).logError who a (if syndrome = 0x3C then 3 else 2) syndrome

/-- A byte with its poison mark, as data moves inside the device (R249). -/
abbrev PByte := Byte × Bool

/-- Data no byte of which is poisoned. -/
def clean (bs : Bytes) : List PByte := bs.map (fun b => (b, false))

/-- Data all of which is poisoned: what a refused read returns (R241, R242, R269). -/
def poisonBytes (n : Nat) : List PByte := (rangeFrom 0 n).map (fun _ => (0, true))

/-- The addresses of the ECC words that a span of bytes touches. -/
def eccWords (a n : Nat) : List Nat :=
  if n = 0 then [] else (rangeFrom (a / 8) ((a + n - 1) / 8 + 1 - a / 8)).map (· * 8)

/-- The ECC check of a read of one word (R248, R249). -/
def State.eccRead (s : State) (who : Who) (w : Nat) : State :=
  match tfind s.ecc w with
  | none => s
  | some (.ce y) => s.countCe who w y
  | some (.ue y) => s.countUe who w y

/-- An uncorrectable error is stored at the word of an address. -/
def State.poisonedAt (s : State) (a : Nat) : Bool :=
  match tfind s.ecc (a / 8 * 8) with
  | some (.ue _) => true
  | _ => false

/-- A read of `n` bytes at a local address: the bytes with their poison marks, and the counts and logs it leaves. -/
def State.readLa (s : State) (who : Who) (a n : Nat) : List PByte × State :=
  ((rangeFrom a n).map (fun x => (memByte s.mem x, s.poisonedAt x)), (eccWords a n).foldl (fun s w => s.eccRead who w) s)

/-- The ECC outcome of writing bytes into one word (R249, R250): `full` when all 8 bytes are written, `bad` when any of
them is poisoned. -/
def State.eccWrite (s : State) (who : Who) (w : Nat) (full bad : Bool) : State :=
  let poison (s : State) : State := { s with ecc := tput s.ecc w (.ue 0x3C) }
  let clear (s : State) : State := { s with ecc := tdel s.ecc w }
  if full then (if bad then poison s else clear s)
  else match tfind s.ecc w with
    | none => if bad then poison s else s
    | some (.ce y) => let s := s.countCe who w y; if bad then poison s else clear s
    | some (.ue y) => poison ((s.incSat (placePw (laPlace w))).logError who w 4 y)

/-- The words that a write touches: address, whether all 8 bytes are written, and whether any of those written is poisoned.
The first number bounds how many there are. -/
def eccParts : Nat → Nat → List PByte → List (Nat × Bool × Bool)
  | 0, _, _ => []
  | _, _, [] => []
  | f + 1, a, d =>
    let p := d.take (8 - a % 8)
    (a / 8 * 8, p.length == 8, p.any (·.2)) :: eccParts f (a / 8 * 8 + 8) (d.drop (8 - a % 8))

/-- A write of bytes at a local address (R249, R250). An address that does not exist takes nothing (Table 11.1). -/
def State.writeLa (s : State) (who : Who) (a : Nat) (d : List PByte) : State :=
  if laPlace a = 8 then s else
  let s := (eccParts d.length a d).foldl (fun s p => s.eccWrite who p.1 p.2.1 p.2.2) s
  { s with mem := memPuts s.mem a (d.map (·.1)) }

/-- Zeros with valid check bits over a span (R243, R253, R267). -/
def State.zeroLa (s : State) (a n : Nat) : State :=
  { s with mem := memClear s.mem a n, ecc := s.ecc.filter (fun e => decide (e.1 < a / 8 * 8) || decide (a + n ≤ e.1)) }

/-- Bank `b` of on-chip SRAM zeroed. -/
def State.zeroBank (s : State) (b : Nat) : State := s.zeroLa (bankLa b) 0x20000

/-- A local address lies in an SRAM bank that a plan in ADMITTED to DRAINING claims (R242). -/
def State.bankClaimed (s : State) (a : Nat) : Bool := decide (a < 0x100000000) && s.claimed 4 (a / 0x20000)

/-- A span of local addresses cut at bank boundaries. -/
def bankParts (a n : Nat) : List (Nat × Nat) :=
  if n = 0 then [] else
  (rangeFrom (a / 0x20000) ((a + n - 1) / 0x20000 + 1 - a / 0x20000)).map
    (fun b => (max a (b * 0x20000), min (a + n) ((b + 1) * 0x20000) - max a (b * 0x20000)))

/-- A background or command write (R242): a claimed bank takes nothing and BLK_CNT counts it. -/
def State.writeBg (s : State) (who : Who) (a : Nat) (d : List PByte) : State :=
  (bankParts a d.length).foldl (fun s p =>
    if s.bankClaimed p.1 then s.incSat (F.SRM_BLK_CNT_BLK (laPlace p.1))
    else s.writeLa who p.1 ((d.drop (p.1 - a)).take p.2)) s

/-- A background or command read (R242): a claimed bank returns poison and BLK_CNT counts it. -/
def State.readBg (s : State) (who : Who) (a n : Nat) : List PByte × State :=
  (bankParts a n).foldl (fun acc p =>
    if acc.2.bankClaimed p.1 then (acc.1 ++ poisonBytes p.2, acc.2.incSat (F.SRM_BLK_CNT_BLK (laPlace p.1)))
    else let r := acc.2.readLa who p.1 p.2; (acc.1 ++ r.1, r.2)) ([], s)

/-! ## Host memory as the environment answers it -/

/-- One byte of host memory. -/
def hostByte : List (Nat × Bytes) → Nat → Byte
  | [], _ => 0
  | (b, d) :: t, a => if b ≤ a && decide (a < b + d.length) then d.getD (a - b) 0 else hostByte t a

/-- `n` bytes of host memory from a bus address, with poison by granule (R249). -/
def envBytes (e : HostEnv) (a n : Nat) : List PByte :=
  (rangeFrom a n).map (fun x => (hostByte e.mem x, e.poison.any (fun p => p / 64 == x / 64)))

end Sys2Proof.Machine
end

