-- ==== Sys2Proof/Machine/Flags.lean ====
section
/-! DEFINITION. The event flags: bits of the blocks' EVENT registers set by the hardware, and the interrupts they signal
(the EVENT, EVENT_EN and IRQ_CFG rows of every block's register table, R8 and R10). -/

namespace Sys2Proof.Machine

/-- Bit `n` of a block's EVENT register set by the hardware: it signals the block's PF vector when it goes from 0 to 1
and its EVENT_EN bit is 1 (the EVENT, EVENT_EN and IRQ_CFG rows of every block's table). -/
def State.raise (s : State) (ev en irq : Reg) (n : Nat) : State :=
  let s' := s.wr ev (s.rd ev ||| 2 ^ n)
  if bit (s.rd ev) n = false && bit (s.rd en) n then s'.signal 0 (bits (s.rd irq) 7 0) else s'

def State.raiseGlb (s : State) (n : Nat) : State := s.raise R.GLB_EVENT R.GLB_EVENT_EN R.GLB_IRQ_CFG n
def State.raiseAtu (s : State) (n : Nat) : State := s.raise R.ATU_EVENT R.ATU_EVENT_EN R.ATU_IRQ_CFG n
def State.raiseDmx (s : State) (n : Nat) : State := s.raise R.DMX_EVENT R.DMX_EVENT_EN R.DMX_IRQ_CFG n
def State.raiseLio (s : State) (n : Nat) : State := s.raise R.LIO_EVENT R.LIO_EVENT_EN R.LIO_IRQ_CFG n
def State.raiseEvp (s : State) (n : Nat) : State := s.raise R.EVP_EVENT R.EVP_EVENT_EN R.EVP_IRQ_CFG n
def State.raiseAcq (s : State) (n : Nat) : State := s.raise R.ACQ_EVENT R.ACQ_EVENT_EN R.ACQ_IRQ_CFG n
def State.raiseDfc (s : State) (n : Nat) : State := s.raise R.DFC_EVENT R.DFC_EVENT_EN R.DFC_IRQ_CFG n
def State.raisePmc (s : State) (n : Nat) : State := s.raise R.PMC_EVENT R.PMC_EVENT_EN R.PMC_IRQ_CFG n
def State.raiseEmu (s : State) (n : Nat) : State := s.raise R.EMU_EVENT R.EMU_EVENT_EN R.EMU_IRQ_CFG n
def State.raiseFmu (s : State) (n : Nat) : State := s.raise R.FMU_EVENT R.FMU_EVENT_EN R.FMU_IRQ_CFG n
def State.raiseHrd (s : State) (n : Nat) : State := s.raise R.HRD_EVENT R.HRD_EVENT_EN R.HRD_IRQ_CFG n
def State.raiseKsu (s : State) (n : Nat) : State := s.raise R.KSU_EVENT R.KSU_EVENT_EN R.KSU_IRQ_CFG n

end Sys2Proof.Machine
end

