-- ==== Sys2Proof/Machine/Translate.lean ====
section
/-! DEFINITION. Address translation (12_translation.md): windows (R256), range entries and runs (R265 to R269), walks
(R259, R260), the TLB (R261), ATS (R263), and the reads and writes of buffers named by a DVA. -/

namespace Sys2Proof.Machine

/-- Reason codes of Table 12.3. -/
def rsnOutside : Nat := 1
def rsnUnmapped : Nat := 2
def rsnRange : Nat := 3
def rsnAbsent : Nat := 4
def rsnRights : Nat := 5
def rsnMalformed : Nat := 6
def rsnWalk : Nat := 7
def rsnDenied : Nat := 8
def rsnTimeout : Nat := 9
def rsnInvalidated : Nat := 10
def rsnRevoked : Nat := 11
def rsnFragmented : Nat := 12
def rsnMigration : Nat := 13

/-- A reason that is a page fault (Table 12.3). -/
def recoverable (r : Nat) : Bool := r == rsnAbsent || r == rsnRights

/-- The rights in `need` are all in `have_`. -/
def covers (have_ need : Nat) : Bool := need &&& have_ == need

/-! ## Windows and ranges -/

/-- The host window of a context: DVA_BASE, WIN_LEN, HVA_BASE (R256). -/
def State.window (s : State) (c : Nat) : Nat × Nat × Nat :=
  (s.rd (R.ATU_CTX_DVA_BASE c), s.rd (R.ATU_CTX_WIN_LEN c), s.rd (R.ATU_CTX_HVA_BASE c))

/-- A lower-half DVA lies in the window (R256). -/
def State.inWindow (s : State) (c d : Nat) : Bool :=
  let (b, l, _) := s.window c
  decide (d < 2 ^ 47) && decide (b ≤ d) && decide (d < b + l)

/-- HVA of a DVA of the window (R256). -/
def State.hva (s : State) (c d : Nat) : Nat := let (b, _, h) := s.window c; d - b + h

/-- The context's ranges with their slots. -/
def State.ctxRanges (s : State) (c : Nat) : List (Nat × Range) := s.ranges.filter (fun p => p.1 / 32 == c)

/-- The range that a RANGE_ID names, with its number: the slot must be filled with the same generation (R265). -/
def State.rangeById (s : State) (c id : Nat) : Option (Nat × Range) :=
  match tfind s.ranges (32 * c + id % 32) with
  | some r => if r.id = id then some (32 * c + id % 32, r) else none
  | none => none

/-- The range of a context that covers a DVA. -/
def State.rangeAt (s : State) (c d : Nat) : Option (Nat × Range) :=
  (s.ctxRanges c).find? (fun p => decide (p.2.dva ≤ d) && decide (d < p.2.dva + p.2.len))

/-- A span of a run list (bus address, length), cut out. -/
def cutRuns : List (Nat × Nat) → Nat → Nat → List Seg
  | [], _, _ => []
  | (b, l) :: t, off, n =>
    if n = 0 then []
    else if l ≤ off then cutRuns t (off - l) n
    else .host (b + off) (min n (l - off)) :: cutRuns t 0 (n - min n (l - off))

/-- A span cut at 4 KiB page boundaries: offsets and lengths. -/
def pageParts (a n : Nat) : List (Nat × Nat) :=
  if n = 0 then [] else
  (rangeFrom (a / 4096) ((a + n - 1) / 4096 + 1 - a / 4096)).map
    (fun p => (max a (p * 4096), min (a + n) ((p + 1) * 4096) - max a (p * 4096)))

/-- The memory behind offset `off` of a range. For a MIGR range a page whose home is LOCAL lies in the pool; one whose
home is HOST has its segment looked up by the caller (R276). -/
def Range.segs (r : Range) (off n : Nat) : List Seg :=
  match r.kind with
  | 0 => cutRuns r.runs off n
  | 1 => [.la (r.la + off) n]
  | 3 => [.remote r.imp off n]
  | _ => (pageParts off n).filterMap (fun p =>
      match r.homes.find? (fun h => h.1 == p.1 / 4096) with
      | some h => some (.la (r.la + h.2 * 4096 + p.1 % 4096) p.2)
      | none => none)

/-! ## Walks (R259, R260) -/

/-- A format profile's fields (Table 12.6). -/
structure Fmt where
  pp : Nat
  ppol : Nat
  wp : Nat
  wpol : Nat
  lp : Nat
  lpol : Nat
  ap : Nat
  apol : Nat
  aen : Bool
  hi : Nat
  levels : Nat
  l2m : Bool
  l1g : Bool

/-- Profile `p` as the ATU_FMTp registers hold it. -/
def State.fmt (s : State) (p : Nat) : Fmt :=
  { pp := s.get (F.ATU_FMT_BITS_PRESENT_POS p), ppol := s.get (F.ATU_FMT_BITS_PRESENT_POL p),
    wp := s.get (F.ATU_FMT_BITS_WRITE_POS p), wpol := s.get (F.ATU_FMT_BITS_WRITE_POL p),
    lp := s.get (F.ATU_FMT_BITS_LEAF_POS p), lpol := s.get (F.ATU_FMT_BITS_LEAF_POL p),
    ap := s.get (F.ATU_FMT_BITS_ATOMIC_POS p), apol := s.get (F.ATU_FMT_BITS_ATOMIC_POL p),
    aen := s.on (F.ATU_FMT_BITS_ATOMIC_EN p), hi := s.get (F.ATU_FMT_ADDR_ADDR_HI p),
    levels := 4 + s.get (F.ATU_FMT_ADDR_LEVELS p), l2m := s.on (F.ATU_FMT_ADDR_LEAF2M_EN p),
    l1g := s.on (F.ATU_FMT_ADDR_LEAF1G_EN p) }

/-- What a translation of one page gives: bus address of the page, log2 of its size, rights. -/
structure PageX where
  bus : Nat
  log : Nat
  rights : Nat
  deriving DecidableEq, Repr

/-- The index of an HVA at a level (R259). -/
def levelIdx (hva k : Nat) : Nat := (hva >>> (12 + 9 * (k - 1))) % 512

/-- Address bits of an entry. -/
def Fmt.addr (f : Fmt) (e : Nat) : Nat := bits e f.hi 12 * 4096

def Fmt.present (f : Fmt) (e : Nat) : Bool := bit e f.pp == (f.ppol == 1)
def Fmt.write (f : Fmt) (e : Nat) : Bool := bit e f.wp == (f.wpol == 1)
def Fmt.atomic (f : Fmt) (e : Nat) : Bool := if f.aen then bit e f.ap == (f.apol == 1) else f.write e

/-- An entry at a level is a leaf (R259). -/
def Fmt.leaf (f : Fmt) (k e : Nat) : Bool :=
  k == 1 || (k == 2 && f.l2m && (bit e f.lp == (f.lpol == 1))) || (k == 3 && f.l1g && (bit e f.lp == (f.lpol == 1)))

/-- An entry read from host memory; a read that fails or is poisoned gives none (R260). -/
def envEntry (e : HostEnv) (a : Nat) : Option Nat :=
  if e.noResp.contains a || e.poison.any (fun p => p / 64 == a / 64) then none
  else some (leNat ((envBytes e a 8).map (·.1)))

/-- An entry at a table, from the walk cache where it holds it (R260). -/
def walkEntry (cache : List (Nat × Nat)) (e : HostEnv) (a : Nat) : Option Nat :=
  match cache.find? (fun p => p.1 == a) with
  | some p => some p.2
  | none => envEntry e a

/-- A walk from level `k` downward. The result is a page with the address of its leaf entry and what the entries above it
grant, or a reason; the cache takes each non-leaf entry, newest first, at most 256. -/
def walkFrom (f : Fmt) (e : HostEnv) (hva : Nat) :
    Nat → Nat → Bool → Bool → List (Nat × Nat) → Except Nat (PageX × Nat × Bool × Bool) × List (Nat × Nat)
  | 0, _, _, _, cache => (.error rsnWalk, cache)
  | k + 1, table, w, a, cache =>
    let ea := table + 8 * levelIdx hva (k + 1)
    match walkEntry cache e ea with
    | none => (.error rsnWalk, cache)
    | some v =>
      if f.present v = false then (.error rsnAbsent, cache)
      else
        let w' := w && f.write v
        let a' := a && f.atomic v
        if f.leaf (k + 1) v then
          let log := 12 + 9 * k
          if f.addr v % 2 ^ log = 0 then (.ok (⟨f.addr v, log, 1 + 2 * b2n w' + 4 * b2n a'⟩, ea, w, a), cache)
          else (.error rsnMalformed, cache)
        else walkFrom f e hva k (f.addr v) w' a' (((ea, v) :: cache.filter (fun p => p.1 != ea)).take 256)

/-- The page that an entry in the same table maps, when it is a leaf with the rights and the consecutive bus address that
continue a run (R261); `up` is what the entries above the table grant. -/
def runNext (f : Fmt) (e : HostEnv) (k : Nat) (p : PageX) (leafEa : Nat) (up : Bool × Bool) (d : Int) : Bool :=
  match envEntry e (leafEa + 8 * d).toNat with
  | none => false
  | some v => f.present v && f.leaf k v && decide ((f.addr v : Int) = p.bus + d * 2 ^ p.log) &&
      (bit p.rights 1 == (up.1 && f.write v)) && (bit p.rights 2 == (up.2 && f.atomic v))

/-- How many pages continue a run in one direction, at most `n`. -/
def runLen (ok : Int → Bool) (dir : Int) : Nat → Nat → Nat
  | 0, m => m
  | n + 1, m => if ok (dir * (m + 1)) then runLen ok dir n (m + 1) else m

/-- One page of the host window through the context's SOURCE, and the run it belongs to as (pages before, pages after),
within its DVA block of 64 pages and, under WALK, its table (R256, R258 to R261, R263). The walk counter and the walk cache change under WALK. -/
def State.sourcePage (s : State) (e : HostEnv) (c hva : Nat) : Except Nat (PageX × Nat × Nat) × State :=
  let dva := hva + (s.window c).1 - (s.window c).2.2
  match s.get (F.ATU_CTX_CFG_SOURCE c) with
  | 1 =>
    let f := s.fmt (s.get (F.ATU_CTX_CFG_PROFILE c))
    let r := walkFrom f e hva f.levels (s.rd (R.ATU_CTX_ROOT c)) true true s.walkCache
    let s := (({ s with walkCache := r.2 } : State).incWrap F.ATU_WALKS_N)
    match r.1 with
    | .error x =>
      if x = rsnWalk then (.error x, (s.incSat F.ATU_CNT_WALK_ERR_CNT).raiseAtu 3) else (.error x, s)
    | .ok (p, ea, up) =>
      let k := (p.log - 12) / 9 + 1
      let i := (dva >>> p.log) % 64
      let j := levelIdx hva k
      let next := runNext f e k p ea up
      (.ok (p, runLen next (-1) (min i j) 0, runLen next 1 (min (63 - i) (511 - j)) 0), s)
  | 2 =>
    match e.ats.find? (fun p => p.hva / 4096 == hva / 4096) with
    | none => (.error rsnAbsent, s)
    | some p =>
      let n := max 1 p.sizePages
      let i := dva / 4096 % 64
      let lo := hva / 4096 % n
      (.ok (⟨p.bus / 4096 * 4096, 12, if p.write then 7 else 1⟩, min lo i, min (n - 1 - lo) (63 - i)), s)
  | 3 => (.ok (⟨hva / 4096 * 4096, 12, 7⟩, 0, 0), s)
  | _ => (.error rsnOutside, s)

/-- A TLB entry that maps a page of the window. -/
def TlbEntry.maps (t : TlbEntry) (c d : Nat) : Bool :=
  t.c == c && decide (t.page ≤ d >>> t.pageLog) && decide (d >>> t.pageLog < t.page + t.count)

def TlbEntry.set (t : TlbEntry) : Nat := Config.tlbSet t.c (t.page / 64) % 512

/-- A run put into the TLB, in its set of 16 ways (R261). -/
def State.tlbInsert (s : State) (t : TlbEntry) : State :=
  let mine := s.tlb.filter (fun x => x.set == t.set)
  if mine.length < 16 then { s with tlb := s.tlb ++ [t] }
  else
    let v := mine.getD (Config.tlbVictim s.fresh % 16) t
    { s with tlb := s.tlb.filter (fun x => x != v) ++ [t], fresh := s.fresh + 1 }

/-- The TLB entry of a run. Where the window does not keep the page size aligned, one 4 KiB page of it (R256, R261). -/
def runEntry (c d hva : Nat) (p : PageX) (before after : Nat) : TlbEntry :=
  if d % 2 ^ p.log = hva % 2 ^ p.log then
    ⟨c, p.log, (d >>> p.log) - before, before + after + 1, p.bus - before * 2 ^ p.log, p.rights⟩
  else ⟨c, 12, d / 4096, 1, (p.bus + hva % 2 ^ p.log) / 4096 * 4096, p.rights⟩

/-- One page of the host window as background work translates it: the TLB, then SOURCE (R270). Failures are not cached, so an
entry without the rights needed is passed over and the page translated again (R262); DIRECT translations never enter the TLB
(R261). -/
def State.tlbPage (s : State) (e : HostEnv) (c d need : Nat) : Except Nat PageX × State :=
  let check (p : PageX) (s : State) : Except Nat PageX × State :=
    if covers p.rights need then (.ok p, s) else (.error rsnRights, s)
  match s.tlb.find? (fun t => t.maps c d && covers t.rights need) with
  | some t =>
    (.ok ⟨t.bus + ((d >>> t.pageLog) - t.page) * 2 ^ t.pageLog, t.pageLog, t.rights⟩, s.incWrap F.ATU_TLB_HIT_N)
  | none =>
    let r := s.sourcePage e c (s.hva c d)
    if s.get (F.ATU_CTX_CFG_SOURCE c) = 1 || s.get (F.ATU_CTX_CFG_SOURCE c) = 2 then
      match r.1 with
      | .error x => (.error x, r.2.incWrap F.ATU_TLB_MISS_N)
      | .ok (p, before, after) =>
        let s := r.2.incWrap F.ATU_TLB_MISS_N
        check p (({ s with tlb := s.tlb.filter (fun t => !t.maps c d) } : State).tlbInsert (runEntry c d (s.hva c d) p before after))
    else match r.1 with
      | .error x => (.error x, r.2)
      | .ok (p, _, _) => check p r.2

/-- Segments joined where they continue one another. -/
def Seg.join : List Seg → Seg → List Seg
  | [], x => [x]
  | [.host b l], .host b' l' => if b + l = b' then [.host b (l + l')] else [.host b l, .host b' l']
  | [y], x => [y, x]
  | y :: ys, x => y :: Seg.join ys x

/-- A bus address of the page that holds a host address of a bigger page. -/
def PageX.at (p : PageX) (hva : Nat) : Nat := p.bus + hva % 2 ^ p.log

/-- A span of DVAs of a context as background work reaches it (R270): the ranges, then the window, page by page. The
error carries the reason and the DVA. MIGR pages whose home is HOST go through SOURCE here; the copy into the pool is
made before the transfer runs (R276). -/
def State.xlateSpan (s : State) (e : HostEnv) (c d n need : Nat) : Except (Nat × Nat) (List Seg) × State :=
  (pageParts d n).foldl (fun acc p =>
    match acc.1 with
    | .error x => (.error x, acc.2)
    | .ok segs =>
      match acc.2.rangeAt c p.1 with
      | some (_, r) =>
        if r.revoked then (.error (rsnRevoked, p.1), acc.2)
        else if covers r.rights need = false then (.error (rsnRange, p.1), acc.2)
        else match r.segs (p.1 - r.dva) p.2 with
          | [] =>
            let x := acc.2.tlbPage e c p.1 need
            match x.1 with
            | .error y => (.error (y, p.1), x.2)
            | .ok g => (.ok (Seg.join segs (.host (g.at (s.hva c p.1)) p.2)), x.2)
          | l => (.ok (l.foldl Seg.join segs), acc.2)
      | none =>
        if p.1 ≥ 2 ^ 47 then (.error (rsnUnmapped, p.1), acc.2)
        else if acc.2.inWindow c p.1 = false then (.error (rsnOutside, p.1), acc.2)
        else
          let x := acc.2.tlbPage e c p.1 need
          match x.1 with
          | .error y => (.error (y, p.1), x.2)
          | .ok g => (.ok (Seg.join segs (.host (g.at (s.hva c p.1)) p.2)), x.2)) (.ok [], s)

/-! ## Buffers in pinned ranges (command accesses, queue memory, planned work) -/

/-- The memory of a span that lies wholly in one range of the context with the rights needed and not REVOKED (R73,
R268). -/
def State.pinned (s : State) (c d n need : Nat) : Option (List Seg) :=
  match s.rangeAt c d with
  | some (_, r) =>
    if decide (d + n ≤ r.dva + r.len) && covers r.rights need && !r.revoked then some (r.segs (d - r.dva) n) else none
  | none => none

/-- The lowest-numbered link that is UP to a member (R388, R390). -/
def State.linkTo (s : State) (m : Nat) : Option Nat :=
  (rangeFrom 0 4).find? (fun l => s.get (F.HRD_LINK_STATE_STATE l) == 2 && s.get (F.HRD_LINK_STATE_PEER l) == m)

/-- Bytes sent into an imported window as BACKGROUND flits of at most 240 bytes (R371, R373, R278): each carries the window,
the offset and its bytes. Without a link nothing is sent. -/
def State.farWrite (s : State) (imp off : Nat) (d : Bytes) : State :=
  match tfind s.imports imp with
  | none => s
  | some x =>
    match s.linkTo x.device with
    | none => s
    | some l => (rangeFrom 0 (ceilDiv d.length 240)).foldl (fun s i =>
        s.emit (.flit l 2 (x.window :: (off + 240 * i) :: ((d.drop (240 * i)).take 240).map (·.toNat)))) s

/-- A read of segments as background work: host bytes and remote windows as the environment answers them, device bytes
under R242. -/
def State.readSegs (s : State) (e : HostEnv) (who : Who) (l : List Seg) : List PByte × State :=
  l.foldl (fun acc g =>
    match g with
    | .host b n => (acc.1 ++ envBytes e b n, acc.2)
    | .la a n => let r := acc.2.readBg who a n; (acc.1 ++ r.1, r.2)
    | .remote i o n => (acc.1 ++ clean ((rangeFrom (2 ^ 48 * i + o) n).map (hostByte e.far)), acc.2)) ([], s)

/-- A write of bytes into segments as background work (R242, R249, R290). A remote window is reached by
BACKGROUND flits. -/
def State.writeSegs (s : State) (who : Who) : List Seg → List PByte → State
  | [], _ => s
  | .host b n :: t, d =>
    State.writeSegs (if d = [] then s else s.emit (.hostWrite b ((d.take n).map (·.1)) ((d.take n).any (·.2)))) who t (d.drop n)
  | .la a n :: t, d => State.writeSegs (s.writeBg who a (d.take n)) who t (d.drop n)
  | .remote i o n :: t, d =>
    State.writeSegs (if d = [] then s else s.farWrite i o ((d.take n).map (·.1))) who t (d.drop n)

end Sys2Proof.Machine
end

