-- ==== Sys2Proof/Machine/Queues.lean ====
section
/-! DEFINITION. Queues, packets and replies (04_commands.md): doorbells (R74 to R76), completion entries and phase bits
(R75, R77), the checks every packet meets (R70, R79), the start and end of commands (R80, R81, Table 4.5). -/

namespace Sys2Proof.Machine

/-! ## Status codes (Table 4.10) -/

def stOk : Nat := 0x0000
def stAborted : Nat := 0x0001
def stTooLate : Nat := 0x0002
def stBadOpcode : Nat := 0x0010
def stBadParam : Nat := 0x0011
def stBadState : Nat := 0x0012
def stNoRights : Nat := 0x0013
def stOverrun : Nat := 0x0014
def stResource : Nat := 0x0020
def stTime : Nat := 0x0021
def stEnergy : Nat := 0x0022
def stMemory : Nat := 0x0023
def stUnpinned : Nat := 0x0024
def stFilter : Nat := 0x0025
def stLink : Nat := 0x0026
def stOverlap : Nat := 0x0027
def stSleep : Nat := 0x0028
def stFaulted : Nat := 0x0030
def stPoisoned : Nat := 0x0031
def stDeadline : Nat := 0x0032
def stTimeout : Nat := 0x0040
def stHerdVersion : Nat := 0x0050
def stHerdPlan : Nat := 0x0051
def stHerdTime : Nat := 0x0052
def stHerdState : Nat := 0x0053
def stAuthFail : Nat := 0x0060
def stImageBad : Nat := 0x0061

/-! ## Packet fields (Table 4.3) -/

def Cmd.op (k : Cmd) : Nat := numField k.hdr 0 1
def Cmd.flags (k : Cmd) : Nat := numField k.hdr 1 1
def Cmd.tag (k : Cmd) : Nat := numField k.hdr 2 2
def Cmd.len (k : Cmd) : Nat := numField k.hdr 4 2
def Cmd.irqNow (k : Cmd) : Bool := bit k.flags 0
def Cmd.barrier (k : Cmd) : Bool := bit k.flags 1

/-- A parameter field by its packet offset (8 to 63) and size in bytes. -/
def pf (par off size : Nat) : Nat := numField par (off - 8) size

/-- The opcodes of Table 4.9. -/
def opcodes : List Nat :=
  [0x01, 0x02, 0x03, 0x10, 0x11, 0x12, 0x13, 0x14, 0x15, 0x20, 0x21, 0x22, 0x30, 0x31, 0x32, 0x33, 0x40, 0x41, 0x42,
   0x50, 0x51, 0x52, 0x53, 0x60, 0x61, 0x70, 0x71, 0x72, 0x80, 0x81, 0x82, 0x90, 0x91, 0x92, 0x93, 0xA0, 0xA1, 0xA2,
   0xA3, 0xB0, 0xB1]

/-- The "Contexts" column of Table 4.9 (R70): context 0 alone, or a bit of CPX_CTXc_RIGHTS. -/
def State.hasRights (s : State) (c op : Nat) : Bool :=
  c == 0 ||
  (if op ∈ [0x70, 0x71, 0x72, 0x80, 0x82, 0x90, 0x91, 0xA0, 0xA1, 0xA2, 0xA3] then false
   else if op ∈ [0x50, 0x51, 0x52, 0x53] then s.on (F.CPX_CTX_RIGHTS_ACQ c)
   else if op ∈ [0x60, 0x61] then s.on (F.CPX_CTX_RIGHTS_EVP c)
   else if op = 0x93 then s.on (F.CPX_CTX_RIGHTS_HERD c)
   else true)

/-- Opcodes that ABORT cannot end (R85). -/
def unabortable (op : Nat) : Bool := op == 0xB0 || op == 0xB1 || op == 0xA2 || op == 0x91

/-! ## Errors of doorbells -/

/-- A status recorded in FN_CTX_ERR with its queue (R74, R76). -/
def State.ctxErr (s : State) (c status q : Nat) : State :=
  s.wr (R.FN_CTX_ERR c) (status + q * 2 ^ 16 + 2 ^ 31)

/-- A doorbell ignored as an overrun (R74, R75). -/
def State.overrun (s : State) (c q : Nat) : State := (s.ctxErr c stOverrun q).incSat (F.FN_OVR_CNT_OVR c)

/-! ## Completion queues -/

/-- Bytes of a CQ entry by queue type (R72, R302). -/
def Queue.cqEntry (x : Queue) : Nat := if x.typ = 1 then 16 else 32

/-- The device may write entry P (R75). -/
def Queue.room (x : Queue) : Bool := (x.p + 1) % x.cqN != x.e

/-- The memory of a span of the queue's areas: bus addresses for queue 0, pinned DVAs otherwise (R73). -/
def State.queueSegs (s : State) (c : Nat) (x : Queue) (a n need : Nat) : List Seg :=
  if x.phys then [.host a n] else (s.pinned c a n need).getD []

/-- P moves on; the phase inverts at the end of a pass (R77). -/
def Queue.advance (x : Queue) : Queue :=
  if x.p + 1 = x.cqN then { x with p := 0, phase := !x.phase } else { x with p := x.p + 1 }

/-- One CQ entry written at P with its PHASE (R75, R77); the CQ's vector is signalled now, or under COALESCE (R95). -/
def State.cqWrite (s : State) (c q : Nat) (now : Bool) (mk : Bool → Bytes) : State :=
  match s.queue? c q with
  | none => s
  | some x =>
    let segs := s.queueSegs c x (x.cqAddr + x.p * x.cqEntry) x.cqEntry 2
    let s := s.writeSegs (Who.cpx c) segs (clean (mk x.phase))
    let sig := now || decide (x.unsig + 1 ≥ x.coalesce + 1)
    let x := { x.advance with unsig := if sig then 0 else x.unsig + 1,
                              unsigT := if x.unsig = 0 then s.time else x.unsigT }
    let s := s.setQueue c q x
    if sig then s.signal c x.vector else s

/-- A status reply (Table 4.4). -/
def replyBytes (tag status detail t48 q : Nat) (phase : Bool) : Bytes :=
  leBytes 2 tag ++ leBytes 2 status ++ leBytes 4 detail ++ leBytes 6 t48 ++ leBytes 2 (q + 32768 * b2n phase)

/-! ## Command life (R80, R81, Table 4.5) -/

/-- One command of a queue changed. -/
def Queue.onCmd (x : Queue) (seq : Nat) (f : Cmd → Cmd) : Queue :=
  { x with cmds := x.cmds.map (fun k => if k.seq = seq then f k else k) }

/-- The reply of a command written; the command is COMMITTING (R81). -/
def State.postReply (s : State) (c q : Nat) (k : Cmd) (status detail : Nat) : State :=
  (s.cqWrite c q k.irqNow (fun ph => replyBytes k.tag status detail s.t48 q ph)).onQueue c q
    (fun x => x.onCmd k.seq (fun k => { k with phase := .committing }))

/-- The oldest uncommitted command of a queue, when it waits in REPLY_PENDING and the CQ has room, gets its reply. -/
def State.pump (s : State) (c q : Nat) : State :=
  match s.queue? c q with
  | some x =>
    match x.cmds with
    | k :: _ =>
      match k.phase with
      | .replyPending st d => if x.room then s.postReply c q k st d else s
      | _ => s
    | [] => s
  | none => s

/-- A command's result fixed: it goes to REPLY_PENDING and its reply is written when the CQ has room. -/
def State.fixResult (s : State) (c q seq status detail : Nat) : State :=
  (s.onQueue c q (fun x => x.onCmd seq (fun k => { k with phase := .replyPending status detail }))).pump c q

/-- A command that made its timed change (R81). -/
def State.markTimed (s : State) (c q seq : Nat) : State :=
  s.onQueue c q (fun x => x.onCmd seq (fun k => { k with timed := true }))

/-- The uncommitted commands of a local queue, oldest first. -/
def State.queueCmds (s : State) (c q : Nat) : List Cmd :=
  match s.queue? c q with
  | some x => x.cmds
  | none => []

/-- The uncommitted commands of a context with their queues. -/
def State.ctxCmds (s : State) (c : Nat) : List (Nat × Cmd) :=
  (s.ctxQueues c).flatMap (fun p => p.2.cmds.map (fun k => (p.1, k)))

/-- A command may be taken up: it is QUEUED, or waits for something that its own row looks at (R243, R272). -/
def CmdPhase.ready : CmdPhase → Bool
  | .queued | .executing .zeroing | .executing (.descriptors _ _ _) => true
  | _ => false

/-- The command that may start on a queue: its oldest uncommitted one, QUEUED, in an ACTIVE context, past its BARRIER
(R80). -/
def State.startable (s : State) (c q : Nat) : Option (Queue × Cmd) :=
  match s.queue? c q with
  | none => none
  | some x =>
    match x.cmds with
    | [] => none
    | k :: _ =>
      if x.typ = 1 && k.phase.ready && (s.ctx c).phase == .active &&
         (!k.barrier || (s.ctxCmds c).all (fun p => decide (k.seq ≤ p.2.seq))) then some (x, k) else none

/-- What running a command answers: it ends with a status and DETAIL and the state it leaves, it waits, or it
cannot go on yet and nothing changes. -/
inductive CmdOut where
  | done (status detail : Nat) (s : State)
  | wait (w : Wait) (s : State)
  | stay

/-- A refusal: no change (R3). -/
def refuse (s : State) (status : Nat) (detail : Nat := 0) : CmdOut := .done status detail s

/-- Success. -/
def okay (s : State) (detail : Nat := 0) : CmdOut := .done stOk detail s

/-- A plan command that is refused is counted (R68, REFCNT of Table 3.18). -/
def State.countRefusal (s : State) (c op st : Nat) : State :=
  if 0x10 ≤ op && op ≤ 0x15 && st != stOk && st != stAborted then s.incSat (F.CPX_PLN_REFCNT_REFCNT c) else s

/-- A result applied: with room in the CQ the change and the reply come in one step, else nothing changes yet (R81). -/
def State.conclude (s : State) (c q : Nat) (x : Queue) (k : Cmd) : CmdOut → State
  | .done st d s' => if x.room then (s'.countRefusal c k.op st).postReply c q k st d else s
  | .stay => s
  | .wait w s' => s'.onQueue c q (fun x => x.onCmd k.seq (fun k => { k with phase := .executing w }))

/-- The packet checks of R79 that need no parameter table. -/
def Cmd.headerOk (k : Cmd) : Bool :=
  decide (k.len ≤ 56) && decide (k.flags < 4) && numField k.hdr 6 2 == 0

/-- A mask of parameter bytes `off` to `off + n - 1` (packet offsets). -/
def pmask (off n : Nat) : Nat := (2 ^ (8 * n) - 1) * 2 ^ (8 * (off - 8))

/-- A mask of bits `[hi:lo]` of the parameter byte at a packet offset. -/
def pbits (off hi lo : Nat) : Nat := (2 ^ (hi + 1 - lo) - 1) * 2 ^ (8 * (off - 8) + lo)

end Sys2Proof.Machine
end

