-- ==== Sys2Proof/Machine/Migrate.lean ====
section
/-! DEFINITION. Page migration (R276, R277): the pages of a MIGR range move between the host and the range's pool. -/

namespace Sys2Proof.Machine

def State.setRange (s : State) (key : Nat) (r : Range) : State := { s with ranges := tput s.ranges key r }

/-- Bytes of device memory at `[a, a + n)` lie under a segment. -/
def Seg.meets (g : Seg) (a n : Nat) : Bool :=
  match g with
  | .la b m => decide (b < a + n) && decide (a < b + m)
  | _ => false

/-- A descriptor holds a translation to device memory at `[a, a + n)`. -/
def Desc.uses (d : Desc) (a n : Nat) : Bool := (d.src ++ d.dst).any (fun l => l.any (fun g => g.meets a n))

/-- A pool page cannot leave the pool: a running descriptor holds it (R277), or a queue's memory lies in it (R73). -/
def State.poolBusy (s : State) (a : Nat) : Bool :=
  s.queues.any (fun p =>
    p.2.descs.any (fun d => d.phase == .running && d.uses a 4096) ||
    (!p.2.phys &&
      ((s.queueSegs (p.1 / 128) p.2 p.2.sqAddr (p.2.sqN * 64) 1).any (fun g => g.meets a 4096) ||
       (s.queueSegs (p.1 / 128) p.2 p.2.cqAddr (p.2.cqN * 32) 2).any (fun g => g.meets a 4096))))

/-- Translations that descriptors hold to a pool page are made again when its page goes home. -/
def State.dropHeld (s : State) (a : Nat) : State :=
  { s with queues := s.queues.map (fun p => (p.1, { p.2 with descs := p.2.descs.map (fun d =>
      if d.phase == .held && d.uses a 4096 then { d with phase := .fresh, src := [], dst := [], runs := 0 } else d) })) }

/-- A LOCAL page copied back to host memory through the context's SOURCE; its home becomes HOST (R276, R277). -/
def State.migrateOut (s : State) (e : HostEnv) (key page : Nat) : Except Nat Unit × State :=
  match tfind s.ranges key with
  | none => (.error rsnMigration, s)
  | some r =>
    match r.homes.find? (fun h => h.1 == page) with
    | none => (.ok (), s)
    | some h =>
      let hva := s.hva (key / 32) (r.dva + 4096 * page)
      let x := s.sourcePage e (key / 32) hva
      match x.1 with
      | .error y => (.error y, x.2)
      | .ok (g, _, _) =>
        if covers g.rights 2 = false then (.error rsnRights, x.2)
        else
          let d := x.2.readLa (Who.cpx (key / 32)) (r.la + 4096 * h.2) 4096
          let s := (d.2.emit (.hostWrite (g.at hva) (d.1.map (·.1)) (d.1.any (·.2)))).dropHeld (r.la + 4096 * h.2)
          (.ok (), s.setRange key { r with homes := r.homes.filter (fun x => x.1 != page) })

/-- Room made in a range's pool: the page that became LOCAL earliest, of those that can leave, goes home (R276). Reason 0
says that none can leave yet. -/
def State.poolRoom (s : State) (e : HostEnv) (key : Nat) (r : Range) : Except Nat Unit × State :=
  if r.homes.length < r.pool then (.ok (), s)
  else match r.homes.find? (fun h => !s.poolBusy (r.la + 4096 * h.2)) with
    | some h => s.migrateOut e key h.1
    | none => (.error 0, s)

/-- A HOST-homed page copied into a free pool page; its home becomes LOCAL (R276). -/
def State.migrateIn (s : State) (e : HostEnv) (key page : Nat) : Except Nat Unit × State :=
  match tfind s.ranges key with
  | none => (.error rsnMigration, s)
  | some r =>
    if r.homes.any (fun h => h.1 == page) then (.ok (), s)
    else
      let room := s.poolRoom e key r
      match room.1, tfind room.2.ranges key with
      | .ok _, some r =>
        let hva := s.hva (key / 32) (r.dva + 4096 * page)
        let x := room.2.sourcePage e (key / 32) hva
        match x.1 with
        | .error y => (.error y, x.2)
        | .ok (g, _, _) =>
          if e.noResp.any (fun a => a / 4096 == g.at hva / 4096) then (.error rsnMigration, x.2)
          else
            let free := ((rangeFrom 0 r.pool).find? (fun k => !r.homes.any (fun h => h.2 == k))).getD 0
            let s := x.2.writeLa (Who.cpx (key / 32)) (r.la + 4096 * free) (envBytes e (g.at hva) 4096)
            (.ok (), s.setRange key { r with homes := r.homes ++ [(page, free)] })
      | .error y, _ => (.error y, room.2)
      | _, none => (.error rsnMigration, room.2)

/-- The HOST-homed pages of MIGR ranges under a span of DVAs brought in, page by page (R276); each is a migration fault.
The error carries the reason and the DVA. -/
def State.bringIn (s : State) (e : HostEnv) (c d n : Nat) : Except (Nat × Nat) Unit × State :=
  (pageParts d n).foldl (fun acc p =>
    match acc.1 with
    | .error x => (.error x, acc.2)
    | .ok _ =>
      match acc.2.rangeAt c p.1 with
      | some (key, r) =>
        let page := (p.1 - r.dva) / 4096
        if r.kind ≠ 2 || r.revoked || r.homes.any (fun h => h.1 == page) then acc
        else
          let x := acc.2.migrateIn e key page
          match x.1 with
          | .ok _ => (.ok (), x.2.incSat (F.ATU_CTX_FCNT_MIGR c))
          | .error y => (.error (y, p.1), x.2)
      | none => acc) (.ok (), s)

end Sys2Proof.Machine
end

