-- ==== Sys2Proof/Machine/Operands.lean ====
section
/-! DEFINITION. The operand forms of command packets: for each opcode, which parameter bytes and bits its command's table
gives a meaning to under the command's selecting field; every other parameter bit must be zero (R79). -/

namespace Sys2Proof.Machine

/-- The union of masks. -/
def masks (l : List Nat) : Nat := l.foldl (· ||| ·) 0

/-- A mask that counts only when a condition holds. -/
def mwhen (b : Bool) (m : Nat) : Nat := if b then m else 0

/-- The parameter bits that may be non-zero (R79): Tables 3.14, 4.11, 6.6, 7.5B, 8.3, 9.8, 12.4, 13.6, 13.10, 14.2, 15.7,
16.5, 17.9 and 18.4. -/
def paramMask (op par : Nat) : Nat :=
  let a := pf par 8 1
  let b := pf par 9 1
  match op with
  | 0x02 => pmask 8 4
  | 0x03 => pmask 8 1
  | 0x10 => pmask 8 12
  | 0x11 => masks [pmask 8 2, mwhen (b == 1) (pmask 10 1)]
  | 0x12 => masks [pmask 8 2, pmask 16 8]
  | 0x13 => masks [pmask 8 1, pbits 9 0 0]
  | 0x14 => pmask 8 1
  | 0x15 => masks [pmask 8 1, pmask 16 8]
  | 0x20 => masks [pmask 8 16, pbits 24 0 0, mwhen (bit (pf par 24 1) 0) (pmask 25 1)]
  | 0x21 => pmask 8 4
  | 0x22 => pmask 8 12
  | 0x30 => masks [pmask 8 1, pbits 9 2 0, mwhen (a != 0) (pmask 10 1),
      mwhen (a == 2 || a == 3 || (a == 1 && pf par 10 1 == 4)) (pmask 12 4), pmask 16 16]
  | 0x31 => pmask 8 2
  | 0x32 => masks [pmask 8 1, mwhen (a == 1) (pmask 16 16)]
  | 0x33 => masks [pmask 8 3, pmask 16 12]
  | 0x40 => masks [pmask 8 28, mwhen (b == 3) (pmask 36 10), pmask 46 2, mwhen (b == 2) (pmask 48 4)]
  | 0x41 => pmask 8 1
  | 0x42 => pmask 8 12
  | 0x50 => masks [pmask 8 2, mwhen (b == 2) (pmask 10 1), mwhen (b == 4) (pmask 11 1), mwhen (b == 1) (pmask 16 12)]
  | 0x51 => masks [pmask 8 2, mwhen (b == 1) (pmask 16 12)]
  | 0x52 => pmask 16 8
  | 0x53 => masks [pmask 8 1, pmask 12 8, pmask 24 12]
  | 0x60 => masks [pmask 8 2, pmask 16 8, mwhen (b != 0) (pmask 24 4)]
  | 0x61 => masks [pmask 8 2, pmask 16 12]
  | 0x70 => masks [pmask 8 2, mwhen (b == 0) (pmask 10 1), mwhen (b == 2) (pmask 11 1),
      mwhen (b == 0 && pf par 10 1 != 0) (pmask 12 4), mwhen (b == 0) (pmask 16 16)]
  | 0x71 => pmask 8 13
  | 0x72 => masks [pmask 8 2, pmask 16 (min a 16)]
  | 0x80 => masks [pmask 8 2, mwhen (b == 2) (pmask 10 2), pmask 12 12]
  | 0x81 => masks [pmask 8 1, pmask 12 16]
  | 0x82 => pmask 8 2
  | 0x90 => masks [pmask 8 3, pmask 12 4, mwhen (a == 0) (pmask 16 32)]
  | 0x92 => pmask 16 8
  | 0x93 => masks [pmask 8 2, mwhen (a == 0) (masks [pmask 10 1, pbits 11 2 0, pmask 12 2, pmask 16 8])]
  | 0xA0 => masks [pmask 8 16, pbits 24 0 0]
  | 0xA2 => pbits 8 0 0
  | 0xB0 => pmask 8 1
  | 0xB1 => masks [pmask 8 1, pmask 10 2]
  | _ => 0

/-- Every parameter bit that must be zero is zero (R79). -/
def paramOk (op par : Nat) : Bool := par ||| paramMask op par == paramMask op par

end Sys2Proof.Machine
end

