-- ==== Sys2Proof/Machine/Run.lean ====
section
/-! DEFINITION. Running a command (R70, R79, R80, R94, Table 4.5): which packet a row of the command table runs, the checks
that every packet meets in their order, and a command's reads and writes of buffers. -/

namespace Sys2Proof.Machine

/-- The selecting field of an opcode whose rows the command table splits: ACTION, OP or MODE, with its known values. -/
def selector (op par : Nat) : Nat × List Nat :=
  match op with
  | 0x50 => (pf par 9 1, [0, 1, 2, 3, 4])
  | 0x51 => (pf par 9 1, [0, 1, 2])
  | 0x60 => (pf par 9 1, [0, 1, 2])
  | 0x70 => (pf par 9 1, [0, 1, 2])
  | 0x80 => (if pf par 9 1 = 3 then 3 else 0, [0, 3])
  | 0x90 => (pf par 8 1, [0, 1, 2])
  | 0x93 => (pf par 8 1, [0, 1])
  | _ => (0, [0])

/-- A packet belongs to the row of the opcode and selecting value: its opcode is that one and its selecting field names the
row, or no row at all. -/
def Cmd.rowOf (k : Cmd) (op sel : Nat) : Bool :=
  k.op == op && ((selector op k.par).1 == sel || !(selector op k.par).2.contains (selector op k.par).1)

/-- In recovery the ROM serves context 0 queue 0 and six opcodes (R404). -/
def State.recoveryRefuses (s : State) (op : Nat) : Bool :=
  s.on F.KSU_STATUS_RECOVERY && !(op == 0x01 || op == 0x02 || op == 0x03 || op == 0xA0 || op == 0xA1 || op == 0xA2)

/-- The row of an opcode takes the packet that may start on a queue (R80) and runs it: opcode, packet form, rights, then the
command's own checks and work (Table 4.5, R94). A packet that belongs to another row stays. -/
def State.runCmd (s : State) (c q op sel : Nat) (body : Cmd → State → CmdOut) : State :=
  match s.startable c q with
  | none => s
  | some (x, k) =>
    if !opcodes.contains k.op then s.conclude c q x k (refuse s stBadOpcode)
    else if k.rowOf op sel = false then s
    else if k.headerOk = false || paramOk op k.par = false ||
       !(selector op k.par).2.contains (selector op k.par).1 then s.conclude c q x k (refuse s stBadParam)
    else if s.hasRights c op = false then s.conclude c q x k (refuse s stNoRights)
    else if s.recoveryRefuses op then s.conclude c q x k (refuse s stBadState)
    else s.conclude c q x k (body k s)

/-- A command's read of a buffer in one range pinned with right R (R73): its bytes, or ST_REFUSED_UNPINNED, or ST_POISONED
(R251). Pages of a MIGR range come in first (R276); none says that the pool has no room yet. -/
def State.cmdRead (s : State) (e : HostEnv) (c dva n : Nat) : Except (Option Nat) Bytes × State :=
  match s.pinned c dva n 1 with
  | none => (.error (some stUnpinned), s)
  | some _ =>
    let m := s.bringIn e c dva n
    match m.1 with
    | .error x => (.error (if x.1 = 0 then none else some stUnpinned), m.2)
    | .ok _ =>
      let r := m.2.readSegs e (Who.cpx c) ((m.2.pinned c dva n 1).getD [])
      if r.1.any (·.2) then (.error (some stPoisoned), r.2) else (.ok (r.1.map (·.1)), r.2)

/-- A command that works on the bytes it reads. -/
def State.withRead (s : State) (e : HostEnv) (c dva n : Nat) (f : Bytes → State → CmdOut) : CmdOut :=
  match s.cmdRead e c dva n with
  | (.error (some st), s') => refuse s' st
  | (.error none, _) => .stay
  | (.ok b, s') => f b s'

/-- A command that writes a buffer in one range pinned with right W (R73): it works on the segments of the span. -/
def State.withDest (s : State) (e : HostEnv) (c dva n : Nat) (f : List Seg → State → CmdOut) : CmdOut :=
  match s.pinned c dva n 2 with
  | none => refuse s stUnpinned
  | some _ =>
    match s.bringIn e c dva n with
    | (.error x, s') => if x.1 = 0 then .stay else refuse s' stUnpinned
    | (.ok _, s') => f ((s'.pinned c dva n 2).getD []) s'

end Sys2Proof.Machine
end

