-- ==== Sys2Proof/Machine/Lio.lean ====
section
/-! DEFINITION. Line I/O (05_line_io.md): encoders, the forward mark and its loss, line inputs and their marks, reject
outputs with their pending lists. Marks become the window entries of the plans' trigger rules (Table 3.8). -/

namespace Sys2Proof.Machine

def Enc.init : Enc := ⟨false, false, false, 0, 0, 0, none, false, none, 0, 0, []⟩
def LineIn.init : LineIn := ⟨false, 0, none, none, 0⟩
def LineOut.init : LineOut := ⟨[], none⟩

def State.enc (s : State) (n : Nat) : Enc := tget s.encs n Enc.init
def State.setEnc (s : State) (n : Nat) (e : Enc) : State := { s with encs := tput s.encs n e }
def State.lineIn (s : State) (i : Nat) : LineIn := tget s.lineIns i LineIn.init
def State.setLineIn (s : State) (i : Nat) (l : LineIn) : State := { s with lineIns := tput s.lineIns i l }
def State.lineOut (s : State) (j : Nat) : LineOut := tget s.lineOuts j LineOut.init
def State.setLineOut (s : State) (j : Nat) (l : LineOut) : State := { s with lineOuts := tput s.lineOuts j l }

/-- Encoder `n` is in ENC_LOST (R103). -/
def State.encLost (s : State) (n : Nat) : Bool := s.getBit F.LIO_STATUS_LOST n

/-- The pads of the encoders and line inputs are powered: domain F_PADIN (Table 15.1, R119). -/
def State.padIn (s : State) : Bool := s.domOn 33

/-! ## Marks and window entries -/

/-- The entries that a mark makes under a rule (Table 3.8): those whose position HWM has not reached (R102). -/
def ruleEntries (r : Rule) (k tm : Nat) (mark hwm : Int) : List Entry :=
  (rangeFrom 0 r.count).filterMap (fun (j : Nat) =>
    if hwm < mark + r.entryOfs + (j : Int) * r.rep then some ⟨k, j, mark + r.entryOfs + (j : Int) * r.rep, tm⟩ else none)

/-- The rules of a plan with their indices. -/
def PlanImage.ruleIdx (im : PlanImage) : List (Nat × Rule) := (rangeFrom 0 im.rules.length).zip im.rules

/-- The entries that a mark of a source makes in a plan: one list for every rule that listens to it. -/
def PlanImage.markEntries (im : PlanImage) (source idx group tm : Nat) (pos hwm : Int) : List Entry :=
  (im.ruleIdx.filter (fun r => r.2.source == source && r.2.srcIndex == idx && (source != 0 || r.2.group == group))).flatMap
    (fun r => ruleEntries r.2 r.1 tm pos hwm)

/-- A mark of a source given to every plan whose rules listen to it (R60: from ARMED on). `pos` gives the mark's position
on a plan's ENCODER, `tm` the mark's time (R143). -/
def State.mark (s : State) (source idx group tm : Nat) (pos : Nat → Int) : State :=
  let add (p : Plan) : Plan :=
    if p.phase == .armed || p.phase == .running then
      let e := p.img.markEntries source idx group tm (pos p.img.enc) (s.enc p.img.enc).hwm
      { p with entries := p.entries ++ e }
    else p
  { s with plans := s.plans.map (fun kp => (kp.1, add kp.2)) }

/-! ## Outputs -/

/-- The number of entries that a test picks, removed from an output and counted in CANCEL (R114). -/
def State.cancelOutput (s : State) (j : Nat) (p : OutEntry → Bool) : State :=
  let l := s.lineOut j
  let n := (l.pend.filter p).length
  if n = 0 then s else (s.setLineOut j { l with pend := l.pend.filter (fun e => !p e) }).incSat (F.LIO_LO_CNT1_CANCEL j) n

/-- Entries removed from every output (R114). -/
def State.cancelOutputs (s : State) (p : OutEntry → Bool) : State :=
  (rangeFrom 0 16).foldl (fun s j => s.cancelOutput j p) s

/-- Some output holds an entry of a plan (R61). -/
def State.outputsPending (s : State) (c h : Nat) : Bool :=
  (rangeFrom 0 16).any (fun j => (s.lineOut j).pend.any (fun e => e.c == c && e.h == h))

/-- An output pulse is active in the present tick (R112). -/
def State.pulseActive (s : State) (j : Nat) : Bool :=
  match (s.lineOut j).pulseEnd with
  | some e => decide (s.time < e)
  | none => false

/-- What the pad of a line output shows (R109, R119, R414): the boundary register, high impedance, or a level. -/
inductive Pad where
  | boundary
  | floating
  | driven (level : Bool)
  deriving DecidableEq, Repr

def State.loPad (s : State) (j : Nat) : Pad :=
  if s.tapHigh then .boundary
  else if s.domOn 34 = false || s.on (F.LIO_LO_CFG_EN j) = false then .floating
  else .driven (s.on (F.LIO_LO_CFG_POL j) != s.pulseActive j)

/-- A pulse of `len` ticks fired on an output: it starts, or it joins the active one and counts MERGE (R111, R112). -/
def State.firePulse (s : State) (j len : Nat) : State :=
  let l := s.lineOut j
  let e := s.time + 2 + len
  match l.pulseEnd with
  | some e' =>
    if s.time < e' then (s.setLineOut j { l with pulseEnd := some (max e e') }).incSat (F.LIO_LO_CNT1_MERGE j)
    else (s.setLineOut j { l with pulseEnd := some e }).incWrap (F.LIO_LO_FIRED_FIRED j)
  | none => (s.setLineOut j { l with pulseEnd := some e }).incWrap (F.LIO_LO_FIRED_FIRED j)

/-- A pending entry made by a reject rule (R110, R113), treated by LOSS_ACT while its encoder is lost (R103). -/
def State.addOutput (s : State) (j : Nat) (x : OutEntry) : State :=
  if x.pos ≤ (s.enc x.enc).hwm then (s.incSat (F.LIO_LO_CNT0_LATE j)).raiseLio 5
  else if (s.lineOut j).pend.length ≥ 1024 then (s.incSat (F.LIO_LO_CNT0_DROP j)).raiseLio 6
  else
    let l := s.lineOut j
    let act := s.get (F.LIO_ENC_CFG_LOSS_ACT x.enc)
    if s.encLost x.enc && act == 2 then s.incSat (F.LIO_LO_CNT1_CANCEL j)
    else s.setLineOut j { l with pend := insertBy (·.pos) { x with flush := s.encLost x.enc && act == 1 } l.pend }

/-- An entry is due: flushed, or HWM of its encoder has reached its position and the encoder is not lost (R102, R103). -/
def State.entryDue (s : State) (x : OutEntry) : Bool :=
  x.flush || (!s.encLost x.enc && decide (x.pos ≤ (s.enc x.enc).hwm))

/-- OUTPUT_FIRE: the first due entry of an output, in order of position, fires once and is removed (R111). -/
def outputFire (j : Nat) (s : State) : State :=
  let l := s.lineOut j
  match findIdx (s.entryDue ·) 0 l.pend with
  | none => s
  | some k =>
    match l.pend[k]? with
    | none => s
    | some x => (s.setLineOut j { l with pend := l.pend.eraseIdx k }).firePulse j x.pulse

/-- OUTPUT_PULSE_END: the output returns to its inactive level after exactly its ticks (R109). -/
def outputPulseEnd (j : Nat) (s : State) : State :=
  match (s.lineOut j).pulseEnd with
  | some e => if e ≤ s.time then s.setLineOut j { s.lineOut j with pulseEnd := none } else s
  | none => s

/-- LIO_LOj_FORCE written (R115). -/
def loForce (j len : Nat) (s : State) : State :=
  if s.ready && !s.claimed 8 j && decide (1 ≤ len) && decide (len ≤ 1000000) then s.firePulse j len else s

/-! ## Encoders -/

/-- HWM as it stood in a tick of the last 16 beats. -/
def Enc.hwmAt (e : Enc) (t : Nat) : Int :=
  match e.hist.find? (fun p => decide (p.1 ≤ t)) with
  | some p => p.2
  | none => (e.hist.getLast?.map (·.2)).getD e.hwm

/-- The history with a new value, cut where it reaches back more than 16 beats. -/
def Enc.note (e : Enc) (t : Nat) (h : Int) : List (Nat × Int) :=
  if h = e.hwm && e.hist != [] then e.hist
  else
    let old := if e.hist = [] then [(0, e.hwm)] else e.hist
    (t, h) :: old.takeWhile (fun p => decide (t < p.1 + 8001)) ++ (old.dropWhile (fun p => decide (t < p.1 + 8001))).take 1

/-- The forward mark of one encoder in the tick that has begun (R102, R103). -/
def State.encTick (s : State) (n : Nat) : State :=
  let e := s.enc n
  let h := if s.encLost n then e.hwm else max e.hwm e.pos
  s.setEnc n { e with hwm := h, hist := e.note s.time h }

/-- Entry into ENC_LOST (R103, Table 5.1). -/
def State.enterLost (s : State) (n : Nat) : State :=
  let s := (s.putBit F.LIO_STATUS_LOST n true).raiseLio 1
  let s := s.incompleteItems (fun i => match s.plan? i.c i.h with | some p => p.img.enc == n | none => false)
  match s.get (F.LIO_ENC_CFG_LOSS_ACT n) with
  | 1 => (rangeFrom 0 16).foldl (fun s j => s.setLineOut j { s.lineOut j with
      pend := (s.lineOut j).pend.map (fun x => if x.enc = n then { x with flush := true } else x) }) s
  | 2 => s.cancelOutputs (fun x => x.enc == n)
  | _ => s

/-- HWM − POS above BTLIM (R106). -/
def State.backtrack (s : State) (n : Nat) : State :=
  let e := s.enc n
  let beyond := decide ((s.rd (R.LIO_ENC_BTLIM n) : Int) < e.hwm - e.pos)
  let s := if beyond && !e.above then s.raiseLio 3 else s
  s.setEnc n { e with above := beyond }

/-- One valid count up or down (R101, R104, R106). -/
def State.countOne (s : State) (n : Nat) (up : Bool) : State :=
  let e := s.enc n
  let s := if e.dir == some (!up) then s.incSat (F.LIO_ENC_CNT_REVERSALS n) else s
  let q := s.get (F.LIO_ENC_STAT_QLVL n)
  let full := e.valid + 1 ≥ 1024
  let s := if full && decide (0 < q) then s.put (F.LIO_ENC_STAT_QLVL n) (q - 1) else s
  let s := s.setEnc n { e with pos := sint 64 (uint 64 (e.pos + if up then 1 else -1)), dir := some up,
                               valid := if full then 0 else e.valid + 1, lastCount := s.time }
  (s.putBit F.LIO_STATUS_STOPPED n false).backtrack n

/-- A quadrature error (R101, R103). -/
def State.quadError (s : State) (n : Nat) : State :=
  let q := min (s.get (F.LIO_ENC_STAT_QLVL n) + 1) 255
  let s := (s.incSat (F.LIO_ENC_CNT_QERR n)).put (F.LIO_ENC_STAT_QLVL n) q
  let s := s.setEnc n { s.enc n with valid := 0 }
  let lim := s.get (F.LIO_ENC_CFG_QERR_LIM n)
  if decide (0 < lim) && decide (lim ≤ q) then s.enterLost n else s

/-- ENC_COUNT: the decoder samples filtered A and B after the raw level has held for `held` CLK_P cycles (R100, R101). -/
def encCount (n : Nat) (a b : Bool) (held : Nat) (s : State) : State :=
  if s.padIn && decide (s.get (F.LIO_ENC_CFG_FILT n) + 1 ≤ held) then
    let e := s.enc n
    let s := s.setEnc n { e with a := a, b := b }
    if s.on (F.LIO_ENC_CFG_EN n) = false || s.encLost n then s
    else if e.a != a && e.b != b then s.quadError n
    else if e.a == a && e.b == b then s
    else
      let aLeads := if e.a != a then a != b else a == b
      s.countOne n (xor (aLeads == Config.aLeadsUp) (s.on (F.LIO_ENC_CFG_DIR_INV n)))
  else s

/-- ENC_Z_EDGE: a filtered Z edge of polarity Z_POL captures POS and may set a mark (R107). -/
def encZEdge (n : Nat) (z : Bool) (held : Nat) (s : State) : State :=
  if s.padIn && decide (s.get (F.LIO_ENC_CFG_FILT n) + 1 ≤ held) then
    let e := s.enc n
    if e.z == z then s
    else
      let s := s.setEnc n { e with z := z }
      if s.on (F.LIO_ENC_CFG_EN n) && s.on (F.LIO_ENC_CFG_Z_EN n) && (z != s.on (F.LIO_ENC_CFG_Z_POL n)) then
        let s := s.wr (R.LIO_ENC_ZPOS n) (uint 64 e.pos)
        let newer := match e.prevZ with | some p => decide (p < e.pos) | none => true
        if decide (e.hwm ≤ e.pos) && newer then
          (s.setEnc n { e with z := z, prevZ := some e.pos }).mark 2 n 0 (tf64 s.time) (fun _ => e.pos)
        else s
      else s
  else s

/-- WEB_STOPPED: POS has not changed for STOP_US (R104, R107). -/
def webStopped (n : Nat) (s : State) : State :=
  if s.on (F.LIO_ENC_CFG_EN n) && !s.getBit F.LIO_STATUS_STOPPED n &&
     decide ((s.enc n).lastCount + s.get (F.LIO_ENC_STOP_STOP_US n) * 100 ≤ s.time) then
    (s.putBit F.LIO_STATUS_STOPPED n true).raiseLio 0
  else s

/-- LIO_ENCn_CTRL.RELOCK written with 1 (R103). -/
def encRelock (n : Nat) (s : State) : State :=
  if s.ready && s.encLost n then
    let e := s.enc n
    ((s.setEnc n { e with pos := e.hwm, above := false, valid := 0 }).put (F.LIO_ENC_STAT_QLVL n) 0).putBit
      F.LIO_STATUS_LOST n false
  else s

/-- The smallest VMAX of the plans in RUNNING or DRAINING on an encoder (R105). -/
def State.vmaxOf (s : State) (n : Nat) : Option Nat :=
  s.plans.foldl (fun acc kp =>
    if (kp.2.phase == .running || kp.2.phase == .draining) && kp.2.img.enc == n then
      some (match acc with | some v => min v kp.2.img.vmax | none => kp.2.img.vmax) else acc) none

/-- The counts of the beat just ended, against VMAX (R105). -/
def State.encBeat (s : State) (n : Nat) : State :=
  let e := s.enc n
  let d := (e.hwm - e.beatHwm).toNat
  let s := (s.setEnc n { e with beatHwm := e.hwm }).put (F.LIO_ENC_STAT_SPEED n) (min d 65535)
  match s.vmaxOf n with
  | some v => if s.on (F.LIO_ENC_CFG_EN n) && decide (v < d) then s.raiseLio 2 else s
  | none => s

/-! ## Line inputs (R108) -/

/-- An edge captured: its raw time in LIi_LAST, and a SOURCE 1 mark at the HWM of the tick that contains that time. -/
def State.liCapture (s : State) (i t : Nat) (hwms : List Int) : State :=
  let s := (s.wr (R.LIO_LI_LAST i) t).setLineIn i { s.lineIn i with capT := some s.time }
  s.mark 1 i 0 (tf64 t) (fun n => hwms.getD n 0)

/-- HWM of every encoder in a tick. -/
def State.hwmsAt (s : State) (t : Nat) : List Int := (rangeFrom 0 4).map (fun n => (s.enc n).hwmAt t)

/-- An active edge held back for MIN_US becomes a capture when the period has lasted that long. -/
def State.liTick (s : State) (i : Nat) : State :=
  let l := s.lineIn i
  match l.held with
  | some (t, hw) =>
    if l.active && decide (l.since + s.get (F.LIO_LI_CFG_MIN_US i) * 100 ≤ s.time) then
      (s.setLineIn i { l with held := none }).liCapture i t hw
    else s
  | none => s

/-- LI_EDGE: a filtered level change of a line input. `phase` is the CLK_P cycle within the tick. -/
def liEdge (i : Nat) (level : Bool) (held phase : Nat) (s : State) : State :=
  let filt := s.get (F.LIO_LI_CFG_FILT i)
  let act := level != s.on (F.LIO_LI_CFG_POL i)
  let l := s.lineIn i
  if s.padIn && decide (filt + 1 ≤ held) && l.active != act then
    let t := (4 * s.time + phase - (filt + 1)) / 4
    let edge := s.get (F.LIO_LI_CFG_EDGE i)
    let hw := s.hwmsAt t
    let min_ := s.get (F.LIO_LI_CFG_MIN_US i) * 100
    if act then
      let s := s.setLineIn i { l with active := true, since := t, held := none }
      if edge == 0 || edge == 2 then
        if min_ = 0 then s.liCapture i t hw
        else s.setLineIn i { l with active := true, since := t, held := some (t, hw) }
      else s
    else
      let s := s.setLineIn i { l with active := false, held := none }
      if s.getBit F.LIO_STATUS_STUCK i then s.putBit F.LIO_STATUS_STUCK i false
      else if t < l.since + min_ then s.setLineIn i { s.lineIn i with short := l.short + 1 }
      else
        let s := match l.held with | some (t', hw') => s.liCapture i t' hw' | none => s
        if edge == 1 || edge == 2 then s.liCapture i t hw else s
  else s

/-- A write that changes POL turns the input's state over: no edge is captured, and a period that begins by it begins now. -/
def State.liTurn (s : State) (i : Nat) : State :=
  let l := s.lineIn i
  (s.setLineIn i { l with active := !l.active, since := s.time, held := none }).putBit F.LIO_STATUS_STUCK i false

/-- LI_STUCK: an active period longer than MAX_MS. -/
def liStuck (i : Nat) (s : State) : State :=
  let m := s.get (F.LIO_LI_CFG_MAX_MS i)
  let l := s.lineIn i
  if l.active && decide (0 < m) && decide (l.since + m * 100000 < s.time) && !s.getBit F.LIO_STATUS_STUCK i then
    ((s.putBit F.LIO_STATUS_STUCK i true).setLineIn i { l with held := none }).raiseLio 4
  else s

end Sys2Proof.Machine
end

