-- ==== Sys2Proof/Machine/Activity.lean ====
section
/-! DEFINITION. Planned work common to every unit (03_plans.md, 11_memory.md): which activity a command names and whether
it is due, the banks and buffers it uses (R47, R268), its reads and writes, and the domains its claims need (R30). -/

namespace Sys2Proof.Machine

/-! ## Claims, banks and domains -/

/-- Q, the cycle generations that can have items in flight (R47). -/
def PlanImage.q (im : PlanImage) : Nat := im.lat / im.cyc + 2

/-- The banks of a bank set, in claim order (Table 3.4). -/
def PlanImage.setBanks (im : PlanImage) (set : Nat) : List Nat :=
  (im.claims.filter (fun k => k.kind == 4 && k.p0 == set && k.p0 != 0)).flatMap (fun k => rangeFrom k.first k.count)

/-- The bank of a set that an item uses: number s × Q + (n mod Q) (R47). -/
def PlanImage.itemBank (im : PlanImage) (set : Nat) (i : Item) : Option Nat :=
  match i.slot with
  | some (sl, n) => (im.setBanks set)[sl * im.q + n % im.q]?
  | none => none

/-- The physical engine within its die that carries a logical engine (R14, R218). -/
def State.physOf (s : State) (k : Nat) : Nat := s.get (F.TINE_MAP_PHYS (k / 15) (k % 15))

/-- The domain of a bank (Table 15.1). -/
def bankDomain (b : Nat) : Nat :=
  if b < 0x40 then 25 else if b < 0x80 then 26 else if b < 0x100 then 27
  else if b < 0x200 then 37 + (b - 0x100) / 16
  else if b < 0x2C0 then 58 + (b - 0x200) / 32
  else if b < 0x400 then 66 + (b - 0x300) / 16
  else if b < 0x4C0 then 87 + (b - 0x400) / 32
  else 0

/-- The domains of one resource of a claim kind (Tables 3.4 and 15.1). -/
def State.resDomains (s : State) (kind n : Nat) : List Nat :=
  match kind with
  | 1 => [37 + 29 * (n / 15) + s.physOf n]
  | 2 => [53 + 29 * (n / 4) + n % 4]
  | 3 => [57 + 29 * (n / 2)]
  | 4 => [bankDomain n]
  | 5 => [6]
  | 6 => [11 + n / 256]
  | 8 => [34]
  | 9 => [34]
  | 11 => [17 + n]
  | 12 => [28, 27, 29 + n]
  | 13 => [33]
  | 14 => [7 + n]
  | _ => []

/-- The domains of a claim. -/
def State.claimDomains (s : State) (k : Claim) : List Nat :=
  (rangeFrom k.first k.count).flatMap (s.resDomains k.kind)

/-! ## Which activity, and when -/

/-- What an activity command names: the plan (RUNNING or DRAINING), the record, and the item it serves for an item
record. Items without a slot run no record (R59). -/
structure Act where
  run : RecRun
  plan : Plan
  rcd : Rec
  item : Option Item

/-- The class descriptor of a class. -/
def PlanImage.classOf (im : PlanImage) (k : Nat) : Option ClassD := im.classes.find? (fun d => d.cls == k)

/-- The activity that a command names, if the device has it. -/
def State.act? (s : State) (r : RecRun) : Option Act :=
  match s.plan? r.c r.h with
  | none => none
  | some p =>
    if p.phase != .running && p.phase != .draining then none
    else if r.item then
      match p.img.itemRecs[r.idx]?, s.item? r.c r.n with
      | some k, some i =>
        match p.img.classOf i.cls with
        | some d =>
          if i.h == r.h && i.slot.isSome && decide (d.recFirst ≤ r.idx) && decide (r.idx < d.recFirst + d.recCount) then
            some ⟨r, p, k, some i⟩ else none
        | none => none
      | _, _ => none
    else
      match p.img.cycRecs[r.idx]? with
      | some k => some ⟨r, p, k, none⟩
      | none => none

/-- The beat in which the activity starts: b + BEAT, or A + n × C + BEAT (Table 3.5). -/
def Act.start (a : Act) : Nat :=
  match a.item with
  | some i => i.beat + a.rcd.beat
  | none => a.plan.anchor + a.run.n * a.plan.img.cyc + a.rcd.beat

/-- A cycle record runs from the beat at which its plan goes RUNNING, and in a DRAINING plan only when its beat falls before
stop + L (R63). -/
def Act.allowed (a : Act) : Bool :=
  a.item.isSome || (decide (a.plan.start + a.rcd.beat ≤ a.start) &&
    (a.plan.phase == .running || decide (a.start < a.plan.stop + a.plan.img.lat)))

/-- The activity has run already. -/
def Act.ran (a : Act) : Bool :=
  match a.item with
  | some i => i.ran.contains a.run.idx
  | none => a.plan.cycRan.contains (a.run.idx, a.run.n)

/-- An activity of a kind that has not run, within its span in the present beat. -/
def State.due? (s : State) (r : RecRun) (kind : Nat) : Option Act :=
  match s.act? r with
  | some a =>
    if a.rcd.kind == kind && !a.ran && a.allowed && decide (a.start ≤ s.beat) && decide (s.beat < a.start + a.rcd.span)
    then some a else none
  | none => none

/-- The activity is marked as run. -/
def State.markRan (s : State) (r : RecRun) : State :=
  if r.item then s.mapItems (fun i => i.c == r.c && i.id == r.n) (fun i => { i with ran := r.idx :: i.ran })
  else s.onPlan r.c r.h (fun p => { p with cycRan := ((r.idx, r.n) :: p.cycRan).filter (fun x => decide (r.n ≤ x.2 + 1)) })

/-- The item that an activity serves; a cycle record serves none (R47). -/
def Act.serves (a : Act) (i : Item) : Bool :=
  match a.item with
  | some x => i.c == a.run.c && i.id == x.id
  | none => false

/-- Every item an activity serves receives FAULTED. -/
def State.faultAct (s : State) (a : Act) : State := s.faultItems a.serves

/-- Every item an activity serves receives INCOMPLETE. -/
def State.incompleteAct (s : State) (a : Act) : State := s.incompleteItems a.serves

/-- Every domain that the record's claims need is ON, on its functional clock (R30). -/
def State.actDomains (s : State) (a : Act) : Bool :=
  ((a.plan.img.recClaims a.rcd).flatMap s.claimDomains).all s.domWorks

/-- The units a record claims of a kind. -/
def Act.units (a : Act) (kind : Nat) : List Nat :=
  ((a.plan.img.recClaims a.rcd).filter (fun k => k.kind == kind)).flatMap (fun k => rangeFrom k.first k.count)

/-- An activity at work on an item of a context, as an error record names it (Table 11.4). -/
def Act.who (a : Act) (unit : Nat) : Who := ⟨unit, a.run.c, true, match a.item with | some i => i.id | none => 0⟩

/-! ## Buffers of planned work -/

/-- A buffer operand of a record: bytes of memory with their length, and whether its range is REVOKED (R269). -/
structure Buf where
  segs : List Seg
  len : Nat
  revoked : Bool
  rights : Nat

/-- An operand: BUFFERS index, or 0x8000 + bank-set ID, or 0xFFFF for none (Table 3.5). An item record reaches the item's
own bank of a set (R47). -/
def State.buf? (s : State) (c : Nat) (im : PlanImage) (item : Option Item) (op : Nat) : Option Buf :=
  if op = 0xFFFF then none
  else if op ≥ 0x8000 then
    match item with
    | some i => (im.itemBank (op - 0x8000) i).map (fun b => ⟨[.la (bankLa b) 0x20000], 0x20000, false, 7⟩)
    | none => none
  else
    match im.bufs[op]? with
    | none => none
    | some b =>
      match s.rangeById c b.rangeId with
      | none => none
      | some (_, r) => some ⟨r.segs b.offset b.length, b.length, r.revoked, r.rights⟩

def State.actBuf (s : State) (a : Act) (op : Nat) : Option Buf := s.buf? a.run.c a.plan.img a.item op

/-- A planned read of segments: banks and LPDDR5X under ECC (the owner of the beat reads them, R241); a planned read of
the host or of a remote window has no place here and returns poison (R287). -/
def State.planRead (s : State) (who : Who) (l : List Seg) : List PByte × State :=
  l.foldl (fun acc g =>
    match g with
    | .la a n => let r := acc.2.readLa who a n; (acc.1 ++ r.1, r.2)
    | .host _ n => (acc.1 ++ poisonBytes n, acc.2)
    | .remote _ _ n => (acc.1 ++ poisonBytes n, acc.2)) ([], s)

/-- Bytes up to the end of the last granule in LPDDR5X: a planned write there covers whole granules, with zeros (R247). -/
def padGranule (a : Nat) (d : List PByte) : List PByte :=
  if a ≥ 0x100000000 then d ++ clean (List.replicate ((64 - (a + d.length) % 64) % 64) 0) else d

/-- A planned write into segments (R290); `pad` completes what goes to device memory. -/
def State.writeWith (s : State) (pad : Nat → List PByte → List PByte) (who : Who) : List Seg → List PByte → State
  | [], _ => s
  | .host b n :: t, d =>
    State.writeWith (if d = [] then s else s.emit (.hostWrite b ((d.take n).map (·.1)) ((d.take n).any (·.2)))) pad who t (d.drop n)
  | .la a n :: t, d => State.writeWith (if d = [] then s else s.writeLa who a (pad a (d.take n))) pad who t (d.drop n)
  | .remote _ _ n :: t, d => State.writeWith s pad who t (d.drop n)

/-- A planned write of whole granules (R247). -/
def State.planWrite (s : State) (who : Who) (l : List Seg) (d : List PByte) : State := s.writeWith padGranule who l d

/-- A span of a segment list cut out. -/
def cutSegs : List Seg → Nat → Nat → List Seg
  | [], _, _ => []
  | g :: t, off, n =>
    let l := match g with | .host _ l => l | .la _ l => l | .remote _ _ l => l
    if n = 0 then []
    else if l ≤ off then cutSegs t (off - l) n
    else
      let k := min n (l - off)
      (match g with | .host b _ => .host (b + off) k | .la a _ => .la (a + off) k | .remote i o _ => .remote i (o + off) k)
        :: cutSegs t 0 (n - k)

/-- The first bytes of an operand as an activity reads them; a REVOKED range reads poison (R269). -/
def State.readBuf (s : State) (who : Who) (b : Buf) (off n : Nat) : List PByte × State :=
  if b.revoked then (poisonBytes n, s) else s.planRead who (cutSegs b.segs off n)

/-- Bytes written into an operand; through a REVOKED range they are dropped (R269). -/
def State.writeBuf (s : State) (who : Who) (b : Buf) (off : Nat) (d : List PByte) : State :=
  if b.revoked then s else s.planWrite who (cutSegs b.segs off d.length) d

/-- Bytes of one line of a MOVE, whose granules have been prepared. -/
def State.writeLine (s : State) (who : Who) (b : Buf) (off : Nat) (d : List PByte) : State :=
  if b.revoked then s else s.writeWith (fun _ d => d) who (cutSegs b.segs off d.length) d

/-- The LPDDR5X spans among segments. -/
def dramParts (l : List Seg) : List (Nat × Nat) :=
  l.filterMap (fun g => match g with | .la a n => if 0x100000000 ≤ a then some (a, n) else none | _ => none)

/-- A transfer writes the granules of LPDDR5X that its spans touch whole (R247): no error stays in their words. -/
def State.cleanGranules (s : State) (b : Buf) (spans : List (Int × Nat)) : State :=
  if b.revoked then s else spans.foldl (fun s p =>
    let lo := p.1.toNat / 64 * 64
    (dramParts (cutSegs b.segs lo (ceilDiv (p.1.toNat + p.2) 64 * 64 - lo))).foldl (fun s g =>
      { s with ecc := s.ecc.filter (fun w => decide (w.1 < g.1) || decide (g.1 + g.2 ≤ w.1)) }) s) s

/-- The gaps that follow spans within the granules they end in; the spans in order of address, `hi` the end so far. -/
def tailGaps : Nat → List (Nat × Nat) → List (Nat × Nat)
  | hi, [] => [(hi, ceilDiv hi 64 * 64 - hi)]
  | hi, (a, n) :: t =>
    if a ≤ hi then tailGaps (max hi (a + n)) t else (hi, min (ceilDiv hi 64 * 64) a - hi) :: tailGaps (a + n) t

/-- The bytes that follow the data of a transfer in a granule of LPDDR5X are zero (R247). -/
def State.zeroTails (s : State) (b : Buf) (spans : List (Int × Nat)) : State :=
  if b.revoked then s else
  (tailGaps 0 ((sortBy (fun p => p.1) spans).map (fun p => (p.1.toNat, p.2)))).foldl (fun s g =>
    (dramParts (cutSegs b.segs g.1 g.2)).foldl (fun s x => { s with mem := memClear s.mem x.1 x.2 }) s) s

/-- Poison was consumed, or a REVOKED range was used: the served items receive FAULTED (R251, R269). -/
def State.consume (s : State) (a : Act) (bad : Bool) : State := if bad then s.faultAct a else s

end Sys2Proof.Machine
end

