-- ==== Sys2Proof/Machine/Evp.lean ====
section
/-! DEFINITION. Event sensor ports and the event processor (06_events.md), with the sensor mappers of the time base
(02_time.md, R40 to R46). -/

namespace Sys2Proof.Machine

def Mapper.init : Mapper := ⟨0, 0, 0, 0, 0, none, [], [], false, 0⟩
def EvpPort.init : EvpPort := ⟨0, [], false, false, false, 0, 0, [], [], 0, false, Mapper.init⟩

def State.port (s : State) (p : Nat) : EvpPort := tget s.ports p EvpPort.init
def State.setPort (s : State) (p : Nat) (x : EvpPort) : State := { s with ports := tput s.ports p x }
def State.setMapper (s : State) (p : Nat) (m : Mapper) : State := s.setPort p { s.port p with mapper := m }

/-- The port is enabled. -/
def State.portOn (s : State) (p : Nat) : Bool := s.getBit F.EVP_STATUS_EN p

/-- The port's mapper is LOCKED. -/
def State.locked (s : State) (p : Nat) : Bool := s.get (F.CLK_SMAP_STATE_STATE p) == 2

/-- A port counter, by the index of Table 6.13. -/
def State.evpCount (s : State) (p k : Nat) (n : Nat := 1) : State := s.incSat (F.EVP_P_CNT_N p k) n

/-! ## The configuration block (Tables 6.7 to 6.10) -/

def EvpPort.flag (x : EvpPort) (hi lo : Nat) : Nat := bits (numField x.blk 0 4) hi lo
def EvpPort.width (x : EvpPort) : Nat := numField x.blk 4 2
def EvpPort.height (x : EvpPort) : Nat := numField x.blk 6 2
def EvpPort.dropAct (x : EvpPort) : Bool := x.flag 3 3 == 1
def EvpPort.baSame (x : EvpPort) : Bool := x.flag 4 4 == 1
def EvpPort.unit (x : EvpPort) : Nat := 2 ^ x.flag 6 5
def EvpPort.baUs (x : EvpPort) : Nat := numField x.blk 0xC 2
def EvpPort.arc (x : EvpPort) (k : Nat) : Nat := numField x.blk (0x10 + k) 1
def EvpPort.coef (x : EvpPort) (k : Nat) : Int := sint 32 (numField x.blk (0x18 + 4 * k) 4)
def EvpPort.acrossMin (x : EvpPort) : Int := sint 32 (numField x.blk 0x30 4)
def EvpPort.acrossMax (x : EvpPort) : Int := sint 32 (numField x.blk 0x34 4)
def EvpPort.roi (x : EvpPort) (k e : Nat) : Nat := numField x.blk (0x40 + 8 * k + 2 * e) 2
def EvpPort.grp (x : EvpPort) (g off size : Nat) : Nat := numField x.blk (0xC0 + 32 * g + off) size
def EvpPort.profile (x : EvpPort) (k : Nat) : Nat := numField x.blk (0x2C0 + 16 * k) 16

/-- Along-web coordinate s of a pixel position given in 1/16 pixel, in 2^-20 counts (Table 6.8). -/
def EvpPort.along (x : EvpPort) (px py : Int) : Int := x.coef 0 * px + x.coef 1 * py + x.coef 4 * 2 ^ 20

/-- Across-web coordinate z of a pixel, in 2^-16 µm (Table 6.8). -/
def EvpPort.across (x : EvpPort) (px py : Nat) : Int := x.coef 2 * px + x.coef 3 * py + x.coef 5 * 2 ^ 16

/-- A pixel lies in a rectangle of four 16-bit corners; an inverted rectangle holds none (Tables 6.7, 6.9). -/
def inRect (x0 y0 x1 y1 x y : Nat) : Bool := decide (x0 ≤ x) && decide (x ≤ x1) && decide (y0 ≤ y) && decide (y ≤ y1)

def EvpPort.inRoi (p : EvpPort) (x y : Nat) : Bool :=
  (rangeFrom 0 16).any (fun k => inRect (p.roi k 0) (p.roi k 1) (p.roi k 2) (p.roi k 3) x y)

def EvpPort.inSeed (p : EvpPort) (g x y : Nat) : Bool :=
  inRect (p.grp g 0 2) (p.grp g 2 2) (p.grp g 4 2) (p.grp g 6 2) x y

/-- A group is enabled: SX1 ≥ SX0 (Table 6.9). -/
def EvpPort.groupOn (p : EvpPort) (g : Nat) : Bool := decide (p.grp g 0 2 ≤ p.grp g 4 2)

/-- Bytes of a block that Tables 6.7 to 6.10 name no field for. -/
def blkReserved : List (Nat × Nat) :=
  [(0xB, 1), (0xE, 2), (0x16, 2), (0x39, 7), (0x3C0, 64)] ++
  (rangeFrom 0 16).map (fun g => (0xC0 + 32 * g + 0x17, 9)) ++ (rangeFrom 0 16).map (fun k => (0x2C0 + 16 * k + 3, 1))

def within (v lo hi : Nat) : Bool := decide (lo ≤ v) && decide (v ≤ hi)

/-- Every group and profile of a block lies in the ranges of Tables 6.9 and 6.10; a disabled group is not tested. -/
def tablesOk (x : EvpPort) : Bool :=
  (rangeFrom 0 16).all (fun g => !x.groupOn g ||
    (decide (1 ≤ x.grp g 0xC 4) && within (x.grp g 0x10 1) 1 15 && within (x.grp g 0x11 1) 2 15 &&
     decide (1 ≤ x.grp g 0x12 2) && within (x.grp g 0x14 2) 1 256 && decide (x.grp g 0x16 1 ≤ 1))) &&
  (rangeFrom 0 16).all (fun k =>
    let q := x.profile k
    q == 0 || (within (numField q 0 1) 1 64 && within (numField q 1 1) 1 64 && decide (numField q 2 1 ≤ 15) &&
      within (numField q 4 2) 1 4096 && decide (1 ≤ numField q 6 2)))

/-- A block whose fields lie in the ranges of Table 6.7 with every reserved byte and bit zero (R147). -/
def blockOk (x : EvpPort) : Bool :=
  blkReserved.all (fun r => numField x.blk r.1 r.2 == 0) &&
  x.flag 1 0 != 3 && x.flag 7 7 == 0 && x.flag 15 10 == 0 && x.flag 31 24 == 0 &&
  within x.width 1 1280 && within x.height 1 800 && within (numField x.blk 8 2) 80 2500 &&
  decide (numField x.blk 0xA 1 < 32) && decide (x.baUs ≤ 32767) &&
  within (x.arc 0) 1 15 && within (x.arc 1) 1 15 && decide (x.arc 0 ≤ x.arc 1) &&
  within (x.arc 2) 1 19 && within (x.arc 3) 1 19 && decide (x.arc 2 ≤ x.arc 3) &&
  within (numField x.blk 0x14 1) 6 25 && decide (1 ≤ numField x.blk 0x15 1) &&
  decide (x.acrossMin < x.acrossMax) && within (numField x.blk 0x38 1) 1 16 && tablesOk x

/-! ## The time surface (R129 to R131) -/

def surfKey (p x y pol : Nat) : Nat := ((p * 800 + y) * 1280 + x) * 2 + pol

/-- Local address of a pixel's two cells: the ports' regions follow one another from bank 0x080, rows of 1,280 pixels. -/
def surfLa (p x y : Nat) : Nat := bankLa 0x80 + p * 4096000 + (y * 1280 + x) * 4

/-- A surface cell; a poisoned word reads as empty cells (R251). -/
def State.cell (s : State) (p x y pol : Nat) : Nat :=
  if s.poisonedAt (surfLa p x y) then 0xFFFE
  else tget s.surface (surfKey p x y pol) (if (s.port p).cleared then 0xFFFE else 0)

def State.setCell (s : State) (p x y pol v : Nat) : State := { s with surface := tput s.surface (surfKey p x y pol) v }

/-- A pixel is masked: both cells hold 0xFFFF (R129). -/
def State.masked (s : State) (p x y : Nat) : Bool := s.cell p x y 0 == 0xFFFF && s.cell p x y 1 == 0xFFFF

/-- The surface value of a time (R131). -/
def surfTime (unit : Nat) (t : Int) : Nat := (t.toNat / (100 * unit)) % 65534

/-- Age of a cell in units; none when it is masked, empty, or older than the exact span (R131). -/
def cellAge (now v : Nat) : Option Nat :=
  if v ≥ 0xFFFE then none
  else let a := (now + 65534 - v) % 65534; if a < 32768 then some a else none

/-- Every unmasked cell of a port set to empty (R145, R147). -/
def State.clearSurface (s : State) (p : Nat) : State :=
  let lo := surfKey p 0 0 0
  let hi := surfKey (p + 1) 0 0 0
  let kept := s.surface.filter (fun e => decide (e.1 < lo) || decide (hi ≤ e.1) || e.2 == 0xFFFF)
  { s with surface := kept }.setPort p { s.port p with cleared := true }

/-! ## Items that need a port -/

/-- The port that an EVP_PATCH record's item is built on: the lowest claimed one whose across range holds the whole range
of the item's area (R140). -/
def State.patchPort (s : State) (im : PlanImage) (k : Rec) (j : Nat) : Option Nat :=
  let ports := ((im.recClaims k).filter (fun c => c.kind == 12)).flatMap (fun c => rangeFrom c.first c.count)
  (sortBy (fun (n : Nat) => (n : Int)) ports).find? (fun n =>
    let x := s.port n
    let q := x.profile (bits k.op0 7 4)
    let z := sint 32 (numField q 8 4) + (j : Int) * sint 32 (numField q 12 4)
    decide (x.acrossMin ≤ z) && decide (z + (numField q 1 1 * numField q 6 2 : Nat) ≤ x.acrossMax))

/-- An item's patch building or trigger window needs port `p` and reaches past tick `t` (R45). -/
def State.itemNeeds (s : State) (p t : Nat) (i : Item) : Bool :=
  match s.plan? i.c i.h with
  | none => false
  | some pl =>
    match pl.img.classOf i.cls with
    | none => false
    | some d =>
      ((pl.img.itemRecs.drop d.recFirst).take d.recCount).any (fun k =>
        k.kind == 6 && decide (t < (i.beat + k.beat + k.span) * 500) &&
        (if bits k.op0 0 0 = 0 then s.patchPort pl.img k i.j == some p
         else (match pl.img.rules[i.rule]? with
               | some r => r.source == 0 && r.srcIndex == p
               | none => false) || (bits k.op0 8 8 == 1 && bits k.op0 10 9 == p)))

/-- What follows when a port is disabled or leaves LOCKED (R45, R145): items that need it, tracks, builders, surface. -/
def State.portUnlock (s : State) (p : Nat) : State :=
  let good := (s.port p).mapper.good
  let s := s.incompleteItems (fun i => i.slot.isSome && s.itemNeeds p good i)
  let s := s.builders.foldl (fun s b =>
    if b.port = p then s.incompleteItems (fun i => i.c == b.run.c && i.id == b.run.n) else s) s
  let s := s.setPort p { s.port p with tracks := [], prevMark := [] }
  (s.putBit F.EVP_STATUS_LOCKED p false).clearSurface p

/-! ## The mapper (R40 to R46) -/

/-- The device time that a mapping assigns to unwrapped sensor time `x` (R40). -/
def mapTime (off drift : Int) (x : Nat) : Int := off + roundNear ((x : Int) * 100 * (10 ^ 9 - drift)) (10 ^ 9)

/-- The mapping restarted from an observation at sensor time `raw` (Table 2.3). -/
def State.restartMap (s : State) (p raw : Nat) : State :=
  let m := (s.port p).mapper
  let off : Int := (s.time : Int) - 100 * raw
  let s := ((s.put (F.CLK_SMAP_STATE_STATE p) 1).put (F.CLK_SMAP_STATE_GOOD_WIN p) 0)
  let s := (s.wr (R.CLK_SMAP_OFFSET p) (uint 64 off)).wr (R.CLK_SMAP_DRIFT p) 0
  s.setMapper p { m with s := raw, raw := raw, tick := s.time, good := s.time, win := raw, least := some (0, raw, s.time),
                         mins := [], maps := [(0, off, 0)], restart := false }

/-- A DESYNC condition: a LOCKED port enters DESYNC, an ACQUIRING one starts over (R43, Table 2.3). -/
def State.desync (s : State) (p reason : Nat) : State :=
  if s.locked p then
    let s := (s.put (F.CLK_SMAP_STATE_STATE p) 3).put (F.CLK_SMAP_STATE_REASON p) reason
    (s.incSat (F.CLK_SMAP_CNT_DESYNC_CNT p)).portUnlock p
  else
    let s := s.put (F.CLK_SMAP_STATE_GOOD_WIN p) 0
    s.setMapper p { (s.port p).mapper with restart := true }

/-- Unwrapped sensor time of a raw value; none for a decrease that is no wrap (R42). -/
def unwrap (x rawOld raw : Nat) : Option Nat :=
  if rawOld ≤ raw then some (x + (raw - rawOld))
  else if rawOld - raw > 2 ^ 33 then some (x + (2 ^ 34 + raw - rawOld)) else none

/-- The mapping that holds in the present window. -/
def State.mapNow (s : State) (p : Nat) : Int × Int :=
  (sint 64 (s.rd (R.CLK_SMAP_OFFSET p)), sint 32 (s.rd (R.CLK_SMAP_DRIFT p)))

/-- A TIME_HIGH word gives the mapper an observation (R40, R42, R43, Table 2.3). -/
def State.observe (s : State) (p th : Nat) : State :=
  let raw := th * 32
  let st := s.get (F.CLK_SMAP_STATE_STATE p)
  let m := (s.port p).mapper
  if st = 0 || st = 3 || m.restart then s.restartMap p raw
  else match unwrap m.s m.raw raw with
    | none => (s.setMapper p { m with tick := s.time, raw := raw }).desync p 1
    | some x =>
      let f := s.mapNow p
      let o : Int := (s.time : Int) - mapTime f.1 f.2 x
      if o > 2000 || o < -2000 then (s.setMapper p { m with tick := s.time, s := x, raw := raw }).desync p 1
      else
        let least := match m.least with
          | some l => if o < l.1 then some (o, x, s.time) else some l
          | none => some (o, x, s.time)
        s.setMapper p { m with s := x, raw := raw, tick := s.time, good := s.time, least := least }

/-- The least-squares slope through points (sensor time, device time), as numerator and denominator. -/
def fitSlope (l : List (Nat × Nat)) : Int × Int :=
  let n : Int := l.length
  let sx : Int := l.foldl (fun a p => a + p.1) 0
  let sy : Int := l.foldl (fun a p => a + p.2) 0
  let sxy : Int := l.foldl (fun a p => a + (p.1 : Int) * p.2) 0
  let sxx : Int := l.foldl (fun a p => a + (p.1 : Int) * p.1) 0
  (n * sxy - sx * sy, n * sxx - sx * sx)

/-- DRIFT of a slope in ticks per µs, in units of 10^-9 (R40: the slope is 100 × (1 − DRIFT)). -/
def driftOf (f : Int × Int) : Int :=
  if f.2 ≤ 0 then 0 else 10 ^ 9 - roundNear (f.1 * 10 ^ 7) f.2.toNat

/-- MAPPER_WINDOW_CLOSE: a window of 1,024 sensor µs closes (R40, R43, R46). -/
def mapperWindowClose (p : Nat) (s : State) : State :=
  let m := (s.port p).mapper
  let st := s.get (F.CLK_SMAP_STATE_STATE p)
  if (st = 1 || st = 2) && !m.restart && decide (m.win + 992 ≤ m.s) then
    match m.least with
    | none => s
    | some (_, x, t) =>
      let mins := ((x, t) :: m.mins).take 16
      let d := driftOf (fitSlope mins)
      let off : Int := (t : Int) - mapTime 0 d x
      let s := (s.wr (R.CLK_SMAP_OFFSET p) (uint 64 off)).wr (R.CLK_SMAP_DRIFT p) (uint 32 d)
      let s := s.setMapper p { m with mins := mins, least := none, win := m.win + 1024, maps := ((m.win + 1024, off, d) :: m.maps).take 4 }
      if d > 200000 || d < -200000 then s.desync p 2
      else if st = 1 then
        let g := min 16 (s.get (F.CLK_SMAP_STATE_GOOD_WIN p) + 1)
        let s := s.put (F.CLK_SMAP_STATE_GOOD_WIN p) g
        if g = 16 then (s.put (F.CLK_SMAP_STATE_STATE p) 2).putBit F.EVP_STATUS_LOCKED p true else s
      else s
  else s

/-- MAPPER_SILENT: no TIME_HIGH word for 1,024 µs of device time (R43). -/
def mapperSilent (p : Nat) (s : State) : State :=
  let m := (s.port p).mapper
  let st := s.get (F.CLK_SMAP_STATE_STATE p)
  if (st = 1 || st = 2) && decide (m.tick + 102400 ≤ s.time) then
    (s.setMapper p { m with tick := s.time }).desync p 3
  else s

/-! ## The receiver (R120 to R127) -/

/-- A word enters the FIFO with the GAP bit due (R126, R127). -/
def State.pushWord (s : State) (p w : Nat) : State :=
  let x := s.port p
  let n := x.fifo.length + 1
  let s := s.setPort p { x with fifo := x.fifo ++ [(w, x.gap)], gap := false }
  (s.put (F.EVP_P_FIFO_LEVEL p) n).put (F.EVP_P_FIFO_MAXK p) (max (s.get (F.EVP_P_FIFO_MAXK p)) (n / 4))

/-- A word dropped as BAD_WORD. -/
def State.badWord (s : State) (p : Nat) : State := (s.evpCount p 2).raiseEvp 2

/-- One payload word (Table 6.2). -/
def State.csiWord (s : State) (p w : Nat) : State :=
  let x := s.port p
  if w < 2 ^ 31 then
    if bits w 2 0 ≠ 0 || x.seenTh = false || x.crcWait then s.badWord p
    else if bits w 29 19 ≥ x.width || bits w 18 8 ≥ x.height then s.evpCount p 1
    else if x.fifo.length ≥ 64512 then ((s.evpCount p 0).raiseEvp 0).setPort p { x with gap := true }
    else (s.incWrap (F.EVP_P_IN_IN p)).pushWord p w
  else match bits w 31 29 with
    | 4 => ((s.setPort p { x with seenTh := true, crcWait := false }).observe p (bits w 28 0)).pushWord p w
    | 5 =>
      let s := s.wr (R.EVP_P_PSTAT p) w
      if bits w 28 25 = 1 then
        ((s.evpCount p 13 (bits w 24 0)).raiseEvp 7).setPort p { x with gap := true }
      else s
    | 6 => s.badWord p
    | _ => s

/-- The 32-bit words of a payload. -/
def payloadWords : Nat → Bytes → List Nat
  | 0, _ => []
  | n + 1, b => leNat (b.take 4) :: payloadWords n (b.drop 4)

/-- CSI2_LONG_PACKET (R121, R122). -/
def csiLong (p : Nat) (k : CsiPacket) (s : State) : State :=
  if s.portOn p && s.domOn (29 + p) then
    let x := s.port p
    let s := if k.ecc = 1 then s.evpCount p 5 else s
    if k.ecc ≥ 2 || k.vc ≠ x.flag 9 8 || k.dt < 0x30 || 0x38 ≤ k.dt || bit (x.flag 23 16) (k.dt - 0x30) = false ||
       k.payload.length % 4 ≠ 0 then s.evpCount p 3
    else if k.crcOk = false then ((s.evpCount p 4).raiseEvp 1).setPort p { x with crcWait := true, gap := true }
    else (payloadWords (k.payload.length / 4) k.payload).foldl (fun s w => s.csiWord p w) s
  else s

/-- CSI2_SHORT_PACKET: accepted and ignored; a corrected header is counted (R120, R121). -/
def csiShort (p : Nat) (k : CsiPacket) (s : State) : State :=
  if s.portOn p && s.domOn (29 + p) && k.ecc == 1 then s.evpCount p 5 else s

/-- DPHY_STATE_CHANGE: what the port's lanes do, as EVP_Pn_PHY and EVP_STATUS.HS show it (R120, Table 6.13). -/
def dphyState (p st lanes : Nat) (deskew : Bool) (s : State) : State :=
  if s.domOn (29 + p) then
    let s := (s.put (F.EVP_P_PHY_STATE p) st).put (F.EVP_P_PHY_LANES p) lanes
    (s.put (F.EVP_P_PHY_DESKEW p) (b2n deskew)).putBit F.EVP_STATUS_HS p (st == 2)
  else s

/-! ## The pipeline (R128 to R135) -/

/-- Offsets of the Bresenham circles of radius 3 and 4. -/
def circle3 : List (Int × Int) :=
  [(0, 3), (1, 3), (2, 2), (3, 1), (3, 0), (3, -1), (2, -2), (1, -3), (0, -3), (-1, -3), (-2, -2), (-3, -1), (-3, 0),
   (-3, 1), (-2, 2), (-1, 3)]
def circle4 : List (Int × Int) :=
  [(0, 4), (1, 4), (2, 3), (3, 2), (4, 1), (4, 0), (4, -1), (3, -2), (2, -3), (1, -4), (0, -4), (-1, -4), (-2, -3),
   (-3, -2), (-4, -1), (-4, 0), (-4, 1), (-3, 2), (-2, 3), (-1, 4)]

/-- Ages of cells at offsets around a pixel, on one polarity. -/
def State.agesAt (s : State) (p x y pol now : Nat) (l : List (Int × Int)) : List (Option Nat) :=
  l.map (fun d => cellAge now (s.cell p ((x : Int) + d.1).toNat ((y : Int) + d.2).toNat pol))

/-- The cells of a run from `i` of length `n` around a circle, and the others. -/
def arcSplit (l : List (Option Nat)) (i n : Nat) : List (Option Nat) × List (Option Nat) :=
  let r := l.drop i ++ l.take i
  (r.take n, r.drop n)

/-- All cells of the run hold a time and are younger than every other non-empty cell (R132). -/
def arcRun (l : List (Option Nat)) (i n : Nat) : Bool :=
  let r := arcSplit l i n
  r.1.all (fun a => match a with
    | none => false
    | some v => r.2.all (fun b => match b with | none => true | some w => decide (v < w)))

/-- The longest run (R132). -/
def longestArc (l : List (Option Nat)) : Nat :=
  maxNat ((rangeFrom 1 l.length).filter (fun n => (rangeFrom 0 l.length).any (fun i => arcRun l i n)))

/-- The arc test of R132. -/
def State.isCorner (s : State) (p x y pol now : Nat) : Bool :=
  let q := s.port p
  decide (4 ≤ x) && decide (4 ≤ y) && decide (x + 4 < q.width) && decide (y + 4 < q.height) &&
  within (longestArc (s.agesAt p x y pol now circle3)) (q.arc 0) (q.arc 1) &&
  within (longestArc (s.agesAt p x y pol now circle4)) (q.arc 2) (q.arc 3)

/-- Offsets of the 5 × 5 window. -/
def window5 : List (Int × Int) :=
  (rangeFrom 0 5).flatMap (fun (i : Nat) => (rangeFrom 0 5).map (fun (j : Nat) => ((i : Int) - 2, (j : Int) - 2)))

/-- Determinant of a symmetric 3 × 3 system's matrix given by rows. -/
def det3 (a b c d e f g h i : Int) : Int := a * (e * i - f * h) - b * (d * i - f * g) + c * (d * h - e * g)

/-- Flow magnitude of an event, as floor(4 × pixels per ms) (R133, R139): the plane fit over the non-empty cells of the
window, exact. A plane with no slope has no stated magnitude and draws a free value. -/
def State.flowOf (s : State) (p x y pol now : Nat) : Nat × State :=
  let q := s.port p
  let pts := window5.filterMap (fun d =>
    let px := (x : Int) + d.1
    let py := (y : Int) + d.2
    if px < 0 || py < 0 || (q.width : Int) ≤ px || (q.height : Int) ≤ py then none
    else (cellAge now (s.cell p px.toNat py.toNat pol)).map (fun a => (d.1, d.2, -((a : Nat) : Int))))
  let n : Int := pts.length
  if pts.length < max 1 (numField q.blk 0x14 1) then (0, s)
  else
    let sum (f : Int × Int × Int → Int) : Int := pts.foldl (fun a t => a + f t) 0
    let sx := sum (fun t => t.1)
    let sy := sum (fun t => t.2.1)
    let st := sum (fun t => t.2.2)
    let sxx := sum (fun t => t.1 * t.1)
    let sxy := sum (fun t => t.1 * t.2.1)
    let syy := sum (fun t => t.2.1 * t.2.1)
    let sxt := sum (fun t => t.1 * t.2.2)
    let syt := sum (fun t => t.2.1 * t.2.2)
    let d := det3 sxx sxy sx sxy syy sy sx sy n
    if d = 0 then (0, s)
    else
      let a := det3 sxt sxy sx syt syy sy st sy n
      let b := det3 sxx sxt sx sxy syt sy sx st n
      let c := det3 sxx sxy sxt sxy syy syt sx sy st
      let res := sum (fun t => let r := a * t.1 + b * t.2.1 + c - d * t.2.2; r * r)
      let maxr : Int := numField q.blk 0x15 1
      if n * maxr * maxr * d * d < res then (0, s)
      else
        let m := (a * a + b * b).toNat
        if m = 0 then s.draw
        else ((16000000 * (d * d).toNat / (m * q.unit * q.unit)).sqrt, s)

/-- The velocity of a source as a ratio in counts per tick; none when FLOW is not valid (R136). -/
def State.velocity (s : State) (vsrc fport enc : Nat) : Option (Int × Nat) :=
  if vsrc = 0 then
    let e := s.enc enc
    some (e.hwm - e.hwmAt (s.time - 8000), 8000)
  else if s.on (F.EVP_P_VFLOW_VALID fport) then some (sint 32 (s.get (F.EVP_P_VFLOW_V fport)), 65536) else none

/-- The position on an encoder of a mark made at `tc`, in 1/8,192 tick (R135 point 2). -/
def State.markPos (s : State) (tc enc : Nat) : Int :=
  match s.velocity 0 0 enc with
  | some v => (s.enc enc).hwm - roundNear (v.1 * ((s.time : Int) * 8192 - (tc : Int))) (v.2 * 8192)
  | none => 0

/-- A mark of a group (R135 points 2 to 4), on each plan's own ENCODER; `tc` in 1/8,192 tick. -/
def State.makeMark (s : State) (p g : Nat) (tc : Nat) : State :=
  let x := s.port p
  let posOn := s.markPos tc
  let encs : List Nat := (s.plans.filter (fun kp => (kp.2.phase == .armed || kp.2.phase == .running) &&
      kp.2.img.rules.any (fun r => r.source == 0 && r.srcIndex == p && r.group == g))).map (fun kp => kp.2.img.enc)
  let m : Int := posOn (encs.headD 0)
  let keep := match tfind x.prevMark g with
    | some m0 => decide (m0 + (x.grp g 0xC 4 : Nat) ≤ m)
    | none => true
  if keep = false then s.evpCount p 11
  else
    let s := (s.evpCount p 10).setPort p { x with prevMark := tput x.prevMark g m }
    let s := (s.wr (R.EVP_P_MARKPOS p) (uint 64 m)).wr (R.EVP_P_MARKT p) (tc % 2 ^ 64)
    let missed := sumNat (s.plans.map (fun kp =>
      if kp.2.phase == .armed || kp.2.phase == .running then
        sumNat ((kp.2.img.rules.filter (fun r => r.source == 0 && r.srcIndex == p && r.group == g)).map (fun r =>
          ((rangeFrom 0 r.count).filter (fun (j : Nat) =>
            decide (posOn kp.2.img.enc + r.entryOfs + (j : Int) * r.rep ≤ (s.enc kp.2.img.enc).hwm))).length))
      else 0))
    let s := if missed = 0 then s else (s.evpCount p 12 missed).raiseEvp 4
    s.mark 0 p g (tc % 2 ^ 64) posOn

/-- Predicted position of a track at a mapped time, in 1/16 pixel (R134). -/
def Track.at (k : Track) (t : Int) : Int × Int :=
  (k.x + Config.quant (k.vx * (t - k.tLast)) 400000, k.y + Config.quant (k.vy * (t - k.tLast)) 400000)

/-- Squared distance of a corner from a track's predicted position, in (1/16 pixel)². -/
def Track.dist (k : Track) (t : Int) (x y : Nat) : Int :=
  let q := k.at t
  (16 * (x : Int) - q.1) * (16 * (x : Int) - q.1) + (16 * (y : Int) - q.2) * (16 * (y : Int) - q.2)

/-- The counts of tracks shown in EVP_Pn_TRK. -/
def State.showTracks (s : State) (p : Nat) : State :=
  let l := (s.port p).tracks
  (s.put (F.EVP_P_TRK_ACTIVE p) (l.filter (fun k => decide (2 ≤ k.2.st))).length).put (F.EVP_P_TRK_TENT p)
    (l.filter (fun k => k.2.st == 1)).length

def State.setTrack (s : State) (p m : Nat) (k : Track) : State :=
  (s.setPort p { s.port p with tracks := tput (s.port p).tracks m k }).showTracks p

def State.freeTrack (s : State) (p m : Nat) : State :=
  (s.setPort p { s.port p with tracks := tdel (s.port p).tracks m }).showTracks p

/-- The nearest track within its group's GATE; on equal distance the lower index (R134 point 1). -/
def nearestTrack (x : EvpPort) (t : Int) (px py : Nat) : Option (Nat × Track) :=
  x.tracks.foldl (fun best k =>
    let d := k.2.dist t px py
    let g : Int := 16 * (x.grp k.2.group 0x10 1 : Nat)
    if g * g < d then best
    else match best with
      | none => some k
      | some b => if d < b.2.dist t px py then some k else best) none

/-- A corner reaches the tracker (R134, R135, Table 6.4). -/
def State.corner (s : State) (p x y : Nat) (t : Int) : State :=
  let q := s.port p
  match nearestTrack q t x y with
  | some (m, k) =>
    let pr := k.at t
    let rx := 16 * (x : Int) - pr.1
    let ry := 16 * (y : Int) - pr.2
    let k' : Track := { k with
      x := pr.1 + Config.quant rx 4, y := pr.2 + Config.quant ry 4,
      vx := k.vx + Config.quant (rx * 25000) (t - k.tLast), vy := k.vy + Config.quant (ry * 25000) (t - k.tLast),
      hits := min 255 (k.hits + 1), tLast := t, since := s.time,
      st := if k.st = 1 then (if k.hits + 1 ≥ q.grp k.group 0x11 1 then 2 else 1) else 2 }
    let s := s.setTrack p m k'
    if k.st ≥ 2 && s.locked p then
      let s0 := q.along k.x k.y
      let s1 := q.along k'.x k'.y
      let ms : Int := sint 32 (q.grp k.group 8 4) * 2 ^ 20
      let crossed := if q.grp k.group 0x16 1 = 0 then decide (s0 < ms) && decide (ms ≤ s1)
                     else decide (ms < s0) && decide (s1 ≤ ms)
      if crossed then
        let num := (t - k.tLast) * 8192 * (ms - s0)
        let tc := k.tLast * 8192 + (if s0 ≤ s1 then roundNear num (s1 - s0).toNat else roundNear (-num) (s0 - s1).toNat)
        s.makeMark p k.group tc.toNat
      else s
    else s
  | none =>
    match (rangeFrom 0 16).find? (fun g => q.groupOn g && q.inSeed g x y) with
    | none => s
    | some g =>
      if (q.tracks.filter (fun k => k.2.group == g)).length ≥ q.grp g 0x14 2 then s
      else match (rangeFrom 0 256).find? (fun m => (tfind q.tracks m).isNone) with
        | none => (s.evpCount p 9).raiseEvp 3
        | some m => s.setTrack p m ⟨1, g, 1, 16 * (x : Int), 16 * (y : Int), 0, 0, t, s.time⟩

/-- An event falls into the accumulator of a builder (R138, R139). -/
def Builder.take (b : Builder) (q : EvpPort) (x y pol : Nat) (t : Int) (flow : Nat) : Builder :=
  let vt := roundNear (b.vNum * (t - b.t0) * 65536) b.vDen
  let w := b.p0 * 65536 + vt - (q.coef 0 * x + q.coef 1 * y + q.coef 4 * 65536)
  let i := (w - (b.pos + b.w0) * 65536) / ((numField b.prof 4 2 : Int) * 65536)
  let z := q.across x y - (sint 32 (numField b.prof 8 4) + (b.j : Int) * sint 32 (numField b.prof 12 4)) * 65536
  let k := z / ((numField b.prof 6 2 : Int) * 65536)
  if i < 0 || k < 0 || (numField b.prof 0 1 : Int) ≤ i || (numField b.prof 1 1 : Int) ≤ k then b
  else
    let n := i.toNat * numField b.prof 1 1 + k.toNat
    let c := (tfind b.cells n).getD ⟨0, 0, t, 0⟩
    { b with cells := tput b.cells n ⟨if pol = 1 then min 127 (c.pos + 1) else c.pos,
        if pol = 0 then min 127 (c.neg + 1) else c.neg, max c.tLast t, max c.flow (min 127 flow)⟩ }

/-- The activity filter (R130). -/
def State.baPass (s : State) (p x y pol now : Nat) : Bool :=
  let q := s.port p
  q.baUs == 0 ||
  ([(-1, -1), (0, -1), (1, -1), (-1, 0), (1, 0), (-1, 1), (0, 1), (1, 1)] : List (Int × Int)).any (fun d =>
    let px := (x : Int) + d.1
    let py := (y : Int) + d.2
    decide (0 ≤ px) && decide (0 ≤ py) && decide (px < q.width) && decide (py < q.height) &&
    !s.masked p px.toNat py.toNat &&
    ((if q.baSame then [pol] else [0, 1]).any (fun l =>
      match cellAge now (s.cell p px.toNat py.toNat l) with | some a => decide (a < q.baUs) | none => false)))

/-- An unmasked event of a LOCKED port in the pipeline (R129 to R135, R138, R251). -/
def State.pipeline (s : State) (p x y pol : Nat) (t : Int) : State :=
  let q := s.port p
  let now := surfTime q.unit t
  let pass := s.baPass p x y pol now
  let s := if s.poisonedAt (surfLa p x y) then
      s.builders.foldl (fun s b => if b.port = p then s.faultItems (fun i => i.c == b.run.c && i.id == b.run.n) else s) s
    else s
  let s := s.setCell p x y pol now
  if pass = false then s.evpCount p 7
  else
    let roi := q.inRoi x y
    let f := if roi then s.flowOf p x y pol now else (0, s)
    let s := f.2
    let bs := s.builders.map (fun b => if b.port = p && decide (s.beat < b.last) then b.take q x y pol t f.1 else b)
    let s := { s with builders := bs }
    if roi && s.isCorner p x y pol now then (s.evpCount p 8).corner p x y t else s

/-- EVENT_PROCESS: a word leaves the FIFO (R127 to R129, R41, R142). -/
def eventProcess (p : Nat) (s : State) : State :=
  let x := s.port p
  match x.fifo with
  | [] => s
  | (w, gap) :: rest =>
    let s := (s.setPort p { x with fifo := rest }).put (F.EVP_P_FIFO_LEVEL p) rest.length
    let s := if gap && x.dropAct then s.builders.foldl (fun s b =>
        if b.port = p then (s.evpCount p 14).incompleteItems (fun i => i.c == b.run.c && i.id == b.run.n) else s) s else s
    if w ≥ 2 ^ 31 then
      let raw := bits w 28 0 * 32
      s.setPort p { s.port p with exitS := (unwrap x.exitS x.exitRaw raw).getD raw, exitRaw := raw }
    else
      let sens := x.exitS + bits w 7 3
      let s := s.setPort p { s.port p with rate := x.rate + 1 }
      if s.locked p = false then s
      else
        let f := ((x.mapper.maps.find? (fun k => decide (k.1 ≤ sens))).map (·.2)).getD (s.mapNow p)
        let t := max x.mapper.lastEv (mapTime f.1 f.2 sens)
        let s := s.setMapper p { (s.port p).mapper with lastEv := t }
        let px := bits w 29 19
        let py := bits w 18 8
        if s.masked p px py then s.evpCount p 6 else s.pipeline p px py (bits w 30 30) t

/-- TRACK_COAST_TIMEOUT: no association for COAST_US (Table 6.4). -/
def trackCoast (p m : Nat) (s : State) : State :=
  let q := s.port p
  match tfind q.tracks m with
  | none => s
  | some k =>
    if decide (k.since + q.grp k.group 0x12 2 * 100 ≤ s.time) then
      if k.st = 2 then
        let t : Int := s.time
        let pos := k.at t
        s.setTrack p m { k with st := 3, since := s.time, x := pos.1, y := pos.2, tLast := t }
      else s.freeTrack p m
    else s

/-- TRACK_LEAVES_FRAME: the predicted position leaves the frame (Table 6.4). -/
def trackLeaves (p m : Nat) (s : State) : State :=
  let q := s.port p
  match tfind q.tracks m with
  | none => s
  | some k =>
    let pos := k.at s.time
    if k.st ≥ 2 && (decide (pos.1 < 0) || decide (pos.2 < 0) || decide (16 * (q.width : Int) ≤ pos.1) ||
        decide (16 * (q.height : Int) ≤ pos.2)) then s.freeTrack p m
    else s

/-- SURFACE_SWEEP: the sweeper visits a pixel (R131); a poisoned word is rewritten as empty cells, its mask lost (R251). -/
def surfaceSweep (p x y : Nat) (s : State) : State :=
  if s.portOn p then
    let la := surfLa p x y
    if s.poisonedAt la then
      let x0 := x / 2 * 2
      let s := { s with ecc := tdel s.ecc (la / 8 * 8) }
      [(x0, 0), (x0, 1), (x0 + 1, 0), (x0 + 1, 1)].foldl (fun s e => s.setCell p e.1 y e.2 0xFFFE) s
    else
      let now := surfTime (s.port p).unit s.time
      [0, 1].foldl (fun s pol =>
        let v := s.cell p x y pol
        if v < 0xFFFE && (cellAge now v).isNone then s.setCell p x y pol 0xFFFE else s) s
  else s

/-- VFLOW at a beat boundary (R136), and the beat's RATE (Table 6.13). -/
def State.evpBeat (s : State) (p : Nat) : State :=
  let q := s.port p
  let l := q.tracks.filter (fun k => k.2.st == 2 && decide ((s.time : Int) ≤ k.2.tLast + 8000))
  let ok := decide (max 1 (numField q.blk 0x38 1) ≤ l.length) && s.portOn p
  let v := l.foldl (fun a k => a + q.coef 0 * k.2.vx + q.coef 1 * k.2.vy) (0 : Int)
  let s := if ok then (s.put (F.EVP_P_VFLOW_V p) (uint 32 (roundNear v (l.length * 6400000)))).put (F.EVP_P_VFLOW_VALID p) 1
           else s.put (F.EVP_P_VFLOW_VALID p) 0
  (s.put (F.EVP_P_RATE_RATE p) (min q.rate 0xFFFFF)).setPort p { s.port p with rate := 0 }

/-! ## Patch builders (R138 to R142) -/

/-- A patch's bytes, HWC (R139). -/
def Builder.bytes (b : Builder) : Bytes :=
  let n := numField b.prof 0 1 * numField b.prof 1 1
  (rangeFrom 0 n).flatMap (fun k =>
    match tfind b.cells k with
    | none => [0, 0, BitVec.ofNat 8 128, 0]
    | some c =>
      let d := (c.tLast - b.t0) / (2 ^ numField b.prof 2 1 : Nat)
      [BitVec.ofNat 8 c.pos, BitVec.ofNat 8 c.neg, BitVec.ofNat 8 (min 127 (max 0 d)).toNat, BitVec.ofNat 8 c.flow])

/-- The first tick of a patch record's beat (R138, R140, R142). -/
def State.patchStart (s : State) (a : Act) (i : Item) : State :=
  match s.patchPort a.plan.img a.rcd i.j with
  | none => ((s.incSat F.EVP_NOPORT_NOPORT).raiseEvp 6 |>.incompleteAct a).markRan a.run
  | some p =>
    match s.velocity (bits a.rcd.op0 8 8) (bits a.rcd.op0 10 9) a.plan.img.enc with
    | none => (s.incompleteAct a).markRan a.run
    | some v =>
      if v.1 ≤ 0 then (s.incompleteAct a).markRan a.run
      else
        let s := if s.locked p then s else s.incompleteAct a
        let b : Builder := {
          run := a.run, port := p,
          slot := ((rangeFrom 0 16).find? (fun k => !s.builders.any (fun b => b.port == p && b.slot == k))).getD 15,
          t0 := s.time, p0 := (s.enc a.plan.img.enc).hwm, vNum := v.1,
          vDen := v.2, prof := (s.port p).profile (bits a.rcd.op0 7 4), pos := i.pos, j := i.j,
          w0 := sint 32 a.rcd.op1, last := a.start + a.rcd.span - 1, cells := [] }
        { s with builders := s.builders ++ [b] }

/-- EVP_PATCH: in its first beat the record starts a builder, in its last beat the builder writes the patch (R138,
R139). -/
def evpPatch (r : RecRun) (s : State) : State :=
  match s.due? r 6 with
  | none => s
  | some a =>
    match a.item with
    | none => s
    | some i =>
      if bits a.rcd.op0 0 0 ≠ 0 then s
      else if s.actDomains a = false then (s.faultAct a).markRan r
      else match s.builders.find? (fun b => b.run == r) with
        | none => if s.beat = a.start then s.patchStart a i else s
        | some b =>
          if s.beat ≠ b.last then s
          else
            let s := { s with builders := s.builders.filter (fun x => x.run != r) }
            let s := match s.actBuf a a.rcd.outBuf with
              | none => s
              | some o => (s.writeBuf (a.who (0x4000 + 16 * b.port + b.slot)) o 0 (clean b.bytes)).consume a o.revoked
            (s.evpCount b.port 15).markRan r

/-! ## The predictive trigger (R143, R144) -/

/-- Windows of a line that are issued and have not closed. -/
def FabricWin.meets (w : FabricWin) (line lo hi : Nat) : Bool :=
  w.line == line && decide (w.tf ≤ hi + w.hw * 8192) && decide (lo ≤ w.tf + w.hw * 8192)

/-- A prediction missed (R143, R144). -/
def State.predictMiss (s : State) (a : Act) : State :=
  ((s.incSat F.EVP_PRED_MISS_PRED_MISS).raiseEvp 5).incompleteAct a

/-- The window of a predict-mode record: t_f from the mark, the distance and the velocity, when the web moves forward, the
window lies in the record's span and meets no other of its line (R143, R144). -/
def State.predicted (s : State) (a : Act) (i : Item) (ru : Rule) : Option FabricWin :=
  match s.velocity (bits a.rcd.op0 8 8) (bits a.rcd.op0 10 9) a.plan.img.enc with
  | none => none
  | some v =>
    if v.1 ≤ 0 then none
    else
      let dist := ru.entryOfs + (i.j : Int) * ru.rep + bits a.rcd.op1 31 0
      let tf := (i.markT : Int) + roundNear (dist * v.2 * 8192) v.1.toNat
      let hw := bits a.rcd.op2 19 0
      let line := bits a.rcd.op0 21 16
      let lo := tf - (hw * 8192 : Nat)
      let hi := tf + (hw * 8192 : Nat)
      if lo < ((a.start * 500 + 2) * 8192 : Nat) || (((a.start + a.rcd.span) * 500) * 8192 : Nat) < hi ||
         s.windows.any (fun w => w.meets line lo.toNat hi.toNat) then none
      else some ⟨line, a.run.c, i.id, tf.toNat, hw, false, false⟩

/-- A window issued to the fabric. -/
def State.issueWindow (s : State) (i : Item) (w : FabricWin) : State :=
  let s := (s.incWrap F.EVP_PRED_CNT_ISSUED).wr R.EVP_LASTFIRE (w.tf % 2 ^ 64)
  let s := { s with windows := s.windows ++ [w] }
  s.mapItems (fun x => x.c == i.c && x.id == i.id) (fun x => { x with windowed := true })

/-- A port that the record's mark or velocity comes from is not LOCKED (R145). -/
def State.predictBlind (s : State) (a : Act) (ru : Rule) : Bool :=
  (ru.source == 0 && !s.locked ru.srcIndex) || (bits a.rcd.op0 8 8 == 1 && !s.locked (bits a.rcd.op0 10 9))

/-- EVP_PREDICT: a predict-mode record computes t_f and issues its window, or misses (R143 to R145). -/
def evpPredict (r : RecRun) (s : State) : State :=
  match s.due? r 6 with
  | none => s
  | some a =>
    match a.item with
    | none => s
    | some i =>
      if bits a.rcd.op0 0 0 ≠ 1 || s.beat ≠ a.start then s
      else match a.plan.img.rules[i.rule]? with
        | none => s.markRan r
        | some ru =>
          if s.predictBlind a ru then (s.markRan r).incompleteAct a
          else match s.predicted a i ru with
            | none => (s.markRan r).predictMiss a
            | some w => (s.markRan r).issueWindow i w

end Sys2Proof.Machine
end

