-- ==== Sys2Proof/Machine/Acq.lean ====
section
/-! DEFINITION. Analog acquisition (07_acquisition.md): conditions and trigger times (R154 to R159), holdoff and busy
(R160, R161), segments (R162 to R165), background captures (R166 to R168), ACQ_ARM records (R169 to R172), the fabric's
listeners (R157), STROBE records (R117, R118), the AFE's SPI (R173). -/

namespace Sys2Proof.Machine

def AcqChan.init : AcqChan := ⟨0, none, []⟩
def DfcChan.init : DfcChan := ⟨0, [], 0, 0, 0, [], 0, [], [], 0, [], 0, [], 0, 0, 0, [], false, false⟩

def State.acq (s : State) (n : Nat) : AcqChan := tget s.acqs n AcqChan.init
def State.setAcq (s : State) (n : Nat) (x : AcqChan) : State := { s with acqs := tput s.acqs n x }
def State.dfc (s : State) (n : Nat) : DfcChan := tget s.dfcs n DfcChan.init
def State.setDfc (s : State) (n : Nat) (x : DfcChan) : State := { s with dfcs := tput s.dfcs n x }

/-- Channel state (Table 7.4): PLANNED while a plan claims the channel, else what the register holds. -/
def State.acqState (s : State) (n : Nat) : Nat := if s.claimed 11 n then 6 else s.get (F.ACQ_CH_STATE_STATE n)

def State.setAcqState (s : State) (n v : Nat) : State := s.put (F.ACQ_CH_STATE_STATE n) v

/-- The channel's pair is in pair mode (R152). -/
def State.paired (s : State) (n : Nat) : Bool := s.getBit F.ACQ_STATUS_PAIR (n / 2)

/-- Raw samples per tick, and one raw sample period in TF64 units (R150). -/
def State.rawPerTick (s : State) (n : Nat) : Nat := if s.paired n then 32 else 16
def State.rawPeriod (s : State) (n : Nat) : Nat := if s.paired n then 256 else 512

/-- Calibration state: 0 CONVERGING, 1 TRACKING, 2 FAULT (R153). -/
def State.cal (s : State) (n : Nat) : Nat := s.get (F.ACQ_CH_STATE_CAL n)

def State.setCal (s : State) (n v : Nat) : State :=
  (s.put (F.ACQ_CH_STATE_CAL n) v).putBit F.ACQ_STATUS_TRACKING n (v == 1)

/-! ## Profiles (Table 7.6) -/

def AcqChan.profile (x : AcqChan) (k : Nat) : Nat := numField x.blk (0x40 + 48 * k) 48

def pType (p : Nat) : Nat := bits p 2 0
def pSlope (p : Nat) : Nat := bits p 5 4
def pRel (p : Nat) : Nat := bits p 7 6
def pMode (p : Nat) : Nat := bits (numField p 1 1) 2 0
def pAccum (p : Nat) : Bool := bit (numField p 1 1) 3
def pDfc (p : Nat) : Bool := bit (numField p 1 1) 4
def pHoldKind (p : Nat) : Nat := numField p 2 1
def pMask (p : Nat) : Nat := numField p 3 1
def pLvl (p : Nat) : Int := sint 16 (numField p 4 2)
def pLvl2 (p : Nat) : Int := sint 16 (numField p 6 2)
def pHyst (p : Nat) : Nat := numField p 8 2
def pVal (p : Nat) : Nat := numField p 0xA 1
def pBgSrc (p : Nat) : Nat := bits (numField p 0xB 1) 3 0
def pBgLine (p : Nat) : Nat := bits (numField p 0xB 1) 6 4
def pW1 (p : Nat) : Nat := numField p 0xC 4
def pW2 (p : Nat) : Nat := numField p 0x10 4
def pHold (p : Nat) : Nat := numField p 0x14 4
def pLen (p : Nat) : Nat := numField p 0x18 4
def pPre (p : Nat) : Nat := numField p 0x1C 4
def pDec (p : Nat) : Nat := numField p 0x20 2
def pCount (p : Nat) : Nat := numField p 0x24 4

/-- Values per point: PEAK and ENVELOPE store two (Table 7.2). -/
def pVals (p : Nat) : Nat := if pMode p = 1 || pMode p = 4 then 2 else 1

/-- Bytes per value: 4 with ACCUM, else 2 (R163, R164). -/
def pWide (p : Nat) : Nat := if pAccum p then 4 else 2

/-- Bytes of a segment of `len` points, padded (R165). -/
def segBytes (p len : Nat) : Nat := 64 + ceilDiv (len * pVals p * pWide p) 64 * 64

/-- `x` is a power of two. -/
def isPow2 (x : Nat) : Bool := x != 0 && 2 ^ x.log2 == x

/-- A profile lies in the ranges of Table 7.6 and keeps Table 7.2, R160 and R164 (R174). -/
def profileOk (p : Nat) : Bool :=
  bit p 3 == false && decide (pSlope p ≤ 2) && decide (pRel p ≤ 2) && decide (pType p ≤ 3) && decide (pMode p ≤ 4) &&
  bits (numField p 1 1) 7 5 == 0 && decide (pHoldKind p ≤ 2) && within (numField p 8 2) 0 1023 &&
  decide (pBgSrc p ≤ 7) && bit (numField p 0xB 1) 7 == false &&
  decide (-2048 ≤ pLvl p) && decide (pLvl p ≤ 2047) && decide (-2048 ≤ pLvl2 p) && decide (pLvl2 p ≤ 2047) &&
  (if pHoldKind p = 2 then within (pHold p) 1 65535 else true) &&
  within (pLen p) 64 1048576 && decide (pPre p ≤ pLen p) && within (pDec p) 1 4096 && numField p 0x22 2 == 0 &&
  within (pCount p) 1 65536 && numField p 0x28 8 == 0 &&
  (!pAccum p || pMode p == 0 || pMode p == 2) && (pMode p != 1 || decide (2 ≤ pDec p)) &&
  (pMode p != 2 || isPow2 (pDec p)) && (pAccum p || pMode p == 4 || pCount p == 1) &&
  (!(pType p == 1 || pType p == 3) || decide (pLvl p < pLvl2 p)) &&
  (!(pType p == 2 && pRel p == 2) || decide (pW1 p ≤ pW2 p))

/-! ## Conditions (R154, R155) -/

/-- The crossing of a level between two samples as a fraction of the period, numerator and denominator (R158). -/
def crossAt (v0 v1 lam : Int) : Int × Nat :=
  if v0 < v1 then (lam - v0, (v1 - v0).toNat) else (v0 - lam, max 1 (v0 - v1).toNat)

/-- Samples, newest first from the one before a rising crossing: one lies below `lvl - hyst` since the previous rising
crossing. -/
def armedLow (lvl hyst : Int) : List Int → Bool
  | [] => false
  | [a] => decide (a < lvl - hyst)
  | a :: b :: t =>
    if a < lvl - hyst then true else if b < lvl && decide (lvl ≤ a) then false else armedLow lvl hyst (b :: t)

/-- A rising EDGE at the newest sample. -/
def edgeUp (lvl hyst : Int) : List Int → Option (Int × Nat)
  | v1 :: v0 :: t =>
    if v0 < lvl && decide (lvl ≤ v1) && armedLow lvl hyst (v0 :: t) then some (crossAt v0 v1 lvl) else none
  | _ => none

/-- The rising crossing that opened the pulse above `lvl` to which the newest sample belongs: samples back, and the two
samples around it. `top` ends the search when a sample reaches it. -/
def openedAt (lvl : Int) (top : Option Int) : List Int → Nat → Option (Nat × Int × Int)
  | a :: b :: t, n =>
    if a < lvl || (match top with | some m => decide (m ≤ a) | none => false) then none
    else if b < lvl then some (n, b, a)
    else openedAt lvl top (b :: t) (n + 1)
  | _, _ => none

/-- A pulse above `lvl` that ends at the newest sample: its width in whole samples and the closing crossing. -/
def pulseUp (lvl : Int) (top : Option Int) : List Int → Option (Nat × Int × Nat)
  | v1 :: v0 :: t =>
    if v1 < lvl && decide (lvl ≤ v0) then
      match openedAt lvl top (v0 :: t) 0 with
      | none => none
      | some (n, b, a) =>
        let o := crossAt b a lvl
        let z := crossAt v0 v1 lvl
        let w := (((n : Int) + 1) * o.2 * z.2 + z.1 * o.2 - o.1 * z.2) / ((o.2 * z.2 : Nat) : Int)
        some (w.toNat, z.1, z.2)
    else none
  | _ => none

/-- Either of two outcomes, the first that holds. -/
def either {α : Type} (slope : Nat) (a b : Option α) : Option α :=
  if slope = 0 then a else if slope = 1 then b else match a with | some x => some x | none => b

/-- The analog condition of a profile at the newest of the samples `v` (newest first): the crossing that sets the trigger
time (R154). -/
def analogCross (p : Nat) (v : List Int) : Option (Int × Nat) :=
  let m := v.map (fun x => -x)
  let l := pLvl p
  let l2 := pLvl2 p
  match pType p with
  | 0 => either (pSlope p) (edgeUp l (pHyst p) v) (edgeUp (-l) (pHyst p) m)
  | 1 =>
    match v with
    | v1 :: v0 :: _ =>
      let in_ (x : Int) : Bool := decide (l ≤ x) && decide (x ≤ l2)
      let enter := if !in_ v0 && in_ v1 then some (crossAt v0 v1 (if v0 < l then l else l2)) else none
      let leave := if in_ v0 && !in_ v1 then some (crossAt v0 v1 (if v1 < l then l else l2)) else none
      either (pSlope p) enter leave
    | _ => none
  | 2 =>
    let ok (w : Nat) : Bool := match pRel p with
      | 0 => decide (w < pW1 p)
      | 1 => decide (pW1 p < w)
      | _ => within w (pW1 p) (pW2 p)
    let keep (x : Option (Nat × Int × Nat)) : Option (Int × Nat) :=
      match x with | some (w, a, b) => if ok w then some (a, b) else none | none => none
    either (pSlope p) (keep (pulseUp l none v)) (keep (pulseUp (-l) none m))
  | _ =>
    let drop (x : Option (Nat × Int × Nat)) : Option (Int × Nat) := x.map (fun y => (y.2.1, y.2.2))
    either (pSlope p) (drop (pulseUp l (some l2) v)) (drop (pulseUp (-l2) (some (-l)) m))

/-- A comparator's bit after samples given oldest first, with hysteresis (R155). -/
def hystBit (lvl hyst : Int) : Bool → List Int → Bool
  | b, [] => b
  | b, v :: t => hystBit lvl hyst (if lvl ≤ v then true else if v < lvl - hyst then false else b) t

/-- Every second element, the first kept. -/
def evens {α : Type} : List α → List α
  | a :: _ :: t => a :: evens t
  | l => l

/-- Samples as the converter gives them: saturated to 12 bits (R151). -/
def clip12 (v : Int) : Int := clampInt 12 v

/-- The pattern condition of a profile becomes true at the newest samples: the crossing of the lowest channel whose change
made it true (R155). `xs` gives each channel's samples, oldest first. -/
def State.patternCross (s : State) (p : Nat) (xs : List (List Int)) : Option (Int × Nat) :=
  let samples (n : Nat) : List Int :=
    let l := (xs.getD n []).map clip12
    if s.paired n then evens l else l
  let lvl (n : Nat) : Int := sint 16 (numField (s.acq n).blk 8 2)
  let hyst (n : Nat) : Int := numField (s.acq n).blk 0xA 2
  let bitOf (n : Nat) (l : List Int) : Bool := s.acqState n != 7 && hystBit (lvl n) (hyst n) false l
  let word (f : Nat → Bool) : Nat := sumNat ((rangeFrom 0 8).map (fun n => 2 ^ n * b2n (f n)))
  let now := word (fun n => bitOf n (samples n))
  let was := word (fun n => bitOf n (samples n).dropLast)
  if now &&& pMask p = pVal p && was &&& pMask p ≠ pVal p then
    match (rangeFrom 0 8).find? (fun n => bit (pMask p) n && (bit now n != bit was n)) with
    | none => none
    | some n =>
      match (samples n).reverse with
      | v1 :: v0 :: _ => some (crossAt v0 v1 (if bit now n then lvl n else lvl n - hyst n))
      | _ => none
  else none

/-! ## Trigger time (R158) -/

/-- A time `num / den` placed on a grid of samples at `t0 + j * period` (all TF64): the trigger sample's time, FRAC and the
recorded trigger time. -/
def placeTrigger (t0 period num : Int) (den : Nat) : Int × Nat × Int :=
  let k := -((t0 * den - num) / (period * den))
  let tk := t0 + period * k
  let fr := (256 * (tk * den - num)) / (period * den)
  (tk, fr.toNat, tk - fr * period / 256)

/-! ## The filter chain's grid (R183, R184) -/

def DfcChan.r (x : DfcChan) : Nat := numField x.blk 0 2
def DfcChan.hb (x : DfcChan) : Nat := numField x.blk 2 1
def DfcChan.fd (x : DfcChan) : Nat := numField x.blk 3 1
def DfcChan.ntaps (x : DfcChan) : Nat := numField x.blk 4 2
def DfcChan.sym (x : DfcChan) : Bool := bit (numField x.blk 6 2) 0
def DfcChan.stream (x : DfcChan) : Bool := bit (numField x.blk 6 2) 1
def DfcChan.outSel (x : DfcChan) : Nat := bits (numField x.blk 6 2) 3 2
def DfcChan.refTap (x : DfcChan) : Nat := if x.sym then (x.ntaps - 1) / 2 else numField x.blk 8 2
def DfcChan.d (x : DfcChan) : Nat := x.r * 2 ^ x.hb * x.fd

/-- 2 × DT (R183). -/
def DfcChan.dt2 (x : DfcChan) : Nat :=
  5 * (x.r - 1) + 38 * x.r * b2n (decide (1 ≤ x.hb)) + 76 * x.r * b2n (x.hb == 2) + 2 * x.refTap * x.r * 2 ^ x.hb

/-- W (R184). -/
def DfcChan.span (x : DfcChan) : Nat :=
  5 * (x.r - 1) + 38 * x.r * b2n (decide (1 ≤ x.hb)) + 76 * x.r * b2n (x.hb == 2) + (x.ntaps - 1) * x.r * 2 ^ x.hb + 1

/-- SETTLE (R184). -/
def DfcChan.settle (x : DfcChan) : Nat := ceilDiv x.span (max 1 x.d) - 1

/-- Time of output `k` of the grid anchored at `s0`, TF64 (R183). -/
def DfcChan.time (x : DfcChan) (raw s0 k : Nat) : Int := ((2 * (s0 + (k + 1) * x.d - 1) : Int) - x.dt2) * raw / 2

/-- The sample grid a profile captures on: time of one sample and the period (R162, R186). -/
def State.captureGrid (s : State) (n p : Nat) : Int × Int :=
  if pDfc p then ((s.dfc n).time (s.rawPeriod n) (s.rd (R.DFC_CH_ANCHOR n)) 0, ((s.dfc n).d * s.rawPeriod n : Nat))
  else (0, s.rawPeriod n)

/-! ## Captures -/

def Capture.start (p : Nat) : Capture := ⟨p, none, 0, 0, 0, 0, 0, 0, 0, 0, 0, false, false, [], none, 0, 0, 0⟩

/-- A trigger is ignored by holdoff (R160). -/
def Capture.heldOff (x : Capture) (raw : Nat) (num : Int) (den : Nat) : Bool :=
  match pHoldKind x.prof with
  | 1 => match x.holdT with
    | some a => decide (num < (a + ((pHold x.prof + 1) * raw : Nat)) * den)
    | none => false
  | 2 => decide (0 < x.holdN)
  | _ => false

/-- One of the HOLD events has passed. -/
def Capture.held (x : Capture) : Capture := { x with holdN := x.holdN - 1 }

/-- A trigger accepted on a channel (R158): the record's trigger sample, TRIG and FRAC. -/
def State.takeTrigger (s : State) (n : Nat) (x : Capture) (num : Int) (den : Nat) : Capture × State :=
  let g := s.captureGrid n x.prof
  let pl := placeTrigger g.1 g.2 num den
  let t0 := pl.1 - (pPre x.prof * pDec x.prof : Nat) * g.2
  let settling := pDfc x.prof && decide (t0 < g.1 + (max 1 (s.dfc n).settle : Nat) * g.2)
  let x := { x with
              cur := some pl.1, trig := uint 64 pl.2.2, frac := pl.2.1, holdT := some pl.2.2,
              holdN := if pHoldKind x.prof = 2 then pHold x.prof else 0, next := x.next + 1,
              nocal := x.nocal || s.cal n != 1, discont := x.discont || settling }
  let x := if x.stored = 0 then { x with trig0 := x.trig, frac0 := x.frac, t0 := t0, lo := x.frac, hi := x.frac }
           else { x with lo := min x.lo x.frac, hi := max x.hi x.frac }
  (x, s.wr (R.ACQ_CH_TRIG n) x.trig)

/-- The time after the last input sample of the record in capture. -/
def State.captureEnd (s : State) (n : Nat) (x : Capture) (tk : Int) : Int :=
  tk + ((pLen x.prof - pPre x.prof) * pDec x.prof : Nat) * (s.captureGrid n x.prof).2

/-- Input samples as the recorder takes them, and how many were over-range (R151, R186). -/
def recorderIn (p : Nat) (v : List Int) : List Int × Nat :=
  if pDfc p then (v.map (fun o => clip12 ((clampInt 16 o + 8) / 16)), 0)
  else (v.map clip12, (v.filter (fun x => decide (2047 < x) || decide (x < -2048))).length)

/-- One point of a record from its input samples (Table 7.2). -/
def point (p : Nat) (v : List Int) : List Int :=
  let sum := v.foldl (· + ·) 0
  match pMode p with
  | 1 => [v.foldl min (v.headD 0), v.foldl max (v.headD 0)]
  | 2 => [sum / ((2 ^ ((pDec p).log2 - 4) : Nat) : Int)]
  | 3 => [((256 * (v.foldl (fun a x => a + x * x) 0).toNat / max 1 v.length).sqrt : Nat)]
  | 4 => [v.headD 0, v.headD 0]
  | _ => [v.headD 0]

/-- The points of a record, cut from its input samples. -/
def points (p : Nat) : Nat → List Int → List Int
  | 0, _ => []
  | n + 1, v => point p (v.take (pDec p)) ++ points p n (v.drop (pDec p))

/-- Two records combined at equal point index (R164). -/
def combine (p : Nat) : Nat → List Int → List Int → List Int
  | k, a :: t, b :: u =>
    (if pMode p = 4 then (if k % 2 = 0 then min a b else max a b) else a + b) :: combine p (k + 1) t u
  | _, _, _ => []

/-- A record's samples taken into the segment: `n` points of it. -/
def Capture.store (x : Capture) (n : Nat) (v : List Int) : Capture :=
  let i := recorderIn x.prof v
  let pts := points x.prof n i.1
  { x with cur := none, stored := x.stored + 1, ovr := x.ovr + i.2,
           vals := if x.stored = 0 then pts else combine x.prof 0 x.vals pts }

/-- A segment's bytes: header and data (R165, Table 7.3). -/
def Capture.bytes (x : Capture) (n seq id : Nat) (pair : Bool) (len : Nat) (short valid : Bool) : Bytes :=
  let fl := b2n valid + 2 * b2n (decide (0 < x.ovr)) + 4 * b2n x.discont + 8 * b2n short + 16 * b2n x.nocal + 32 * b2n pair
  let data := (x.vals.take (len * pVals x.prof)).flatMap (fun v => leBytes (pWide x.prof) (uint (8 * pWide x.prof) v))
  leBytes 4 seq ++ leBytes 1 n ++ leBytes 1 (numField x.prof 1 1) ++ leBytes 2 fl ++ leBytes 8 x.trig0 ++ leBytes 4 len ++
  leBytes 4 (pPre x.prof) ++ leBytes 1 x.frac0 ++ leBytes 1 (x.hi - x.lo) ++ leBytes 2 (pDec x.prof) ++
  leBytes 4 x.stored ++ leBytes 4 x.ovr ++ leBytes 4 id ++ leBytes 8 (uint 64 x.t0) ++ leBytes 16 0 ++
  data ++ leBytes (segBytes x.prof len - 64 - data.length) 0

/-- A stored segment's flags counted (R151, R172, R175). -/
def State.segCounts (s : State) (n : Nat) (x : Capture) (short : Bool) : State :=
  let s := if x.ovr = 0 then s else (s.incSat (F.ACQ_CH_CNT2_OVR_SEG n)).raiseAcq 1
  let s := if x.discont then (s.incSat (F.ACQ_CH_CNT2_DISCONT n)).raiseAcq 4 else s
  if short then (s.incSat (F.ACQ_CH_CNT1_SHORT n)).raiseAcq 2 else s

/-! ## Background captures (R166 to R168) -/

def AcqChan.regionLa (x : AcqChan) : Nat := bankLa (numField x.blk 4 1)
def AcqChan.regionLen (x : AcqChan) : Nat := numField x.blk 6 2 * 0x20000
def AcqChan.wrap (x : AcqChan) : Bool := bit (numField x.blk 0 4) 0

/-- Where the next segment goes: after the newest one, or at the region's start when it does not fit there. -/
def AcqChan.nextLa (x : AcqChan) (size : Nat) : Nat :=
  match x.segs.getLast? with
  | none => x.regionLa
  | some (_, o, z) => if o + z + size ≤ x.regionLa + x.regionLen then o + z else x.regionLa

/-- A segment of `size` bytes fits after the previous one (R167). -/
def AcqChan.fits (x : AcqChan) (size : Nat) : Bool :=
  decide (x.segs.length < 65536) &&
  match x.segs.getLast? with
  | none => decide (size ≤ x.regionLen)
  | some (_, o, z) => decide (o + z + size ≤ x.regionLa + x.regionLen)

/-- The oldest segments removed until bytes `[off, off + size)` are free and fewer than 65,536 remain (R167). -/
def dropOld (off size : Nat) : List (Nat × Nat × Nat) → List (Nat × Nat × Nat)
  | [] => []
  | x :: t =>
    let hit (y : Nat × Nat × Nat) : Bool := decide (y.2.1 < off + size) && decide (off < y.2.1 + y.2.2)
    if (x :: t).any hit || 65535 < t.length + 1 then dropOld off size t else x :: t

/-- A complete segment stored (R166, R167): its bytes, SEQ and OLDEST, and the channel's next state. -/
def State.storeSegment (s : State) (n : Nat) (x : Capture) (len : Nat) : State :=
  let a := s.acq n
  let seq := s.get (F.ACQ_CH_SEQ_SEQ n)
  let size := segBytes x.prof len
  let off := a.nextLa size
  let segs := (if a.wrap then dropOld off size a.segs else a.segs) ++ [(seq, off, size)]
  let s := s.writeLa ⟨0x5000 + 4 * n, s.get (F.ACQ_CH_STATE_OWNER n), false, 0⟩ off (clean (x.bytes n seq 0 (s.paired n) len false true))
  let s := s.segCounts n x false
  let y := { Capture.start x.prof with holdT := x.holdT, holdN := x.holdN }
  let a := { a with segs := segs, cap := some y }
  let s := (s.setAcq n a).wr (R.ACQ_CH_SEQ n) (seq + 1)
  let s := s.wr (R.ACQ_CH_OLDEST n) ((segs.head?.map (·.1)).getD (seq + 1))
  if a.wrap || a.fits (segBytes x.prof (pLen x.prof)) then s.setAcqState n 4 else (s.setAcqState n 5).raiseAcq 0

/-- The time of a trigger of a source on a channel, as a TF64 numerator and denominator (Table 7.1). `k` is the index of
the newest sample. -/
def State.trigTime (s : State) (n src k line p : Nat) (xs : List (List Int)) : Option (Int × Nat) :=
  let at_ (per : Nat) (c : Option (Int × Nat)) : Option (Int × Nat) :=
    c.map (fun f => ((((k : Int) - 1) * f.2 + f.1) * per, f.2))
  match src with
  | 0 => at_ (s.rawPeriod n) (analogCross p ((xs.getD n []).map clip12).reverse)
  | 1 => at_ 512 (s.patternCross p xs)
  | 2 => some (tf64 (s.rd (R.LIO_LI_LAST line)), 1)
  | _ => none

/-- A trigger on a background capture (R160, R161, R166, R167). -/
def State.bgTrigger (s : State) (n src k : Nat) (xs : List (List Int)) : State :=
  let a := s.acq n
  match a.cap with
  | none => s
  | some x =>
    if pBgSrc x.prof ≠ src then s
    else match s.trigTime n src k (pBgLine x.prof) x.prof xs with
      | none => s
      | some (num, den) =>
        let st := s.acqState n
        if st = 5 then s.incSat (F.ACQ_CH_CNT1_FULL n)
        else if x.heldOff (s.rawPeriod n) num den then
          (s.setAcq n { a with cap := some x.held }).incSat (F.ACQ_CH_CNT0_HOLDOFF n)
        else if st ≠ 2 then s.incSat (F.ACQ_CH_CNT0_BUSY n)
        else
          let r := s.takeTrigger n x num den
          (r.2.setAcq n { a with cap := some r.1 }).setAcqState n 3

/-! ## Planned captures (R169 to R172) -/

def AcqRun.tsrc (r : AcqRun) : Nat := bits r.op0 14 12
def AcqRun.line (r : AcqRun) : Nat := bits r.op0 21 16
def AcqRun.delay (r : AcqRun) : Nat := bits r.op1 23 0
def AcqRun.period (r : AcqRun) : Nat := bits r.op2 15 0

/-- Start of a tick or beat in TF64. -/
def tickTf (t : Nat) : Int := (t : Int) * 8192

/-- The tick in which HWM reached a position at or after a tick (TSRC 3, R102). -/
def Enc.reached (e : Enc) (pos : Int) (t0 now : Nat) : Option Nat :=
  if e.hwm < pos then none
  else match (e.hist.reverse.find? (fun p => decide (pos ≤ p.2))) with
    | some p => if t0 ≤ p.1 && p.1 ≤ now then some p.1 else none
    | none => none

/-- The time of the next trigger of a record on a channel (R156, R171). -/
def State.runTime (s : State) (r : AcqRun) (n k : Nat) (x : Capture) (xs : List (List Int)) : Option (Int × Nat) :=
  let train (ref : Int) : Option (Int × Nat) :=
    let t := ref + r.delay * 32 + (x.next * r.period : Nat) * 8192
    if t < tickTf (s.time + 1) then some (t, 1) else none
  match r.tsrc with
  | 3 =>
    match s.plan? r.run.c r.run.h with
    | none => none
    | some p => ((s.enc p.img.enc).reached (r.pos + r.delay) (r.start * 500) s.time).map (fun t => (tickTf t, 1))
  | 4 => match r.fire with | some f => train f | none => none
  | 6 => train (tickTf (r.start * 500))
  | 5 => s.trigTime n (if pMask x.prof = 0 then 0 else 1) k 0 x.prof xs
  | t => s.trigTime n t k r.line x.prof xs

/-- A trigger on one recorder of a record. -/
def State.recTrigger (s : State) (r : AcqRun) (n k : Nat) (x : Capture) (xs : List (List Int)) : Capture × State :=
  if x.stored + b2n x.cur.isSome ≥ pCount x.prof && x.cur.isNone then (x, s)
  else match s.runTime r n k x xs with
    | none => (x, s)
    | some (num, den) =>
      let noHold := r.tsrc == 3 || r.tsrc == 4 || r.tsrc == 6
      let g := s.captureGrid n x.prof
      let pl := placeTrigger g.1 g.2 num den
      let armed := r.tsrc != 5 || decide (0 < x.next) ||
        (match r.arm with | some w => decide (w.1 * den ≤ num) && decide (num ≤ w.2 * den) | none => false)
      if num < tickTf (r.start * 500) * den || armed = false || tickTf (r.last * 500) < s.captureEnd n x pl.1 then (x, s)
      else if !noHold && x.heldOff (s.rawPeriod n) num den then (x.held, s.incSat (F.ACQ_CH_CNT0_HOLDOFF n))
      else if x.cur.isSome || num < x.readyT * den then (x, s.incSat (F.ACQ_CH_CNT0_BUSY n))
      else s.takeTrigger n x num den

/-- One record of the list replaced. -/
def State.setAcqRun (s : State) (r : AcqRun) : State :=
  { s with acqRuns := s.acqRuns.map (fun x => if x.run = r.run then r else x) }

/-- The recorder entries of a record with the one of a channel replaced. -/
def AcqRun.setRec (r : AcqRun) (n : Nat) (x : Capture) : AcqRun :=
  { r with recs := r.recs.map (fun e => if e.1 = n then (n, e.2.1, x) else e) }

/-- A trigger given to every record of a source that captures a channel. -/
def State.plannedTrigger (s : State) (n src k : Nat) (xs : List (List Int)) : State :=
  s.acqRuns.foldl (fun s r =>
    if r.tsrc = src then
      match r.recs.find? (fun e => e.1 == n) with
      | some (_, _, x) => let y := s.recTrigger r n k x xs; y.2.setAcqRun (r.setRec n y.1)
      | none => s
    else s) s

/-- ACQ_TRIGGER: a trigger of a source occurs on a channel; `k` is the index of its newest sample, `xs` the samples of the
channels up to it, oldest first. -/
def acqTrigger (n src k : Nat) (xs : List (List Int)) (s : State) : State :=
  if s.domOn (17 + n) = false then s
  else if s.acqState n = 6 then s.plannedTrigger n src k xs
  else s.bgTrigger n src k xs

/-- ACQ_FILL_DONE (Table 7.4). -/
def acqFillDone (n : Nat) (s : State) : State := if s.acqState n = 1 then s.setAcqState n 2 else s

/-- ACQ_REARM_DONE (Table 7.4). -/
def acqRearmDone (n : Nat) (s : State) : State :=
  if s.acqState n = 4 then
    match (s.acq n).cap with
    | some x => s.setAcqState n (if pPre x.prof = 0 then 2 else 1)
    | none => s
  else s

/-- The item's working bank and a channel's place in it: segments in ascending channel order (R170). -/
def AcqRun.offset (r : AcqRun) (n : Nat) : Nat :=
  sumNat ((r.recs.filter (fun e => decide (e.1 < n))).map (fun e => segBytes e.2.2.prof (pLen e.2.2.prof)))

def State.workBank (s : State) (r : AcqRun) : Option Nat :=
  match s.act? r.run with
  | some a => match a.item with
    | some i => a.plan.img.itemBank (a.rcd.inBuf - 0x8000) i
    | none => none
  | none => none

/-- Who writes planned acquisition data (Table 11.5). -/
def AcqRun.who (r : AcqRun) (n : Nat) : Who :=
  ⟨0x5000 + 4 * n + ((r.recs.find? (fun e => e.1 == n)).map (·.2.1)).getD 0, r.run.c, true, r.run.n⟩

/-- A recorder's segment put into the working bank; what the bank held is read first when records are combined. -/
def State.putWork (s : State) (r : AcqRun) (n : Nat) (x : Capture) (short valid : Bool) (bs : Option Bytes) : State :=
  match s.workBank r with
  | none => s
  | some b =>
    let la := bankLa b + r.offset n
    let size := segBytes x.prof (pLen x.prof)
    let rd := if 1 < x.stored then s.readLa (r.who n) la size else ([], s)
    let s := if rd.1.any (·.2) then rd.2.faultItems (fun i => i.c == r.run.c && i.id == r.run.n) else rd.2
    let d := match bs with
      | some d => d
      | none => x.bytes n 0 r.run.n (s.paired n) (pLen x.prof) short valid
    s.writeLa (r.who n) la (clean d)

/-- ACQ_SEGMENT_DONE: the last point of the record in capture is stored; `v` are its input samples in order (R161 to
R167). -/
def acqSegmentDone (n rec_ : Nat) (v : List Int) (s : State) : State :=
  if s.acqState n = 6 then
    match s.acqRuns.find? (fun r => r.recs.any (fun e => e.1 == n && e.2.1 == rec_)) with
    | none => s
    | some r =>
      match r.recs.find? (fun e => e.1 == n) with
      | none => s
      | some (_, _, x) =>
        match x.cur with
        | none => s
        | some tk =>
          let e := s.captureEnd n x tk
          if tickTf (s.time + 1) ≤ e then s
          else
            let fill : Int := ((32 * s.rawPeriod n : Nat) : Int) + (pPre x.prof * pDec x.prof : Nat) * (s.captureGrid n x.prof).2
            let y := { x.store (pLen x.prof) v with readyT := e + fill, nocal := x.nocal || s.cal n != 1 }
            let r := r.setRec n y
            (s.setAcqRun r).putWork r n y (decide (y.stored < pCount y.prof)) true none
  else
    let a := s.acq n
    match a.cap with
    | none => s
    | some x =>
      match x.cur with
      | none => s
      | some tk =>
        if s.acqState n ≠ 3 || tickTf (s.time + 1) ≤ s.captureEnd n x tk then s
        else
          let y := { x.store (pLen x.prof) v with nocal := x.nocal || s.cal n != 1 }
          if y.stored < pCount y.prof then (s.setAcq n { a with cap := some y }).setAcqState n 4
          else s.storeSegment n y (pLen y.prof)

/-- ACQ_CAL_TRACKING: calibration has converged (R153). -/
def acqCalTracking (n : Nat) (s : State) : State :=
  if s.cal n = 0 && s.domOn (17 + n) then s.setCal n 1 else s

/-- The lowest of a channel's four recorders that no record uses. -/
def State.freeRecorder (s : State) (n : Nat) : Nat :=
  ((rangeFrom 0 4).find? (fun k => !s.acqRuns.any (fun r => r.recs.any (fun e => e.1 == n && e.2.1 == k)))).getD 3

/-- CHn_STATE.REC brought up to date. -/
def State.showRecs (s : State) (ns : List Nat) : State :=
  ns.foldl (fun s n => s.put (F.ACQ_CH_STATE_REC n)
    ((s.acqRuns.filter (fun r => r.recs.any (fun e => e.1 == n))).length)) s

/-- The channels of a record. -/
def AcqRun.chans (r : AcqRun) : List Nat := r.recs.map (·.1)

/-- A record leaves its recorders. -/
def State.endAcqRun (s : State) (r : AcqRun) : State :=
  State.showRecs { s with acqRuns := s.acqRuns.filter (fun x => x.run != r.run) } r.chans

/-- The last beat of an ACQ_ARM record: the block is written, and what makes the item INCOMPLETE or FAULTED is known
(R171, R172). -/
def State.acqFinish (s : State) (a : Act) (r : AcqRun) : State :=
  let s := r.recs.foldl (fun s e =>
    let n := e.1
    let x := e.2.2
    let short := decide (x.stored < pCount x.prof)
    let s := if s.cal n = 2 then s.faultAct a else s
    let s := if short || x.discont || (x.nocal && s.cal n != 2) then s.incompleteAct a else s
    let s := s.segCounts n x short
    if x.stored = 0 then
      let f := s.draw
      let hd := (x.bytes n 0 r.run.n (s.paired n) (pLen x.prof) true false).take 64
      f.2.putWork r n x true false (some (hd ++ leBytes (segBytes x.prof (pLen x.prof) - 64) f.1))
    else if short then s.putWork r n x true true none
    else s) s
  let s := s.endAcqRun r
  let total := sumNat (r.recs.map (fun e => segBytes e.2.2.prof (pLen e.2.2.prof)))
  let s := match s.workBank r, s.actBuf a a.rcd.outBuf with
    | some b, some o =>
      let rd := s.readLa (r.who (r.chans.headD 0)) (bankLa b) total
      ((rd.2.consume a (rd.1.any (·.2))).writeBuf (r.who (r.chans.headD 0)) o 0 rd.1).consume a o.revoked
    | _, _ => s
  s.markRan a.run

/-- The first beat of an ACQ_ARM record: a recorder of each of its channels begins with the record's profile, and a FIRE or
window of the line in this beat is taken (R169, R170). -/
def State.acqBegin (s : State) (a : Act) (i : Item) : State :=
  let chans := (rangeFrom 0 8).filter (fun n => bit (bits a.rcd.op0 7 0) n)
  let line := bits a.rcd.op0 21 16
  let src := bits a.rcd.op0 14 12
  let mine := s.fabric.filter (fun e => e.line == line && e.beat == s.beat)
  let run : AcqRun := {
    run := a.run, start := a.start, last := a.start + a.rcd.span - 1, op0 := a.rcd.op0, op1 := a.rcd.op1,
    op2 := a.rcd.op2, pos := i.pos,
    fire := if src = 4 then (mine.find? (·.fire)).map (fun e => e.lo.toNat) else none,
    arm := if src = 5 then (mine.find? (fun e => !e.fire)).map (fun e => (e.lo, e.hi)) else none,
    recs := chans.map (fun n => (n, s.freeRecorder n, Capture.start ((s.acq n).profile (bits a.rcd.op0 11 8)))) }
  { s with acqRuns := s.acqRuns ++ [run] }.showRecs chans

/-- ACQ_ARM: in its first beat a record takes its recorders, in its last beat they write its block (R169 to R172). -/
def acqArm (r : RecRun) (s : State) : State :=
  match s.due? r 7 with
  | none => s
  | some a =>
    match a.item with
    | none => s
    | some i =>
      if s.actDomains a = false then
        ({ s with acqRuns := s.acqRuns.filter (fun x => x.run != r) }.faultAct a).markRan r
      else match s.acqRuns.find? (fun x => x.run == r) with
        | some x => if s.beat = a.start + a.rcd.span - 1 then s.acqFinish a x else s
        | none =>
          if s.beat ≠ a.start then s else s.acqBegin a i

/-! ## The fabric's listeners (R157) and STROBE records (R117, R118) -/

/-- A train leaves from a reference time (R118). -/
def State.sendTrain (s : State) (op0 op1 op2 : Nat) (ref : Int) : State :=
  let stb := bits op0 1 0
  let t := ref + bits op1 23 0 * 32
  let s := (s.wr (R.LIO_STB_LAST stb) (uint 64 t)).incWrap (F.LIO_STB_CNT_TRAINS stb)
  s.emit (.strobe stb (uint 64 t) (bits op2 15 0) (bits op2 31 16) (bits op0 25 16))

/-- STROBE: with REF 0 the train leaves from the record's beat boundary, with REF 1 from the first FIRE of its line in the
record's first beat (R157). -/
def strobe (r : RecRun) (s : State) : State :=
  match s.due? r 8 with
  | none => s
  | some a =>
    if s.beat ≠ a.start then s
    else if s.actDomains a = false then (s.faultAct a).markRan r
    else if bits a.rcd.op0 3 2 = 0 then (s.markRan r).sendTrain a.rcd.op0 a.rcd.op1 a.rcd.op2 (tickTf (a.start * 500))
    else match s.fabric.find? (fun e => e.fire && e.line == bits a.rcd.op0 9 4 && e.beat == s.beat) with
      | some e => (s.markRan r).sendTrain a.rcd.op0 a.rcd.op1 a.rcd.op2 e.lo
      | none =>
        let s := s.markRan r
        { s with strobes := s.strobes ++ [⟨r, a.rcd.op0, a.rcd.op1, a.rcd.op2, a.start⟩] }

/-- Strobe records whose first beat is over without a FIRE (R118, R157). -/
def State.strobeBeat (s : State) : State :=
  let late := s.strobes.filter (fun r => decide (r.start < s.beat))
  let s : State := { s with strobes := s.strobes.filter (fun r => decide (s.beat ≤ r.start)) }
  late.foldl (fun s r =>
    let s := (s.incSat (F.LIO_STB_CNT_MISS (bits r.op0 1 0))).raiseLio 7
    if r.run.item then s.incompleteItems (fun i => i.c == r.run.c && i.id == r.run.n) else s) s

/-- A FIRE on a line at a TF64 time reaches the records that listen (R157). -/
def State.fire (s : State) (line : Nat) (t : Int) : State :=
  let s := s.incWrap F.ACQ_FAB_FIRES_FIRES
  let s : State := { s with fabric := s.fabric ++ [⟨line, true, t, t, s.beat⟩] }
  let s : State := { s with acqRuns := s.acqRuns.map (fun r =>
    if r.tsrc = 4 && r.line = line && r.fire.isNone && r.start = s.beat then { r with fire := some t.toNat } else r) }
  let mine := s.strobes.filter (fun r => bits r.op0 9 4 == line && r.start == s.beat)
  let s : State := { s with strobes := s.strobes.filter (fun r => !(bits r.op0 9 4 == line && r.start == s.beat)) }
  mine.foldl (fun s r => s.sendTrain r.op0 r.op1 r.op2 t) s

/-- An ARM window opens on a line. -/
def State.armOpen (s : State) (line : Nat) (lo hi : Int) : State :=
  let s := s.putBit F.ACQ_FAB_ARM_ARM line true
  let s : State := { s with fabric := s.fabric ++ [⟨line, false, lo, hi, s.beat⟩] }
  { s with acqRuns := s.acqRuns.map (fun r =>
      if r.tsrc = 5 && r.line = line && r.arm.isNone && r.start = s.beat then { r with arm := some (lo, hi) } else r) }

/-- FABRIC_ARM_OPEN: an issued window reaches its start, and ARM is asserted on its line (R144). -/
def fabricArmOpen (line : Nat) (s : State) : State :=
  match s.windows.find? (fun w => w.line == line && !w.isOpen && decide (w.tf < (s.time + 1 + w.hw) * 8192)) with
  | none => s
  | some w =>
    ({ s with windows := s.windows.map (fun x => if x = w then { x with isOpen := true } else x) }).armOpen line
      ((w.tf : Int) - (w.hw * 8192 : Nat)) (w.tf + w.hw * 8192 : Nat)

/-- FABRIC_FIRE: t_f of an open window comes, and its FIRE is delivered (R144, R157). -/
def fabricFire (line : Nat) (s : State) : State :=
  match s.windows.find? (fun w => w.line == line && w.isOpen && !w.fired && decide (w.tf < (s.time + 1) * 8192)) with
  | none => s
  | some w =>
    ({ s with windows := s.windows.map (fun x => if x = w then { x with fired := true } else x) }).fire line w.tf

/-- FABRIC_ARM_CLOSE: an issued window ends, and ARM is deasserted on its line (R144). -/
def fabricArmClose (line : Nat) (s : State) : State :=
  match s.windows.find? (fun w => w.line == line && w.isOpen && decide (w.tf + w.hw * 8192 < (s.time + 1) * 8192)) with
  | none => s
  | some w => ({ s with windows := s.windows.filter (fun x => x != w) }).putBit F.ACQ_FAB_ARM_ARM line false

/-! ## The AFE's SPI (R173) -/

/-- ACQ_SPI_TX written: a transfer starts, or is refused for a chip select bound to a PLANNED channel. -/
def acqSpiTx (v : Nat) (s : State) : State :=
  if s.ready = false || s.on F.ACQ_SPI_STAT_BUSY then s
  else
    let m := numField (s.rd R.ACQ_SPI_BIND) (s.get F.ACQ_SPI_CFG_CS) 1
    if (rangeFrom 0 8).any (fun n => bit m n && s.acqState n == 6) then
      (s.put F.ACQ_SPI_STAT_REFUSED 1).raiseAcq 5
    else (s.put F.ACQ_SPI_STAT_BUSY 1).emit (.spi (v % 2 ^ (s.get F.ACQ_SPI_CFG_BITS_M1 + 1)))

/-- SPI_TRANSFER_DONE: the transfer ends with the bits received. -/
def spiTransferDone (rx : Nat) (s : State) : State :=
  if s.on F.ACQ_SPI_STAT_BUSY then
    (((s.put F.ACQ_SPI_STAT_BUSY 0).put F.ACQ_SPI_STAT_DONE 1).wr R.ACQ_SPI_RX
      (rx % 2 ^ (s.get F.ACQ_SPI_CFG_BITS_M1 + 1))).raiseAcq 5
  else s

end Sys2Proof.Machine
end

