-- ==== Sys2Proof/Machine/Dfc.lean ====
section
/-! DEFINITION. The filter and decimation chain (08_filters.md): the stages' arithmetic (R178 to R186), the states of a
channel (R187, R188), sync (R190, R191) and the stream (R192, R193). -/

namespace Sys2Proof.Machine

/-- `x / 2^sh` rounded to nearest, ties away from zero. -/
def roundAway (x : Int) (sh : Nat) : Int :=
  let m : Int := (2 * x.natAbs + 2 ^ sh) / 2 ^ (sh + 1)
  if x < 0 then -m else m

/-- SH, the smallest shift with 2^SH at least R^5 (R179). -/
def cicShift (r : Nat) : Nat := if 2 ^ (r ^ 5).log2 = r ^ 5 then (r ^ 5).log2 else (r ^ 5).log2 + 1

/-- 72-bit wrapping (Table 8.1). -/
def wrap72 (x : Int) : Int := sint 72 (uint 72 x)

/-- One sample through the five integrators. -/
def integrate : Int → List Int → List Int
  | _, [] => []
  | v, i :: t => let y := wrap72 (i + v); y :: integrate y t

/-- The last integrator's value through the five combs: the output and the new delays. -/
def comb : Int → List Int → Int × List Int
  | v, [] => (v, [])
  | v, d :: t => let r := comb (wrap72 (v - d)) t; (r.1, v :: r.2)

/-- FIR coefficient `i` (R180). -/
def DfcChan.coef (x : DfcChan) (i : Nat) : Int :=
  let k := if x.sym && decide ((x.ntaps - 1) / 2 < i) then x.ntaps - 1 - i else i
  sint 32 (numField x.blk (0x40 + 4 * k) 4)

/-- The chain with every history at zero: an anchor at `s0` (R184, R190). -/
def DfcChan.anchored (x : DfcChan) (s0 : Nat) : DfcChan :=
  { x with s0 := s0, made := 0, ints := [0, 0, 0, 0, 0], phase := 0, combs := [0, 0, 0, 0, 0], h1 := [], p1 := 0, h2 := [],
           p2 := 0, fh := [], fp := 0, peak := 0, env := 0, sqs := [] }

/-- The RMS detector's value (R185). -/
def DfcChan.rms (x : DfcChan) : Nat := (sumNat x.sqs / 2 ^ numField x.blk 0xB 1).sqrt

/-- One FIR output through the detectors and OUT_SEL (R182, R185): the new state and OUT. -/
def DfcChan.detect (x : DfcChan) (acc : Int) : DfcChan × Int × Bool :=
  let y := roundAway acc 21
  let z := clampInt 16 y
  let a := min 32767 z.natAbs
  let dk := numField x.blk 0xA 1
  let x := { x with
              peak := max a (if dk = 0 then x.peak else x.peak - x.peak / 2 ^ dk),
              sqs := (a * a :: x.sqs).take (2 ^ numField x.blk 0xB 1),
              env := ((x.env : Int) + Config.quant (256 * (a : Int) - x.env) ((2 ^ numField x.blk 0xC 1 : Nat) : Int)).toNat,
              made := x.made + 1 }
  let out : Int := match x.outSel with
    | 0 => z
    | 1 => x.peak
    | 2 => x.rms
    | _ => (x.env / 256 : Nat)
  (x, out, y != z)

/-- A value into the FIR; every FD-th input forms an output (R180). -/
def DfcChan.fir (x : DfcChan) (v : Int) : DfcChan × Option (Int × Bool) :=
  let h := (v :: x.fh).take x.ntaps
  if x.fp + 1 < x.fd then ({ x with fh := h, fp := x.fp + 1 }, none)
  else
    let acc := ((rangeFrom 0 h.length).zip h).foldl (fun a e => a + x.coef e.1 * e.2) 0
    let r := DfcChan.detect { x with fh := h, fp := 0 } acc
    (r.1, some r.2)

/-- A value into half-band stage 2, or past it. -/
def DfcChan.half2 (x : DfcChan) (v : Int) : DfcChan × Option (Int × Bool) :=
  if x.hb < 2 then x.fir v
  else
    let h := (v :: x.h2).take 39
    if x.p2 = 0 then ({ x with h2 := h, p2 := 1 }, none)
    else DfcChan.fir { x with h2 := h, p2 := 0 } (Config.halfBand 2 h)

/-- A value into half-band stage 1, or past it. -/
def DfcChan.half1 (x : DfcChan) (v : Int) : DfcChan × Option (Int × Bool) :=
  if x.hb < 1 then x.half2 v
  else
    let h := (v :: x.h1).take 39
    if x.p1 = 0 then ({ x with h1 := h, p1 := 1 }, none)
    else DfcChan.half2 { x with h1 := h, p1 := 0 } (Config.halfBand 1 h)

/-- One raw sample through the chain (R178, R179): the CIC's output is in units of 1/256 input code. -/
def DfcChan.sample (x : DfcChan) (v : Int) : DfcChan × Option (Int × Bool) :=
  let is := integrate v x.ints
  if x.phase + 1 < x.r then ({ x with ints := is, phase := x.phase + 1 }, none)
  else
    let c := comb (is.getLastD 0) x.combs
    DfcChan.half1 { x with ints := is, phase := 0, combs := c.2 } (roundAway (c.1 * 256) (cicShift x.r))

/-- What the outputs of a beat gave: OUT values with their numbers on the grid, newest first, with saturation. -/
structure DfcOuts where
  outs : List (Nat × Nat × Int)
  sat : Nat
  ovr : Bool

/-- Raw samples from index `idx` through the chain: a grid that begins there is taken up, samples before the first grid are
not filtered (R183, R187, R190). -/
def dfcFeed : List Int → Nat → DfcChan → DfcOuts → DfcChan × DfcOuts
  | [], _, x, o => (x, o)
  | v :: t, idx, x, o =>
    let x := match x.grids with
      | g :: gs => if g ≤ idx then { x.anchored g with grids := gs } else x
      | [] => x
    if idx < x.s0 || x.ints = [] then dfcFeed t (idx + 1) x o
    else
      let clipped := decide (2047 < v) || decide (v < -2048)
      let x := { x with ovr := x.ovr || clipped }
      let r := x.sample (clip12 v)
      match r.2 with
      | none => dfcFeed t (idx + 1) r.1 o
      | some (y, st) =>
        dfcFeed t (idx + 1) { r.1 with ovr := false }
          ⟨(x.s0, x.made, y) :: o.outs, o.sat + b2n st, o.ovr || r.1.ovr⟩

def DfcChan.ringBanks (x : DfcChan) : Nat := numField x.blk 0xF 1
def DfcChan.ringFirst (x : DfcChan) : Nat := numField x.blk 0xE 1

/-- N_b, bytes of a block, and NSLOT (R192). -/
def DfcChan.perBeat (x : DfcChan) (rawPerTick : Nat) : Nat := 500 * rawPerTick / max 1 x.d
def DfcChan.blockBytes (x : DfcChan) (rawPerTick : Nat) : Nat := 64 + ceilDiv (2 * x.perBeat rawPerTick) 64 * 64
def DfcChan.slots (x : DfcChan) (rawPerTick : Nat) : Nat := x.ringBanks * 131072 / x.blockBytes rawPerTick

/-- The channel's state: 0 EMPTY, 1 STOPPED, 2 RUNNING. -/
def State.dfcState (s : State) (n : Nat) : Nat := s.get (F.DFC_CH_STATE_STATE n)

/-- The detectors' registers. -/
def State.showDet (s : State) (n : Nat) (x : DfcChan) : State :=
  ((s.put (F.DFC_CH_DET_PEAK n) x.peak).put (F.DFC_CH_DET_ENV n) (x.env / 256)).put (F.DFC_CH_RMS_RMS n) x.rms

/-- DFC_STREAM_BLOCK: the raw samples of beat k pass the chain in beat k + 1, and while the channel is PLANNED with STREAM
set the block of their outputs is written into the ring (R192, R193, Table 8.5). -/
def dfcStreamBlock (n : Nat) (v : List Int) (s : State) : State :=
  let x := s.dfc n
  let rpt := s.rawPerTick n
  let k := s.beat - 1
  if s.dfcState n ≠ 2 || s.beat = 0 || k * 500 * rpt < x.next then s
  else
    let r := dfcFeed (v.take (500 * rpt)) (k * 500 * rpt) x ⟨[], 0, false⟩
    let y := { r.1 with next := (k + 1) * 500 * rpt }
    let s := (s.setDfc n y).showDet n y
    let s := if r.2.sat = 0 then s else (s.incSat (F.DFC_CH_CNT_SAT n) r.2.sat).raiseDfc 0
    if s.acqState n ≠ 6 || y.stream = false then s
    else
      let outs := r.2.outs.reverse
      let disc := outs.any (fun o => o.2.1 == 0)
      let settling := outs.any (fun o => decide (o.2.1 < y.settle))
      let t1 := (outs.head?.map (fun o => y.time (s.rawPeriod n) o.1 o.2.1)).getD 0
      let fl := 1 + 2 * b2n disc + 4 * b2n settling + 8 * b2n (r.2.sat != 0) + 16 * b2n (s.cal n != 1) +
        32 * b2n r.2.ovr + 64 * b2n (s.paired n)
      let hdr := leBytes 8 k ++ leBytes 8 (uint 64 t1) ++ leBytes 2 (y.perBeat rpt) ++ leBytes 1 n ++ leBytes 1 fl ++
        leBytes 2 y.peak ++ leBytes 2 y.rms ++ leBytes 2 (y.env / 256) ++ leBytes 2 y.outSel ++ leBytes 36 0
      let data := outs.flatMap (fun o => leBytes 2 (uint 16 o.2.2))
      let bs := hdr ++ data ++ leBytes (y.blockBytes rpt - 64 - data.length) 0
      let la := bankLa y.ringFirst + k % max 1 (y.slots rpt) * y.blockBytes rpt
      let own := (s.livePlans.find? (fun p => p.2.2.img.hasClaim 11 n)).map (·.1)
      (s.writeLa ⟨0x6000 + n, own.getD 0xFF, true, 0⟩ la (clean bs)).wr (R.DFC_CH_LASTBLK n) k

/-! ## States and anchors -/

/-- A channel anchored at a tick (R183, R187, R190). -/
def State.dfcAnchor (s : State) (n tick : Nat) : State :=
  let s0 := tick * s.rawPerTick n
  let x := s.dfc n
  (s.setDfc n { x with grids := x.grids ++ [s0] }).wr (R.DFC_CH_ANCHOR n) s0

/-- A channel STOPPED with its block kept: outputs in flight discarded, detectors cleared (Table 8.2). -/
def State.dfcStop (s : State) (n : Nat) : State :=
  let x := { s.dfc n with grids := [], ints := [], combs := [], peak := 0, env := 0, sqs := [] }
  ((((s.setDfc n x).put (F.DFC_CH_STATE_STATE n) 1).putBit F.DFC_STATUS_RUNNING n false).wr (R.DFC_CH_DET n) 0).wr
    (R.DFC_CH_RMS n) 0

/-- A channel EMPTY: its block is discarded (Table 8.2). -/
def State.dfcEmpty (s : State) (n : Nat) : State :=
  ((s.setDfc n DfcChan.init).clearRegs
    [R.DFC_CH_STATE n, R.DFC_CH_RATE n, R.DFC_CH_DELAY n, R.DFC_CH_SETTLE n, R.DFC_CH_DET n, R.DFC_CH_RMS n,
     R.DFC_CH_COEF_CRC n]).putBit F.DFC_STATUS_RUNNING n false

/-- START takes effect at a beat boundary (R187). -/
def State.dfcBegin (s : State) (n : Nat) : State :=
  let x := { s.dfc n with grids := [], next := 0 }
  (((s.setDfc n x).put (F.DFC_CH_STATE_STATE n) 2).putBit F.DFC_STATUS_RUNNING n true).dfcAnchor n s.time

/-! ## Sync (R175, R190, R191) -/

/-- A DFC-sourced background segment in capture is cut: stored with the points it has (R175). -/
def State.cutBackground (s : State) (n : Nat) (v : List Int) : State :=
  match (s.acq n).cap with
  | none => s
  | some x =>
    if pDfc x.prof = false || s.acqState n = 6 || (x.cur.isNone && x.stored = 0) then s
    else match x.cur with
      | some _ =>
        let pts := min (pLen x.prof) (v.length / max 1 (pDec x.prof))
        let y := { x.store pts (v.take (pts * pDec x.prof)) with discont := true }
        (s.storeSegment n y pts).setAcqState n 4
      | none => (s.storeSegment n { x with discont := true } (pLen x.prof)).setAcqState n 4

/-- DFC-sourced planned segments in capture end: missing points zero, DISCONT set (R175). -/
def State.cutPlanned (s : State) (n : Nat) (v : Nat → List Int) : State :=
  s.acqRuns.foldl (fun s r =>
    match r.recs.find? (fun e => e.1 == n) with
    | none => s
    | some (_, k, x) =>
      if pDfc x.prof = false || (x.cur.isNone && (x.stored = 0 || pCount x.prof ≤ x.stored)) then s
      else
        let pts := min (pLen x.prof) ((v k).length / max 1 (pDec x.prof))
        let y := if x.cur.isSome then x.store (pLen x.prof) ((v k).take (pts * pDec x.prof)) else x
        let y := { y with discont := true, readyT := tickTf ((r.last + 1) * 500) }
        let r := r.setRec n y
        (s.setAcqRun r).putWork r n y (decide (y.stored < pCount y.prof)) true none) s

/-- The ticks that ACQ_SYNC commands wait for (R175). -/
def State.syncTicks (s : State) : List Nat :=
  s.queues.flatMap (fun q => q.2.cmds.filterMap (fun k =>
    match k.phase with
    | .executing (.atTick t) => if k.op = 0x52 && !k.timed then some t else none
    | _ => none))

/-- Commands waiting for a tick make their timed change and end (R81). -/
def State.tickCommands (s : State) (op : Nat) : State :=
  s.queues.foldl (fun s e =>
    e.2.cmds.foldl (fun s k =>
      match k.phase with
      | .executing (.atTick t) =>
        if k.op = op && decide (t ≤ s.time) then
          (s.markTimed (e.1 / 128) (e.1 % 128) k.seq).fixResult (e.1 / 128) (e.1 % 128) k.seq stOk (t % 2 ^ 32)
        else s
      | _ => s) s) s

/-- A sync tick has come: that of an edge on SYNC_IN, or one that an ACQ_SYNC waits for (R175, R191). -/
def State.syncFromEdge (s : State) : Bool := match s.syncIn with | some t => decide (t ≤ s.time) | none => false
def State.syncDue (s : State) : Bool := s.syncTicks.any (fun t => decide (t ≤ s.time)) || s.syncFromEdge

/-- A RUNNING channel anchored anew at the sync tick; a grid that breaks is counted (R190). -/
def State.syncChannel (s : State) (n : Nat) : State :=
  if s.dfcState n = 2 then
    let x := s.dfc n
    let old := s.rd (R.DFC_CH_ANCHOR n)
    let s := if x.d ≠ 0 && (s.time * s.rawPerTick n - old) % x.d ≠ 0 then
        (s.incSat (F.DFC_CH_CNT_DISCARD n)).raiseDfc 2 else s
    s.dfcAnchor n s.time
  else s

/-- The sync itself: ARM clears when it came from SYNC_IN, its time is noted and every RUNNING channel anchored. -/
def State.syncAnchors (s : State) : State :=
  let s := if s.syncFromEdge then State.put { s with syncIn := none } F.DFC_SYNC_CFG_ARM 0 else s
  let s := ((s.wr R.ACQ_SYNC_LAST s.time).incSat F.DFC_SYNC_CNT_APPLIED).raiseDfc 1
  (rangeFrom 0 8).foldl State.syncChannel s

/-- The DFC-sourced segments of every channel cut at a sync. -/
def State.syncCuts (s : State) (cut : List (Nat × Nat × List Int)) : State :=
  let mine (n k : Nat) : List Int := ((cut.find? (fun e => e.1 == n && e.2.1 == k)).map (·.2.2)).getD []
  (rangeFrom 0 8).foldl (fun s n => (s.cutBackground n (mine n 0)).cutPlanned n (mine n)) s

/-- DFC_SYNC: at a sync tick every RUNNING channel is anchored anew and DFC-sourced segments are cut. `cut` gives the DFC
outputs recorded so far by channel and recorder. -/
def dfcSync (cut : List (Nat × Nat × List Int)) (s : State) : State :=
  if s.syncDue = false then s else (s.syncAnchors.syncCuts cut).tickCommands 0x52

/-- A SYNC_IN edge as the chain sees it (R191). -/
def State.syncInEdge (s : State) (rising : Bool) : State :=
  if s.on F.DFC_SYNC_CFG_ARM && s.syncIn.isNone && (rising == (s.get F.DFC_SYNC_CFG_POL == 0)) &&
     decide (s.rd R.DFC_SYNC_AFTER ≤ s.time) then
    { s with syncIn := some (ceilDiv (s.time + 2) 500 * 500) }
  else s.incSat F.DFC_SYNC_CNT_IGNORED

end Sys2Proof.Machine
end

