-- ==== Sys2Proof/Machine/UnitCommands.lean ====
section
/-! DEFINITION. The commands of the event, acquisition and filter blocks: EVP_CONFIG and EVP_MASK_LOAD (R147), ACQ_CONFIG,
ACQ_SYNC and ACQ_READOUT (R174 to R176), DFC_COEF_LOAD (R187 to R189). -/

namespace Sys2Proof.Machine

/-! ## EVP (R147) -/

/-- A plan that holds its claims uses the port: KIND 12, a SOURCE 0 rule, or FPORT (R147). -/
def State.portInUse (s : State) (p : Nat) : Bool :=
  s.livePlans.any (fun x =>
    x.2.2.img.hasClaim 12 p || x.2.2.img.rules.any (fun r => r.source == 0 && r.srcIndex == p) ||
    x.2.2.img.itemRecs.any (fun k => k.kind == 6 && bits k.op0 8 8 == 1 && bits k.op0 10 9 == p))

/-- A port disabled: its mapping is cleared, and R145 applies (Table 2.3). -/
def State.portDisable (s : State) (p : Nat) : State :=
  let s := if s.portOn p then s.portUnlock p else s
  let s := (((s.putBit F.EVP_STATUS_EN p false).put (F.CLK_SMAP_STATE_STATE p) 0).put (F.CLK_SMAP_STATE_GOOD_WIN p) 0)
  ((s.wr (R.CLK_SMAP_OFFSET p) 0).wr (R.CLK_SMAP_DRIFT p) 0).setMapper p Mapper.init |>.showTracks p

/-- A port enabled with a block (R147, R148). -/
def State.portEnable (s : State) (p blk : Nat) : State :=
  let s := (s.portDisable p).putBit F.EVP_STATUS_EN p true
  let s := s.setPort p { s.port p with blk := blk, seenTh := false, crcWait := false, tracks := [], prevMark := [] }
  let s := (s.clearSurface p).clearRegs ((rangeFrom 0 16).map (R.EVP_P_CNT p))
  let s := s.wr (R.EVP_P_CFG p) (numField blk 0 4)
  ((s.put (F.EVP_P_SIZE_WIDTH p) (s.port p).width).put (F.EVP_P_SIZE_HEIGHT p) (s.port p).height).showTracks p

def cmdEvpDisable (k : Cmd) (s : State) : CmdOut :=
  let p := pf k.par 8 1
  if 3 < p || 2 < pf k.par 9 1 || pf k.par 24 4 ≠ 0 then refuse s stBadParam
  else if s.portInUse p then refuse s stBadState
  else okay (s.portDisable p)

/-- A block read and checked (Tables 6.7 to 6.10). -/
def evpBlock (c : Nat) (e : HostEnv) (k : Cmd) (s : State) (f : Nat → State → CmdOut) : CmdOut :=
  let p := pf k.par 8 1
  let dva := pf k.par 16 8
  if 3 < p || 2 < pf k.par 9 1 || dva % 64 ≠ 0 || pf k.par 24 4 ≠ 1024 then refuse s stBadParam
  else if s.portInUse p then refuse s stBadState
  else s.withRead e c dva 1024 (fun b s =>
    if blockOk { EvpPort.init with blk := leNat b } then f (leNat b) s else refuse s stBadParam)

def cmdEvpEnable (c : Nat) (e : HostEnv) (k : Cmd) (s : State) : CmdOut :=
  evpBlock c e k s (fun blk s => okay (s.portEnable (pf k.par 8 1) blk))

def cmdEvpGroups (c : Nat) (e : HostEnv) (k : Cmd) (s : State) : CmdOut :=
  evpBlock c e k s (fun blk s =>
    let p := pf k.par 8 1
    let old := (s.port p).blk
    let new := putBits old (8 * 0x3C0 - 1) (8 * 0xC0) (blk >>> (8 * 0xC0))
    let x := { s.port p with blk := new }
    okay ((s.setPort p { x with tracks := x.tracks.filter (fun t => x.groupOn t.2.group) }).showTracks p))

/-- The mask of a port loaded: with OP 0 every pixel whose bit is 0 is unmasked and empty, with OP 1 pixels are added. -/
def State.loadMask (s : State) (p op : Nat) (b : Bytes) : State :=
  let x := s.port p
  let n := leNat b
  let mine (key : Nat) : Bool := decide (surfKey p 0 0 0 ≤ key) && decide (key < surfKey (p + 1) 0 0 0)
  let inFrame (key : Nat) : Bool := decide (key / 2 % 1280 < x.width) && decide (key / 2 / 1280 % 800 < x.height)
  let s := if op = 0 then
      State.setPort { s with surface := s.surface.filter (fun e => !(mine e.1 && inFrame e.1)) } p { x with cleared := true }
    else s
  ((rangeFrom 0 (x.width * x.height)).filter (bit n)).foldl (fun s i =>
    (s.setCell p (i % x.width) (i / x.width) 0 0xFFFF).setCell p (i % x.width) (i / x.width) 1 0xFFFF) s

def cmdEvpMaskLoad (c : Nat) (e : HostEnv) (k : Cmd) (s : State) : CmdOut :=
  let p := pf k.par 8 1
  let op := pf k.par 9 1
  let dva := pf k.par 16 8
  let x := s.port p
  if 3 < p || 1 < op || dva % 64 ≠ 0 then refuse s stBadParam
  else if s.portOn p = false || s.portInUse p then refuse s stBadState
  else if pf k.par 24 4 ≠ ceilDiv (x.width * x.height) 8 then refuse s stBadParam
  else s.withRead e c dva (pf k.par 24 4) (fun b s => okay (s.loadMask p op b))

/-! ## ACQ_CONFIG (R174) -/

/-- A channel runs a background capture of another context (R168). -/
def State.bgOther (s : State) (c n : Nat) : Bool :=
  within (s.acqState n) 1 5 && s.get (F.ACQ_CH_STATE_OWNER n) != c

/-- A background capture ends: the segment in capture is discarded, stored ones stay (Table 7.4). -/
def State.acqStop (s : State) (n : Nat) : State :=
  if within (s.acqState n) 1 5 then (s.setAcq n { s.acq n with cap := none }).setAcqState n 0 else s

def cmdAcqStop (c : Nat) (k : Cmd) (s : State) : CmdOut :=
  let n := pf k.par 8 1
  if 7 < n || 4 < pf k.par 9 1 then refuse s stBadParam
  else if s.bgOther c n && c != 0 then refuse s stBadState
  else okay (s.acqStop n)

/-- A channel block's fields lie in the ranges of Table 7.5, its reserved bytes are zero. -/
def acqBlockOk (b : Nat) : Bool :=
  numField b 0 4 / 2 == 0 && decide (numField b 4 1 < 128) && numField b 5 1 == 0 && decide (numField b 6 2 ≤ 128) &&
  decide (numField b 4 1 + numField b 6 2 ≤ 128) && within (numField b 0xA 2) 0 1023 &&
  decide (-2048 ≤ sint 16 (numField b 8 2)) && decide (sint 16 (numField b 8 2) ≤ 2047) && numField b 0xC 0x34 == 0 &&
  (rangeFrom 0 16).all (fun i => numField b (0x40 + 48 * i) 48 == 0 || profileOk (numField b (0x40 + 48 * i) 48))

def cmdAcqApply (c : Nat) (e : HostEnv) (k : Cmd) (s : State) : CmdOut :=
  let n := pf k.par 8 1
  let dva := pf k.par 16 8
  if 7 < n || 4 < pf k.par 9 1 || dva % 64 ≠ 0 || pf k.par 24 4 ≠ 832 then refuse s stBadParam
  else if s.acqState n ≠ 0 then refuse s stBadState
  else s.withRead e c dva 832 (fun b s =>
    if acqBlockOk (leNat b) then okay (s.setAcq n { s.acq n with blk := leNat b }) else refuse s stBadParam)

/-- The banks of a channel's region. -/
def AcqChan.region (x : AcqChan) : List Nat := rangeFrom (numField x.blk 4 1) (numField x.blk 6 2)

def cmdAcqStart (c : Nat) (k : Cmd) (s : State) : CmdOut :=
  let n := pf k.par 8 1
  let a := s.acq n
  let p := a.profile (pf k.par 10 1)
  if 7 < n || 4 < pf k.par 9 1 || 15 < pf k.par 10 1 then refuse s stBadParam
  else if s.acqState n ≠ 0 || 2 < pBgSrc p then refuse s stBadState
  else if profileOk p = false then refuse s stBadParam
  else if a.region.any (fun b => s.claimed 4 b ||
      (rangeFrom 0 8).any (fun m => m != n && (s.acq m).region.contains b)) ||
      decide (a.regionLen < segBytes p (pLen p)) then refuse s stMemory
  else
    let s := (s.zeroLa a.regionLa a.regionLen).setAcq n { a with cap := some (Capture.start p), segs := [] }
    let s := (s.wr (R.ACQ_CH_SEQ n) 0).wr (R.ACQ_CH_OLDEST n) 0
    okay ((s.put (F.ACQ_CH_STATE_OWNER n) c).setAcqState n 1)

def cmdAcqForce (c : Nat) (k : Cmd) (s : State) : CmdOut :=
  let n := pf k.par 8 1
  if 7 < n || 4 < pf k.par 9 1 then refuse s stBadParam
  else if s.acqState n ≠ 2 || s.bgOther c n then refuse s stBadState
  else match (s.acq n).cap with
    | none => refuse s stBadState
    | some x =>
      let r := s.takeTrigger n x (tickTf s.time) 1
      okay ((r.2.setAcq n { s.acq n with cap := some r.1 }).setAcqState n 3)

/-- Pair mode set or cleared on the pair of an even channel (R152, R153, Tables 7.4 and 8.2). -/
def State.setPair (s : State) (n : Nat) (on : Bool) : State :=
  let s := (s.putBit F.ACQ_STATUS_PAIR (n / 2) on).setAcqState (n + 1) (if on then 7 else 0)
  let s := (s.setCal n 0).setCal (n + 1) 0
  let s := if s.dfcState n = 0 then s else s.dfcStop n
  if on then s.dfcEmpty (n + 1) else if s.dfcState (n + 1) = 0 then s else s.dfcStop (n + 1)

def cmdAcqPair (c : Nat) (k : Cmd) (s : State) : CmdOut :=
  let n := pf k.par 8 1
  let on := pf k.par 11 1
  if 7 < n || 4 < pf k.par 9 1 || n % 2 ≠ 0 || 1 < on then refuse s stBadParam
  else if s.bgOther c n then refuse s stBadState
  else if s.acqState n ≠ 0 || s.acqState (n + 1) ≠ (if s.paired n then 7 else 0) then refuse s stBadState
  else if s.paired n = (on == 1) then okay s
  else okay (s.setPair n (on == 1))

/-! ## ACQ_SYNC and ACQ_READOUT (R175, R176) -/

def cmdAcqSync (k : Cmd) (s : State) : CmdOut :=
  let at_ := if pf k.par 16 8 = 0 then s.time + 200 else pf k.par 16 8
  if at_ < s.time + 200 then refuse s stBadParam
  else if (rangeFrom 0 8).any (fun n => s.acqState n == 6) then refuse s stBadState
  else .wait (.atTick at_) s

/-- The segments that a readout copies: from a SEQ on, at most `n`, within `len` bytes. -/
def takeSegs : List (Nat × Nat × Nat) → Nat → Nat → List (Nat × Nat × Nat)
  | [], _, _ => []
  | x :: t, n, len => if n = 0 || len < x.2.2 then [] else x :: takeSegs t (n - 1) (len - x.2.2)

def cmdAcqReadout (c : Nat) (e : HostEnv) (k : Cmd) (s : State) : CmdOut :=
  let n := pf k.par 8 1
  let first := pf k.par 12 4
  let nseg := pf k.par 16 4
  let dva := pf k.par 24 8
  let len := pf k.par 32 4
  let a := s.acq n
  if 7 < n || within nseg 1 65536 = false || dva % 64 ≠ 0 then refuse s stBadParam
  else if s.acqState n ≥ 6 || s.bgOther c n || (a.segs != [] && s.get (F.ACQ_CH_STATE_OWNER n) != c) then refuse s stBadState
  else
    let from_ := a.segs.filter (fun x => first == 0xFFFFFFFF || decide (first ≤ x.1))
    let size := ((from_.head?.map (·.2.2)).getD 64)
    if len < size then refuse s stBadParam
    else s.withDest e c dva len (fun segs s =>
        let l := takeSegs from_ nseg len
        let r := l.foldl (fun acc x =>
          let y := acc.2.readBg (Who.cpx c) x.2.1 x.2.2
          (acc.1 ++ y.1, y.2)) (([] : List PByte), s)
        if r.1.any (·.2) then refuse r.2 stPoisoned
        else okay (r.2.writeSegs (Who.cpx c) segs r.1) l.length)

/-! ## DFC_COEF_LOAD (R187 to R189) -/

/-- Fields of a configuration block in the ranges of Table 8.4, reserved bytes and unused coefficients zero. -/
def dfcBlockOk (x : DfcChan) : Bool :=
  within x.r 2 4096 && decide (x.hb ≤ 2) && within x.fd 1 16 &&
  (if x.sym then within x.ntaps 3 255 && x.ntaps % 2 == 1 else within x.ntaps 1 128) &&
  bits (numField x.blk 6 2) 15 4 == 0 && (x.sym || decide (numField x.blk 8 2 < x.ntaps)) &&
  decide (numField x.blk 0xA 1 ≤ 24) && decide (numField x.blk 0xB 1 ≤ 16) && within (numField x.blk 0xC 1) 1 16 &&
  numField x.blk 0xD 1 == 0 && decide (x.ringFirst < 128) && numField x.blk 0x10 0x30 == 0 &&
  (if x.stream then within x.ringBanks 1 128 && decide (x.ringFirst + x.ringBanks ≤ 128) else x.ringBanks == 0) &&
  (let used := if x.sym then (x.ntaps + 1) / 2 else x.ntaps
   (rangeFrom 0 128).all (fun i =>
     let h := sint 32 (numField x.blk (0x40 + 4 * i) 4)
     if i < used then decide (-131072 ≤ h) && decide (h ≤ 131071) else h == 0))

/-- R181 and the stream rules of R192 at the channel's present rate. -/
def dfcRateOk (x : DfcChan) (rawPerTick : Nat) : Bool :=
  decide ((if x.sym then (x.ntaps + 1) / 2 else x.ntaps) ≤ 16 * x.d) &&
  (!x.stream || ((500 * rawPerTick) % max 1 x.d == 0 && decide (4 ≤ x.slots rawPerTick)))

/-- A block applied: what the registers show of it (Table 8.7). -/
def State.dfcApply (s : State) (n : Nat) (x : DfcChan) (crc : Nat) : State :=
  let s := (s.setDfc n x).put (F.DFC_CH_STATE_STATE n) 1
  let s := ((s.put (F.DFC_CH_STATE_OUT_SEL n) x.outSel).put (F.DFC_CH_STATE_HB n) x.hb).put (F.DFC_CH_STATE_SYM n) (b2n x.sym)
  let s := ((s.put (F.DFC_CH_STATE_STREAM n) (b2n x.stream)).put (F.DFC_CH_RATE_R n) x.r).put (F.DFC_CH_RATE_FD n) x.fd
  ((s.put (F.DFC_CH_DELAY_DT2 n) x.dt2).put (F.DFC_CH_SETTLE_SETTLE n) x.settle).wr (R.DFC_CH_COEF_CRC n) crc

def cmdDfcStop (c : Nat) (k : Cmd) (s : State) : CmdOut :=
  let n := pf k.par 8 1
  if 7 < n || 2 < pf k.par 9 1 then refuse s stBadParam
  else if s.dfcState n ≠ 2 || s.acqState n = 6 || s.bgOther c n ||
      (match (s.acq n).cap with | some x => pDfc x.prof | none => false) then refuse s stBadState
  else okay (s.dfcStop n)

def cmdDfcLoad (c : Nat) (e : HostEnv) (k : Cmd) (s : State) : CmdOut :=
  let n := pf k.par 8 1
  let dva := pf k.par 16 8
  if 7 < n || 2 < pf k.par 9 1 || dva % 64 ≠ 0 || pf k.par 24 4 ≠ 576 then refuse s stBadParam
  else if s.dfcState n = 2 || s.acqState n = 7 || s.bgOther c n then refuse s stBadState
  else s.withRead e c dva 576 (fun b s =>
    let x := { DfcChan.init with blk := leNat b }
    if dfcBlockOk x && dfcRateOk x (s.rawPerTick n) then
      let crc := crc32c ((b.drop 0x40).take 0x200)
      okay (s.dfcApply n x crc) crc
    else refuse s stBadParam)

def cmdDfcStart (c : Nat) (k : Cmd) (s : State) : CmdOut :=
  let n := pf k.par 8 1
  if 7 < n || 2 < pf k.par 9 1 then refuse s stBadParam
  else if s.dfcState n ≠ 1 || s.acqState n = 7 || s.bgOther c n then refuse s stBadState
  else if dfcRateOk (s.dfc n) (s.rawPerTick n) = false then refuse s stBadParam
  else .wait (.atBeat (s.beat + 1)) s

end Sys2Proof.Machine
end

