-- ==== Sys2Proof/Machine/Emu.lean ====
section
/-! DEFINITION. Energy (14_energy.md): the measurement and its window (R312), the bubble rates (R317, R318), what bubbles do
to a record (R319 to R321), droop (R322), derating (R323), ENERGY_BUDGET_SET's effect (R325). -/

namespace Sys2Proof.Machine

/-! ## Sums (R55, R314) -/

/-- The share of one plan under a window (R55). -/
def PlanImage.share (im : PlanImage) (w : Nat) : Nat := ceilDiv (im.decl * w) (max 1 im.cyc)

/-- The old plan of a live swap pair: another plan of the context was admitted with it and the pair has not ended (R55,
R63). -/
def State.pairOld (s : State) (c h : Nat) : Bool :=
  s.plans.any (fun p => p.1 / 4 == c && p.2.partner == some h)

/-- The R55 sum over admitted plans under a window, the old partner of a live swap pair left out. -/
def State.admittedSum (s : State) (w : Nat) : Nat :=
  sumNat ((s.livePlans.filter (fun p => !s.pairOld p.1 p.2.1)).map (fun p => p.2.2.img.share w))

/-! ## The window and the rates -/

/-- B_eff for a temperature in quarter degrees (R323). -/
def State.effBudget (s : State) (b : Nat) (t : Int) : Nat :=
  let excess := (t - 4 * (s.get F.EMU_THERM_CFG_T_LIM : Int)).toNat
  b - b * excess * s.get F.EMU_THERM_CFG_DERATE / 4096

/-- EMU_EFF_UJ and DERATED brought up to date; THERM is raised when B_eff first falls below B (R323). -/
def State.setEff (s : State) : State :=
  let b := s.get F.EMU_BUDGET_UJ_B
  let e := s.effBudget b (sint 12 (s.get F.EMU_TMAX_T))
  let was := s.on F.EMU_STATUS_DERATED
  let s := (s.put F.EMU_EFF_UJ_B_EFF e).put F.EMU_STATUS_DERATED (b2n (decide (e < b)))
  if e < b && !was then s.raiseEmu 5 else s

/-- β of R317 for a window sum in 0.1 µJ. -/
def betaOf (sum eff gain w : Nat) : Nat :=
  if sum ≤ 10 * eff then 0
  else if eff = 0 then 512
  else min 512 (ceilDiv (16 * gain * (sum - 10 * eff) * w) (10 * eff))

/-- The EMU's work at a beat boundary (R312, R317, R327): the sample of the beat before the last becomes available, and the
rates of the new beat are formed. -/
def State.emuBeat (s : State) (e : Nat) : State :=
  let w := s.get F.EMU_WINDOW_W
  let b := s.get F.EMU_BUDGET_UJ_B
  let s := match s.energyNext with
    | none => s
    | some v =>
      let s : State := { s with energies := (v :: s.energies).take 65536 }
      let s := (s.wr R.EMU_LAST_K (s.beat - 2)).put F.EMU_LAST_E_E v
      s.incWrap F.EMU_TOTAL_TOTAL v
  let s : State := { s with energyNext := some (if s.on F.EMU_STATUS_SENSOR_LOST then 10 * b / max 1 w else e) }
  let sum := sumNat (s.energies.take w)
  let beta := betaOf sum (s.get F.EMU_EFF_UJ_B_EFF) (s.get F.EMU_GAIN_GAIN) w
  let bg := min beta 256
  let pl := beta - 256
  let was := s.get F.EMU_BETA_BETA
  let s := (s.wr R.EMU_WSUM sum).put F.EMU_BETA_BETA beta
  let s := if was = 0 && decide (0 < beta) then s.raiseEmu 0 else s
  let s := if was ≤ 256 && decide (0 < pl) then s.raiseEmu 1 else s
  let s := (s.put F.EMU_STATUS_BG_THROTTLE (b2n (decide (0 < bg)))).put F.EMU_STATUS_PL_THROTTLE (b2n (decide (0 < pl)))
  let s := if 0 < bg then s.incSat F.EMU_CNT0_BG_BEATS else s
  let s := if 0 < pl then s.incSat F.EMU_CNT1_PL_BEATS else s
  { s with betas := (if 0 < pl then [(s.beat, pl)] else []) ++ s.betas.filter (fun x => decide (s.beat < x.1 + 8192)),
           droops := s.droops.filter (fun x => decide (s.time < x.1 + 8192 * 500)) }

/-! ## Bubbles on a record (R318 to R321) -/

/-- Clock cycles per tick of the unit of a record kind: CLK_F for DMX channels, CLK_E for engines, chains and PPU channels. -/
def cyclesPerTick (kind : Nat) : Nat := if kind = 5 then 8 else 12

/-- The die on which a record's unit takes droop bubbles: 1 or 2 for the C-dies, 3 for the H-die. -/
def Act.dieOf (a : Act) : Nat :=
  match a.rcd.kind with
  | 1 => 1 + (a.units 1).headD 0 / 15
  | 2 => 1 + (a.units 2).headD 0 / 4
  | 3 | 4 => 1 + (a.units 3).headD 0 / 2
  | _ => 3

/-- Energy bubbles due to a unit between a beat's start and tick `t` (R318), over the beats since `start`. -/
def State.energyDue (s : State) (kind start t : Nat) : Nat :=
  sumNat ((s.betas.filter (fun b => decide (start ≤ b.1) && decide (b.1 * 500 < t))).map (fun b =>
    (min 500 (t - b.1 * 500)) * cyclesPerTick kind * b.2 / 256))

/-- Droop bubbles given to a record's unit since its start, counting those after which an energy bubble has fallen due when
`seen` is set. A droop within an earlier response replaces what was left of it (R322). -/
def State.droopTaken (s : State) (a : Act) (seen : Bool) : Nat :=
  let mine := s.droops.filter (fun d => d.2.1 == a.dieOf && decide (a.start * 500 ≤ d.1) &&
    (!seen || decide (s.energyDue a.rcd.kind a.start d.1 < s.energyDue a.rcd.kind a.start s.time)))
  sumNat (mine.map (fun d =>
    match mine.find? (fun e => decide (d.1 < e.1) && decide ((e.1 - d.1) * cyclesPerTick a.rcd.kind < d.2.2)) with
    | some e => (e.1 - d.1) * cyclesPerTick a.rcd.kind
    | none => d.2.2))

/-- Bubbles an activity has taken by now: an energy bubble beyond SLACK is not taken (R319). -/
def State.bubblesOf (s : State) (a : Act) : Nat :=
  min (s.energyDue a.rcd.kind a.start s.time) a.rcd.slack + s.droopTaken a false

/-- An energy bubble has fallen due for a record whose count had reached its SLACK (R319). -/
def State.slackSpent (s : State) (a : Act) : Bool :=
  let e := s.energyDue a.rcd.kind a.start s.time
  decide (0 < e) && decide (a.rcd.slack < e + s.droopTaken a true)

/-- A record kind that takes planned bubbles: engines, chain units, PPU channels, DMX program channels (Table 14.1). -/
def bubbled (kind : Nat) : Bool := within kind 1 5

/-- A record pushed past its slack or stopped at the end of ISSUE is counted and reported (R321). -/
def State.missRecord (s : State) (c : Nat) : State :=
  let q := (((s.ctxQueues c).find? (fun x => x.2.typ == 3)).map (·.1)).getD 0
  ((s.incSat F.EMU_MISS_MISS).raiseEmu 2).ctxErr c stDeadline q

/-- RECORD_SHED: an item record whose next bubble falls due beyond its SLACK stops and faults its items (R319). -/
def recordShed (r : RecRun) (s : State) : State :=
  match s.act? r with
  | some a =>
    if r.item && bubbled a.rcd.kind && !a.ran && decide (a.start ≤ s.beat) && decide (s.beat < a.start + a.rcd.issue) &&
       s.slackSpent a then
      ((s.faultAct a).missRecord r.c).markRan r
    else s
  | none => s

/-- RECORD_OVERRUN: a record still running at the end of its ISSUE beats is stopped there (R320). -/
def recordOverrun (r : RecRun) (s : State) : State :=
  match s.act? r with
  | some a =>
    if bubbled a.rcd.kind && a.rcd.kind != 5 && !a.ran && a.allowed && decide (a.start + a.rcd.issue ≤ s.beat) then
      let s := if r.item then s.faultAct a else s.faultItems (fun i => i.c == r.c && i.h == r.h)
      (s.missRecord r.c).markRan r
    else s
  | none => s

/-- The cycle records of a plan that run in a beat. -/
def State.cycActs (s : State) (c h : Nat) (p : Plan) (beat : Nat) : List Act :=
  (rangeFrom 0 p.img.cycRecs.length).filterMap (fun i =>
    match p.img.cycRecs[i]? with
    | some k =>
      if beat < p.anchor + k.beat then none
      else
        let n := (beat - p.anchor - k.beat) / max 1 p.img.cyc
        match s.act? ⟨c, h, false, i, n⟩ with
        | some a => if !a.ran && a.allowed && decide (beat < a.start + k.issue) then some a else none
        | none => none
    | none => none)

/-- Energy bubbles that cycle records did not take in the beat just ended (R319). -/
def State.unmetBeat (s : State) : State :=
  let n := sumNat (s.livePlans.map (fun p =>
    sumNat (((s.cycActs p.1 p.2.1 p.2.2 (s.beat - 1)).filter (fun a => bubbled a.rcd.kind)).map (fun a =>
      let e0 := s.energyDue a.rcd.kind a.start (500 * (s.beat - 1))
      let e1 := s.energyDue a.rcd.kind a.start (500 * s.beat)
      (e1 - a.rcd.slack) - (e0 - a.rcd.slack)))))
  if n = 0 then s else (s.incSat F.EMU_UNMET_UNMET n).raiseEmu 3

/-- DROOP: a die's fast detector sees a droop (R322). -/
def droop (d : Nat) (s : State) : State :=
  let s := (s.incSat (F.EMU_DROOP_CNT_DROOPS d)).raiseEmu 4
  if d = 0 then s else { s with droops := (s.time, d, s.get (F.EMU_DROOP_CFG_LEN d)) :: s.droops }

/-- The readings of the temperature sensors, in quarter degrees (R323). -/
def State.thermal (s : State) (t : List Int) : State :=
  let s := ((rangeFrom 0 4).zip t).foldl (fun s e => s.put (F.EMU_TEMP_T e.1) (uint 12 e.2)) s
  (s.put F.EMU_TMAX_T (uint 12 (t.foldl max (t.headD 0)))).setEff

/-! ## ENERGY_BUDGET_SET (R325) -/

/-- The energy that R63 needs of a swap pair: the larger rate over W + L_P, the other plans' shares and the reserve. -/
def overlapNeed (p n : PlanImage) (w others rv : Nat) : Nat :=
  max (ceilDiv (p.decl * (w + p.lat)) (max 1 p.cyc)) (ceilDiv (n.decl * (w + p.lat)) (max 1 n.cyc)) + others + rv

/-- The live swap pairs (R55): context, handles of P and N, and their images. -/
def State.livePairs (s : State) : List (Nat × Nat × Nat × PlanImage × PlanImage) :=
  s.livePlans.filterMap (fun n =>
    match n.2.2.partner with
    | some h =>
      match s.plan? n.1 h with
      | some p => if p.phase.live then some (n.1, h, n.2.1, p.img, n.2.2.img) else none
      | none => none
    | none => none)

/-- N of a swap pair is RUNNING or later and its overlap, the L_P beats from k onward, is not over (R63). -/
def State.inOverlap (s : State) (n : Plan) (lat : Nat) : Bool :=
  (n.phase == .running || n.phase == .draining) && decide (s.beat < n.start + lat)

/-- What the admitted plans need of a budget under a window and a reserve (R55, R63): a pair that is ADMITTED, ARMED or in its
overlap needs its own energy there. -/
def State.energyNeed (s : State) (w rv : Nat) : Nat :=
  let sum := s.admittedSum w + rv
  (s.livePairs.filter (fun x => match s.plan? x.1 x.2.2.1 with
      | some n => n.phase == .admitted || n.phase == .armed || s.inOverlap n x.2.2.2.1.lat
      | none => false)).foldl (fun m x =>
    let others := sumNat ((s.livePlans.filter (fun p => !(p.1 == x.1 && (p.2.1 == x.2.1 || p.2.1 == x.2.2.1)) &&
      !s.pairOld p.1 p.2.1)).map (fun p => p.2.2.img.share w))
    max m (overlapNeed x.2.2.2.1 x.2.2.2.2 w others rv)) sum

def cmdEnergyBudgetSet (k : Cmd) (s : State) : CmdOut :=
  let b := pf k.par 8 4
  let w := pf k.par 12 4
  let rv := pf k.par 16 4
  let g := pf k.par 20 1
  if within w 1 65536 = false || b = 0 || 750 * w < b || rv < 9 * w || b < rv || within g 1 64 = false then refuse s stBadParam
  else if b < s.energyNeed w rv then refuse s stEnergy (min (s.energyNeed w rv) 0xFFFFFFFF)
  else .wait (.atBeat (s.beat + 1)) s

/-- The new values take effect at a beat boundary. -/
def State.applyBudget (s : State) (par : Nat) : State :=
  let w := pf par 12 4
  let s := ((s.put F.EMU_BUDGET_UJ_B (pf par 8 4)).put F.EMU_WINDOW_W w).put F.EMU_RESERVE_UJ_RV (pf par 16 4)
  ((s.put F.EMU_GAIN_GAIN (pf par 20 1)).put F.EMU_DEVALLOW_UJ_ALLOW (9 * w)).setEff

end Sys2Proof.Machine
end

