-- ==== Sys2Proof/Machine/Fp.lean ====
section
/-! DEFINITION. The floating-point types of the engines (Table 9.1, R198, R203) as exact dyadic numbers: E4M3, bfloat16, and
the FP32 of accumulators, biases and scales, rounded to nearest with ties to even. -/

namespace Sys2Proof.Machine

/-- A floating value: NaN, an infinity, or a signed dyadic number m × 2^e. -/
inductive Fp where
  | nan
  | inf (neg : Bool)
  | fin (neg : Bool) (m : Nat) (e : Int)
  deriving DecidableEq, Repr

/-- A format: exponent bits, fraction bits, bias, whether the top exponent holds infinities. -/
structure FpFmt where
  eb : Nat
  fb : Nat
  bias : Int
  ieee : Bool

def fp32 : FpFmt := ⟨8, 23, 127, true⟩
def bf16 : FpFmt := ⟨8, 7, 127, true⟩
def fp8 : FpFmt := ⟨4, 3, 7, false⟩

/-- The value a pattern holds. `flush` reads subnormals as zero (R198). -/
def FpFmt.read (f : FpFmt) (flush : Bool) (x : Nat) : Fp :=
  let neg := bit x (f.eb + f.fb)
  let e := bits x (f.eb + f.fb - 1) f.fb
  let m := x % 2 ^ f.fb
  if f.ieee && e == 2 ^ f.eb - 1 then (if m = 0 then .inf neg else .nan)
  else if !f.ieee && e == 2 ^ f.eb - 1 && m == 2 ^ f.fb - 1 then .nan
  else if e = 0 then .fin neg (if flush then 0 else m) (1 - f.bias - f.fb)
  else .fin neg (2 ^ f.fb + m) (e - f.bias - f.fb)

/-- `m / 2^k` to the nearest natural, ties to even. -/
def rneShift (m k : Nat) : Nat :=
  let q := m >>> k
  let r := m % 2 ^ k
  if k = 0 then m else if 2 ^ k < 2 * r || (2 ^ k == 2 * r && q % 2 == 1) then q + 1 else q

/-- A dyadic number rounded to the precision of a format: significand and exponent on its grid. -/
def FpFmt.grid (f : FpFmt) (m : Nat) (e : Int) : Nat × Int :=
  if m = 0 then (0, 1 - f.bias - f.fb)
  else
    let low := max (e + (Nat.log2 m : Int) - f.fb) (1 - f.bias - f.fb)
    if low ≤ e then (m * 2 ^ (e - low).toNat, low) else (rneShift m (low - e).toNat, low)

/-- The largest exponent of a grid at which the leading bit is `2^fb`. -/
def FpFmt.top (f : FpFmt) : Int := (2 ^ f.eb : Nat) - (if f.ieee then 2 else 1) - f.bias - f.fb

/-- A value rounded to FP32 (R198). -/
def Fp.round32 : Fp → Fp
  | .fin neg m e =>
    let g := fp32.grid m e
    if 2 ^ 24 * 2 ^ fp32.top.toNat ≤ g.1 * 2 ^ (g.2 - 0).toNat && 0 ≤ g.2 then .inf neg else .fin neg g.1 g.2
  | x => x

/-- A sum before rounding; an exact zero is minus zero only when both terms are (IEEE 754). -/
def Fp.addExact : Fp → Fp → Fp
  | .nan, _ => .nan
  | _, .nan => .nan
  | .inf a, .inf b => if a == b then .inf a else .nan
  | .inf a, _ => .inf a
  | _, .inf b => .inf b
  | .fin na ma ea, .fin nb mb eb =>
    let e := min ea eb
    let va : Int := (if na then -1 else 1) * ((ma * 2 ^ (ea - e).toNat : Nat) : Int)
    let vb : Int := (if nb then -1 else 1) * ((mb * 2 ^ (eb - e).toNat : Nat) : Int)
    if va + vb = 0 then .fin (na && nb) 0 e else .fin (decide (va + vb < 0)) (va + vb).natAbs e

/-- An FP32 addition (R198). -/
def Fp.add (a b : Fp) : Fp := (a.addExact b).round32

/-- An exact product. -/
def Fp.mul : Fp → Fp → Fp
  | .nan, _ => .nan
  | _, .nan => .nan
  | .inf a, .inf b => .inf (xor a b)
  | .inf a, .fin b m _ => if m = 0 then .nan else .inf (xor a b)
  | .fin a m _, .inf b => if m = 0 then .nan else .inf (xor a b)
  | .fin a m e, .fin b n f => .fin (xor a b) (m * n) (e + f)

/-- A product as the array accumulates it: NaN for any NaN or infinite product (R198). -/
def Fp.macMul (a b : Fp) : Fp :=
  match a.mul b with
  | .inf _ => .nan
  | x => x

/-- max(0, x) (R203). -/
def Fp.relu : Fp → Fp
  | .nan => if Config.reluKeeps 0 then .nan else .fin false 0 0
  | .inf neg => if neg then .fin false 0 0 else .inf false
  | .fin neg m e =>
    if neg then (if m = 0 && Config.reluKeeps 1 then .fin true 0 e else .fin false 0 0) else .fin false m e

/-- The pattern of a value in a format, rounded to nearest even; beyond the range an E4M3 value saturates to ±448 and a
bfloat16 value becomes infinite (R203). -/
def FpFmt.write (f : FpFmt) : Fp → Nat
  | .nan =>
    if f.ieee then 2 ^ (f.eb + f.fb) * (Config.nanBits 3 % 2) + (2 ^ f.eb - 1) * 2 ^ f.fb + 1 + Config.nanBits 3 / 2 % (2 ^ f.fb - 1)
    else 2 ^ (f.eb + f.fb) * (Config.nanBits 2 % 2) + 2 ^ (f.eb + f.fb) - 1
  | .inf neg => 2 ^ (f.eb + f.fb) * b2n neg + (if f.ieee then (2 ^ f.eb - 1) * 2 ^ f.fb else 2 ^ (f.eb + f.fb) - 2)
  | .fin neg m e =>
    let g := f.grid m e
    let mant := g.1
    let x := (g.2 + f.fb + f.bias - 1).toNat * 2 ^ f.fb + mant
    let lim := if f.ieee then (2 ^ f.eb - 1) * 2 ^ f.fb else 2 ^ (f.eb + f.fb) - 2
    2 ^ (f.eb + f.fb) * b2n neg + min x lim

end Sys2Proof.Machine
end

