-- ==== Sys2Proof/Machine/Tine.lean ====
section
/-! DEFINITION. Tine engines (09_engines.md): model images and their checks (R200 to R202), layouts (R204), cycle counts (R209,
R211), local-bank regions (R206), the arithmetic of a layer (R198, R203, R208) and the TINE_RUN record. -/

namespace Sys2Proof.Machine

/-! ## Data types and layouts -/

/-- Bits of an element (Table 9.1). -/
def dtypeBits (d : Nat) : Nat := if d = 1 then 4 else if d = 3 then 16 else 8

/-- Reduction depth δ (Table 9.1). -/
def dtypeDepth (d : Nat) : Nat := if d = 1 then 128 else if d = 3 then 16 else 64

/-- The padded channel count C′ of a layout (R204). -/
def padChan (lay c : Nat) : Nat := if lay = 0 then ceilDiv c 16 * 16 else if lay = 1 then ceilDiv c 32 * 32 else c

/-- The layout factor LF (Table 9.5). -/
def layoutFactor (lay : Nat) : Nat := if lay = 2 then 4 else if lay = 3 then 16 else 1

/-- Bytes of a tensor in its layout. -/
def tensorBytes (d lay h w c : Nat) : Nat := ceilDiv (h * w * padChan lay c * dtypeBits d) 8

/-- Place of element (row, column, channel) in storage order (Table 9.5). -/
def elemAt (lay h w c y x k : Nat) : Nat :=
  match lay with
  | 0 => ((k / 16 * h + y) * w + x) * 16 + k % 16
  | 1 => ((k / 32 * h + y) * w + x) * 32 + k % 32
  | 2 => (y * w + x) * c + k
  | _ => (k * h + y) * w + x

/-- Row, column and channel of a place in storage order. -/
def elemOf (lay h w c i : Nat) : Nat × Nat × Nat :=
  match lay with
  | 0 => (i / (16 * w) % h, i / 16 % w, i / (16 * w * h) * 16 + i % 16)
  | 1 => (i / (32 * w) % h, i / 32 % w, i / (32 * w * h) * 32 + i % 32)
  | 2 => (i / (c * w), i / c % w, i % c)
  | _ => (i / w % h, i % w, i / (w * h))

/-- The pattern of element `i` of bytes; what lies beyond them is a free value. -/
def elemBits (d : Nat) (a : Array Nat) (i : Nat) : Nat :=
  let at_ (j : Nat) : Nat := a.getD j (Config.free j % 256)
  if d = 1 then (if i % 2 = 0 then at_ (i / 2) % 16 else at_ (i / 2) / 16)
  else if d = 3 then at_ (2 * i) + 256 * at_ (2 * i + 1)
  else at_ i

/-- Patterns packed into bytes, low nibble first (Table 9.1). -/
def packElems (d : Nat) : List Nat → Bytes
  | [] => []
  | x :: t =>
    if d = 1 then
      match t with
      | [] => [BitVec.ofNat 8 (x % 16)]
      | y :: t' => BitVec.ofNat 8 (x % 16 + y % 16 * 16) :: packElems d t'
    else if d = 3 then leBytes 2 x ++ packElems d t
    else BitVec.ofNat 8 x :: packElems d t

/-! ## Layers and images (R200 to R202) -/

def Layer.oh (y : Layer) : Int := ((y.ih + y.pt + y.pb : Nat) - (y.dh * (y.fh - 1) : Nat) - 1 : Int) / max 1 y.sh + 1
def Layer.ow (y : Layer) : Int := ((y.iw + y.pl + y.pr : Nat) - (y.dw * (y.fw - 1) : Nat) - 1 : Int) / max 1 y.sw + 1
def Layer.ohN (y : Layer) : Nat := y.oh.toNat
def Layer.owN (y : Layer) : Nat := y.ow.toNat

def Layer.direct (y : Layer) : Bool := decide (y.fh ≤ 11) && decide (y.fw ≤ 11)
def Layer.maxSide (y : Layer) : Nat := max y.fh y.fw
def Layer.elems (y : Layer) : Nat := y.k * y.fh * y.fw * y.c
def Layer.inBytes (y : Layer) : Nat := tensorBytes y.dtype y.inL y.ih y.iw y.c
def Layer.outBytes (y : Layer) : Nat := tensorBytes y.dtype y.outL y.ohN y.owN y.k

/-- Layer descriptor number `i` of an image (Table 9.3). -/
def readLayer (b : Bytes) (ofs : Nat) : Layer :=
  let f (o n : Nat) : Nat := leField b (ofs + o) n
  { fh := f 0 1, fw := f 1 1, sh := f 2 1 % 16, sw := f 2 1 / 16, dh := f 3 1 % 16, dw := f 3 1 / 16,
    pt := f 4 1, pb := f 5 1, pl := f 6 1, pr := f 7 1, ih := f 8 2, iw := f 0xA 2, c := f 0xC 2, k := f 0xE 2,
    dtype := f 0x10 1, inL := f 0x11 1, outL := f 0x12 1, epi := f 0x13 1, wOfs := f 0x14 4, wLen := f 0x18 4,
    zp := f 0x1C 1 }

/-- The format of one descriptor (R200, R202, Table 9.3). -/
def layerFormatOk (b : Bytes) (len layerOfs layers ofs : Nat) : Bool :=
  let y := readLayer b ofs
  decide (1 ≤ y.fh) && decide (1 ≤ y.fw) && within y.sh 1 4 && within y.sw 1 4 && within y.dh 1 4 && within y.dw 1 4 &&
  within y.ih 1 1024 && within y.iw 1 1024 && within y.c 1 4096 && within y.k 1 4096 && decide (y.dtype ≤ 3) &&
  decide (y.inL ≤ 3) && decide (y.outL ≤ 3) && decide (y.epi < 4) && y.wOfs % 64 == 0 &&
  (decide (y.dtype ≤ 1) || y.zp == 0) && leField b (ofs + 0x1D) 3 == 0 &&
  y.wLen == ceilDiv (y.elems * dtypeBits y.dtype) 8 + 8 * y.k &&
  (rangeFrom 0 y.k).all (fun i =>
    let p := y.wOfs + ceilDiv (y.elems * dtypeBits y.dtype) 8 + 8 * i
    decide (2 ≤ y.dtype) || (decide (leField b (p + 6) 1 ≤ 31) && leField b (p + 7) 1 == 0)) &&
  decide (64 ≤ y.wOfs) && decide (y.wOfs + y.wLen ≤ len) &&
  (decide (y.wOfs + y.wLen ≤ layerOfs) || decide (layerOfs + 32 * layers ≤ y.wOfs))

/-- The filter size and path limits of R201. -/
def Layer.pathOk (y : Layer) : Bool :=
  let pads := [y.pt, y.pb, y.pl, y.pr]
  if y.direct then pads.all (fun p => decide (p ≤ 5))
  else within y.fh 13 31 && within y.fw 13 31 && y.fh % 2 == 1 && y.fw % 2 == 1 &&
    y.sh == 1 && y.sw == 1 && y.dh == 1 && y.dw == 1 && pads.all (fun p => decide (2 * p + 1 ≤ y.maxSide))

/-- The header of a model image (R200, Table 9.2). -/
def modelHeaderOk (b : Bytes) : Bool :=
  let len := leField b 8 4
  let n := leField b 0xC 2
  let ofs := leField b 0x10 4
  leField b 0 4 == 0x4C444D42 && leField b 4 2 == 1 && leField b 6 2 == 0 && len == b.length && len % 64 == 0 &&
  within len 128 (32 * 2 ^ 20) && within n 1 1024 && leField b 0xE 2 == 0 && leField b 0x14 44 == 0 &&
  ofs % 64 == 0 && decide (64 ≤ ofs) && decide (ofs + 32 * n ≤ len)

/-- The first fault of an image's layers, from layer `i` on: a status and DETAIL (R216). -/
def layersFault (b : Bytes) (ofs n : Nat) : Nat → Nat → Option (Nat × Nat)
  | _, 0 => none
  | i, m + 1 =>
    let y := readLayer b (ofs + 32 * i)
    if layerFormatOk b b.length ofs n (ofs + 32 * i) = false then some (stImageBad, 0)
    else if y.pathOk = false then some (stFilter, i + y.maxSide % 256 * 2 ^ 16)
    else if y.oh < 1 || y.ow < 1 then some (stImageBad, 0)
    else layersFault b ofs n (i + 1) m

/-- The checks of R216 on a plaintext image: its layers, or the refusal. -/
def checkModel (b : Bytes) : Except (Nat × Nat) (List Layer) :=
  if modelHeaderOk b = false then .error (stImageBad, 0)
  else
    let n := leField b 0xC 2
    let ofs := leField b 0x10 4
    match layersFault b ofs n 0 n with
    | some e => .error e
    | none => .ok ((rangeFrom 0 n).map (fun i => readLayer b (ofs + 32 * i)))

/-- The digest of a model, low 32 bits (R200). -/
def modelHash (b : Bytes) : Nat := leNat ((sha256 b).take 4)

/-! ## Regions in the local banks (R206) -/

def Layer.nk (y : Layer) : Nat := ceilDiv y.k 64
def Layer.nr (y : Layer) : Nat := ceilDiv (y.fh * y.fw * padChan y.inL y.c) (dtypeDepth y.dtype)

/-- Wloc of a layer (R206, R211). -/
def Layer.wloc (y : Layer) : Nat :=
  if y.direct then ceilDiv (y.nk * y.nr * dtypeDepth y.dtype * 64 * dtypeBits y.dtype / 8 + 512 * y.nk) 64 * 64
  else ceilDiv (y.c * y.k * 2112 * 4 + 512 * y.nk) 64 * 64

/-- The model a context holds under an ID. -/
def State.model? (s : State) (c id : Nat) : Option Model := s.models.find? (fun m => m.c == c && m.id == id)

def Rec.layerFirst (r : Rec) : Nat := r.op1 % 2 ^ 16
def Rec.layerCount (r : Rec) : Nat := bits r.op1 23 16
def Rec.chainN (r : Rec) : Nat := bits r.op0 19 16
def Rec.wGran (r : Rec) : Nat := bits r.op2 14 0
def Rec.sGran (r : Rec) : Nat := bits r.op2 30 16
def Rec.freq (r : Rec) : Bool := bit r.flags 0
def Rec.dram (r : Rec) : Bool := bit r.flags 1

/-- The resident model of a TINE_RUN record, with the HASH_LO of its MODELS entry (R205). -/
def State.recModel (s : State) (c : Nat) (im : PlanImage) (r : Rec) : Option Model :=
  match im.models[r.model]? with
  | some f => match s.model? c f.id with
    | some m => if m.hash = f.hashLo then some m else none
    | none => none
  | none => none

/-- The layers of a record. -/
def Model.recLayers (m : Model) (r : Rec) : List Layer := (m.layers.drop r.layerFirst).take r.layerCount

/-- The granules of a record's weight region and of its scratch region: first granule and length. -/
def weightRegion (r : Rec) (ls : List Layer) : Nat × Nat := (r.wGran, sumNat (ls.map Layer.wloc) / 64)
def scratchRegion (r : Rec) (ls : List Layer) : Nat × Nat :=
  (r.sGran, if ls.length ≤ 1 then 0 else ceilDiv (2 * maxNat (ls.dropLast.map Layer.outBytes)) 64)

/-- First local address of a physical engine's banks (Table 11.1). -/
def engLa (die phys : Nat) : Nat := bankLa (0x100 + 0x200 * die + 16 * phys)

/-- The logical engine that a record claims. -/
def PlanImage.recUnit (im : PlanImage) (r : Rec) (kind : Nat) : Nat :=
  ((im.recClaims r).filter (fun k => k.kind == kind)).foldr (fun k _ => k.first) 0

/-! ## Cycle counts (R209, R211) -/

/-- The LPDDR5X channel that a BUFFERS operand lies in, if it does. -/
def State.bufChannel (s : State) (c : Nat) (im : PlanImage) (op : Nat) : Option Nat :=
  if op ≥ 0x8000 then none
  else match im.bufs[op]? with
    | none => none
    | some b => match s.rangeById c b.rangeId with
      | some (_, r) => if (r.kind = 1 || r.kind = 2) && r.la ≥ 0x100000000 then some (laPlace (r.la + b.offset) - 4) else none
      | none => none

/-- Granules per beat of the record's DRAM window on a channel. -/
def PlanImage.dramRate (im : PlanImage) (r : Rec) (ch : Nat) : Nat :=
  match (im.recClaims r).find? (fun k => k.kind == 14 && decide (k.first ≤ ch) && decide (ch < k.first + k.count)) with
  | some k => max 1 k.p1
  | none => 1

/-- Cycles that granules of an operand count as (R209, R228). -/
def State.granCost (s : State) (c : Nat) (im : PlanImage) (r : Rec) (op g : Nat) : Nat :=
  match s.bufChannel c im op with
  | some ch => if r.dram then ceilDiv (g * 6000) (im.dramRate r ch) else g
  | none => g

/-- The tiles of a layer's output pixels. -/
def tilePixels (p : Nat) : List Nat :=
  List.replicate (p / 1024) 1024 ++ (if p % 1024 = 0 then [] else [p % 1024])

/-- Cycles of one layer, the traffic of its input and output given (R209, R211). -/
def Layer.cycles (y : Layer) (gIn gOut u : Nat) : Nat :=
  if y.direct then
    let compute := sumNat ((tilePixels (y.ohN * y.owN)).map (fun p => y.nr * y.nk * max (p * layoutFactor y.inL) 64))
    96 + max compute (gIn + gOut)
  else
    let v := 65 - y.maxSide
    let nt := ceilDiv y.ohN v * ceilDiv y.owN v
    max (96 + nt * 2112 * 4 * ceilDiv y.c 16 * ceilDiv y.k 64) (96 + ceilDiv (nt * (y.c + y.k) * 384) (max 1 u)) + gIn + gOut

/-- The cycle count that admission charges a TINE_RUN record (R209). -/
def State.tineCycles (s : State) (c : Nat) (im : PlanImage) (r : Rec) (ls : List Layer) : Nat :=
  let n := ls.length
  sumNat (((rangeFrom 0 n).zip ls).map (fun e =>
    e.2.cycles (if e.1 = 0 then s.granCost c im r r.inBuf (ceilDiv e.2.inBytes 64) else 0)
      (if e.1 + 1 = n then s.granCost c im r r.outBuf (ceilDiv e.2.outBytes 64) else 0) r.chainN))

/-- The chain unit's cycle count of a frequency-path layer (R211, R229). -/
def Layer.chainCycles (y : Layer) (u : Nat) : Nat :=
  let v := 65 - y.maxSide
  96 + ceilDiv (ceilDiv y.ohN v * ceilDiv y.owN v * (y.c + y.k) * 384) (max 1 u)

/-! ## The arithmetic of a layer -/

/-- A quotient by a positive number, rounded to nearest with ties away from zero. -/
def divAway (a : Int) (d : Nat) : Int :=
  let q : Int := ((2 * a.natAbs + d) / (2 * d) : Nat)
  if a < 0 then -q else q

/-- The input row or column that output `o` and tap `t` use; none in the padding (R208). -/
def tapAt (o stride t dil pad size : Nat) : Option Nat :=
  let v := o * stride + t * dil
  if v < pad then none else if v - pad < size then some (v - pad) else none

/-- The taps of a window in reduction order: row, column, channel (R208). -/
def Layer.taps (y : Layer) : List (Nat × Nat × Nat) :=
  (rangeFrom 0 y.fh).flatMap (fun r => (rangeFrom 0 y.fw).flatMap (fun t => (rangeFrom 0 y.c).map (fun c => (r, t, c))))

/-- The pattern of the input element of a tap of output pixel (oy, ox), 0 in the padding. -/
def Layer.inAt (y : Layer) (inp : Array Nat) (oy ox : Nat) (t : Nat × Nat × Nat) : Nat :=
  match tapAt oy y.sh t.1 y.dh y.pt y.ih, tapAt ox y.sw t.2.1 y.dw y.pl y.iw with
  | some a, some b => elemBits y.dtype inp (elemAt y.inL y.ih y.iw y.c a b t.2.2)
  | _, _ => 0

/-- The pattern of weight w[k][r][s][c] (R202). -/
def Layer.wAt (y : Layer) (w : Array Nat) (k : Nat) (t : Nat × Nat × Nat) : Nat :=
  elemBits y.dtype w (((k * y.fh + t.1) * y.fw + t.2.1) * y.c + t.2.2)

/-- Parameter entry of channel `k` as a number of 8 bytes (R202). -/
def Layer.param (y : Layer) (w : Array Nat) (k : Nat) : Nat :=
  (rangeFrom 0 8).foldr (fun i n => w.getD (ceilDiv (y.elems * dtypeBits y.dtype) 8 + 8 * k + i) 0 + 256 * n) 0

/-- Output pixel of an integer layer (R198, R203, R208). -/
def Layer.intPixel (y : Layer) (w inp : Array Nat) (oy ox k : Nat) : Nat :=
  let n := dtypeBits y.dtype
  let acc := sint 32 (uint 32 (y.taps.foldl (fun (a : Int) t => a + sint n (y.wAt w k t) * sint n (y.inAt inp oy ox t)) 0))
  let p := y.param w k
  let b := if bit y.epi 0 then sint 32 p else 0
  let v := roundAway ((acc + b) * sint 16 (numField p 4 2)) (numField p 6 1 % 32)
  let v := if bit y.epi 1 then max 0 v else v
  uint n (clampInt n (sint 8 y.zp + v))

/-- Output pixel of a floating layer (R198, R203, R208). -/
def Layer.fpPixel (y : Layer) (w inp : Array Nat) (oy ox k : Nat) : Nat :=
  let f := if y.dtype = 2 then fp8 else bf16
  let acc := y.taps.foldl (fun (a : Fp) t => a.add ((f.read true (y.wAt w k t)).macMul (f.read true (y.inAt inp oy ox t))))
    (.fin false 0 0)
  let p := y.param w k
  let v := if bit y.epi 0 then acc.add (fp32.read true (numField p 0 4)) else acc
  let v := v.mul (fp32.read false (numField p 4 4))
  f.write (if bit y.epi 1 then v.relu else v)

/-- The output of a direct-path layer, in storage order, zeros in the padding channels. -/
def Layer.run (y : Layer) (w inp : Array Nat) : Bytes :=
  packElems y.dtype ((rangeFrom 0 (y.ohN * y.owN * padChan y.outL y.k)).map (fun i =>
    let e := elemOf y.outL y.ohN y.owN y.k i
    if y.k ≤ e.2.2 then 0
    else if y.dtype ≤ 1 then y.intPixel w inp e.1 e.2.1 e.2.2 else y.fpPixel w inp e.1 e.2.1 e.2.2))

/-- Free bytes: `n` values the spec leaves open, from the `m`-th on. -/
def freeBytes (m n : Nat) : Bytes := (rangeFrom m n).map (fun i => BitVec.ofNat 8 (Config.free i))

/-- An output whose values the spec leaves open: free elements, zeros in the padding channels (R211, R364). -/
def Layer.runFree (y : Layer) (m : Nat) : Bytes :=
  packElems y.dtype ((rangeFrom 0 (y.ohN * y.owN * padChan y.outL y.k)).map (fun i =>
    if y.k ≤ (elemOf y.outL y.ohN y.owN y.k i).2.2 then 0 else Config.free (m + i) % 2 ^ dtypeBits y.dtype))

/-- Bytes as an array of numbers. -/
def byteArray (b : Bytes) : Array Nat := (b.map (fun x => x.toNat)).toArray

/-- The layers of a record run one after another. -/
def runLayers (img : Bytes) : List Layer → Bytes → Bytes
  | [], inp => inp
  | y :: t, inp => runLayers img t (y.run (byteArray ((img.drop y.wOfs).take y.wLen)) (byteArray inp))

/-! ## Engines -/

def EngDie.init : EngDie := ⟨false, none, none, 0, false, [], []⟩

def State.engDie (s : State) (d : Nat) : EngDie := tget s.engDies d EngDie.init
def State.setEngDie (s : State) (d : Nat) (x : EngDie) : State := { s with engDies := tput s.engDies d x }

/-- The role of a physical engine (Table 9.7): 0 ACTIVE, 1 SPARE, 2 SHADOW, 3 SELFTEST, 4 FAILED. -/
def State.engRole (s : State) (d n : Nat) : Nat := s.get (F.TINE_ROLE_ROLE d n)

/-- A physical engine starts no record: fenced or FAILED (R354). -/
def State.engSick (s : State) (d n : Nat) : Bool := (s.engDie d).fenced.contains n || s.engRole d n == 4

/-- An injection is active on a detector and has armed (R364 to R366). -/
def State.injecting (s : State) (det : Nat) : Bool :=
  s.on F.FMU_STATUS_INJ_ACTIVE && s.get F.FMU_INJ_DETECTOR == det && decide (s.rd R.FMU_INJ_AT ≤ s.time)

/-- A record that a unit ran is kept as its last one. -/
def State.noteRun (s : State) (unit : Nat) (r : RecRun) : State := { s with lastRun := tput s.lastRun unit r }

/-- Some byte of a span of device memory is poisoned. -/
def State.spanPoisoned (s : State) (a n : Nat) : Bool := (eccWords a n).any (fun w => s.poisonedAt w)

/-- What TINE_RUN writes: the output of the last layer, or free values on the frequency path and under an injection. -/
def State.tineOutput (s : State) (m : Model) (ls : List Layer) (injected : Bool) (inp : Bytes) : Bytes × State :=
  match ls.getLast? with
  | none => ([], s)
  | some y =>
    if injected || !ls.all Layer.direct then
      (y.runFree s.fresh, { s with fresh := s.fresh + y.ohN * y.owN * padChan y.outL y.k })
    else (runLayers m.img ls inp, s)

/-- What a frequency-path record leaves in its chain units (R211, R229). -/
def State.freqUnits (s : State) (a : Act) (y : Layer) (bub : Nat) : State :=
  (a.units 2).foldl (fun s u =>
    let s := (s.wr (R.CHU_LASTCYC (u / 4) (u % 4)) (y.chainCycles a.rcd.chainN + bub)).incWrap (F.CHU_RECS_RECS (u / 4) (u % 4))
    (s.incSat (F.CHU_STAT_BUBBLES (u / 4) (u % 4)) bub).noteRun (0x1000 + u) a.run) s

/-- The cycles of a TINE_RUN record: its charge and its bubbles (R209, R319). -/
def State.tineCyc (s : State) (r : RecRun) (a : Act) (m : Model) : Nat :=
  s.tineCycles r.c a.plan.img a.rcd (m.recLayers a.rcd) + s.bubblesOf a

/-- The layers of a TINE_RUN record run on its engine (R205 to R212): the input read, the scratch region and the output written,
the record counted. -/
def State.tineWork (s : State) (r : RecRun) (a : Act) (m : Model) (bi bo : Buf) : State :=
  let log := a.plan.img.recUnit a.rcd 1
  let d := log / 15
  let n := s.physOf log
  let ls := m.recLayers a.rcd
  let bub := s.bubblesOf a
  let cyc := s.tineCyc r a m
  let who := a.who (16 * d + n)
  let x := s.readBuf who bi 0 ((ls.head?.map Layer.inBytes).getD 0)
  let w := weightRegion a.rcd ls
  let bad := x.1.any (·.2) || bi.revoked || bo.revoked || x.2.spanPoisoned (engLa d n + 64 * w.1) (64 * w.2)
  let s := x.2.consume a bad
  let sc := scratchRegion a.rcd ls
  let s := if sc.2 = 0 then s else
    State.writeLa { s with fresh := s.fresh + 64 * sc.2 } who (engLa d n + 64 * sc.1) (clean (freeBytes s.fresh (64 * sc.2)))
  let o := s.tineOutput m ls (s.injecting (0x20 + 16 * d + n)) (x.1.map (·.1))
  let s := o.2.writeBuf who bo 0 (clean o.1)
  let s := ((s.wr (R.TINE_LASTCYC d n) cyc).incWrap (F.TINE_RECS_RECS d n)).incSat (F.TINE_STAT_BUBBLES d n) bub
  let s := if a.rcd.freq then (ls.head?.map (fun y => s.freqUnits a y bub)).getD s else s
  (s.noteRun (16 * d + n) r).markRan r

/-- TINE_RUN: the record's layers run on the physical engine that carries its logical engine (R205 to R212). A fenced or
failed engine does not run it (R354). -/
def tineRun (r : RecRun) (s : State) : State :=
  match s.due? r 1 with
  | none => s
  | some a =>
    let log := a.plan.img.recUnit a.rcd 1
    let d := log / 15
    let n := s.physOf log
    if s.engSick d n || s.actDomains a = false then (s.faultAct a).markRan r
    else match s.recModel r.c a.plan.img a.rcd, s.actBuf a a.rcd.inBuf, s.actBuf a a.rcd.outBuf with
      | some m, some bi, some bo =>
        if (r.item && s.slackSpent a) || decide (6000 * a.rcd.issue < s.tineCyc r a m) then s
        else s.tineWork r a m bi bo
      | _, _, _ => s

/-- The weight fill while a plan is ARMED (R206): every record's weight region takes its weights in the engine's own form (free
bytes); poison in the model store makes them poisoned. A region that another live plan holds filled is shared (R207). -/
def State.fillRecord (s : State) (c h : Nat) (im : PlanImage) (r : Rec) : State :=
  match s.recModel c im r with
  | none => s
  | some m =>
    let log := im.recUnit r 1
    let d := log / 15
    let n := s.physOf log
    let ls := m.recLayers r
    let w := weightRegion r ls
    let shared := s.livePlans.any (fun p => !(p.1 == c && p.2.1 == h) && (p.2.2.phase == .running || p.2.2.phase == .draining) &&
      (p.2.2.img.itemRecs ++ p.2.2.img.cycRecs).any (fun k => k.kind == 1 && p.2.2.img.recUnit k 1 == log && k.wGran == r.wGran &&
        (match s.recModel p.1 p.2.2.img k with | some m' => m'.hash == m.hash | none => false)))
    if shared then s
    else
      let bad := m.blocks.any (fun b => s.spanPoisoned (dramLa 0 + 4096 * (Config.modelStore + b)) 4096)
      let bs := (freeBytes s.fresh (64 * w.2)).map (fun x => (x, bad))
      State.writeLa { s with fresh := s.fresh + 64 * w.2 } ⟨0xA000 + d, 0xFF, false, 0⟩ (engLa d n + 64 * w.1) bs

def State.fillWeights (s : State) (c h : Nat) (im : PlanImage) : State :=
  ((im.itemRecs ++ im.cycRecs).filter (fun r => r.kind == 1)).foldl (fun s r => s.fillRecord c h im r) s

end Sys2Proof.Machine
end

