-- ==== Sys2Proof/Machine/Chain.lean ====
section
/-! DEFINITION. Chain units and post-processing (10_chains_post.md): chain programs and their validity (R221 to R223), the
stages (R220, R222), sorts (R231) and detections (R233 to R236), their cycle counts and their records. -/

namespace Sys2Proof.Machine

/-! ## Programs (Tables 10.1 and 10.2) -/

/-- A stage entry. -/
structure Stage where
  opc : Nat
  sub : Nat
  bsel : Nat
  shift : Int
  a : Nat
  ci : Nat
  p : Nat
  q : Nat

/-- A chain program as a list of 768 bytes. -/
abbrev ChainProg := Bytes

def ChainProg.stages (b : ChainProg) : Nat := leField b 4 1

def ChainProg.stage (b : ChainProg) (i : Nat) : Stage :=
  let o := 0x40 + 16 * i
  { opc := leField b o 1, sub := leField b (o + 1) 1, bsel := leField b (o + 2) 1, shift := sint 8 (leField b (o + 3) 1),
    a := leField b (o + 4) 1, ci := leField b (o + 5) 1, p := leField b (o + 6) 2, q := leField b (o + 8) 2 }

def ChainProg.list (b : ChainProg) : List Stage := (rangeFrom 0 (ChainProg.stages b)).map (ChainProg.stage b)

def ChainProg.const (b : ChainProg) (i : Nat) : Int := sint 16 (leField b (0xC0 + 2 * i) 2)
def ChainProg.lut (b : ChainProg) (i : Nat) : Int := sint 16 (leField b (0x100 + 2 * min i 255) 2)
def ChainProg.h (b : ChainProg) : Nat := leField b 8 2
def ChainProg.w (b : ChainProg) : Nat := leField b 0xA 2
def ChainProg.c (b : ChainProg) : Nat := leField b 0xC 2
def ChainProg.in2Gran (b : ChainProg) : Nat := leField b 0xE 2

def Stage.kh (g : Stage) : Nat := g.p % 256
def Stage.kw (g : Stage) : Nat := g.p / 256
def Stage.strideH (g : Stage) : Nat := max 1 (g.q % 256)
def Stage.strideW (g : Stage) : Nat := max 1 (g.q / 256)

/-- Output rows and columns of a POOL stage. -/
def ChainProg.poolOut (b : ChainProg) (g : Stage) : Nat × Nat :=
  ((ChainProg.h b - g.kh) / g.strideH + 1, (ChainProg.w b - g.kw) / g.strideW + 1)

/-- How many elements leave a stage that `n` enter. -/
def ChainProg.leaves (b : ChainProg) (g : Stage) (n : Nat) : Nat :=
  if g.opc = 6 then n / max 1 g.p
  else if g.opc = 8 then (ChainProg.poolOut b g).1 * (ChainProg.poolOut b g).2 * ChainProg.c b
  else n

/-- The elements that enter each stage. -/
def ChainProg.enters (b : ChainProg) : List Stage → Nat → List (Stage × Nat)
  | [], _ => []
  | g :: t, n => (g, n) :: ChainProg.enters b t (ChainProg.leaves b g n)

/-- Rate factor F (Table 10.3). -/
def Stage.rate (g : Stage) : Nat := if g.opc = 7 then g.p else if g.opc = 8 then g.kh * g.kw else if g.opc = 9 then 2 else 1

/-- Bytes of an element in a LOAD or STORE format. -/
def formatBytes (f : Nat) : Nat := if f ≤ 1 then 1 else 2

/-- The largest SUB of an operation (Table 10.3). -/
def subOk (opc sub : Nat) : Bool :=
  match opc with
  | 1 => decide (sub ≤ 3)
  | 2 => decide (sub ≤ 1)
  | 3 => decide (sub ≤ 6)
  | 5 => decide (sub ≤ 5)
  | 6 => decide (sub ≤ 5)
  | 7 => decide (sub ≤ 1)
  | 8 => decide (sub ≤ 1)
  | 11 => sub == 0 || sub == 2
  | _ => sub == 0

/-- A stage reads operand Y. -/
def Stage.readsY (g : Stage) : Bool := ((g.opc == 3 && g.sub != 6) || g.opc == 5) && !bit g.bsel 0

/-- A LOAD of Y. -/
def Stage.loadsY (g : Stage) : Bool := g.opc == 1 && bit g.bsel 1

/-- Stage number `i` of `m`, which `n` elements enter, is valid after the stages before it (R223). -/
def ChainProg.stageOk (b : ChainProg) (m i : Nat) (before : List Stage) (g : Stage) (n : Nat) : Bool :=
  within g.opc 1 11 && subOk g.opc g.sub && decide (g.bsel < 4) && decide (-15 ≤ g.shift) && decide (g.shift ≤ 31) &&
  decide (g.a ≤ 31) && decide (g.ci ≤ 31) && leField b (0x40 + 16 * i + 0xA) 6 == 0 &&
  (if i = 0 then g.opc == 1 && !bit g.bsel 1 else if i + 1 = m then g.opc == 11 else g.opc != 11 && (g.opc != 1 || bit g.bsel 1)) &&
  (!g.readsY || before.any Stage.loadsY) &&
  (match g.opc with
   | 6 => decide (1 ≤ g.p) && n % max 1 g.p == 0
   | 7 => within g.p 1 3 && n % (2 * 4 ^ (g.p % 4)) == 0
   | 8 => i == 1 && within g.kh 1 11 && within g.kw 1 11 && within (g.q % 256) 1 4 && within (g.q / 256) 1 4 &&
     ChainProg.h b * ChainProg.w b * ChainProg.c b == n && decide (g.kh ≤ ChainProg.h b) && decide (g.kw ≤ ChainProg.w b)
   | 9 => within g.p 1 4096 && n % max 1 g.p == 0 && decide (1 ≤ ChainProg.const b g.ci)
   | _ => true)

def ChainProg.stagesOk (b : ChainProg) (m : Nat) : List (Stage × Nat) → Nat → List Stage → Bool
  | [], _, _ => true
  | (g, n) :: t, i, before => ChainProg.stageOk b m i before g n && ChainProg.stagesOk b m t (i + 1) (before ++ [g])

/-- A program is valid for a count of elements (R221, R223). -/
def ChainProg.valid (b : ChainProg) (count : Nat) : Bool :=
  let m := ChainProg.stages b
  let dims := [ChainProg.h b, ChainProg.w b, ChainProg.c b]
  b.length == 768 && leField b 0 4 == 0x50484342 && within m 2 8 && leField b 5 3 == 0 && leField b 0x10 48 == 0 &&
  leField b (0x40 + 16 * m) (128 - 16 * m) == 0 &&
  (if (ChainProg.list b).any (fun g => g.opc == 8) then dims.all (fun d => within d 1 1024) else dims.all (· == 0)) &&
  ChainProg.stagesOk b m (ChainProg.enters b (ChainProg.list b) count) 0 []

/-! ## Stage arithmetic (R220, R222) -/

/-- rnd(v, s): rounded to nearest, ties away from zero, for s ≥ 0; a product for s < 0. -/
def rndS (v s : Int) : Int := if 0 ≤ s then roundAway v s.toNat else v * 2 ^ (-s).toNat

/-- An element on its way: X, Y, whether poison went into it, and the clamps that changed it so far. -/
structure Elem where
  x : Int
  y : Int
  bad : Bool
  sat : Nat

/-- X set to a clamped value; a clamp that changes it is counted. -/
def Elem.set (e : Elem) (n : Nat) (v : Int) : Elem :=
  { e with x := clampInt n v, sat := e.sat + b2n (clampInt n v != v) }

/-- Elements `k` bytes wide read from data. -/
def chunk (k : Nat) : Nat → List PByte → List (List PByte)
  | 0, _ => []
  | n + 1, d => d.take k :: chunk k n (d.drop k)

/-- The value a LOAD forms, before its clamp; a NaN gives a free value. -/
def loadValue (f : Nat) (shift : Int) (d : Nat) : Int :=
  match f with
  | 0 => sint 8 d
  | 1 => (d % 256 : Nat)
  | 2 => sint 16 d
  | _ => match bf16.read false d with
    | .nan => sint 16 (Config.free d)
    | .inf neg => if neg then -32769 else 32768
    | .fin neg m e =>
      let t := e + shift
      let v : Int := if 0 ≤ t then (m * 2 ^ t.toNat : Nat) else roundAway (m : Nat) (-t).toNat
      if neg then -v else v

/-- One element loaded: its target X or Y set. -/
def Elem.load (e : Elem) (g : Stage) (d : List PByte) : Elem :=
  let v := loadValue g.sub g.shift (leNat (d.map (·.1)))
  let e := { e with bad := e.bad || d.any (·.2), sat := e.sat + b2n (clampInt 16 v != v) }
  if bit g.bsel 1 then { e with y := clampInt 16 v } else { e with x := clampInt 16 v }

/-- The relation of a SELECT. -/
def relOf (sub : Nat) (x b : Int) : Bool :=
  match sub with
  | 0 => decide (x < b)
  | 1 => decide (x ≤ b)
  | 2 => decide (x = b)
  | 3 => decide (x ≠ b)
  | 4 => decide (b ≤ x)
  | _ => decide (b < x)

/-- The stages that treat every element for itself. -/
def ChainProg.each (p : ChainProg) (g : Stage) (e : Elem) : Elem :=
  let b := if bit g.bsel 0 then ChainProg.const p g.a else e.y
  match g.opc with
  | 2 => e.set (if g.sub = 1 then 8 else 16) (rndS e.x g.shift)
  | 3 => e.set 16 (match g.sub with
      | 0 => e.x + b
      | 1 => e.x - b
      | 2 => rndS (e.x * b) g.shift
      | 3 => rndS (e.x * b) g.shift + ChainProg.const p g.ci
      | 4 => min e.x b
      | 5 => max e.x b
      | _ => (e.x.natAbs : Int))
  | 4 =>
    let u := (e.x + 32768).toNat
    let t0 := ChainProg.lut p (u / 256)
    e.set 16 (t0 + roundAway ((ChainProg.lut p (u / 256 + 1) - t0) * (u % 256 : Nat)) 8)
  | 5 => if relOf g.sub e.x b then { e with x := ChainProg.const p g.ci } else e
  | 10 => e.set 8 (rndS e.x g.shift + sint 16 g.p)
  | _ => e

/-- A list cut into groups of `k`. -/
def groups (k : Nat) : Nat → List Elem → List (List Elem)
  | 0, _ => []
  | n + 1, l => l.take k :: groups k n (l.drop k)

/-- The first index of an extreme value. -/
def argBest (better : Int → Int → Bool) : List Int → Nat → Nat → Int → Nat
  | [], _, best, _ => best
  | x :: t, i, best, v => if better x v then argBest better t (i + 1) i x else argBest better t (i + 1) best v

/-- REDUCE over one group. -/
def reduceGroup (g : Stage) (l : List Elem) : Elem :=
  let xs := l.map (·.x)
  let e : Elem := ⟨0, 0, l.any (·.bad), sumNat (l.map (·.sat))⟩
  let h := xs.headD 0
  match g.sub with
  | 0 => e.set 16 (rndS (sint 48 (uint 48 (xs.foldl (· + ·) 0))) g.shift)
  | 1 => e.set 16 (rndS (sint 48 (uint 48 (xs.foldl (fun a x => a + x * x) 0))) g.shift)
  | 2 => { e with x := xs.foldl min h }
  | 3 => { e with x := xs.foldl max h }
  | 4 => { e with x := (argBest (fun a b => decide (a < b)) xs 0 0 h : Nat) }
  | _ => { e with x := (argBest (fun a b => decide (b < a)) xs 0 0 h : Nat) }

/-- NORMALIZE over one group. -/
def ChainProg.normGroup (p : ChainProg) (g : Stage) (l : List Elem) : List Elem :=
  let n := l.length
  let m := divAway (l.foldl (fun a e => a + e.x) 0) (max 1 n)
  let v := (l.foldl (fun (a : Int) e => a + (e.x - m) * (e.x - m)) 0).toNat / max 1 n
  let r : Nat := 2 ^ 23 / max 1 (Nat.sqrt (v + (ChainProg.const p g.ci).toNat))
  let bad := l.any (·.bad)
  l.map (fun e => { e with bad := bad }.set 16 (rndS ((e.x - m) * (r : Int) * ChainProg.const p g.a) (8 + g.shift)))

/-- POOL: output element number `i` of the HWC result. -/
def ChainProg.poolAt (p : ChainProg) (g : Stage) (l : Array Elem) (i : Nat) : Elem :=
  let c := max 1 (ChainProg.c p)
  let ow := max 1 (ChainProg.poolOut p g).2
  let oy := i / c / ow
  let ox := i / c % ow
  let win := (rangeFrom 0 g.kh).flatMap (fun r => (rangeFrom 0 g.kw).map (fun t =>
    l.getD (((oy * g.strideH + r) * ChainProg.w p + ox * g.strideW + t) * c + i % c) ⟨0, 0, false, 0⟩))
  let xs := win.map (·.x)
  let v := if g.sub = 0 then xs.foldl max (xs.headD 0) else divAway (xs.foldl (· + ·) 0) (max 1 (g.kh * g.kw))
  ⟨v, 0, win.any (·.bad), 0⟩

/-- A length-4 FFT on four complex values: one radix-4 pass, its outputs scaled by rnd(·, 2). -/
def fft4 (inv : Bool) (l : List Elem) : List Elem :=
  match l with
  | [ar, ai, br, bi, cr, ci, dr, di] =>
    let bad := l.any (·.bad)
    let j : Int := if inv then -1 else 1
    let o (e : Elem) (v : Int) : Elem := { e with bad := bad }.set 16 (roundAway v 2)
    [o ar (ar.x + br.x + cr.x + dr.x), o ai (ai.x + bi.x + ci.x + di.x),
     o br (ar.x - cr.x + j * (bi.x - di.x)), o bi (ai.x - ci.x - j * (br.x - dr.x)),
     o cr (ar.x - br.x + cr.x - dr.x), o ci (ai.x - bi.x + ci.x - di.x),
     o dr (ar.x - cr.x - j * (bi.x - di.x)), o di (ai.x - ci.x + j * (br.x - dr.x))]
  | _ => l

/-- FFT4. With more than one radix-4 pass the spec does not fix where the passes round their twiddle products, so the
results are free values. -/
def fftBlock (g : Stage) (m : Nat) (l : List Elem) : List Elem :=
  if g.p = 1 then fft4 (g.sub == 1) l
  else
    let bad := l.any (·.bad)
    ((rangeFrom 0 l.length).zip l).map (fun e =>
      { e.2 with x := sint 16 (Config.free (m + 2 * e.1)), bad := bad, sat := e.2.sat + Config.free (m + 2 * e.1 + 1) % 2 })

/-- One stage on all its elements; `in2` is what a LOAD of Y reads, `m` numbers its free values. -/
def ChainProg.runStage (p : ChainProg) (g : Stage) (in2 : List PByte) (m : Nat) (l : List Elem) : List Elem :=
  let n := l.length
  match g.opc with
  | 1 => (l.zip (chunk (formatBytes g.sub) n in2)).map (fun e => e.1.load g e.2)
  | 6 => (groups (max 1 g.p) (n / max 1 g.p) l).map (reduceGroup g)
  | 7 => ((groups (2 * 4 ^ g.p) (n / (2 * 4 ^ g.p)) l).zip (rangeFrom 0 n)).flatMap (fun b => fftBlock g (m + 2 * 128 * b.2) b.1)
  | 8 => (rangeFrom 0 (ChainProg.leaves p g n)).map (ChainProg.poolAt p g l.toArray)
  | 9 => (groups (max 1 g.p) (n / max 1 g.p) l).flatMap (ChainProg.normGroup p g)
  | _ => l.map (ChainProg.each p g)

/-- The stages after the first and before the last, in order. -/
def ChainProg.runStages (p : ChainProg) (in2 : List PByte) : List Stage → Nat → List Elem → List Elem
  | [], _, l => l
  | g :: t, m, l => ChainProg.runStages p in2 t (m + 65536) (ChainProg.runStage p g in2 m l)

/-- What the STORE writes, and the clamps of the whole record. -/
def storeBytes (g : Stage) (l : List Elem) : List PByte × Nat :=
  let n := if g.sub = 0 then 8 else 16
  let l := l.map (fun e => e.set n e.x)
  (l.flatMap (fun e => (leBytes (n / 8) (uint n e.x)).map (fun b => (b, e.bad))), sumNat (l.map (·.sat)))

/-! ## The CHAIN_OP record (R225 to R230) -/

def Rec.prog (r : Rec) : Nat := r.op0 % 2 ^ 16
def Rec.chainCount (r : Rec) : Nat := bits r.op0 30 16
def Rec.in2 (r : Rec) : Nat := r.op1 % 2 ^ 16
def Rec.inGran (r : Rec) : Nat := r.op2 % 2 ^ 16
def Rec.outGran (r : Rec) : Nat := bits r.op2 31 16

/-- Bytes that a program's LOAD of X, LOADs of Y and STORE move. -/
def ChainProg.traffic (p : ChainProg) (count : Nat) : Nat × Nat × Nat :=
  let l := ChainProg.enters p (ChainProg.list p) count
  let size (t : Stage → Bool) : Nat := sumNat ((l.filter (fun e => t e.1)).map (fun e => e.2 * formatBytes e.1.sub))
  (size (fun g => g.opc == 1 && !bit g.bsel 1), size Stage.loadsY, size (fun g => g.opc == 11))

/-- The cycle count of a CHAIN_OP record (R227). -/
def State.chainCycles (s : State) (c : Nat) (im : PlanImage) (r : Rec) (p : ChainProg) : Nat :=
  let l := ChainProg.enters p (ChainProg.list p) r.chainCount
  let t := ChainProg.traffic p r.chainCount
  let g (op n : Nat) : Nat := s.granCost c im r op (ceilDiv n 64)
  48 + 8 * ChainProg.stages p + max (maxNat (l.map (fun e => ceilDiv e.2 64 * e.1.rate)))
    (g r.inBuf t.1 + g r.in2 t.2.1 + g r.outBuf t.2.2)

/-- The copy that a plan made of a buffer into a unit's store (R226, R233). -/
def State.copy? (s : State) (c h unit buf : Nat) : Option Copy :=
  s.copies.find? (fun x => x.plan == 4 * c + h && x.unit == unit && x.buf == buf)

/-- A unit declared failed starts no record from a beat on (R360). -/
def State.unitFailed (s : State) (unit beat : Nat) : Bool :=
  match tfind s.failFrom unit with
  | some b => decide (b ≤ beat)
  | none => false

/-- Free values in place of a result that an injected fault has changed (R364). -/
def spoil (m : Nat) (d : List PByte) : List PByte :=
  ((rangeFrom m d.length).zip d).map (fun e => (BitVec.ofNat 8 (Config.free e.1), e.2.2))

/-- The bytes a record writes: as computed, or free values while its detector is injected. -/
def State.result (s : State) (det : Nat) (d : List PByte) : List PByte × State :=
  if s.injecting det then (spoil s.fresh d, { s with fresh := s.fresh + d.length }) else (d, s)

/-- The cycles of a CHAIN_OP record (R227, R319). -/
def State.chainCyc (s : State) (r : RecRun) (a : Act) (k : Copy) : Nat :=
  s.chainCycles r.c a.plan.img a.rcd k.data + s.bubblesOf a

/-- The stages of a CHAIN_OP record on its unit (R222, R225, R227). -/
def State.chainWork (s : State) (r : RecRun) (a : Act) (k : Copy) (bi bo : Buf) : State :=
  let u := a.plan.img.recUnit a.rcd 2
  let bub := s.bubblesOf a
  let cyc := s.chainCyc r a k
  let who := a.who (0x1000 + u)
  let t := ChainProg.traffic k.data a.rcd.chainCount
  let x := s.readBuf who bi (64 * a.rcd.inGran) t.1
  let y := match s.actBuf a a.rcd.in2 with
    | some b2 => x.2.readBuf who b2 (64 * ChainProg.in2Gran k.data) t.2.1
    | none => ([], x.2)
  let ls := ChainProg.list k.data
  let g0 := ls.headD ⟨1, 0, 0, 0, 0, 0, 0, 0⟩
  let l0 := (chunk (formatBytes g0.sub) a.rcd.chainCount x.1).map (fun d => Elem.load ⟨0, 0, k.bad, 0⟩ g0 d)
  let o := storeBytes (ls.getLastD g0) (ChainProg.runStages k.data y.1 (ls.drop 1).dropLast y.2.fresh l0)
  let s : State := { y.2 with fresh := y.2.fresh + 65536 * ls.length }
  let s := s.consume a (k.bad || x.1.any (·.2) || y.1.any (·.2) || bo.revoked)
  let z := s.result (0x40 + u) o.1
  let s := (z.2.writeBuf who bo (64 * a.rcd.outGran) z.1).incSat (F.CHU_SAT_SAT (u / 4) (u % 4)) o.2
  let s := ((s.wr (R.CHU_LASTCYC (u / 4) (u % 4)) cyc).incWrap (F.CHU_RECS_RECS (u / 4) (u % 4))).incSat
    (F.CHU_STAT_BUBBLES (u / 4) (u % 4)) bub
  (s.noteRun (0x1000 + u) r).markRan r

/-- CHAIN_OP: the program's stages on the unit (R222, R225, R227). -/
def chainOp (r : RecRun) (s : State) : State :=
  match s.due? r 2 with
  | none => s
  | some a =>
    let u := a.plan.img.recUnit a.rcd 2
    if s.unitFailed (0x1000 + u) a.start || s.actDomains a = false then (s.faultAct a).markRan r
    else match s.copy? r.c r.h (0x1000 + u) a.rcd.prog, s.actBuf a a.rcd.inBuf, s.actBuf a a.rcd.outBuf with
      | some k, some bi, some bo =>
        if (r.item && s.slackSpent a) || decide (6000 * a.rcd.issue < s.chainCyc r a k) then s
        else s.chainWork r a k bi bo
      | _, _, _ => s

/-! ## PPU channel S (R231, R232) -/

def Rec.sortN (r : Rec) : Nat := r.op0 % 2 ^ 17
def Rec.sortOrder (r : Rec) : Bool := bit r.op0 24
def Rec.sortK (r : Rec) : Nat := r.op1 % 2 ^ 11

/-- λ of R232: log₂ of N rounded up. -/
def lambdaOf (n : Nat) : Nat := if n ≤ 1 then 0 else Nat.log2 (n - 1) + 1

/-- Cycles of the network's passes over N keys (R232). -/
def sortPasses (n : Nat) : Nat := lambdaOf n * (lambdaOf n + 1) / 2 * ceilDiv (2 ^ lambdaOf n) 128

def State.sortCycles (s : State) (c : Nat) (im : PlanImage) (r : Rec) : Nat :=
  64 + s.granCost c im r r.inBuf (ceilDiv (2 * r.sortN) 64) + sortPasses r.sortN +
    s.granCost c im r r.outBuf (2 * ceilDiv (2 * r.sortK) 64)

/-- Scores with their indices, each with its poison mark. -/
def scorePairs (n : Nat) (d : List PByte) : List (Int × Nat × Bool) :=
  ((rangeFrom 0 n).zip (chunk 2 n d)).map (fun e => (sint 16 (leNat (e.2.map (·.1))), e.1, e.2.any (·.2)))

/-- Pairs in the order of R231. -/
def sortPairs (smallest : Bool) (l : List (Int × Nat × Bool)) : List (Int × Nat × Bool) :=
  sortBy (fun p => if smallest then p.1 else -p.1) l

/-- What PPU_SORT writes: the values, then from a granule boundary the indices. Bytes between them keep their contents. -/
def sortOutput (l : List (Int × Nat × Bool)) : List PByte × List PByte :=
  (l.flatMap (fun p => (leBytes 2 (uint 16 p.1)).map (fun b => (b, p.2.2))),
   l.flatMap (fun p => (leBytes 2 p.2.1).map (fun b => (b, p.2.2))))

/-- The cycles of a PPU_SORT record (R232, R319). -/
def State.sortCyc (s : State) (r : RecRun) (a : Act) : Nat :=
  s.sortCycles r.c a.plan.img a.rcd + s.bubblesOf a

/-- The sort of a PPU_SORT record: the K first pairs of the sorted keys, values then indices (R231). -/
def State.sortWork (s : State) (r : RecRun) (a : Act) (bi bo : Buf) : State :=
  let ch := a.plan.img.recUnit a.rcd 3
  let bub := s.bubblesOf a
  let cyc := s.sortCyc r a
  let who := a.who (0x2000 + ch)
  let x := s.readBuf who bi (64 * a.rcd.inGran) (2 * a.rcd.sortN)
  let o := sortOutput ((sortPairs a.rcd.sortOrder (scorePairs a.rcd.sortN x.1)).take a.rcd.sortK)
  let s := x.2.consume a (x.1.any (·.2) || bo.revoked)
  let v := s.result (0x48 + ch) o.1
  let i := v.2.result (0x48 + ch) o.2
  let s := i.2.writeBuf who bo (64 * a.rcd.outGran) v.1
  let s := s.writeBuf who bo (64 * (a.rcd.outGran + ceilDiv (2 * a.rcd.sortK) 64)) i.1
  let s := ((s.wr (R.PPU_S_LASTCYC (ch / 2)) cyc).incWrap (F.PPU_S_RECS_RECS (ch / 2))).incSat (F.PPU_STAT_BUBBLES (ch / 2)) bub
  (s.noteRun (0x2000 + ch) r).markRan r

/-- PPU_SORT (R231). -/
def ppuSort (r : RecRun) (s : State) : State :=
  match s.due? r 3 with
  | none => s
  | some a =>
    let ch := a.plan.img.recUnit a.rcd 3
    if s.unitFailed (0x2000 + ch) a.start || s.actDomains a = false then (s.faultAct a).markRan r
    else match s.actBuf a a.rcd.inBuf, s.actBuf a a.rcd.outBuf with
      | some bi, some bo =>
        if (r.item && s.slackSpent a) || decide (6000 * a.rcd.issue < s.sortCyc r a) then s
        else s.sortWork r a bi bo
      | _, _ => s

/-! ## PPU channel D (R233 to R236) -/

/-- T[k] = round(4,096 × e^((k − 128) / 32)) (R234), in four parts. -/
def expT0 : List Nat :=
  [75, 77, 80, 82, 85, 88, 90, 93, 96, 99, 103, 106, 109, 113, 116, 120, 124, 128, 132, 136, 140, 145, 149, 154,
   159, 164, 169, 174, 180, 186, 192, 198, 204, 210, 217, 224, 231, 238, 246, 254, 262, 270, 279, 288, 297, 306,
   316, 326, 336, 347, 358, 369, 381, 393, 406, 418, 432, 445, 460, 474, 489, 505, 521, 537]


/-- Part 1 of T. -/
def expT1 : List Nat :=
  [554, 572, 590, 609, 628, 648, 669, 690, 712, 734, 758, 782, 807, 832, 859, 886, 914, 943, 973, 1004, 1036,
   1069, 1102, 1137, 1174, 1211, 1249, 1289, 1330, 1372, 1416, 1460, 1507, 1555, 1604, 1655, 1707, 1762, 1818,
   1875, 1935, 1996, 2060, 2125, 2192, 2262, 2334, 2408, 2484, 2563, 2645, 2729, 2815, 2904, 2997, 3092, 3190,
   3291, 3396, 3503, 3615, 3729, 3848, 3970]


/-- Part 2 of T. -/
def expT2 : List Nat :=
  [4096, 4226, 4360, 4499, 4641, 4789, 4941, 5098, 5259, 5426, 5599, 5776, 5960, 6149, 6344, 6545, 6753, 6968,
   7189, 7417, 7652, 7895, 8146, 8404, 8671, 8946, 9230, 9523, 9826, 10138, 10460, 10792, 11134, 11488, 11852,
   12228, 12617, 13017, 13430, 13857, 14296, 14750, 15218, 15702, 16200, 16714, 17245, 17792, 18357, 18940,
   19541, 20161, 20801, 21462, 22143, 22846, 23571, 24319, 25091, 25888, 26709, 27557, 28432, 29334]


/-- Part 3 of T. -/
def expT3 : List Nat :=
  [30266, 31226, 32218, 33240, 34295, 35384, 36507, 37666, 38862, 40095, 41368, 42681, 44036, 45434, 46876,
   48364, 49899, 51483, 53118, 54804, 56544, 58338, 60190, 62101, 64072, 66106, 68205, 70370, 72603, 74908,
   77286, 79739, 82270, 84882, 87576, 90356, 93225, 96184, 99237, 102387, 105637, 108991, 112450, 116020,
   119703, 123502, 127423, 131468, 135641, 139947, 144389, 148972, 153701, 158580, 163614, 168808, 174166,
   179695, 185399, 191284, 197356, 203621, 210085, 216754, 223634]


/-- T[k] (R234). -/
def expT (k : Nat) : Int := ((expT0 ++ expT1 ++ expT2 ++ expT3).getD k 0 : Nat)

/-- e(d) (R234). -/
def expOf (d : Int) : Int :=
  let u := (max (-16384) (min 16383 d) + 16384).toNat
  expT (u / 128) + (expT (u / 128 + 1) - expT (u / 128)) * (u % 128 : Nat) / 128

/-- A decoded candidate: score, anchor index, x0, y0, x1, y1, whether poison went into it. -/
structure Box where
  score : Int
  idx : Nat
  x0 : Int
  y0 : Int
  x1 : Int
  y1 : Int
  bad : Bool

/-- One axis of R234: the two coordinates before the clamp of each. -/
def boxAxis (c w d e : Int) : Int × Int :=
  let c' := c + roundAway (d * w) 12
  let w' := roundAway (w * expOf e) 12
  (clampInt 16 (c' - w' / 2), clampInt 16 (c' - w' / 2 + w'))

/-- An anchor decoded with its deltas (R234). -/
def decodeBox (score : Int) (idx : Nat) (delta anchor : List PByte) (bad : Bool) : Box :=
  let d := leNat (delta.map (·.1))
  let a := leNat (anchor.map (·.1))
  let x := boxAxis (sint 16 (numField a 0 2)) (numField a 4 2 : Nat) (sint 16 (numField d 0 2)) (sint 16 (numField d 4 2))
  let y := boxAxis (sint 16 (numField a 2 2)) (numField a 6 2 : Nat) (sint 16 (numField d 2 2)) (sint 16 (numField d 6 2))
  ⟨score, idx, x.1, y.1, x.2, y.2, bad || delta.any (·.2) || anchor.any (·.2)⟩

def Box.area (b : Box) : Int := if b.x1 ≤ b.x0 || b.y1 ≤ b.y0 then 0 else (b.x1 - b.x0) * (b.y1 - b.y0)

/-- The overlap area of two boxes. -/
def Box.inter (a b : Box) : Int :=
  let w := min a.x1 b.x1 - max a.x0 b.x0
  let h := min a.y1 b.y1 - max a.y0 b.y0
  if w ≤ 0 || h ≤ 0 then 0 else w * h

/-- A box is suppressed by another (R235 step 3). -/
def Box.suppressed (th : Nat) (a b : Box) : Bool :=
  decide (th * (a.area + b.area - a.inter b) < 256 * a.inter b)

/-- The iterations of R235 on the valid candidates in order: an entry or an empty one each. -/
def suppress (th : Nat) : Nat → List Box → List (Option Box)
  | 0, _ => []
  | n + 1, [] => none :: suppress th n []
  | n + 1, b :: t => some b :: suppress th n (t.filter (fun x => !b.suppressed th x))

def Rec.detN (r : Rec) : Nat := r.op0 % 2 ^ 14
def Rec.cand (r : Rec) : Nat := bits r.op0 28 16
def Rec.outMax (r : Rec) : Nat := r.op1 % 2 ^ 9
def Rec.iouTh (r : Rec) : Nat := bits r.op1 23 16
def Rec.scoreMin (r : Rec) : Int := sint 16 r.op2
def Rec.anch (r : Rec) : Nat := bits r.op2 31 16

/-- Byte at which the deltas begin in IN_BUF (R233). -/
def deltaOfs (n : Nat) : Nat := ceilDiv (2 * n) 64 * 64

def State.detectCycles (s : State) (c : Nat) (im : PlanImage) (r : Rec) : Nat :=
  96 + s.granCost c im r r.inBuf (ceilDiv (2 * r.detN) 64 + ceilDiv (8 * r.detN) 64) + sortPasses r.detN +
    ceilDiv r.cand 16 * (r.outMax + 1) + s.granCost c im r r.outBuf (1 + ceilDiv r.outMax 4)

/-- An output entry (R236). -/
def boxEntry : Option Box → List PByte
  | none => clean (List.replicate 16 0)
  | some b =>
    (leBytes 2 (uint 16 b.x0) ++ leBytes 2 (uint 16 b.y0) ++ leBytes 2 (uint 16 b.x1) ++ leBytes 2 (uint 16 b.y1) ++
      leBytes 2 (uint 16 b.score) ++ leBytes 2 b.idx ++ leBytes 2 1 ++ leBytes 2 0).map (fun x => (x, b.bad))

/-- The cycles of a PPU_DETECT record (R319). -/
def State.detectCyc (s : State) (r : RecRun) (a : Act) : Nat :=
  s.detectCycles r.c a.plan.img a.rcd + s.bubblesOf a

/-- The detection of a PPU_DETECT record (R233 to R236). -/
def State.detectWork (s : State) (r : RecRun) (a : Act) (k : Copy) (bi bo : Buf) : State :=
  let ch := a.plan.img.recUnit a.rcd 3
  let bub := s.bubblesOf a
  let cyc := s.detectCyc r a
  let who := a.who (0x2000 + ch)
  let n := a.rcd.detN
  let x := s.readBuf who bi 0 (deltaOfs n + 8 * n)
  let pairs := (sortPairs false (scorePairs n x.1)).take a.rcd.cand
  let anchors := clean k.data
  let boxes := pairs.map (fun p => decodeBox p.1 p.2.1 ((x.1.drop (deltaOfs n + 8 * p.2.1)).take 8)
    ((anchors.drop (8 * p.2.1)).take 8) p.2.2)
  let valid := boxes.filter (fun b => decide (a.rcd.scoreMin ≤ b.score))
  let out := suppress a.rcd.iouTh a.rcd.outMax valid
  let made := (out.filter Option.isSome).length
  let head := clean (leBytes 2 made ++ leBytes 2 valid.length ++ List.replicate 60 0)
  let s := x.2.consume a (k.bad || x.1.any (·.2) || bo.revoked)
  let z := s.result (0x48 + ch) (head ++ out.flatMap boxEntry)
  let s := z.2.writeBuf who bo 0 z.1
  let s := (s.put (F.PPU_D_LAST_VALID_OUT (ch / 2)) made).put (F.PPU_D_LAST_CAND_VALID (ch / 2)) valid.length
  let s := ((s.wr (R.PPU_D_LASTCYC (ch / 2)) cyc).incWrap (F.PPU_D_RECS_RECS (ch / 2))).incSat (F.PPU_STAT_BUBBLES (ch / 2)) bub
  (s.noteRun (0x2000 + ch) r).markRan r

/-- PPU_DETECT (R233 to R236). -/
def ppuDetect (r : RecRun) (s : State) : State :=
  match s.due? r 4 with
  | none => s
  | some a =>
    let ch := a.plan.img.recUnit a.rcd 3
    if s.unitFailed (0x2000 + ch) a.start || s.actDomains a = false then (s.faultAct a).markRan r
    else match s.copy? r.c r.h (0x2000 + ch) a.rcd.anch, s.actBuf a a.rcd.inBuf, s.actBuf a a.rcd.outBuf with
      | some k, some bi, some bo =>
        if (r.item && s.slackSpent a) || decide (6000 * a.rcd.issue < s.detectCyc r a) then s
        else s.detectWork r a k bi bo
      | _, _, _ => s

/-! ## The copies of ARMED plans (R226, R233) -/

/-- A read by one of the device's own copy paths (R241): host bytes from the environment, device bytes unchecked. -/
def State.copyRead (s : State) (e : HostEnv) (who : Who) (l : List Seg) : List PByte × State :=
  l.foldl (fun acc g =>
    match g with
    | .host b n => (acc.1 ++ envBytes e b n, acc.2)
    | .la a n => let r := acc.2.readLa who a n; (acc.1 ++ r.1, r.2)
    | .remote _ _ n => (acc.1 ++ poisonBytes n, acc.2)) ([], s)

/-- One buffer copied into a unit's store. -/
def State.copyInto (s : State) (e : HostEnv) (c h unit buf n : Nat) (im : PlanImage) : State :=
  if (s.copy? c h unit buf).isSome then s
  else match s.buf? c im none buf with
    | none => s
    | some b =>
      let x := s.copyRead e ⟨0x8000, c, false, 0⟩ (cutSegs b.segs 0 n)
      { x.2 with copies := x.2.copies ++ [⟨4 * c + h, unit, buf, x.1.map (·.1), x.1.any (·.2)⟩] }

/-- Chain programs and anchor tables that a plan's records name, copied while it is ARMED. -/
def State.fillCopies (s : State) (e : HostEnv) (c h : Nat) (im : PlanImage) : State :=
  (im.itemRecs ++ im.cycRecs).foldl (fun s r =>
    if r.kind = 2 then s.copyInto e c h (0x1000 + im.recUnit r 2) r.prog 768 im
    else if r.kind = 4 then s.copyInto e c h (0x2000 + im.recUnit r 3) r.anch (8 * r.detN) im
    else s) s

/-- The distinct contents of a unit's store. -/
def State.stored (s : State) (unit : Nat) : List Bytes := ((s.copies.filter (fun x => x.unit == unit)).map (·.data)).eraseDups

end Sys2Proof.Machine
end

