-- ==== Sys2Proof/Machine/Dmx.lean ====
section
/-! DEFINITION. Stream DMA, program channels (13_dma.md): transforms and CRC (R291, R292), programs (R294, R295), their
expansion and charges (R295, R297), and the DMX_RUN record's instructions and outcomes (R296 to R300). -/

namespace Sys2Proof.Machine

/-! ## Transfers (R291, R292) -/

/-- What a MOVE or a descriptor copies: transform, element size code, planes, bytes and lines, strides, CRC. -/
structure Xfer where
  xform : Nat
  esize : Nat
  way : Nat
  len : Nat
  lines : Nat
  sStride : Int
  dStride : Int
  pStride : Nat
  crc : Bool

/-- Bytes of an element. -/
def Xfer.esz (x : Xfer) : Nat := 2 ^ x.esize

/-- The limits of Table 13.1. -/
def Xfer.ok (x : Xfer) : Bool :=
  let ways := x.way == 2 || x.way == 3 || x.way == 4 || x.way == 8
  match x.xform with
  | 0 => x.way == 0 && x.esize == 0
  | 1 => ways && decide (x.esize ≤ 2) && x.len % (x.way * x.esz) == 0
  | 2 => ways && decide (x.esize ≤ 2) && x.len % (x.way * x.esz) == 0
  | _ => x.way == 8 && x.esize == 0 && x.len % 8 == 0

/-- The spans of one line on the side that is split into planes. -/
def Xfer.planes (x : Xfer) (start : Int) : List (Int × Nat) :=
  (rangeFrom 0 x.way).map (fun p => (start + (p * x.pStride : Nat), x.len / max 1 x.way))

/-- The spans that line `i` reads, from the address of line 0. -/
def Xfer.srcLine (x : Xfer) (src : Int) (i : Nat) : List (Int × Nat) :=
  let a := src + x.sStride * i
  if x.xform = 2 then x.planes a else [(a, x.len)]

/-- The spans that line `i` writes. -/
def Xfer.dstLine (x : Xfer) (dst : Int) (i : Nat) : List (Int × Nat) :=
  let a := dst + x.dStride * i
  if x.xform = 1 || x.xform = 3 then x.planes a else [(a, x.len)]

/-- Where the CRC's 4 bytes go: after the last byte of the last destination span. -/
def Xfer.crcAt (x : Xfer) (dst : Int) : Int :=
  match (x.dstLine dst (x.lines - 1)).getLast? with
  | some (a, n) => a + n
  | none => dst

/-- All source spans, in order. -/
def Xfer.srcSpans (x : Xfer) (src : Int) : List (Int × Nat) := (rangeFrom 0 x.lines).flatMap (x.srcLine src)

/-- All destination spans, in order, the CRC last. -/
def Xfer.dstSpans (x : Xfer) (dst : Int) : List (Int × Nat) :=
  (rangeFrom 0 x.lines).flatMap (x.dstLine dst) ++ (if x.crc then [(x.crcAt dst, 4)] else [])

/-- The elements of plane `p` of a line. -/
def planeOf (esz way p : Nat) (d : List PByte) : List PByte :=
  (rangeFrom 0 (d.length / (way * esz))).flatMap (fun k => (d.drop ((k * way + p) * esz)).take esz)

/-- Plane `b` of a bit-plane split (Table 13.1). -/
def bitPlane (b : Nat) (d : List PByte) : List PByte :=
  (rangeFrom 0 (d.length / 8)).map (fun m =>
    let s := (d.drop (8 * m)).take 8
    (BitVec.ofNat 8 (s.foldr (fun x n => b2n (bit x.1.toNat b) + 2 * n) 0), s.any (·.2)))

/-- The bytes of each destination span of a line, from the bytes of its source spans. -/
def Xfer.line (x : Xfer) (d : List (List PByte)) : List (List PByte) :=
  match x.xform with
  | 1 => (rangeFrom 0 x.way).map (fun p => planeOf x.esz x.way p d.flatten)
  | 2 => [(rangeFrom 0 (x.len / (max 1 x.way * x.esz))).flatMap (fun k => d.flatMap (fun p => (p.drop (k * x.esz)).take x.esz))]
  | 3 => (rangeFrom 0 8).map (fun b => bitPlane b d.flatten)
  | _ => [d.flatten]

/-- The 4 bytes of a CRC register (R292). -/
def crcBytes (reg : Nat) (bad : Bool) : List PByte := (leBytes 4 (reg ^^^ 0xFFFFFFFF)).map (fun b => (b, bad))

/-- How many distinct granules a set of spans touches: spans sorted by address, `last` the last granule counted. -/
def sweepGranules : Int → List (Int × Nat) → Nat
  | _, [] => 0
  | last, (a, n) :: t =>
    let hi := (a + n - 1) / 64
    if n = 0 || hi ≤ last then sweepGranules last t
    else (hi - max (last + 1) (a / 64) + 1).toNat + sweepGranules hi t

def granulesTouched (l : List (Int × Nat)) : Nat := sweepGranules (-2 ^ 70) (sortBy (fun x => x.1) l)

/-! ## Programs (R294, R295) -/

/-- The transfer of a MOVE. -/
def DInstr.xfer : DInstr → Xfer
  | .move _ _ crc xform esize way len _ _ ss ds ps lines _ => ⟨xform, esize, way, len, lines, ss, ds, ps, crc⟩
  | _ => ⟨0, 0, 0, 0, 0, 0, 0, 0, false⟩

/-- One instruction of 32 bytes (Table 13.2), when its fields are in range and its reserved bits zero. -/
def parseInstr (b : Bytes) : Option DInstr :=
  let f (o n : Nat) : Nat := leField b o n
  let op := f 0 1
  let b1 := f 1 1
  let b2 := f 2 1
  match op with
  | 0 => if f 1 31 = 0 then some .fin else none
  | 1 =>
    if b1 < 32 && bits b2 3 2 == 0 && decide (b2 < 64) && decide (bits b2 5 4 ≤ 2) && within (f 4 4) 1 65536 &&
       within (f 0x1C 2) 1 4096 && f 0x1E 1 != 1 && f 0x1F 1 == 0 then
      some (.move (b1 % 4) (bits b1 3 2) (bit b1 4) (b2 % 4) (bits b2 5 4) (f 3 1) (f 4 4) (f 8 4) (f 0xC 4)
        (sint 32 (f 0x10 4)) (sint 32 (f 0x14 4)) (f 0x18 4) (f 0x1C 2) (f 0x1E 1))
    else none
  | 2 =>
    if b1 = 0 && within (f 4 4) 2 65536 && f 0x10 16 == 0 then
      some (.loop (f 2 2) (f 4 4) (sint 32 (f 8 4)) (sint 32 (f 0xC 4)))
    else none
  | 3 =>
    if f 6 2 == 0 && f 0xC 20 == 0 &&
       (match b1 with
        | 0 => decide (f 2 2 ≤ 4095) && f 4 2 == 0 && f 8 4 == 0
        | 1 => decide (f 2 2 ≤ 7) && f 4 2 == 0 && within (f 8 4) 1 256000
        | 2 => decide (f 2 2 ≤ 63) && decide (1 ≤ f 4 2) && within (f 8 4) 1 256000
        | _ => false) then
      some (.wait b1 (f 2 2) (f 4 2) (f 8 4))
    else none
  | 4 => if f 1 3 == 0 && decide (1 ≤ f 4 2) && f 6 26 == 0 then some (.signal (f 4 2)) else none
  | _ => none

/-- The LOOPs before index `i`, as (target, index). -/
def loopsOf (code : List DInstr) : List (Nat × Nat) :=
  ((rangeFrom 0 code.length).zip code).filterMap (fun e => match e.2 with | .loop t _ _ _ => some (t, e.1) | _ => none)

/-- How deep the loops nest that lie within a range, itself included (R294). -/
def loopDepth (ls : List (Nat × Nat)) (t i : Nat) : Nat :=
  maxNat ((rangeFrom t (i + 1 - t)).map (fun j => (ls.filter (fun l => decide (l.1 ≤ j) && decide (j ≤ l.2))).length))

/-- A LOOP at `i` is well placed among the LOOPs before it. -/
def loopOk (ls : List (Nat × Nat)) (t i : Nat) : Bool :=
  decide (t < i) && ls.all (fun l => decide (i ≤ l.2) || decide (l.2 < t) || decide (t ≤ l.1)) &&
  decide (loopDepth (ls.filter (fun l => decide (l.2 ≤ i))) t i ≤ 4)

/-- The first instruction that breaks R294, or the program's instructions. -/
def checkProg (n : Nat) (b : Bytes) : Except Nat (List DInstr) :=
  let ps := (rangeFrom 0 n).map (fun i => parseInstr ((b.drop (32 * i)).take 32))
  let code := ps.filterMap id
  let ls := loopsOf code
  match findIdx (fun e : Nat × Option DInstr =>
      match e.2 with
      | none => true
      | some (.loop t _ _ _) => decide (code.length = n) && !loopOk ls t e.1
      | some i => decide (e.1 + 1 = n) && i != .fin) 0 ((rangeFrom 0 n).zip ps) with
  | some i => .error i
  | none => if code.getLast? = some .fin then .ok code else .error (n - 1)

/-- An executed instruction of an expansion: its index, SO and DO. -/
structure Exec where
  idx : Nat
  so : Int
  dofs : Int

/-- The loops entered, changed by one execution of the LOOP at `i` (R295): the next pc, SO, DO and loops. -/
def loopStep (loops : List (Nat × Nat × Int × Int)) (i t count : Nat) (sinc dinc so dofs : Int) :
    Nat × Int × Int × List (Nat × Nat × Int × Int) :=
  let e := (loops.find? (fun l => l.1 == i)).getD (i, 0, so, dofs)
  let rest := loops.filter (fun l => l.1 != i)
  if e.2.1 + 1 < count then (t, so + sinc, dofs + dinc, (i, e.2.1 + 1, e.2.2.1, e.2.2.2) :: rest)
  else (i + 1, e.2.2.1, e.2.2.2, rest)

/-- A program expanded, newest instruction first; none when more than the fuel is executed (R297). -/
def expandFrom (code : Array DInstr) : Nat → Nat → Int → Int → List (Nat × Nat × Int × Int) → List Exec → Option (List Exec)
  | 0, _, _, _, _, _ => none
  | n + 1, pc, so, dofs, loops, acc =>
    match code[pc]? with
    | none => some acc
    | some .fin => some (⟨pc, so, dofs⟩ :: acc)
    | some (.loop t k si di) =>
      let r := loopStep loops pc t k si di so dofs
      expandFrom code n r.1 r.2.1 r.2.2.1 r.2.2.2 (⟨pc, so, dofs⟩ :: acc)
    | some _ => expandFrom code n (pc + 1) so dofs loops (⟨pc, so, dofs⟩ :: acc)

def expandProg (code : List DInstr) : Option (List Exec) := (expandFrom code.toArray 65536 0 0 0 [] []).map List.reverse

/-! ## Operands (R296, R298) -/

def Rec.progId (r : Rec) : Nat := r.op0 % 2 ^ 16
def Rec.prio (r : Rec) : Nat := bits r.op0 17 16
def Rec.progCrc (r : Rec) : Nat := r.op1
def Rec.aux (r : Rec) (i : Nat) : Nat := if i = 0 then r.op2 % 2 ^ 16 else bits r.op2 31 16

/-- The operand that a MOVE names by number: IN_BUF, OUT_BUF, AUX0, AUX1. -/
def Rec.operand (r : Rec) (i : Nat) : Nat :=
  match i with
  | 0 => r.inBuf
  | 1 => r.outBuf
  | 2 => r.aux 0
  | _ => r.aux 1

/-- An AUX value that names the stream ring of a DFC channel. -/
def streamOf (i op : Nat) : Option Nat := if 2 ≤ i && decide (0x4000 ≤ op) && decide (op < 0x4008) then some (op - 0x4000) else none

/-- Local address of the block of a beat in a channel's stream ring (R193). -/
def State.streamBlock (s : State) (n k : Nat) : Nat :=
  let x := s.dfc n
  bankLa x.ringFirst + k % max 1 (x.slots (s.rawPerTick n)) * x.blockBytes (s.rawPerTick n)

/-- The address of an operand's first byte, modulo a granule, for counting granules. -/
def State.operandBase (s : State) (c : Nat) (im : PlanImage) (op : Nat) : Int :=
  if op ≥ 0x4000 then 0
  else match im.bufs[op]? with
    | some b => match s.rangeById c b.rangeId with
      | some (_, r) => ((r.dva + b.offset : Nat) : Int)
      | none => 0
    | none => 0

/-- The granules of a MOVE's sides at an execution: source and destination (R286). A stream source's lines lie in blocks of
their own. -/
def State.moveGranules (s : State) (c : Nat) (im : PlanImage) (r : Rec) (i : DInstr) (so dofs : Int) : Nat × Nat :=
  match i with
  | .move src dst _ _ _ _ len sofs dofs' _ _ _ lines _ =>
    let x := i.xfer
    let g := match streamOf src (r.operand src) with
      | some _ => lines * granulesTouched [((sofs : Nat) + so, len)]
      | none => granulesTouched (x.srcSpans (s.operandBase c im (r.operand src) + so + (sofs : Nat)))
    (g, granulesTouched (x.dstSpans (s.operandBase c im (r.operand dst) + dofs + (dofs' : Nat))))
  | _ => (0, 0)

/-- The rate share of a program channel that a plan claims (Table 3.4). -/
def PlanImage.share5 (im : PlanImage) (n : Nat) : Nat :=
  match im.claims.find? (fun k => k.kind == 5 && decide (k.first ≤ n) && decide (n < k.first + k.count)) with
  | some k => max 1 k.p0
  | none => 1

/-- The charge of one executed instruction, at the cycle the program has reached (Table 13.3). -/
def State.charge (s : State) (c : Nat) (im : PlanImage) (r : Rec) (i : DInstr) (e : Exec) (now : Nat) : Nat :=
  match i with
  | .fin => 4
  | .move _ _ _ _ _ _ _ _ _ _ _ _ lines _ =>
    let g := s.moveGranules c im r i e.so e.dofs
    16 + 2 * lines + ceilDiv (max g.1 g.2 * 64) (im.share5 (im.recUnit r 5))
  | .loop _ _ _ _ => 4
  | .wait 0 arg _ _ => max 4 (4000 * arg - now)
  | .wait _ _ _ timeout => timeout
  | .signal _ => 4

/-- The charged cycles of a record's program (R297). -/
def State.dmxCycles (s : State) (c : Nat) (im : PlanImage) (r : Rec) (code : List DInstr) (l : List Exec) : Nat :=
  l.foldl (fun now e => now + s.charge c im r (code.getD e.idx .fin) e now) 0

/-! ## DMA_PROG_LOAD (R309) -/

/-- A plan of the context in ADMITTED to DRAINING names a program. -/
def State.progNamed (s : State) (c id : Nat) : Bool :=
  s.livePlans.any (fun p => p.1 == c && (p.2.2.img.itemRecs ++ p.2.2.img.cycRecs).any (fun r => r.kind == 5 && r.progId == id))

def progKey (c id : Nat) : Nat := 65536 * c + id

def cmdDmaProgLoad (c : Nat) (e : HostEnv) (k : Cmd) (s : State) : CmdOut :=
  let dva := pf k.par 8 8
  let id := pf k.par 16 2
  let n := pf k.par 18 2
  let held := (tfind s.progs (progKey c id)).isSome
  if id = 65535 || 128 < n || dva % 64 ≠ 0 then refuse s stBadParam
  else if n = 0 then
    if s.progNamed c id || !held then refuse s stBadState
    else okay { s with progs := tdel s.progs (progKey c id) } (crc32c [])
  else s.withRead e c dva (32 * n) (fun b s =>
    match checkProg n b with
    | .error i => refuse s stImageBad i
    | .ok code =>
      if s.progNamed c id then refuse s stBadState
      else if !held && decide (64 ≤ (s.progs.filter (fun p => p.1 / 65536 == c)).length) then refuse s stMemory
      else okay { s with progs := tput s.progs (progKey c id) ⟨crc32c b, code⟩ } (crc32c b))

/-! ## The DMX_RUN record (R299, R300) -/

/-- The programs that a plan's records name, copied into their channels' stores while it is ARMED, and the semaphores of its
channels cleared (R295, R299). -/
def State.fillProgs (s : State) (c h : Nat) (im : PlanImage) : State :=
  let s := (im.itemRecs ++ im.cycRecs).foldl (fun s r =>
    let n := im.recUnit r 5
    if r.kind = 5 && !s.chanProgs.any (fun x => x.plan == 4 * c + h && x.chan == n && x.id == r.progId) then
      match tfind s.progs (progKey c r.progId) with
      | some p => { s with chanProgs := s.chanProgs ++ [⟨4 * c + h, n, r.progId, p⟩] }
      | none => s
    else s) s
  (rangeFrom 0 64).foldl (fun s n => if im.hasClaim 5 n then s.wr (R.DMX_SEM n) 0 else s) s

def State.chan? (s : State) (n : Nat) : Option ChanRun := tfind s.chans n
def State.setChan (s : State) (n : Nat) (x : ChanRun) : State := { s with chans := tput s.chans n x }
def State.delChan (s : State) (n : Nat) : State := { s with chans := tdel s.chans n }

/-- DMX_RUN: at the record's beat its channel starts the program's first instruction (R299). -/
def dmxRun (r : RecRun) (s : State) : State :=
  match s.due? r 5 with
  | none => s
  | some a =>
    let n := a.plan.img.recUnit a.rcd 5
    if s.actDomains a = false then (s.faultAct a).markRan r
    else if s.beat ≠ a.start || (s.chan? n).isSome then s
    else match s.chanProgs.find? (fun x => x.plan == 4 * r.c + r.h && x.chan == n && x.id == a.rcd.progId) with
      | some p => ((s.setChan n ⟨r, p.prog.code, 0, 0, 0, [], none, 0xFFFFFFFF⟩).noteRun (0x3000 + n) r).markRan r
      | none => s

/-- The instruction a channel stands at, with its record, while the record's span lasts. -/
def State.chanAt (s : State) (n : Nat) : Option (ChanRun × Act × DInstr) :=
  match s.chan? n with
  | none => none
  | some x =>
    match s.act? x.run, x.code[x.pc]? with
    | some a, some i => if s.beat < a.start + a.rcd.span then some (x, a, i) else none
    | _, _ => none

/-- One line of a MOVE read, transformed and written; the running CRC and the poison seen go along. -/
def State.moveLine (s : State) (who : Who) (x : Xfer) (bs : Nat → Option Buf) (bd : Option Buf) (src dst : Int) (i : Nat)
    (crc : Nat) (bad : Bool) : State × Nat × Bool :=
  let r := (x.srcLine src i).foldl (fun (acc : List (List PByte) × State) sp =>
    match bs i with
    | some b => let y := acc.2.readBuf who b sp.1.toNat sp.2; (acc.1 ++ [y.1], y.2)
    | none => (acc.1 ++ [poisonBytes sp.2], acc.2)) ([], s)
  let out := x.line r.1
  let s := ((x.dstLine dst i).zip out).foldl (fun s w =>
    match bd with
    | some b => s.writeLine who b w.1.1.toNat w.2
    | none => s) r.2
  (s, crc32cRun crc ((out.flatten).map (·.1)), bad || r.1.any (fun d => d.any (·.2)))

/-- The operand a MOVE reads: for a stream source the block of each line (R298). -/
def State.moveSource (s : State) (a : Act) (src lines blag : Nat) (i : Nat) : Option Buf :=
  match streamOf src (a.rcd.operand src) with
  | some n => some ⟨[.la (s.streamBlock n (a.start - blag - (lines - 1) + i)) 131072], 131072, false, 7⟩
  | none => s.actBuf a (a.rcd.operand src)

/-- DMX_MOVE: the lines of a MOVE, then its CRC (R291, R292, R295). -/
def dmxMove (n : Nat) (s : State) : State :=
  match s.chanAt n with
  | some (x, a, .move src dst crc xform esize way len sofs dofs ss ds ps lines blag) =>
    let t := DInstr.xfer (.move src dst crc xform esize way len sofs dofs ss ds ps lines blag)
    let t := if (streamOf src (a.rcd.operand src)).isSome then { t with sStride := 0 } else t
    let who := a.who (0x3000 + n)
    let bd := s.actBuf a (a.rcd.operand dst)
    let d0 := x.dofs + (dofs : Nat)
    let s := match bd with | some b => s.cleanGranules b (t.dstSpans d0) | none => s
    let r := (rangeFrom 0 lines).foldl (fun (acc : State × Nat × Bool) i =>
      acc.1.moveLine who t (acc.1.moveSource a src lines blag) bd (x.so + (sofs : Nat)) d0 i acc.2.1 acc.2.2) (s, 0xFFFFFFFF, false)
    let s := if crc then
        match bd with
        | some b => r.1.writeLine who b (t.crcAt d0).toNat (crcBytes r.2.1 r.2.2)
        | none => r.1
      else r.1
    let s := match bd with | some b => s.zeroTails b (t.dstSpans d0) | none => s
    let s := s.consume a (r.2.2 || (match bd with | some b => b.revoked | none => false))
    s.setChan n { x with pc := x.pc + 1, crc := r.2.1 }
  | _ => s

/-- DMX_LOOP (R295). -/
def dmxLoop (n : Nat) (s : State) : State :=
  match s.chanAt n with
  | some (x, _, .loop t k si di) =>
    let r := loopStep x.loops x.pc t k si di x.so x.dofs
    s.setChan n { x with pc := r.1, so := r.2.1, dofs := r.2.2.1, loops := r.2.2.2 }
  | _ => s

/-- The condition a WAIT waits for holds (R295). -/
def State.waitMet (s : State) (a : Act) (kind arg value since : Nat) : Bool :=
  match kind with
  | 0 => decide (a.start + arg ≤ s.beat)
  | 1 => match (s.lineIn arg).capT with | some t => decide (since < t) | none => false
  | _ => decide (value ≤ s.get (F.DMX_SEM_VALUE arg))

/-- A WAIT passed: a semaphore gives its value up. -/
def State.passWait (s : State) (n : Nat) (x : ChanRun) (kind arg value : Nat) : State :=
  let s := if kind = 2 then s.put (F.DMX_SEM_VALUE arg) (s.get (F.DMX_SEM_VALUE arg) - value) else s
  s.setChan n { x with pc := x.pc + 1, waiting := none }

/-- A WAIT instruction of a kind reached: it passes, or its channel begins to wait. -/
def State.beginWait (s : State) (n kind : Nat) : State :=
  match s.chanAt n with
  | some (x, a, .wait k arg value _) =>
    if k ≠ kind || x.waiting.isSome then s
    else if k ≠ 1 && s.waitMet a k arg value s.time then s.passWait n x k arg value
    else s.setChan n { x with waiting := some s.time }
  | _ => s

def dmxWaitBeat (n : Nat) (s : State) : State := s.beginWait n 0
def dmxWaitTrig (n : Nat) (s : State) : State := s.beginWait n 1
def dmxWaitSem (n : Nat) (s : State) : State := s.beginWait n 2

/-- DMX_WAIT_RELEASE: the condition has arrived. -/
def dmxWaitRelease (n : Nat) (s : State) : State :=
  match s.chanAt n with
  | some (x, a, .wait k arg value _) =>
    match x.waiting with
    | some t => if s.waitMet a k arg value t then s.passWait n x k arg value else s
    | none => s
  | _ => s

/-- DMX_WAIT_TIMEOUT: a WAIT TRIG or SEM runs out; the rest of the program is skipped (R300). -/
def dmxWaitTimeout (n : Nat) (s : State) : State :=
  match s.chanAt n with
  | some (x, a, .wait k _ _ timeout) =>
    match x.waiting with
    | some t =>
      if k ≠ 0 && decide (8 * t + timeout ≤ 8 * s.time) then
        let s := if k = 1 then s.incompleteAct a else s.faultAct a
        ((s.incSat (F.DMX_CH_CNT2_TMO n)).raiseDmx 1).delChan n
      else s
    | none => s
  | _ => s

/-- DMX_SIGNAL (R295). -/
def dmxSignal (n : Nat) (s : State) : State :=
  match s.chanAt n with
  | some (x, _, .signal v) => (s.incSat (F.DMX_SEM_VALUE n) v).setChan n { x with pc := x.pc + 1 }
  | _ => s

/-- DMX_END: the record ends; every EVERY-th signals (R308). -/
def dmxEnd (n : Nat) (s : State) : State :=
  match s.chanAt n with
  | some (_, _, .fin) =>
    let s := (s.incWrap (F.DMX_CH_DONE_DONE n)).delChan n
    let every := s.get (F.DMX_CH_IRQ_EVERY n)
    if 0 < every && s.get (F.DMX_CH_DONE_DONE n) % every == 0 then s.signal 0 (s.get (F.DMX_CH_IRQ_VECTOR n)) else s
  | _ => s

/-- RECORD_LATE: at the end of its span a record's transfers are incomplete (R300). -/
def recordLate (n : Nat) (s : State) : State :=
  match s.chan? n with
  | none => s
  | some x =>
    match s.act? x.run with
    | none => s.delChan n
    | some a =>
      if s.beat < a.start + a.rcd.span then s
      else (((s.faultAct a).incSat (F.DMX_CH_CNT2_LATE n)).raiseDmx 0).delChan n

end Sys2Proof.Machine
end

