-- ==== Sys2Proof/Machine/Rings.lean ====
section
/-! DEFINITION. DMA rings (R302 to R308): descriptors and their translation at the doorbell (R271), faults and their service
(R273 to R275), invalidations (R272), the transfer of a descriptor and its completion entry, PAUSE (R306), and what a
reset does to a ring (R307). -/

namespace Sys2Proof.Machine

/-! ## Descriptors (Table 13.7) -/

def Desc.field (d : Desc) (off n : Nat) : Nat := numField (d.raw.getD 0) off n
def Desc.opc (d : Desc) : Nat := d.field 0 1
def Desc.flags (d : Desc) : Nat := d.field 1 1
def Desc.owned (d : Desc) : Bool := bit d.flags 0
def Desc.irq (d : Desc) : Bool := bit d.flags 1
def Desc.tag (d : Desc) : Nat := d.field 2 2

def Desc.xfer (d : Desc) : Xfer :=
  { xform := d.field 4 1 % 4, esize := bits (d.field 4 1) 5 4, way := d.field 5 1, len := d.field 8 4, lines := d.field 6 2,
    sStride := sint 32 (d.field 0x20 4), dStride := sint 32 (d.field 0x24 4), pStride := d.field 0xC 4,
    crc := bit d.flags 2 }

/-- Fields in range, reserved bits zero, and a transform of Table 13.1 (R303). A NOP's transfer fields are not looked at. -/
def Desc.ok (d : Desc) : Bool :=
  decide (d.opc ≤ 1) && decide (d.flags < 8) && d.field 0x28 24 == 0 &&
  (d.opc == 0 ||
    (bits (d.field 4 1) 3 2 == 0 && decide (d.field 4 1 < 64) && decide (bits (d.field 4 1) 5 4 ≤ 2) &&
     within (d.field 6 2) 1 4096 && within (d.field 8 4) 1 16777216 && d.xfer.ok))

/-- The descriptor moves data: only such a one is translated. -/
def Desc.moves (d : Desc) : Bool := d.owned && d.ok && d.opc == 1

/-- Source and destination spans as DVAs. -/
def Desc.srcDvas (d : Desc) : List (Nat × Nat) :=
  (d.xfer.srcSpans (d.field 0x10 8 : Nat)).map (fun x => (uint 64 x.1, x.2))
def Desc.dstDvas (d : Desc) : List (Nat × Nat) :=
  (d.xfer.dstSpans (d.field 0x18 8 : Nat)).map (fun x => (uint 64 x.1, x.2))

/-- The descriptor touches a byte of `[a, a + n)`. -/
def Desc.touches (d : Desc) (a n : Nat) : Bool :=
  d.moves && (d.srcDvas ++ d.dstDvas).any (fun x => decide (x.1 < a + n) && decide (a < x.1 + x.2))

/-! ## Runs (R266, R271) -/

/-- A place in one number line: host, device, or remote memory, with its length. -/
def Seg.place (g : Seg) : Nat × Nat :=
  match g with
  | .host b l => (b, l)
  | .la a l => (2 ^ 66 + a, l)
  | .remote i o l => (2 ^ 67 + 2 ^ 54 * i + o, l)

/-- The pages of a span with the pages of memory behind them. -/
def pagePairs : Nat → List Seg → List (Nat × Nat)
  | _, [] => []
  | dva, g :: t =>
    (pageParts dva g.place.2).map (fun p => (p.1 / 4096, (g.place.1 + (p.1 - dva)) / 4096)) ++ pagePairs (dva + g.place.2) t

/-- The runs of a list of pages in order of address: a page that repeats or continues the one before starts none. -/
def countRuns : Option (Nat × Nat) → List (Nat × Nat) → Nat
  | _, [] => 0
  | none, p :: t => 1 + countRuns (some p) t
  | some q, p :: t => (if p = q || (p.1 = q.1 + 1 && p.2 = q.2 + 1) then 0 else 1) + countRuns (some p) t

/-! ## Rings -/

/-- The DMA rings with context and local queue. -/
def State.rings (s : State) : List (Nat × Nat × Queue) :=
  (s.queues.filter (fun p => p.2.typ == 2)).map (fun p => (p.1 / 128, p.1 % 128, p.2))

def Queue.onDesc (x : Queue) (idx : Nat) (f : Desc → Desc) : Queue :=
  { x with descs := x.descs.map (fun d => if d.idx = idx then f d else d) }

/-- A ring completion entry (Table 13.8). -/
def ringEntry (d : Desc) (kind status reason bytes dva t48 : Nat) (crc : Option Nat) (phase : Bool) : Bytes :=
  leBytes 2 d.tag ++ leBytes 2 d.idx ++ leBytes 1 kind ++ leBytes 1 status ++ leBytes 1 reason ++
  leBytes 1 (b2n phase + 2 * b2n crc.isSome) ++ leBytes 4 bytes ++ leBytes 4 (crc.getD 0) ++ leBytes 8 dva ++ leBytes 6 t48 ++
  leBytes 2 0

/-- The last failed translation of a context's background work (R273, R274). -/
def State.noteFail (s : State) (c q reason dva : Nat) : State :=
  (s.wr (R.ATU_CTX_LASTF c) dva).wr (R.ATU_CTX_LASTR c) (reason + q * 256)

/-- A Page Request for a fault, while the allocation lasts (R263, R274): the page with the PASID and the write bit. -/
def State.request (s : State) (c q : Nat) (d : Desc) : State :=
  match d.phase with
  | .faulted r dva since false =>
    if s.get (F.ATU_CTX_CFG_SOURCE c) = 2 && decide (s.get F.ATU_PRI_OUT < s.get F.ATU_PRI_ALLOC) then
      ((s.put F.ATU_PRI_OUT (s.get F.ATU_PRI_OUT + 1)).emit
        (.pageRequest (s.get (F.ATU_CTX_PASID_PASID c)) (s.hva c dva / 4096 * 4096) (r == rsnRights))).onQueue c q
        (fun x => x.onDesc d.idx (fun d => { d with phase := .faulted r dva since true }))
    else s
  | _ => s

/-- A fault that waits for an allocation sends its request when one is free. -/
def State.requestAll (s : State) : State :=
  s.rings.foldl (fun s x => x.2.2.descs.foldl (fun s d => s.request x.1 x.2.1 d) s) s

/-- Runs of host and device memory that held translations use (R271). -/
def State.heldRuns (s : State) : Nat :=
  sumNat (s.rings.map (fun x => sumNat (x.2.2.descs.map (fun d => d.runs))))

/-- The spans of a list translated one after the other, with MIGR pages brought in first (R270, R276). -/
def State.xlateSpans (s : State) (e : HostEnv) (c need : Nat) (l : List (Nat × Nat)) :
    Except (Nat × Nat) (List (List Seg)) × State :=
  l.foldl (fun acc p =>
    match acc.1 with
    | .error x => (.error x, acc.2)
    | .ok done =>
      let m := acc.2.bringIn e c p.1 p.2
      match m.1 with
      | .error x => (.error x, m.2)
      | .ok _ =>
        let x := m.2.xlateSpan e c p.1 p.2 need
        match x.1 with
        | .error y => (.error y, x.2)
        | .ok g => (.ok (done ++ [g]), x.2)) (.ok [], s)

/-- A descriptor's bytes read from its SQ. -/
def State.readDesc (s : State) (e : HostEnv) (c : Nat) (x : Queue) (d : Desc) : Desc × State :=
  match d.raw with
  | some _ => (d, s)
  | none =>
    let r := s.readSegs e (Who.cpx c) (s.queueSegs c x (x.sqAddr + 64 * d.idx) 64 1)
    ({ d with raw := some (leNat (r.1.map (·.1))) }, r.2)

/-- A failed translation of a descriptor: a recoverable fault with its notice (R274), or the end of it (R273). Without room
for the notice the descriptor stays untranslated. -/
def State.failDesc (s : State) (c q : Nat) (x : Queue) (d : Desc) (reason dva : Nat) : State :=
  let set (s : State) (p : DescPhase) : State := s.onQueue c q (fun y => y.onDesc d.idx (fun _ => { d with phase := p }))
  if recoverable reason then
    if s.get (F.ATU_CTX_CFG_SOURCE c) = 2 && s.on F.ATU_STATUS_PRI_STOPPED then
      (set s (.failed rsnDenied dva)).noteFail c q rsnDenied dva
    else if x.room = false then s
    else
      let s := (set s (.faulted reason dva s.time false)).noteFail c q reason dva
      let s := (s.incSat (F.ATU_CTX_FCNT_FAULTS c)).raiseAtu 0
      let s := s.cqWrite c q false (ringEntry d 1 0 reason 0 dva s.t48 none)
      s.request c q { d with phase := .faulted reason dva s.time false }
  else (set s (.failed reason dva)).noteFail c q reason dva

/-- One descriptor of a ring translated (R270, R271). -/
def State.translateDesc (s : State) (e : HostEnv) (c q : Nat) (x : Queue) (d0 : Desc) : State :=
  let r := s.readDesc e c x d0
  let d := r.1
  let set (s : State) (d : Desc) : State := s.onQueue c q (fun y => y.onDesc d.idx (fun _ => d))
  let s := set r.2 d
  if d.moves = false then set s { d with phase := .held }
  else
    let a := s.xlateSpans e c 1 d.srcDvas
    let b := a.2.xlateSpans e c 2 d.dstDvas
    match a.1, b.1 with
    | .error y, _ => if y.1 = 0 then a.2 else a.2.failDesc c q x d y.1 y.2
    | .ok _, .error y => if y.1 = 0 then b.2 else b.2.failDesc c q x d y.1 y.2
    | .ok gs, .ok gd =>
      let s := b.2
      let pages := ((d.srcDvas ++ d.dstDvas).zip (gs ++ gd)).flatMap (fun z => pagePairs z.1.1 z.2)
      let n := countRuns none (sortBy (fun p => (p.1 : Int)) pages)
      if 512 < n then s.failDesc c q x d rsnFragmented (d.field 0x10 8)
      else if 65536 < s.heldRuns + n then s.raiseAtu 4
      else set s { d with phase := .held, src := gs, dst := gd, runs := n }

/-- The first descriptor of a ring that is due to be translated: untranslated, among the TRANS_AHEAD after the running one
(R271). -/
def State.nextFresh (s : State) (c q : Nat) : Option (Queue × Desc) :=
  match s.queue? c q with
  | none => none
  | some x =>
    (((x.descs.filter (fun d => d.phase != .running)).take (s.get (F.ATU_CTX_CFG_AHEAD_M1 c) + 1)).find?
      (fun d => d.phase == .fresh)).map (fun d => (x, d))

/-- A ring's descriptors translated in ring order, up to TRANS_AHEAD (R271); one that cannot be translated yet holds back
those after it. -/
def State.translateN (e : HostEnv) (c q : Nat) : Nat → State → State
  | 0, s => s
  | n + 1, s =>
    match s.nextFresh c q with
    | none => s
    | some (x, d) =>
      let t := s.translateDesc e c q x d
      match t.nextFresh c q with
      | some (_, d') => if d'.idx = d.idx then t else State.translateN e c q n t
      | none => t

/-- A ring whose next descriptor has a recoverable fault is WAITING (Table 13.9). -/
def State.settleRing (s : State) (c q : Nat) : State :=
  s.onQueue c q (fun x =>
    match x.ring, x.descs with
    | .running, d :: _ => (match d.phase with | .faulted _ _ _ _ => { x with ring := .waiting } | _ => x)
    | _, _ => x)

def State.translateRing (s : State) (e : HostEnv) (c q : Nat) : State := (State.translateN e c q 64 s).settleRing c q

/-- Every ring's descriptors that wait for translation. -/
def State.translateAll (s : State) (e : HostEnv) : State := s.rings.foldl (fun s x => s.translateRing e x.1 x.2.1) s

/-! ## Invalidation (R272) -/

/-- Descriptors of a context that have started by a tick, and touch a span. -/
def State.stillRunning (s : State) (c a n since : Nat) : Bool :=
  s.rings.any (fun x => x.1 == c && x.2.2.descs.any (fun d => d.phase == .running && decide (d.startT ≤ since) && d.touches a n))

/-- Step 2 of R272: a descriptor that has not started has its held translation in the span made again, or its fault in the
span served. -/
def Desc.stale (d : Desc) (a n : Nat) : Bool :=
  match d.phase with
  | .held => d.touches a n
  | .faulted _ dva _ _ => decide (a ≤ dva / 4096 * 4096 + 4095) && decide (dva / 4096 * 4096 < a + n)
  | _ => false

/-- Steps 1 and 2 of R272 over a span of a context: the TLB entries dropped, the descriptors to translate again (which go
back to untranslated), and the state. -/
def State.invalidate (s : State) (c a n : Nat) : Nat × Nat × State :=
  let hit (t : TlbEntry) : Bool := t.c == c && decide (t.page <<< t.pageLog < a + n) && decide (a < (t.page + t.count) <<< t.pageLog)
  let dropped := (s.tlb.filter hit).length
  let stale := sumNat ((s.rings.filter (fun x => x.1 == c)).map (fun x => (x.2.2.descs.filter (fun d => d.stale a n)).length))
  let s : State := { s with tlb := s.tlb.filter (fun t => !hit t), walkCache := [] }
  let s : State := { s with queues := s.queues.map (fun p => if p.1 / 128 ≠ c then p else
    (p.1, { p.2 with descs := p.2.descs.map (fun d =>
      if d.stale a n then { d with phase := .fresh, src := [], dst := [], runs := 0 } else d) })) }
  (stale, dropped, s)

/-- Steps 1 and 2 of R272, with the translations made again. -/
def State.invalidateNow (s : State) (e : HostEnv) (c a n : Nat) : Nat × Nat × State :=
  let r := s.invalidate c a n
  (r.1, r.2.1, (s.rings.filter (fun x => x.1 == c)).foldl (fun s x => s.translateRing e x.1 x.2.1) r.2.2)

/-- Contexts that an ATS Invalidation Request is for, with the DVA spans of their windows that it covers (R263, R272). -/
def State.atsSpans (s : State) (pasid : Option Nat) (hva len : Nat) : List (Nat × Nat × Nat) :=
  (rangeFrom 0 128).filterMap (fun c =>
    let (b, l, h) := s.window c
    let lo := max hva h
    let hi := min (hva + len) (h + l)
    if s.get (F.ATU_CTX_CFG_SOURCE c) = 2 && decide (lo < hi) &&
       (match pasid with | some p => p == s.get (F.ATU_CTX_PASID_PASID c) | none => true)
    then some (c, lo - h + b, hi - lo) else none)

/-- ATS Invalidation Requests whose running descriptors have all completed are answered (R272). -/
def State.settleAts (s : State) : State :=
  let busy (x : AtsInval) : Bool := (s.atsSpans x.pasid x.hva x.len).any (fun y => s.stillRunning y.1 y.2.1 y.2.2 x.since)
  (s.atsPend.filter (fun x => !busy x)).foldl (fun s x => s.emit (.invalidateDone x.pasid))
    { s with atsPend := s.atsPend.filter busy }

/-- Ranges that become REVOKED at the next beat boundary; the event comes at once (R269). -/
def State.revoke (s : State) (keys : List Nat) : State :=
  if keys = [] then s else State.raiseAtu { s with revoking := s.revoking ++ keys } 1

/-- The revocations that take effect at a beat boundary (R269). -/
def State.revokeBeat (s : State) : State :=
  { s with revoking := [],
           ranges := s.ranges.map (fun p => if s.revoking.contains p.1 then (p.1, { p.2 with revoked := true }) else p) }

/-- ATS_INVALIDATION (R269, R272). -/
def atsInvalidation (pasid : Option Nat) (hva len : Nat) (e : HostEnv) (s : State) : State :=
  let spans := s.atsSpans pasid hva len
  let keys := (s.ranges.filter (fun p => p.2.kind == 0 && !p.2.revoked && !s.revoking.contains p.1 && spans.any (fun y =>
    y.1 == p.1 / 32 && decide (p.2.dva / 4096 * 4096 < y.2.1 + y.2.2) && decide (y.2.1 < p.2.dva + p.2.len)))).map (·.1)
  let s := spans.foldl (fun s y => (s.invalidateNow e y.1 y.2.1 y.2.2).2.2) (s.revoke keys)
  State.settleAts { s with atsPend := s.atsPend ++ [⟨pasid, hva, len, s.time⟩] }

/-- ATU_TLB_FLUSH: every TLB and walk-cache entry, and step 2 of R272 for every context (Table 12.6). -/
def atuTlbFlush (e : HostEnv) (s : State) : State :=
  (rangeFrom 0 128).foldl (fun s c => (s.invalidateNow e c 0 (2 ^ 64)).2.2) { s with tlb := [], walkCache := [] }

/-! ## Running descriptors (R303 to R308) -/

/-- A descriptor ends with a completion entry (R304); the ring goes on or stops (Table 13.9), the next descriptor is
translated (R271). -/
def State.completeDesc (s : State) (e : HostEnv) (c q : Nat) (x : Queue) (d : Desc) (status reason bytes dva : Nat)
    (crc : Option Nat) : State :=
  let stop := (status == 1 || status == 3) && !x.cont
  let s := s.cqWrite c q d.irq (ringEntry d 0 status reason bytes dva s.t48 crc)
  let s := s.onQueue c q (fun y => { y with descs := y.descs.filter (fun z => z.idx != d.idx), h := (d.idx + 1) % y.sqN,
                                            ring := if stop then .stopped else .running })
  let s := s.incWrap (F.DMX_CH_DONE_DONE x.chan)
  let s := if stop then s.raiseDmx 3 else s
  (s.translateAll e).settleAts

/-- A descriptor with OWN = 0: a completion, the ring STOPPED, the descriptor read again when the ring resumes (R303). -/
def State.notOwned (s : State) (c q : Nat) (d : Desc) : State :=
  let s := s.cqWrite c q d.irq (ringEntry d 0 2 0 0 0 s.t48 none)
  (s.onQueue c q (fun y => { y.onDesc d.idx (fun d => { d with phase := .fresh, raw := none }) with ring := .stopped })).raiseDmx 3

/-- The ring and descriptor that a channel is running. -/
def State.activeRing (s : State) (n : Nat) : Option (Nat × Nat × Queue × Desc) :=
  s.rings.findSome? (fun x =>
    if x.2.2.chan = n then (x.2.2.descs.find? (fun d => d.phase == .running)).map (fun d => (x.1, x.2.1, x.2.2, d)) else none)

/-- The next descriptor of a ring may be served: it is held, or its translation has failed for good. -/
def Queue.ready (x : Queue) : Bool :=
  x.room && match x.descs with
    | d :: _ => (match d.phase with | .held => x.ring == .running | .failed _ _ => x.ring != .stopped | _ => false)
    | [] => false

/-- Under STALL a WAITING ring keeps its channel (R274). -/
def State.stalls (s : State) (x : Nat × Nat × Queue) : Bool :=
  x.2.2.ring == .waiting && s.on (F.ATU_CTX_CFG_FMODE x.1)

/-- The ring that a channel serves next: highest PRIO, round-robin among equals (R305). -/
def State.pickRing (s : State) (n : Nat) : Option (Nat × Nat × Queue × Desc) :=
  let mine := s.rings.filter (fun x => x.2.2.chan == n)
  let open_ := if mine.any s.stalls then mine.filter s.stalls else mine
  let ready := open_.filter (fun x => x.2.2.ready)
  let top := maxNat (ready.map (fun x => x.2.2.prio))
  let best := ready.filter (fun x => x.2.2.prio == top)
  let last := tget s.chanLast n 0
  let order := best.filter (fun x => decide (last < gq x.1 x.2.1)) ++ best.filter (fun x => decide (gq x.1 x.2.1 ≤ last))
  match order with
  | (c, q, x) :: _ => x.descs.head?.map (fun d => (c, q, x, d))
  | [] => none

/-- One line of a ring transfer under the held translations. -/
def State.ringLine (s : State) (e : HostEnv) (who : Who) (x : Xfer) (src dst : List (List Seg)) (i crc : Nat) (bad : Bool) :
    State × Nat × Bool :=
  let ks := (x.srcLine 0 i).length
  let kd := (x.dstLine 0 i).length
  let r := ((src.drop (ks * i)).take ks).foldl (fun (acc : List (List PByte) × State) l =>
    let y := acc.2.readSegs e who l; (acc.1 ++ [y.1], y.2)) ([], s)
  let out := x.line r.1
  let s := (((dst.drop (kd * i)).take kd).zip out).foldl (fun s w => s.writeSegs who w.1 w.2) r.2
  (s, crc32cRun crc ((out.flatten).map (·.1)), bad || r.1.any (fun d => d.any (·.2)))

/-- The running descriptor of a channel carried to its end (R291, R292, R304). -/
def State.finishMove (s : State) (e : HostEnv) (n c q : Nat) (x : Queue) (d : Desc) : State :=
  let t := d.xfer
  let who : Who := ⟨0x3000 + n, c, false, 0⟩
  let r := (rangeFrom 0 t.lines).foldl (fun (acc : State × Nat × Bool) i =>
    acc.1.ringLine e who t d.src d.dst i acc.2.1 acc.2.2) (s, 0xFFFFFFFF, false)
  let s := if t.crc then
      match d.dst.getLast? with
      | some l => r.1.writeSegs who l (crcBytes r.2.1 r.2.2)
      | none => r.1
    else r.1
  s.completeDesc e c q x d (if r.2.2 then 4 else 0) 0 (t.len * t.lines) 0 (if t.crc then some (r.2.1 ^^^ 0xFFFFFFFF) else none)

/-- A ring channel's work at a descriptor boundary: the descriptor it picks ends at once, or starts (R303, R305). -/
def State.serve (s : State) (e : HostEnv) (n : Nat) (nop : Bool) : State :=
  match s.pickRing n with
  | none => s
  | some (c, q, x, d) =>
    if (d.opc == 0) != nop then s
    else
      let s : State := { s with chanLast := tput s.chanLast n (gq c q) }
      match d.phase with
      | .failed r a => s.completeDesc e c q x d 3 r 0 a none
      | _ =>
        if d.owned = false then s.notOwned c q d
        else if d.ok = false then s.completeDesc e c q x d 1 0 0 0 none
        else if d.opc = 0 then s.completeDesc e c q x d 0 0 0 0 none
        else s.onQueue c q (fun y => y.onDesc d.idx (fun d => { d with phase := .running, startT := s.time }))

/-- DESC_MOVE: a ring channel starts the descriptor it picks, or carries the one it runs to its end; a paused channel does
nothing (R306). -/
def descMove (n : Nat) (e : HostEnv) (s : State) : State :=
  if n < 64 || s.on (F.DMX_CH_CTL_PAUSE n) then s
  else match s.activeRing n with
    | some (c, q, x, d) => if x.room then s.finishMove e n c q x d else s
    | none => s.serve e n false

/-- DESC_NOP: a ring channel completes a descriptor that moves nothing. -/
def descNop (n : Nat) (e : HostEnv) (s : State) : State :=
  if n < 64 || s.on (F.DMX_CH_CTL_PAUSE n) || (s.activeRing n).isSome then s else s.serve e n true

/-! ## Faults served or not (R264, R274, R275) -/

/-- A descriptor that waits on a fault and has failed for good ends when its ring waits for it (Table 13.9). -/
def State.endFailed (s : State) (c q : Nat) : State :=
  match s.queue? c q with
  | some x =>
    match x.ring, x.descs with
    | .waiting, d :: _ =>
      (match d.phase with
       | .failed r a => if x.room then s.completeDesc HostEnv.none c q x d 3 r 0 a none else s
       | _ => s)
    | _, _ => s
  | none => s

/-- RING_FAULT_SERVED: the translation of the descriptor a ring waits on has succeeded (Table 13.9). -/
def ringFaultServed (c q : Nat) (s : State) : State :=
  s.onQueue c q (fun x =>
    match x.ring, x.descs with
    | .waiting, d :: _ => if d.phase == .held then { x with ring := .running } else x
    | _, _ => x)

/-- FAULT_TIMEOUT: the oldest fault of a ring has waited FTMO ms (R275). -/
def faultTimeout (c q : Nat) (s : State) : State :=
  match s.queue? c q with
  | none => s
  | some x =>
    let limit := 100000 * s.get (F.ATU_CTX_CFG_FTMO c)
    let late (d : Desc) : Bool := match d.phase with | .faulted _ _ t _ => decide (t + limit ≤ s.time) | _ => false
    match x.descs.find? late with
    | some d =>
      match d.phase with
      | .faulted _ dva _ _ =>
        (((s.onQueue c q (fun y => y.onDesc d.idx (fun d => { d with phase := .failed rsnTimeout dva }))).noteFail c q
          rsnTimeout dva).settleRing c q).endFailed c q
      | _ => s
    | none => s

/-- Every pending fault of every context that has SOURCE 2 ends with DENIED (R264). -/
def State.denyAll (s : State) : State :=
  s.rings.foldl (fun s x =>
    (x.2.2.descs.foldl (fun s d =>
      match d.phase with
      | .faulted _ dva _ _ =>
        (s.onQueue x.1 x.2.1 (fun y => y.onDesc d.idx (fun d => { d with phase := .failed rsnDenied dva }))).noteFail x.1 x.2.1
          rsnDenied dva
      | _ => s) s).endFailed x.1 x.2.1) s

/-- PRG_RESPONSE: Success (0) translates the fault's descriptor again, Invalid Request (1) denies it, Response Failure (15)
denies every pending fault and stops Page Requests (R264, R274). A response whose fault is gone is discarded (R275). -/
def prgResponse (c q code : Nat) (e : HostEnv) (s : State) : State :=
  if s.get F.ATU_PRI_OUT = 0 then s
  else
    let s := s.put F.ATU_PRI_OUT (s.get F.ATU_PRI_OUT - 1)
    let asked (d : Desc) : Bool := match d.phase with | .faulted _ _ _ r => r | _ => false
    let d? := match s.queue? c q with | some x => x.descs.find? asked | none => none
    let set (s : State) (d : Desc) (p : DescPhase) : State := s.onQueue c q (fun y => y.onDesc d.idx (fun d => { d with phase := p }))
    let s := match code, d? with
      | 15, _ => (((s.put F.ATU_STATUS_PRI_STOPPED 1).raiseAtu 2).denyAll)
      | 0, some d => (set s d .fresh).translateRing e c q
      | 1, some d =>
        (match d.phase with
         | .faulted _ dva _ _ => ((set s d (.failed rsnDenied dva)).noteFail c q rsnDenied dva).endFailed c q
         | _ => s)
      | _, _ => s
    s.requestAll

/-- PRI_ENABLE: the host enables PRI with an allocation, and leaves ATS Enable as given; a stop after a Response Failure ends
(R263, R264). -/
def priEnable (alloc : Nat) (ats : Bool) (s : State) : State :=
  State.requestAll { (s.put F.ATU_PRI_ALLOC alloc).put F.ATU_STATUS_PRI_STOPPED 0 with atsOn := ats }

/-- WALK_TIMEOUT: the walk for the next descriptor of a ring gets no completion (R260). -/
def walkTimeout (c q : Nat) (s : State) : State :=
  match s.nextFresh c q with
  | some (x, d) =>
    if x.typ = 2 && s.get (F.ATU_CTX_CFG_SOURCE c) = 1 then
      let dva := (((d.srcDvas ++ d.dstDvas).find? (fun z => s.inWindow c z.1)).map (·.1)).getD 0
      ((((s.incSat F.ATU_CNT_WALK_ERR_CNT).raiseAtu 3).failDesc c q x d rsnWalk dva).settleRing c q)
    else s
  | none => s

/-! ## PAUSE, resets (R306, R307) -/

/-- DMX_PAUSE_SET; on a program channel the write is ignored and counted. -/
def dmxPauseSet (n : Nat) (s : State) : State :=
  if n < 64 then s.incWrap F.DMX_STATUS_WIGN else s.put (F.DMX_CH_CTL_PAUSE n) 1

/-- DMX_PAUSE_CLEAR: work resumes where it stopped. -/
def dmxPauseClear (n : Nat) (s : State) : State :=
  if n < 64 then s.incWrap F.DMX_STATUS_WIGN else (s.put (F.DMX_CH_CTL_PAUSE n) 0).put (F.DMX_CH_STAT_STATE n) 0

/-- DMX_PAUSED: a pausing channel has written all it had read. -/
def dmxPaused (n : Nat) (s : State) : State :=
  if 64 ≤ n && s.on (F.DMX_CH_CTL_PAUSE n) then s.put (F.DMX_CH_STAT_STATE n) 4 else s

/-- A reset of one ring: its descriptor in progress gets a STOPPED entry when `say` is set, translations and faults go, the
ring is STOPPED and its channel is not paused (R283, R307). -/
def State.resetRing (s : State) (c q : Nat) (say : Bool) : State :=
  match s.queue? c q with
  | none => s
  | some x =>
    if x.typ ≠ 2 then s else
    let s := match x.descs.find? (fun d => d.phase == .running) with
      | some d => if say && x.room then s.cqWrite c q d.irq (ringEntry d 2 5 0 0 0 s.t48 none) else s
      | none => s
    let s := s.onQueue c q (fun x => { x with ring := .stopped, descs := [], h := x.t })
    ((s.put (F.DMX_CH_CTL_PAUSE x.chan) 0).put (F.DMX_CH_STAT_STATE x.chan) 0).settleAts

end Sys2Proof.Machine
end

