-- ==== Sys2Proof/Machine/Pins.lean ====
section
/-! DEFINITION. Ranges (R265 to R269, R278, R280 to R283): BUF_PIN, BUF_UNPIN, TLB_INVALIDATE, PAGE_MIGRATE, and the stop of
a descriptor that outlives an invalidation (R272). -/

namespace Sys2Proof.Machine

/-! ## Runs and placement -/

/-- Runs of the run store that a range uses (R266, R267). -/
def Range.runCount (r : Range) : Nat := if r.kind = 0 then r.runs.length else if r.kind = 1 then 1 else 0

def State.pinRuns (s : State) : Nat := sumNat (s.ranges.map (fun p => p.2.runCount))

/-- A page added to a list of runs, newest run first (R266). -/
def addRun (l : List (Nat × Nat)) (b n : Nat) : List (Nat × Nat) :=
  match l with
  | (x, m) :: t => if x + m = b then (x, m + n) :: t else (b, n) :: (x, m) :: t
  | [] => [(b, n)]

/-- Every page of a host span translated through SOURCE, with the right that is asked for (R266): the runs, or the reason
and the page's index. -/
def State.hostRuns (s : State) (e : HostEnv) (c hva n rights : Nat) : Except (Nat × Nat) (List (Nat × Nat)) × State :=
  let r := (pageParts hva n).foldl (fun (acc : Except (Nat × Nat) (List (Nat × Nat)) × State) p =>
    match acc.1 with
    | .error x => (.error x, acc.2)
    | .ok l =>
      let x := acc.2.sourcePage e c p.1
      let i := p.1 / 4096 - hva / 4096
      match x.1 with
      | .error y => (.error (y, i), x.2)
      | .ok (g, _, _) =>
        if covers g.rights rights then (.ok (addRun l (g.at p.1) p.2), x.2) else (.error (rsnRights, i), x.2)) (.ok [], s)
  (match r.1 with | .ok l => .ok l.reverse | .error y => .error y, r.2)

/-- Memory of an LPDDR5X channel that ranges and pools hold: first address and length. -/
def State.channelUsed (s : State) (ch : Nat) : List (Nat × Nat) :=
  (s.ranges.filterMap (fun p =>
    let n := if p.2.kind = 1 then p.2.len else if p.2.kind = 2 then 4096 * p.2.pool else 0
    if n ≠ 0 && laPlace p.2.la == 4 + ch then some (p.2.la, n) else none)) ++
  (if ch = 0 then [(dramLa 0, 0x40000000)] else [])

/-- The lowest place for `n` bytes in a channel's data region, 64 KiB aligned, outside the first GiB of channel 0 (R267). -/
def State.place (s : State) (ch n : Nat) : Option Nat :=
  let used := s.channelUsed ch
  let starts := dramLa ch :: used.map (fun u => ceilDiv (u.1 + u.2) 65536 * 65536)
  let fits (a : Nat) : Bool := decide (a + n ≤ dramLa ch + s.dramBytes) &&
    used.all (fun u => decide (a + n ≤ u.1) || decide (u.1 + u.2 ≤ a))
  ((sortBy (fun (a : Nat) => (a : Int)) starts).find? fits)

/-- An SRAM bank lies in a LOCAL range: its context. -/
def State.localOwner (s : State) (b : Nat) : Option Nat :=
  (s.ranges.find? (fun p => p.2.kind == 1 && p.2.mem == 4 && decide (p.2.la ≤ bankLa b) && decide (bankLa b < p.2.la + p.2.len))).map
    (fun p => p.1 / 32)

/-- The lowest free slot of a context (R265). -/
def State.freeSlot (s : State) (c : Nat) : Option Nat :=
  (rangeFrom 0 32).find? (fun i => (tfind s.ranges (32 * c + i)).isNone)

/-- A range in a slot: the slot's generation counts on and the range takes its RANGE_ID (R265). -/
def State.withRange (s : State) (c slot : Nat) (r : Range) : State :=
  let key := 32 * c + slot
  let g := (tget s.gens key 0 + 1) % 2048
  State.setRange { s with gens := tput s.gens key g } key { r with id := slot + 32 * g }

/-- DETAIL of BUF_PIN: the RANGE_ID with the runs used. -/
def State.pinDetail (s : State) (c slot : Nat) (r : Range) : Nat :=
  slot + 32 * ((tget s.gens (32 * c + slot) 0 + 1) % 2048) + 65536 * r.runCount

/-- A slot filled (R265). -/
def State.fillSlot (s : State) (c slot : Nat) (r : Range) : CmdOut := okay (s.withRange c slot r) (s.pinDetail c slot r)

/-- A range with no backing yet. -/
def Range.blank (kind rights dva len : Nat) : Range := ⟨kind, rights, false, 0, dva, len, [], 0, 0, 0, [], 0⟩

/-! ## BUF_PIN (R280) -/

/-- BUF_PIN of a HOST range (R266). -/
def State.pinHost (s : State) (e : HostEnv) (c slot rights hva dva len : Nat) : CmdOut :=
  match s.hostRuns e c hva len rights with
  | (.error x, s') => refuse s' stUnpinned (x.2 + x.1 * 2 ^ 24)
  | (.ok l, s') =>
    if 16384 < l.length || 131072 < s.pinRuns + l.length then refuse (s'.raiseAtu 4) stMemory
    else s'.fillSlot c slot { Range.blank 0 rights dva len with runs := l }

/-- BUF_PIN of a LOCAL range: LPDDR5X that the device places, or the SRAM banks named, all zeroed (R267). -/
def State.pinLocal (s : State) (c slot rights mem p dva len : Nat) : CmdOut :=
  if 131072 ≤ s.pinRuns then refuse (s.raiseAtu 4) stMemory
  else if mem = 4 then
    let banks := rangeFrom p (len / 0x20000)
    let s := s.zeroLa (bankLa p) len
    State.fillSlot { s with zeroing := s.zeroing.filter (fun b => !banks.contains b) } c slot
      { Range.blank 1 rights dva len with la := bankLa p, mem := 4 }
  else match s.place mem len with
    | none => refuse s stMemory
    | some a => (s.zeroLa a len).fillSlot c slot { Range.blank 1 rights dva len with la := a, mem := mem }

/-- BUF_PIN of a MIGR range: every page at home in the host, a zeroed pool (R276). -/
def State.pinMigr (s : State) (c slot rights mem pool dva len : Nat) : CmdOut :=
  match s.place mem (4096 * pool) with
  | none => refuse s stMemory
  | some a => (s.zeroLa a (4096 * pool)).fillSlot c slot { Range.blank 2 rights dva len with la := a, mem := mem, pool := pool }

/-- BUF_PIN of a REMOTE range through an import table (R278). -/
def State.pinRemote (s : State) (c slot rights dev win dva len : Nat) : CmdOut :=
  match s.herd.exports.find? (fun x => x.device == dev && x.window == win) with
  | none => refuse s stUnpinned (rsnUnmapped * 2 ^ 24)
  | some x =>
    if (s.linkTo dev).isNone || x.len < len then refuse s stUnpinned (rsnUnmapped * 2 ^ 24)
    else if covers x.rights rights = false then refuse s stUnpinned (rsnRange * 2 ^ 24)
    else match (rangeFrom 0 64).find? (fun w => (tfind s.imports w).isNone) with
      | none => refuse s stMemory
      | some w =>
        State.fillSlot { s with imports := tput s.imports w ⟨dev, win, x.len, x.rights, c⟩ } c slot
          { Range.blank 3 rights dva len with mem := dev, imp := w }

/-- The fields of Table 12.4 and the span's place in its half and window (R280). -/
def State.pinFields (s : State) (c kind rights mem p addr len : Nat) : Bool :=
  let (_, l, h) := s.window c
  let inWin := decide (h ≤ addr) && decide (addr + len ≤ h + l)
  let upper := decide (2 ^ 47 ≤ addr) && decide (addr + len ≤ 2 ^ 48) && addr % 65536 == 0
  decide (kind ≤ 3) && within rights 1 7 && within len 1 (2 ^ 40) &&
  match kind with
  | 0 => inWin
  | 1 =>
    upper && decide (mem ≤ 4) && len % 65536 == 0 &&
    (mem != 4 || (len % 0x20000 == 0 && decide (p + len / 0x20000 ≤ 0x500) && (rangeFrom p (len / 0x20000)).all bankClaimable))
  | 2 => inWin && decide (mem ≤ 3) && within p 1 65536 && addr % 4096 == 0 && len % 4096 == 0
  | _ => upper && decide (mem ≤ 7) && decide (p ≤ 63)

/-- The first of the range of DVAs that a BUF_PIN names: HOST and MIGR ranges lie in the window (R256), the others where they
say. -/
def State.pinDva (s : State) (c : Nat) (par : Nat) : Nat :=
  let kind := pf par 8 1
  let (b, _, h) := s.window c
  if kind = 0 || kind = 2 then pf par 16 8 - h + b else pf par 16 8

/-- The status with which BUF_PIN refuses its fields, its rights or its place (R280), none when it may go on. -/
def State.pinRefusal (s : State) (c par : Nat) : Option Nat :=
  let kind := pf par 8 1
  let mem := pf par 10 1
  let p := pf par 12 4
  let len := pf par 24 8
  let dva := s.pinDva c par
  if s.pinFields c kind (pf par 9 1) mem p (pf par 16 8) len = false then some stBadParam
  else if kind = 3 && c != 0 && !s.on (F.CPX_CTX_RIGHTS_HERD c) then some stNoRights
  else if (s.ctxRanges c).any (fun x => decide (x.2.dva < dva + len) && decide (dva < x.2.dva + x.2.len)) ||
      (kind == 1 && mem == 4 && (rangeFrom p (len / 0x20000)).any (fun b => s.claimed 4 b || (s.localOwner b).isSome)) ||
      (kind == 3 && s.get F.HRD_STATUS_STATE == 0) then some stBadState
  else if (s.freeSlot c).isNone then some stMemory
  else none

def cmdBufPin (c : Nat) (e : HostEnv) (k : Cmd) (s : State) : CmdOut :=
  let rights := pf k.par 9 1
  let mem := pf k.par 10 1
  let p := pf k.par 12 4
  let addr := pf k.par 16 8
  let len := pf k.par 24 8
  let dva := s.pinDva c k.par
  match s.pinRefusal c k.par with
  | some st => refuse s st
  | none =>
    let slot := (s.freeSlot c).getD 0
    match pf k.par 8 1 with
    | 0 => s.pinHost e c slot rights addr dva len
    | 1 => s.pinLocal c slot rights mem p dva len
    | 2 => s.pinMigr c slot rights mem p dva len
    | _ => s.pinRemote c slot rights mem p dva len

/-! ## BUF_UNPIN, TLB_INVALIDATE, PAGE_MIGRATE -/

/-- A plan that holds its claims references a range (R66). -/
def State.rangePlanned (s : State) (c id : Nat) : Bool :=
  s.livePlans.any (fun p => p.1 == c && p.2.2.img.bufs.any (fun b => b.rangeId == id))

/-- A queue of the context has memory in a range: SQ, CQ or payload area (R73). -/
def State.rangeQueued (s : State) (c : Nat) (r : Range) : Bool :=
  (s.ctxQueues c).any (fun p => !p.2.phys &&
    [p.2.sqAddr, p.2.cqAddr, p.2.payDva].any (fun a => a != 0 && decide (r.dva ≤ a) && decide (a < r.dva + r.len)))

/-- A window exported from a range (R389): EXPw_CFG's FLAGS are not zero while it is exported. -/
def State.rangeExported (s : State) (c id : Nat) : Bool :=
  (rangeFrom 0 64).any (fun w =>
    let x := s.rd (R.HRD_EXP w)
    bits x 26 24 != 0 && bits x 15 0 == id && bits x 38 32 == c)

/-- A range's slot freed with what it holds (R281): an import table, or SRAM banks, which are zeroed (R243). -/
def State.dropRange (s : State) (key : Nat) : State :=
  match tfind s.ranges key with
  | none => s
  | some r =>
    let s : State := { s with ranges := tdel s.ranges key, revoking := s.revoking.filter (fun x => x != key),
                              imports := if r.kind = 3 then tdel s.imports r.imp else s.imports }
    if r.kind = 1 && r.mem == 4 then
      { s with zeroing := s.zeroing ++ (rangeFrom (r.la / 0x20000) (r.len / 0x20000)).filter (fun b =>
          !s.claimed 4 b && !s.zeroing.contains b) }
    else s

/-- Pages of a range moved home one after the other (R277): how many, or why not. -/
def State.sendHome (s : State) (e : HostEnv) (key : Nat) (pages : List Nat) : Except Nat Nat × State :=
  pages.foldl (fun acc p =>
    match acc.1 with
    | .error x => (.error x, acc.2)
    | .ok n =>
      let x := acc.2.migrateOut e key p
      match x.1 with
      | .ok _ => (.ok (n + 1), x.2)
      | .error y => (.error y, x.2)) (.ok 0, s)

/-- Pages of a range moved to the device one after the other (R276): how many, or why not. -/
def State.bringPages (s : State) (e : HostEnv) (key : Nat) (pages : List Nat) : Except Nat Nat × State :=
  pages.foldl (fun acc p =>
    match acc.1 with
    | .error x => (.error x, acc.2)
    | .ok n =>
      let x := acc.2.migrateIn e key p
      match x.1 with
      | .ok _ => (.ok (n + 1), x.2)
      | .error y => (.error y, x.2)) (.ok 0, s)

/-- A page of a MIGR range is at the device. -/
def Range.here (r : Range) (p : Nat) : Bool := r.homes.any (fun h => h.1 == p)

/-- The span of DVAs that a command invalidates (R272, R277, R281). -/
def State.cmdSpan (s : State) (c : Nat) (k : Cmd) : Nat × Nat :=
  let (b, l, _) := s.window c
  if k.op = 0x32 then (if pf k.par 8 1 = 0 then (b, l) else (pf k.par 16 8, pf k.par 24 8))
  else if k.op = 0x33 then (pf k.par 16 8, 4096 * pf k.par 24 4)
  else match s.rangeById c (pf k.par 8 2) with
    | some (_, r) => (r.dva, r.len)
    | none => (0, 0)

/-- A command that has waited for running descriptors goes on (R272): once none is left, its last part runs. -/
def State.afterDescriptors (s : State) (c : Nat) (k : Cmd) (since : Nat) (f : State → CmdOut) : CmdOut :=
  let y := s.cmdSpan c k
  if s.stillRunning c y.1 y.2 since then .stay else f s

/-- Steps 1 to 3 of R272 for a command: the invalidation at its first step, its last part when no running descriptor holds
it back. -/
def State.invalidateFor (s : State) (e : HostEnv) (c : Nat) (k : Cmd) (f : Nat → Nat → State → CmdOut) : CmdOut :=
  match k.phase with
  | .executing (.descriptors r d since) => s.afterDescriptors c k since (f r d)
  | _ =>
    let y := s.cmdSpan c k
    let x := s.invalidateNow e c y.1 y.2
    if x.2.2.stillRunning c y.1 y.2 s.time then .wait (.descriptors x.1 x.2.1 s.time) x.2.2
    else f x.1 x.2.1 x.2.2

def cmdTlbInvalidate (c : Nat) (e : HostEnv) (k : Cmd) (s : State) : CmdOut :=
  let scope := pf k.par 8 1
  let dva := pf k.par 16 8
  let len := pf k.par 24 8
  let (b, l, _) := s.window c
  if 1 < scope || dva % 4096 ≠ 0 || len % 4096 ≠ 0 ||
     (scope == 1 && !(decide (b ≤ dva) && decide (dva + len ≤ b + l))) then refuse s stBadParam
  else if s.get (F.ATU_CTX_CFG_SOURCE c) = 2 then refuse s stBadState
  else s.invalidateFor e c k (fun r d s => okay s (min r 0xFFFF + 65536 * min d 0xFFFF))

/-- A range that BUF_UNPIN frees: its slot with what it holds, and the descriptors that touched its span to be translated again
(R281, R272). -/
def State.unpinRange (s : State) (e : HostEnv) (c key : Nat) (r : Range) : State :=
  let s := s.dropRange key
  (s.rings.filter (fun x => x.1 == c)).foldl (fun s x =>
    let s := s.onQueue c x.2.1 (fun y => { y with descs := y.descs.map (fun d =>
      if d.stale r.dva r.len then { d with phase := .fresh, src := [], dst := [], runs := 0 } else d) })
    s.translateRing e c x.2.1) s

def cmdBufUnpin (c : Nat) (e : HostEnv) (k : Cmd) (s : State) : CmdOut :=
  let id := pf k.par 8 2
  match s.rangeById c id with
  | none => refuse s stBadParam
  | some (key, r) =>
    if s.rangePlanned c id || s.rangeQueued c r || s.rangeExported c id then refuse s stBadState
    else s.invalidateFor e c k (fun _ _ s =>
      match s.sendHome e key (r.homes.map (·.1)) with
      | (.ok _, s) => okay (s.unpinRange e c key r)
      | (.error y, s') => refuse s' stUnpinned (y * 2 ^ 24))

def cmdPageMigrate (c : Nat) (e : HostEnv) (k : Cmd) (s : State) : CmdOut :=
  let id := pf k.par 8 2
  let dir := pf k.par 10 1
  let dva := pf k.par 16 8
  let n := pf k.par 24 4
  match s.rangeById c id with
  | none => refuse s stBadParam
  | some (key, r) =>
    if r.kind ≠ 2 || 1 < dir || dva % 4096 ≠ 0 || within n 1 65536 = false || dva < r.dva || r.dva + r.len < dva + 4096 * n
    then refuse s stBadParam
    else
      let pages := rangeFrom ((dva - r.dva) / 4096) n
      if dir = 1 && r.pool - r.homes.length < (pages.filter (fun p => !r.here p)).length then refuse s stMemory
      else
        let since := match k.phase with | .executing (.descriptors _ _ t) => t | _ => s.time
        if s.stillRunning c dva (4096 * n) since then
          (match k.phase with | .executing _ => .stay | _ => .wait (.descriptors 0 0 s.time) s)
        else if dir = 0 then
          match s.sendHome e key (pages.filter r.here) with
          | (.ok m, s) => okay (s.translateAll e) m
          | (.error y, s') => refuse s' stUnpinned (y * 2 ^ 24)
        else
          match s.bringPages e key (pages.filter (fun p => !r.here p)) with
          | (.ok m, s) => okay (s.translateAll e) m
          | (.error y, s') => refuse s' stUnpinned (y * 2 ^ 24)

/-- INVALIDATE_STOP: a descriptor that still runs 10 ms after an invalidation of its span is stopped (R272). -/
def invalidateStop (n : Nat) (s : State) : State :=
  match s.activeRing n with
  | none => s
  | some (c, q, x, d) =>
    let overdue (since : Nat) : Bool := decide (d.startT ≤ since) && decide (since + 1000000 ≤ s.time)
    let byCmd := (s.ctxCmds c).any (fun k => match k.2.phase with
      | .executing (.descriptors _ _ since) => overdue since && (let y := s.cmdSpan c k.2; d.touches y.1 y.2)
      | _ => false)
    let byAts := s.atsPend.any (fun a => overdue a.since &&
      (s.atsSpans a.pasid a.hva a.len).any (fun y => y.1 == c && d.touches y.2.1 y.2.2))
    if (byCmd || byAts) && x.room then
      ((s.incSat F.ATU_CNT_INV_STOP).noteFail c q rsnInvalidated (d.field 0x10 8)).completeDesc HostEnv.none c q x d 3
        rsnInvalidated 0 (d.field 0x10 8) none
    else s


/-- Every range of a context unpinned, its MIGR pages sent home, copies that cannot be written discarded (R90, R283). The
pages' host translations are those of the environment. -/
def State.unpinAll (s : State) (e : HostEnv) (c : Nat) : State :=
  (s.ctxRanges c).foldl (fun s p =>
    let s := (p.2.homes.map (·.1)).foldl (fun s g => (s.migrateOut e p.1 g).2) s
    s.dropRange p.1) s

end Sys2Proof.Machine
end

