-- ==== Sys2Proof/Machine/Fmu.lean ====
section
/-! DEFINITION. The fault management unit's own part (16_faults.md): what each detector of Table 16.2 is (R352), the fault log
(R363), injections (R364 to R366) and the log commands (R367). The reactions stand in Machine/React.lean. -/

namespace Sys2Proof.Machine

/-! ## Detectors (Table 16.2) -/

/-- Lanes of a package link (R449): two x16 modules on a 128 GB/s link, one on a 64 GB/s link. -/
def linkLanes (l : Nat) : Nat := if l = 2 || l = 5 then 16 else 32

/-- A lane fault finds a spare lane in its module (R449). -/
def State.laneSpare (s : State) (l lane : Nat) : Bool :=
  decide ((s.lanesBad.filter (fun x => x.1 == l && x.2 / 16 == lane / 16 && x.2 != lane)).length < 2)

/-- Level codes of Table 16.4. -/
def State.detLevel (s : State) (id site : Nat) : Nat :=
  if 4 ≤ id && id ≤ 6 then 6
  else if id = 0x0B then 4
  else if 0x0C ≤ id && id ≤ 0x0F then 7
  else if id = 0x12 then 3
  else if id = 0x14 || (0x15 ≤ id && id ≤ 0x18) || id = 0x1E then 0
  else if (0x20 ≤ id && id ≤ 0x3F) || id = 0x5E || id = 0x5F then 2
  else if id = 0x09 || id = 0x0A || (0x40 ≤ id && id ≤ 0x57) then 1
  else if 0x58 ≤ id && id ≤ 0x5D then (if s.laneSpare (id - 0x58) site then 0 else 5)
  else 5

/-- The unit a detector watches, as Table 11.5 numbers it; 0xFFFF for none. -/
def detUnit (id site : Nat) : Nat :=
  if id ≤ 2 then 0x8000
  else if id = 0x09 then 0x7000
  else if id = 0x0B then 0x3000 + site
  else if 0x0C ≤ id && id ≤ 0x0F then 0x9000 + (id - 0x0C)
  else if 0x20 ≤ id && id ≤ 0x3F then id - 0x20
  else if 0x40 ≤ id && id ≤ 0x47 then 0x1000 + (id - 0x40)
  else if 0x48 ≤ id && id ≤ 0x4B then 0x2000 + (id - 0x48)
  else if 0x50 ≤ id && id ≤ 0x57 then 0x5000 + 4 * (id - 0x50)
  else 0xFFFF

/-- The domain that holds a detector's input (Table 15.1); domain 0 for those that are always on. -/
def detDomain (id site : Nat) : Nat :=
  if id = 0 then 4
  else if id = 0x0A then 5
  else if id = 0x0B then 6
  else if 0x0C ≤ id && id ≤ 0x0F then 11 + (id - 0x0C)
  else if id = 0x12 then site
  else if 0x20 ≤ id && id ≤ 0x3F then 37 + 29 * ((id - 0x20) / 16) + (id - 0x20) % 16
  else if 0x40 ≤ id && id ≤ 0x47 then 53 + 29 * ((id - 0x40) / 4) + (id - 0x40) % 4
  else if 0x48 ≤ id && id ≤ 0x4B then 57 + 29 * ((id - 0x48) / 2)
  else if 0x50 ≤ id && id ≤ 0x57 then 17 + (id - 0x50)
  else 0

/-- SITE lies in the meaning that Table 16.2 gives it. -/
def siteOk (id site : Nat) : Bool :=
  if id = 0x00 then decide (site < 32)
  else if id = 0x07 || id = 0x08 || id = 0x11 || id = 0x13 || id = 0x1F then decide (site < 4)
  else if id = 0x09 then decide (site < 512)
  else if id = 0x0A then decide (site < 4096)
  else if id = 0x0B then decide (site < 192)
  else if id = 0x12 then decide (site < 93)
  else if id = 0x1D then decide (site < 8)
  else if id = 0x1E then decide (site < 12)
  else if 0x20 ≤ id && id ≤ 0x3F then decide (site < 2048)
  else if 0x40 ≤ id && id ≤ 0x47 then decide (site < 8192)
  else if 0x4C ≤ id && id ≤ 0x4F then bankClaimable site
  else if 0x58 ≤ id && id ≤ 0x5D then decide (site < linkLanes (id - 0x58))
  else site == 0

/-! ## What FMU_STATUS shows (R350) -/

/-- A die's spare is free. -/
def State.spareFree (s : State) (e : Nat) : Bool := s.on (F.TINE_SPARE_VALID e) && (s.engDie e).fenced.isEmpty

/-- The running image is released and debug is not unlocked (R400). -/
def State.fwReleased (s : State) : Bool :=
  (match s.fw with | some f => f.cls == 0 | none => false) && !s.on F.KSU_STATUS_DBG

/-- The observable conditions of R350 hold. -/
def State.promise (s : State) : Bool :=
  s.on F.FMU_CTL_EN && s.on (F.TINE_ROTCFG_ROT_EN 0) && s.on (F.TINE_ROTCFG_ROT_EN 1) && s.fwReleased &&
  s.spareFree 0 && s.spareFree 1 &&
  s.livePlans.all (fun p => p.2.2.phase == .admitted || p.2.2.admFree)

/-! ## The log (R363, Table 16.4) -/

/-- A fault log record's fields. -/
structure LogRec where
  det : Nat
  kind : Nat
  level : Nat
  injected : Bool := false
  masked : Bool := false
  unit : Nat := 0xFFFF
  sub : Nat := 0
  ctx : Nat := 0xFF
  item : Nat := 0
  info : Nat := 0

/-- The 32 bytes of a record as a number. -/
def State.logNum (s : State) (r : LogRec) : Nat :=
  s.time % 2 ^ 64 + s.get F.FMU_SEQ_SEQ * 2 ^ 64 + r.det * 2 ^ 96 + r.kind * 2 ^ 104 + r.level * 2 ^ 112 +
  (b2n r.injected + 2 * b2n r.masked + 4 * b2n (!s.promise)) * 2 ^ 120 + r.unit * 2 ^ 128 + r.sub * 2 ^ 144 +
  r.ctx * 2 ^ 160 + r.item * 2 ^ 192 + r.info * 2 ^ 224

/-- The oldest record makes room in a full ring; one that was never returned is counted lost. -/
def State.logRoom (s : State) : State :=
  if s.faultLog.length < 1024 then s
  else
    let lost := match s.faultLog with | (_, read) :: _ => !read | [] => false
    let s : State := { s with faultLog := s.faultLog.drop 1 }
    if lost then (s.incSat F.FMU_LOG_CTL_LOST).raiseFmu 3 else s

/-- One record written, with a copy in FMU_DEVLOG at the device and tamper levels (R362, R417). -/
def State.log (s : State) (r : LogRec) : State :=
  let n := s.logNum r
  let s := s.logRoom
  let s : State := { s with faultLog := s.faultLog ++ [(n, false)] }
  let s := (s.incWrap F.FMU_SEQ_SEQ).put F.FMU_LOG_CTL_HEAD ((s.get F.FMU_LOG_CTL_HEAD + 1) % 1024)
  if r.level = 5 || r.level = 6 then
    { s.wr (R.FMU_DEVLOG s.devHead) n with devHead := (s.devHead + 1) % 8 }
  else s

/-! ## Injection (R364 to R366) -/

/-- The active injection ends. -/
def State.endInjection (s : State) : State := s.put F.FMU_STATUS_INJ_ACTIVE 0

/-- An injection has been made: a SINGLE ends, a COUNT counts down (R365). -/
def State.useInjection (s : State) (det : Nat) : State :=
  if s.injecting det = false then s
  else match s.get F.FMU_INJ_MODE with
    | 0 => s.endInjection
    | 2 =>
      let left := s.get F.FMU_INJ_LEFT - 1
      let s := s.put F.FMU_INJ_LEFT left
      if left = 0 then s.endInjection else s
    | _ => s

/-- A detector's firing counted, timed and logged (R353, R363), with the record of the unit it concerns, its first affected
item, and whether it was masked. -/
def State.logDet (s : State) (id site sub : Nat) (run : Option RecRun) (kind : Nat) (masked : Bool) : State :=
  let inj := s.injecting id
  let level := s.detLevel id site
  let ctx := match run with | some r => r.c | none => 0xFF
  let item := match run with | some r => if r.item then r.n else 0 | none => 0
  let info := match run with
    | some r => if r.item then (match s.plan? r.c r.h with | some p => p.img.hash % 2 ^ 32 | none => 0) else 0
    | none => 0
  let s := s.log { det := id, kind := kind, level := level, injected := inj, masked := masked, unit := detUnit id site,
                   sub := sub, ctx := ctx, item := item, info := info }
  let s := (s.incSat (F.FMU_DET_CNT_FIRED id)).incSat (F.FMU_DET_CNT_INJECTED id) (b2n inj)
  ((s.wr (R.FMU_DET_LAST id) s.time).raiseFmu 0).useInjection id

/-- FAULT_INJECT takes effect (R366). -/
def State.armInjection (s : State) (par : Nat) : State :=
  let s := ((s.put F.FMU_INJ_DETECTOR (pf par 8 1)).put F.FMU_INJ_MODE (pf par 9 1)).put F.FMU_INJ_LEFT (pf par 10 2)
  { (s.wr R.FMU_INJ_AT s.time).put F.FMU_STATUS_INJ_ACTIVE 1 with injSite := pf par 12 4 }

/-- A FAULT_INJECT that waits for its tick. -/
def State.injectPending (s : State) : Bool :=
  (s.ctxCmds 0).any (fun k => k.2.op == 0x80 && k.2.phase != .queued && match k.2.phase with | .executing _ => true | _ => false)

def cmdFaultInject (k : Cmd) (s : State) : CmdOut :=
  let det := pf k.par 8 1
  let mode := pf k.par 9 1
  let site := pf k.par 12 4
  let at_ := pf k.par 16 8
  if 0x5F < det || 3 < mode || (mode == 2 && pf k.par 10 2 == 0) || siteOk det site = false then refuse s stBadParam
  else if s.on F.FMU_STATUS_INJ_ACTIVE || s.injectPending || s.domOn (detDomain det site) = false then refuse s stBadState
  else if at_ ≤ s.time then okay (s.armInjection k.par) (s.time % 2 ^ 32)
  else .wait (.atTick at_) s

def cmdFaultInjectClear (k : Cmd) (s : State) : CmdOut :=
  let det := pf k.par 8 1
  if 0x5F < det || siteOk det (pf k.par 12 4) = false then refuse s stBadParam
  else if s.on F.FMU_STATUS_INJ_ACTIVE = false || s.domOn (detDomain det (pf k.par 12 4)) = false then refuse s stBadState
  else okay s.endInjection (s.time % 2 ^ 32)

/-! ## FAULT_LOG_READ (R367) -/

/-- A record's SEQ and CTX. -/
def recSeq (n : Nat) : Nat := numField n 8 4
def recCtx (n : Nat) : Nat := numField n 0x14 1

/-- The records of a source, oldest first: the ring, or FMU_DEVLOG from its oldest entry. -/
def State.logSource (s : State) (source : Nat) : List Nat :=
  if source = 0 then s.faultLog.map (·.1)
  else ((rangeFrom s.devHead 8).map (fun i => s.rd (R.FMU_DEVLOG (i % 8)))).filter (fun n => n != 0)

def cmdFaultLogRead (c : Nat) (e : HostEnv) (k : Cmd) (s : State) : CmdOut :=
  let source := pf k.par 8 1
  let first := pf k.par 12 4
  let dva := pf k.par 16 8
  let len := pf k.par 24 4
  if 1 < source || len < 32 || dva % 64 ≠ 0 then refuse s stBadParam
  else s.withDest e c dva len (fun segs s =>
    let earlier (n : Nat) : Bool := first != 0xFFFFFFFF && within ((first + 2 ^ 32 - recSeq n) % 2 ^ 32) 1 (2 ^ 31 - 1)
    let l := (((s.logSource source).dropWhile earlier).filter (fun n => c == 0 || recCtx n == c)).take (len / 32)
    let s := s.writeSegs (Who.cpx c) segs (clean (l.flatMap (leBytes 32)))
    let s : State := if source = 0 then
        { s with faultLog := s.faultLog.map (fun r => if l.contains r.1 then (r.1, true) else r) }
      else s
    okay s (l.length + 65536 * s.get F.FMU_LOG_CTL_LOST))

end Sys2Proof.Machine
end

