-- ==== Sys2Proof/Machine/Srm.lean ====
section
/-! DEFINITION. SRAM ownership and care (11_memory.md): the zeroing of released banks (R243), the scrubber (R252), and what a
bank's owner is at a beat (R240, R241). -/

namespace Sys2Proof.Machine

/-- The local banks of a physical engine (Table 11.1). -/
def engineBanks (e n : Nat) : List Nat := rangeFrom (0x100 + 0x200 * e + 16 * n) 16

/-- The banks that a plan's claims hold: KIND 4 claims, and the local banks of the engines that carry its logical engines. -/
def State.planBanks (s : State) (im : PlanImage) : List Nat :=
  im.claims.flatMap (fun k =>
    if k.kind = 4 then rangeFrom k.first k.count
    else if k.kind = 1 then (rangeFrom k.first k.count).flatMap (fun e => engineBanks (e / 15) (s.physOf e))
    else [])

/-- A bank that some live plan claims, by KIND 4 or through an engine. -/
def State.bankHeld (s : State) (b : Nat) : Bool := s.livePlans.any (fun p => (s.planBanks p.2.2.img).contains b)

/-- Claims released: every bank of the image that no live plan still claims, and that lies in no LOCAL range, is to be zeroed
(R243). The plan itself has left ADMITTED to DRAINING already. -/
def State.releaseClaims (s : State) (im : PlanImage) : State :=
  { s with zeroing := s.zeroing ++ (s.planBanks im).filter (fun b =>
      !s.bankHeld b && (s.localOwner b).isNone && !s.zeroing.contains b) }

/-- BANK_ZERO_DONE: every released bank is zero (R243). -/
def bankZeroDone (s : State) : State := s.zeroing.foldl (fun s b => s.zeroBank b) { s with zeroing := [] }

/-- SRAM_SCRUB: the scrubber reads one word of a bank that is neither claimed nor asleep, and rewrites it clean when it was
corrected; a poisoned word stays (R252). -/
def sramScrub (la : Nat) (s : State) : State :=
  let b := la / 0x20000
  let d := bankDie b
  let w := la / 8 * 8
  if 4 ≤ d || s.on (F.SRM_SCRUB_CFG_EN d) = false || s.bankHeld b || s.domOn (bankDomain b) = false then s
  else
    let t := s.eccRead ⟨0xB000 + d, 0xFF, false, 0⟩ w
    match tfind s.ecc w with
    | some (.ce _) => { t with ecc := tdel t.ecc w }
    | _ => t

end Sys2Proof.Machine
end

