-- ==== Sys2Proof/Machine/PlanOps.lean ====
section
/-! DEFINITION. How a plan gives up what it holds (Table 3.13): the work of its records, its claims, its outputs and its
items, when it becomes STOPPED, when a reset returns it to LOADED, and when a handle is emptied. -/

namespace Sys2Proof.Machine

/-- The activity belongs to a plan handle. -/
def runOf (r : RecRun) (c h : Nat) : Bool := r.c == c && r.h == h

/-- Every record of a plan that is at work ends, with the copies its units held for it. -/
def State.dropPlanWork (s : State) (c h : Nat) : State :=
  { s with
    builders := s.builders.filter (fun b => !runOf b.run c h)
    acqRuns := s.acqRuns.filter (fun b => !runOf b.run c h)
    strobes := s.strobes.filter (fun b => !runOf b.run c h)
    chans := s.chans.filter (fun b => !runOf b.2.run c h)
    windows := s.windows.filter (fun w => match s.item? w.c w.id with | some i => !(i.c == c && i.h == h) | none => true)
    copies := s.copies.filter (fun k => k.plan != 4 * c + h)
    chanProgs := s.chanProgs.filter (fun k => k.plan != 4 * c + h) }

/-- A swap pair ends when its old member does (R55): a plan admitted with handle `h` keeps the mark that it was admitted as a
partner, and names no plan any longer. -/
def State.endPairs (s : State) (c h : Nat) : State :=
  { s with plans := s.plans.map (fun p =>
      (p.1, if p.1 / 4 = c && p.2.partner == some h then { p.2 with partner := some (h + 4) } else p.2)) }

/-- The claims of a plan that has left ADMITTED to DRAINING are released (R56, R243). -/
def State.endClaims (s : State) (c h : Nat) (p : Plan) : State :=
  let s := (s.dropPlanWork c h).endPairs c h
  if p.phase.live then s.releaseClaims p.img else s

/-- A plan becomes STOPPED (Table 3.13). An ARMED member of a swap pair that is stopped leaves its pair. -/
def State.stopPlan (s : State) (c h : Nat) (p : Plan) : State :=
  let mate := if p.phase == .armed then none else p.partner
  ((s.setPlan c h { p with phase := .stopped, entries := [], partner := mate }).endClaims c h p)

/-- The items of a plan end without records (R18). -/
def State.dropItems (s : State) (c h : Nat) : State :=
  { s with items := s.items.filter (fun i => !(i.c == c && i.h == h)) }

/-- A plan leaves its handle's states by a reset: its records, items and pending outputs end, and its claims are released
(R88 step 3, R114). -/
def State.cutPlan (s : State) (c h : Nat) (p : Plan) : State :=
  ((s.cancelOutputs (fun x => x.c == c && x.h == h)).endClaims c h p).dropItems c h

/-- A plan returns to LOADED at a context reset (Table 3.13). -/
def State.unloadToLoaded (s : State) (c h : Nat) (p : Plan) : State :=
  (s.setPlan c h { p with phase := .loaded, img := p.whole, anchor := 0, start := 0, stop := 0, cancel := false, partner := none, armedSwap := false,
                          admFree := false, entries := [], lastZ := [], takenCycle := 0, taken := 0, lastTake := [],
                          cycRan := [] }).cutPlan c h p

/-- The plans of a context with their handles. -/
def State.ctxPlans (s : State) (c : Nat) : List (Nat × Plan) :=
  (s.plans.filter (fun p => p.1 / 4 == c)).map (fun p => (p.1 % 4, p.2))

/-- Every plan of a context returns to LOADED (R88 step 3). -/
def State.resetPlans (s : State) (c : Nat) : State :=
  (s.ctxPlans c).foldl (fun s p => s.unloadToLoaded c p.1 p.2) s

/-- An item of a plan whose record falls due in the present beat or later. -/
def State.itemsLeft (s : State) (c h : Nat) (p : Plan) : Bool :=
  s.items.any (fun i => i.c == c && i.h == h && decide (s.beat ≤ i.beat + p.img.lat))

/-- PLAN_DRAINED: the beat after a DRAINING plan's last record has come; with CANCEL its pending outputs are cancelled, else
they must have fired (R61, R63). -/
def planDrained (c h : Nat) (s : State) : State :=
  match s.plan? c h with
  | none => s
  | some p =>
    if p.phase != .draining || decide (s.beat < p.stop + p.img.lat) || s.itemsLeft c h p then s
    else if p.cancel then ((s.cancelOutputs (fun x => x.c == c && x.h == h)).stopPlan c h p).dropItems c h
    else if s.outputsPending c h then s
    else (s.stopPlan c h p).dropItems c h

end Sys2Proof.Machine
end

