-- ==== Sys2Proof/Machine/Reset.lean ====
section
/-! DEFINITION. Device resets (R420, R421, Table 19.2): what power-on, PERST# and a warm device reset keep; everything else
takes the values of `State.reset`. -/

namespace Sys2Proof.Machine

/-! ## What survives -/

/-- Fields copied from one state into another. -/
def State.keepFlds (s old : State) (l : List Fld) : State := l.foldl (fun s f => s.put f (old.get f)) s

/-- Registers copied from one state into another. -/
def State.keepRegs (s old : State) (l : List Reg) : State := l.foldl (fun s r => s.wr r (old.rd r)) s

/-- What lies outside every reset: the commands that wait, what has left the device, the free values drawn, the flash and
the fuses (R397, R399). -/
def State.outlast (old : State) : State :=
  { State.reset with pending := old.pending, out := old.out, fresh := old.fresh, flash := old.flash, svn := old.svn,
                     rootRev := old.rootRev, provLock := old.provLock }

/-- What PERST# and warm resets keep besides: FMU_DEVLOG with its SEQ, DEV_PRIOR, TAMPER, DBG_LOCKOUT with FAILS, EMU_TRIP_CNT, BOR
(PMC_EVENT shows a copy of it), the TAP, and what the supervisors of the rails see (Table 19.2, R440). -/
def State.keepAon (old : State) : State :=
  let s := (old.outlast.keepRegs old ([R.EMU_TRIP_CNT, R.FMU_SEQ, R.KSU_TAMPER] ++ (rangeFrom 0 8).map R.FMU_DEVLOG)).keepFlds
    old [F.FMU_STATUS_DEV_PRIOR, F.KSU_STATUS_TAMPER, F.KSU_STATUS_DBG_LOCKOUT, F.KSU_DBG_CTL_FAILS, F.PMC_AON_BOR]
  { s.put F.PMC_EVENT_BOR (old.get F.PMC_AON_BOR) with devHead := old.devHead, tapIr := old.tapIr, tapHigh := old.tapHigh, railsBad := old.railsBad, perst := old.perst }

/-- GLB_RSTCAUSE written (Table 19.6). -/
def State.setCause (s : State) (cause det loop : Nat) : State :=
  ((s.put F.GLB_RSTCAUSE_CAUSE cause).put F.GLB_RSTCAUSE_DETECTOR det).put F.GLB_RSTCAUSE_LOOP loop

/-- The boot begins at a stage (R423). -/
def State.bootFrom (s : State) (stage : Nat) : State := s.put F.GLB_STATUS_STAGE stage

/-! ## The three device resets -/

/-- A power-on reset. A brown-out leaves PMC_AON.BOR set (R342) and PERST# as it is; supplies that rise find it asserted
(R422). -/
def State.powerReset (s : State) (brown : Bool) : State :=
  let t := s.outlast
  if brown then
    let t := ({ t with perst := s.perst }.setCause 1 0xFF 0).put F.PMC_AON_BOR 1 |>.put F.PMC_EVENT_BOR 1
    if s.perst then t else t.bootFrom 1
  else t.setCause 0 0xFF 0

/-- A PERST# reset: the boot waits for PERST# to be deasserted. -/
def State.perstReset (s : State) : State := { s.keepAon with perst := true }.setCause 2 0xFF 0

/-- The root PLL has to relock after this detector's reset (REFCLK loss, PLL unlock: R32, R420). -/
def relocks (det : Nat) : Bool := det == 0x10 || det == 0x11

/-- The fields that show a root PLL still locked. -/
def clockFlds : List Fld := [F.CLK_STATUS_PLL_LOCK, F.CLK_STATUS_TIME_VALID, F.CLK_STATUS_REFCLK_OK]

/-- A warm device reset for a cause with its detector (R362, R421, R426, R429): device time goes on and the boot runs from
stage 2 unless the root PLL relocks; debug stays as it is (R416); the PCIe configuration stays but for a PF reset. -/
def State.warmReset (s : State) (cause det : Nat) : State :=
  let relock := cause == 4 && relocks det
  let loop := if cause = 4 && !s.ready then min (s.get F.GLB_RSTCAUSE_LOOP + 1) 15 else s.get F.GLB_RSTCAUSE_LOOP
  let t := s.keepAon.keepFlds s ([F.KSU_STATUS_DBG, F.GLB_RSTCNT_WARM] ++ (if relock then [] else clockFlds) ++
    (if cause = 3 then [] else [F.ATU_PRI_ALLOC]))
  let t := { t with time := s.time, resetT := s.time, numVfs := if cause = 3 then 0 else s.numVfs,
                    atsOn := cause != 3 && s.atsOn }
  let t := ((t.setCause cause det loop).incSat F.GLB_RSTCNT_WARM).put F.GLB_STATUS_WARM 1
  let t := if cause = 4 then (t.put F.FMU_STATUS_DEV_PRIOR 1).put F.FMU_EVENT_DEVICE 1 else t
  t.bootFrom (if relock then 1 else 2)

/-! ## Events -/

/-- POWER_ON. -/
def powerOn (s : State) : State := s.powerReset false

/-- AON_BROWN_OUT (R342). -/
def aonBrownOut (s : State) : State := s.powerReset true

/-- PERST_ASSERT (R439). -/
def perstAssert (s : State) : State := s.perstReset

/-- PERST_DEASSERT: the boot starts at stage 1 (R422, R423). -/
def perstDeassert (s : State) : State := if s.perst then { s with perst := false }.bootFrom 1 else s

/-- WARM_DEVICE_RESET for the causes that start one (Table 19.1). -/
def warmDeviceReset (cause det : Nat) (s : State) : State :=
  if 3 ≤ cause && !s.perst then s.warmReset cause (if within cause 4 6 then det else 0xFF) else s

/-- PF_FLR (R90, R426). -/
def pfFlr (s : State) : State := if s.perst then s else s.warmReset 3 0xFF

/-- RAIL_RETURN: a monitored rail is back in its window (R440). -/
def railReturn (rail : Nat) (s : State) : State := { s with railsBad := s.railsBad.filter (· != rail) }

/-- The boot cannot go on: PERST# is asserted, a warm reset waits for a rail (R440), or for the dies to cool (R324). -/
def State.bootHeld (s : State) : Bool :=
  s.perst || s.on F.GLB_STATUS_THERM_HOLD || (s.get F.GLB_STATUS_STAGE ≤ 2 && s.on F.GLB_STATUS_WARM && !s.railsBad.isEmpty)

end Sys2Proof.Machine
end

