-- ==== Sys2Proof/Machine/Engines.lean ====
section
/-! DEFINITION. Engine roles (R213, R214, R218), fault replacement (R354 to R358) and the self-tests of single units (R368). -/

namespace Sys2Proof.Machine

/-! ## Roles and the map -/

/-- A role taken by a physical engine with the logical engine it carries, 31 for none (Table 9.10). -/
def State.setRole (s : State) (e n role logical : Nat) : State :=
  ((s.put (F.TINE_ROLE_ROLE e n) role).put (F.TINE_ROLE_LOGICAL e n) logical).wr (R.TINE_ROLE_T e n) s.time

/-- The physical engine that is the die's spare, in SPARE, SHADOW or SELFTEST. -/
def State.spareOf (s : State) (e : Nat) : Nat := s.get (F.TINE_SPARE_PHYS e)

/-- The logical engine that a physical engine carries. -/
def State.logicalOf (s : State) (e n : Nat) : Nat := s.get (F.TINE_ROLE_LOGICAL e n)

/-- A change of one die's record. -/
def State.onDie (s : State) (e : Nat) (f : EngDie → EngDie) : State := s.setEngDie e (f (s.engDie e))

/-- The spare is in SPARE and takes part in nothing: no copy, no self-test. -/
def State.spareIdle (s : State) (e : Nat) : Bool :=
  s.on (F.TINE_SPARE_VALID e) && s.engRole e (s.spareOf e) == 1 && (s.engDie e).copying.isNone &&
  (s.engDie e).tests.all (fun x => x.1 != s.spareOf e)

/-- The physical engine after the spare, ascending modulo 16, that is not FAILED (R214). -/
def State.nextTarget (s : State) (e : Nat) : Option Nat :=
  ((rangeFrom 1 15).map (fun i => (s.spareOf e + i) % 16)).find? (fun n => s.engRole e n != 4)

/-- The last beat that a record of a plan's cycles takes before its stop boundary plus L (R63). -/
def Plan.cycleEnd (p : Plan) (r : Rec) : Nat :=
  let first := p.start + r.beat
  let cut := p.stop + p.img.lat
  if cut ≤ first then 0 else first + (cut - 1 - first) / max 1 p.img.cyc * p.img.cyc + r.span

/-- A DRAINING plan has issued its last record and all its records have ended (R214). -/
def State.planOver (s : State) (p : Plan) : Bool :=
  p.phase == .draining && decide (p.stop + p.img.lat ≤ s.beat) && p.img.cycRecs.all (fun r => decide (p.cycleEnd r ≤ s.beat))

/-- The present beat is a cycle boundary of a plan. A plan that has no anchor yet has no cycle: every beat will do. -/
def State.cycleBoundary (s : State) (p : Plan) : Bool :=
  p.phase == .admitted || ((s.beat : Int) - p.anchor) % max 1 p.img.cyc == 0

/-- A boundary at which a logical engine may change its physical engine (R65, R214, R355): any beat for one that no plan claims,
a cycle boundary of its plan, or one of N's after all of P's work while both members of a swap pair claim it. -/
def State.engineBoundary (s : State) (logical : Nat) : Bool :=
  s.time % 500 == 0 &&
  match s.livePlans.filter (fun p => p.2.2.img.hasClaim 1 logical) with
  | [] => true
  | [p] => s.cycleBoundary p.2.2
  | l =>
    match l.find? (fun p => match p.2.2.partner with | some h => h < 4 && l.any (fun o => o.1 == p.1 && o.2.1 == h) | none => false) with
    | some n => s.cycleBoundary n.2.2 && (l.all (fun o => o.2.1 == n.2.1 || s.planOver o.2.2))
    | none => false

/-! ## Copies -/

/-- A span of device memory copied under ECC, poison with it; the destination must not overlap the source (R213). -/
def State.copyLa (s : State) (who : Who) (src dst n : Nat) : State :=
  let bad := s.ecc.filter (fun w => decide (src ≤ w.1) && decide (w.1 < src + n))
  let s := (bad.map (·.1)).foldl (fun s w => s.eccRead who w) s
  let m := memMove s.mem src dst n
  let s := s.zeroLa dst n
  { s with mem := m
           ecc := bad.foldl (fun l w => match w.2 with | .ue _ => tput l (w.1 - src + dst) (.ue 0x3C) | .ce _ => l) s.ecc }

/-- The 16 local banks of an engine copied into the spare's. -/
def State.copyEngine (s : State) (e n : Nat) : State :=
  s.copyLa ⟨0xA000 + e, 0xFF, false, 0⟩ (engLa e n) (engLa e (s.spareOf e)) (16 * 0x20000)

/-- The engine's local banks after a self-test hold what its patterns left (R368). -/
def State.scramble (s : State) (a n : Nat) : State :=
  State.writeLa { s with fresh := s.fresh + n } ⟨0x8000, 0xFF, false, 0⟩ a (clean (freeBytes s.fresh n))

/-! ## Rotation (R213, R214) -/

/-- The beat at which steps come due on a C-die. -/
def dueBeat (e k : Nat) : Bool := k % 500 == 250 * e

/-- ROTATION_STEP_DUE at a beat boundary: a step comes due, or is skipped while the spare is not free to start one (R214). -/
def State.rotationDue (s : State) (e : Nat) : State :=
  if dueBeat e s.beat = false || s.on (F.TINE_ROTCFG_ROT_EN e) = false then s
  else if s.spareIdle e && (s.engDie e).fenced.isEmpty then s.onDie e (fun d => { d with due := true })
  else s.incSat (F.TINE_ROTSKIP_SKIP e)

/-- ROTATION_STEP_BEGIN. -/
def rotationStepBegin (e : Nat) (s : State) : State :=
  match s.nextTarget e with
  | none => s
  | some t =>
    if (s.engDie e).due && s.on (F.TINE_ROTCFG_ROT_EN e) && s.spareIdle e && (s.engDie e).fenced.isEmpty &&
       s.engRole e t == 0 && s.engineBoundary (s.logicalOf e t) then
      (s.setRole e (s.spareOf e) 2 31).onDie e
        (fun d => { d with due := false, target := some t, copying := some t, copyT := s.time, copied := false })
    else s

/-- SHADOW_COPY_DONE: the copy takes 16.384 beats (R213). -/
def shadowCopyDone (e : Nat) (s : State) : State :=
  let d := s.engDie e
  match d.copying with
  | some n =>
    if !d.copied && decide (d.copyT + 8192 ≤ s.time) then (s.copyEngine e n).onDie e (fun d => { d with copied := true }) else s
  | none => s

/-- The spare takes the logical number of an engine, whose banks it has mirrored since the copy (R213, R218). -/
def State.takeOver (s : State) (e n : Nat) : State :=
  let k := s.logicalOf e n
  let s := s.copyEngine e n
  let s := s.setRole e (s.spareOf e) 0 k
  let s := (s.put (F.TINE_MAP_PHYS (k / 15) (k % 15)) (s.spareOf e)).incWrap (F.TINE_MAPGEN_GEN e)
  s.onDie e (fun d => { d with target := none, copying := none, copied := false })

/-- SPARE_SWAP: at the boundary after the copy the shadow becomes ACTIVE, and the target goes to its self-test. -/
def spareSwap (e : Nat) (s : State) : State :=
  let d := s.engDie e
  match d.target with
  | some t =>
    if d.copied && d.copying == some t && !d.fenced.contains t && s.engineBoundary (s.logicalOf e t) then
      ((((s.takeOver e t).setRole e t 3 31).put (F.TINE_SPARE_PHYS e) t).onDie e
        (fun d => { d with tests := d.tests ++ [(t, s.time, 0)] }))
    else s
  | none => s

/-! ## Fault replacement (R354 to R357) -/

/-- An ACTIVE engine fenced. -/
def State.fence (s : State) (e n : Nat) : State :=
  if (s.engDie e).fenced.contains n then s else s.onDie e (fun d => { d with fenced := d.fenced ++ [n] })

/-- A step abandoned because the shadow has failed its checksum (R357). -/
def State.abandonShadow (s : State) (e n : Nat) : State :=
  ((s.setRole e n 1 31).incSat (F.TINE_ROTSKIP_SKIP e)).onDie e (fun d =>
    { d with target := none, copying := none, copied := false, tests := d.tests ++ [(n, s.time, 1)] })

/-- REPLACEMENT_BEGIN: at a boundary the spare begins to copy the banks of the first fenced engine (R355). -/
def replacementBegin (e n : Nat) (s : State) : State :=
  if (s.engDie e).fenced.head? == some n && s.spareIdle e && s.engineBoundary (s.logicalOf e n) then
    s.onDie e (fun d => { d with copying := some n, copyT := s.time, copied := false })
  else s

/-- The context whose plan claims a logical engine, 0xFF for none (CTX of Table 16.4). -/
def State.engineCtx (s : State) (k : Nat) : Nat :=
  ((s.livePlans.find? (fun p => p.2.2.img.hasClaim 1 k)).map (·.1)).getD 0xFF

/-- REPLACEMENT_SWAP: at a boundary after the copy the spare becomes ACTIVE and the fenced engine FAILED (R355, R357, R363). -/
def replacementSwap (e : Nat) (s : State) : State :=
  let d := s.engDie e
  match d.copying with
  | some n =>
    let k := s.logicalOf e n
    if d.copied && d.fenced.contains n && s.engineBoundary k then
      let p := s.spareOf e
      let s := ((s.takeOver e n).setRole e n 4 31).put (F.TINE_SPARE_VALID e) 0
      let s := s.onDie e (fun d => { d with fenced := d.fenced.filter (· != n) })
      let r : LogRec := { det := 0x20 + 16 * e + n, kind := 3, level := 2, unit := 16 * e + n, sub := k, info := p }
      (s.log { r with ctx := s.engineCtx k }).raiseFmu 5
    else s
  | none => s

/-! ## Self-tests (R213, R358, R368) -/

/-- The result of a self-test in TINE_BIST. -/
def State.setBist (s : State) (e n : Nat) (pass : Bool) : State :=
  (((s.put (F.TINE_BIST_DONE e n) 1).put (F.TINE_BIST_PASS e n) (b2n pass)).incWrap (F.TINE_BIST_RUNS e n)).wr
    (R.TINE_BIST_T e n) s.time

/-- A spare that fails: FAILED, and the die has none (R358). -/
def State.spareLost (s : State) (e n : Nat) : State :=
  ((s.setRole e n 4 31).put (F.TINE_SPARE_VALID e) 0).logDet (0x5E + e) 0 0 none 5 true

/-- The SELFTEST_RUN commands under way. -/
def State.selftests (s : State) : List (Nat × Cmd) :=
  (s.ctxCmds 0).filter (fun k => match k.2.phase with | .executing .selftest => true | _ => false)

/-- A SELFTEST_RUN of a Tine engine ends with its result (R368). -/
def State.endSelftest (s : State) (e n : Nat) (pass : Bool) : State :=
  match s.selftests.find? (fun k => pf k.2.par 8 1 == 0 && pf k.2.par 9 1 == 16 * e + n) with
  | some (q, k) => s.fixResult 0 q k.seq stOk (b2n pass)
  | none => s

/-- ENGINE_SELFTEST_DONE: 200 beats after its start a self-test ends (R213). -/
def engineSelftestDone (e n : Nat) (pass : Bool) (s : State) : State :=
  match (s.engDie e).tests.find? (fun x => x.1 == n && decide (x.2.1 + 100000 ≤ s.time)) with
  | none => s
  | some x =>
    let pass := pass && !s.injecting (0x5E + e)
    let s := ((s.setBist e n pass).scramble (engLa e n) (16 * 0x20000)).onDie e
      (fun d => { d with tests := d.tests.filter (fun y => y.1 != n) })
    let s := if x.2.2 = 0 && pass then s.setRole e n 1 31 else s
    let s := if !pass && (x.2.2 ≤ 1 || s.engRole e n == 1) then s.spareLost e n else s
    if x.2.2 = 2 then s.endSelftest e n pass else s

/-- The logical engine that a physical engine carries is claimed by a plan. -/
def State.engineClaimed (s : State) (e n : Nat) : Bool :=
  decide (s.logicalOf e n < 30) && s.claimed 1 (s.logicalOf e n)

/-- SELFTEST_RUN (R368). -/
def cmdSelftestRun (k : Cmd) (s : State) : CmdOut :=
  let kind := pf k.par 8 1
  let i := pf k.par 9 1
  if 2 < kind || (if kind = 0 then 32 else if kind = 1 then 8 else 4) ≤ i then refuse s stBadParam
  else if kind = 0 then
    let e := i / 16
    let n := i % 16
    let d := s.engDie e
    if s.engineClaimed e n || s.engRole e n == 2 || s.engRole e n == 3 || d.copying.isSome || d.tests.any (fun x => x.1 == n || x.2.2 == 0)
    then refuse s stBadState
    else .wait .selftest (s.onDie e (fun d => { d with tests := d.tests ++ [(n, s.time, 2)] }))
  else if s.claimed (kind + 1) i then refuse s stBadState
  else .wait (.atBeat (s.beat + 20)) s

/-- The end of a SELFTEST_RUN of a chain unit or PPU channel: its result sets FMU_UNITFAIL (R360, R368). The units' stores hold
nothing of a plan's. -/
def State.unitTested (s : State) (kind i : Nat) (pass : Bool) : State :=
  let s := s.putBit (if kind = 1 then F.FMU_UNITFAIL_CHU else F.FMU_UNITFAIL_PPU) i (!pass)
  let unit := (if kind = 1 then 0x1000 else 0x2000) + i
  if pass then { s with failFrom := tdel s.failFrom unit } else { s with failFrom := tput s.failFrom unit s.beat }

end Sys2Proof.Machine
end

