-- ==== Sys2Proof/Machine/HerdOps.lean ====
section
/-! DEFINITION. What the Herd's rules work with (17_herd.md): the device's place in its Herd, the partitions of a Herd plan
(R382), the messages that CONTROL flits carry, what depends on another member (R392), and how a link goes DOWN, a member
drops and this device leaves (R375, R392, R393). -/

namespace Sys2Proof.Machine

/-! ## The device's place -/

/-- 0 DETACHED, 1 JOINING, 2 MEMBER, 3 LEADER. -/
def State.herdState (s : State) : Nat := s.get F.HRD_STATUS_STATE
def State.inHerd (s : State) : Bool := decide (2 ≤ s.herdState)
def State.isLeader (s : State) : Bool := s.herdState == 3
def State.self (s : State) : Nat := s.get F.HRD_STATUS_SELF

/-- Member `m` is present (R370). -/
def State.present (s : State) (m : Nat) : Bool := s.getBit F.HRD_STATUS_PRESENT m

def State.linkUp (s : State) (l : Nat) : Bool := s.get (F.HRD_LINK_STATE_STATE l) == 2
def State.peer (s : State) (l : Nat) : Nat := s.get (F.HRD_LINK_STATE_PEER l)

/-- Lanes in use of a link that is UP (Table 17.12). -/
def State.linkWidth (s : State) (l : Nat) : Nat := 2 ^ s.get (F.HRD_LINK_STATE_WIDTH l)

/-- The links that are UP. -/
def State.upLinks (s : State) : List Nat := (rangeFrom 0 4).filter s.linkUp

/-- The link to the parent: one that joins the leader, else the lowest one to a member at depth 1 (R377). -/
def State.parentLink (s : State) : Option Nat :=
  let at_ (d : Nat) : Option Nat := (rangeFrom 0 4).find? (fun l => s.linkUp l && s.herd.paths.contains (l, d))
  match at_ 0 with
  | some l => some l
  | none => at_ 1

/-- The device's own depth (R377). -/
def State.depth (s : State) : Nat :=
  if s.isLeader then 0
  else match s.parentLink with
    | some l => if s.herd.paths.contains (l, 0) then 1 else 2
    | none => 0

/-- A change of what the device knows of its Herd. -/
def State.onHerd (s : State) (f : Herd → Herd) : State := { s with herd := f s.herd }

/-! ## Messages -/

/-- A CONTROL flit with one message on a link. -/
def State.tell (s : State) (l : Nat) (msg : List Nat) : State := s.emit (.flit l 3 msg)

/-- The message on every link that is UP, but for one. -/
def State.tellAll (s : State) (skip : Option Nat) (msg : List Nat) : State :=
  (s.upLinks.filter (fun l => skip != some l)).foldl (fun s l => s.tell l msg) s

/-- The message to the parent. -/
def State.tellParent (s : State) (msg : List Nat) : State :=
  match s.parentLink with
  | some l => s.tell l msg
  | none => s

/-! ## Herd plans (R382) -/

def PlanImage.isHerd (im : PlanImage) : Bool := bit im.flags 0
def PlanImage.herdField (im : PlanImage) (off n : Nat) : Nat := numField im.herd off n
def PlanImage.memberCount (im : PlanImage) : Nat := im.herdField 0 1

/-- The indices of member `m` in a section whose FIRST sequence lies at `off` with entries of `n` bytes and which has `count`
entries: the first and the one after the last. -/
def PlanImage.part (im : PlanImage) (off n count m : Nat) : Nat × Nat :=
  (im.herdField (off + n * m) n, if m + 1 < im.memberCount then im.herdField (off + n * (m + 1)) n else count)

def PlanImage.claimPart (im : PlanImage) (m : Nat) : Nat × Nat := im.part 0x04 2 im.claims.length m
def PlanImage.cycPart (im : PlanImage) (m : Nat) : Nat × Nat := im.part 0x14 2 im.cycRecs.length m
def PlanImage.classPart (im : PlanImage) (m : Nat) : Nat × Nat := im.part 0x24 1 im.classes.length m
def PlanImage.rulePart (im : PlanImage) (m : Nat) : Nat × Nat := im.part 0x2C 1 im.rules.length m
def PlanImage.rejectPart (im : PlanImage) (m : Nat) : Nat × Nat := im.part 0x34 1 im.rejects.length m

/-- The part of a list between two indices. -/
def slice {α : Type} (l : List α) (p : Nat × Nat) : List α := (l.drop p.1).take (p.2 - p.1)

/-- The list with everything outside a part replaced. -/
def keepPart {α : Type} (l : List α) (p : Nat × Nat) (z : α → α) : List α :=
  (l.zip (rangeFrom 0 l.length)).map (fun x => if p.1 ≤ x.2 && decide (x.2 < p.2) then x.1 else z x.1)

/-- The image with every other member's claims, cycle records and trigger rules blanked: kind 0 names nothing, and a rule of
source 255 hears no mark (R382, R383). -/
def PlanImage.partition (im : PlanImage) (m : Nat) : PlanImage :=
  if im.isHerd then
    { im with claims := keepPart im.claims (im.claimPart m) (fun k => { k with kind := 0, count := 0 })
              cycRecs := keepPart im.cycRecs (im.cycPart m) (fun r => { r with kind := 0, claimCount := 0 })
              rules := keepPart im.rules (im.rulePart m) (fun r => { r with source := 255 }) }
  else im

/-- The item records of a class. -/
def PlanImage.classRecs (im : PlanImage) (cls : Nat) : List Rec :=
  match im.classOf cls with
  | some d => (im.itemRecs.drop d.recFirst).take d.recCount
  | none => []

/-- The item and cycle records of a member's partition. -/
def PlanImage.memberRecs (im : PlanImage) (m : Nat) : List Rec :=
  ((slice im.classes (im.classPart m)).flatMap (fun d => im.classRecs d.cls)) ++ slice im.cycRecs (im.cycPart m)

/-- The reject rules of a member's partition. -/
def PlanImage.memberRejects (im : PlanImage) (m : Nat) : List RejectRule := slice im.rejects (im.rejectPart m)

/-! ## HERD_XFER fields (Table 17.8) -/

def Rec.xMember (r : Rec) : Nat := bits r.op0 2 0
def Rec.xLink (r : Rec) : Nat := bits r.op0 5 4
def Rec.xWindow (r : Rec) : Nat := bits r.op0 13 8
def Rec.xLen (r : Rec) : Nat := bits r.op1 23 0

/-- The slots of a link that a record claims, with the bytes per slot, claims in claim order (R386). -/
def PlanImage.slotsOf (im : PlanImage) (r : Rec) (link : Nat) : List (Nat × Nat) :=
  ((im.recClaims r).filter (fun k => k.kind == 6)).flatMap (fun k =>
    ((rangeFrom k.first k.count).filter (fun n => n / 256 == link)).map (fun n => (n % 256, k.p0)))

/-! ## Dependence on a member (R392) -/

/-- The operands that a record reads: IN_BUF, IN2 of a CHAIN_OP, AUX0 and AUX1 of a DMX_RUN. -/
def Rec.readOps (r : Rec) : List Nat :=
  (r.inBuf :: (if r.kind = 2 then [r.in2] else if r.kind = 5 then [r.aux 0, r.aux 1] else [])).filter (· != 0xFFFF)

/-- Device memory behind a list of segments. -/
def laSpans (l : List Seg) : List (Nat × Nat) := l.filterMap (fun g => match g with | .la a n => some (a, n) | _ => none)

/-- The memory behind an exported window. -/
def State.windowSegs (s : State) (w : Nat) : List Seg :=
  let r := s.rd (R.HRD_EXP w)
  if bit r 27 then
    match s.rangeById (numField r 4 1 % 128) (r % 2 ^ 16) with
    | some (_, x) => x.segs (numField r 8 4) (numField r 12 4)
    | none => []
  else []

/-- Records of this device read memory behind a window into which a member pushes. -/
def State.readsFrom (s : State) (c : Nat) (im : PlanImage) (recs : List Rec) (m : Nat) : Bool :=
  let wins := ((im.memberRecs m).filter (fun r => r.kind == 9 && r.xMember == s.self)).map Rec.xWindow
  let spans := wins.flatMap (fun w => laSpans (s.windowSegs w))
  recs.any (fun r => r.readOps.any (fun o =>
    match s.buf? c im none o with
    | some b => b.segs.any (fun g => spans.any (fun p => g.meets p.1 p.2))
    | none => false))

/-- A class of this device's partition depends on another member. -/
def State.dependsOn (s : State) (c : Nat) (im : PlanImage) (cls m : Nat) : Bool :=
  im.isHerd && m != s.self &&
  ((im.classRecs cls).any (fun r => r.kind == 9 && r.xMember == m) ||
   (im.memberRejects m).any (fun r => r.cls == cls) ||
   s.readsFrom c im (im.classRecs cls ++ slice im.cycRecs (im.cycPart s.self)) m)

/-- A class depends on some member that is absent. -/
def State.dependsAbsent (s : State) (c : Nat) (im : PlanImage) (cls : Nat) : Bool :=
  im.isHerd && (rangeFrom 0 im.memberCount).any (fun m => !s.present m && s.dependsOn c im cls m)

/-- From the present beat on member `m` is known to be absent: the items that depend on it and whose records are still to come
receive INCOMPLETE. -/
def State.memberAbsent (s : State) (m : Nat) : State :=
  let s := s.putBit F.HRD_STATUS_PRESENT m false
  s.incompleteItems (fun i =>
    match s.plan? i.c i.h with
    | some p => s.dependsOn i.c p.whole i.cls m && decide (s.beat ≤ i.beat + p.img.lat)
    | none => false)

/-! ## Leaving the Herd -/

/-- A Herd plan that is ADMITTED, ARMED, RUNNING or DRAINING (R393, R394). -/
def State.herdPlans (s : State) : List (Nat × Nat × Plan) := s.livePlans.filter (fun p => p.2.2.whole.isHerd)

/-- Every Herd plan enters DRAINING with a stop boundary; one that drains already keeps an earlier one. -/
def State.drainHerd (s : State) (k : Nat) : State :=
  s.herdPlans.foldl (fun s p =>
    s.setPlan p.1 p.2.1 { p.2.2 with phase := .draining,
                                     stop := if p.2.2.phase == .draining then min k p.2.2.stop else k }) s

/-- Line outputs and strobes that a plan claims go to high impedance. -/
def State.floatOutputs (s : State) (im : PlanImage) : State :=
  im.claims.foldl (fun s k => (rangeFrom k.first k.count).foldl (fun s n =>
    if k.kind = 8 && n < 16 then s.put (F.LIO_LO_CFG_EN n) 0
    else if k.kind = 9 && n < 4 then s.put (F.LIO_STB_CFG_EN n) 0
    else s) s) s

/-- The device is DETACHED: it follows no one, and its trim is zero (R37, Table 17.1). -/
def State.detach (s : State) : State :=
  let s := [F.HRD_STATUS_STATE, F.HRD_STATUS_SELF, F.HRD_STATUS_LEADER, F.HRD_STATUS_COUNT, F.HRD_STATUS_PRESENT,
    F.HRD_STATUS_LEAVING, F.CLK_TRIM_TRIM, F.CLK_STATUS_TRIM_ACTIVE].foldl (fun s f => s.put f 0) s
  s.onHerd (fun h => { Herd.none with seqs := h.seqs, lastSeq := h.lastSeq, stopped := h.stopped, goodBeat := h.goodBeat,
                                      training := h.training, sent := h.sent })

/-- Importers' ranges whose exporter is out of reach or gone become REVOKED (R269, R389). -/
def State.revokeFrom (s : State) (gone : Nat → Nat → Bool) : State :=
  let keys := (s.ranges.filter (fun p => p.2.kind == 3 && !p.2.revoked &&
    (match tfind s.imports p.2.imp with | some i => gone i.device i.window | none => false))).map (·.1)
  if keys = [] then s else s.revoke keys

/-- HERD_DEPART: the device leaves the Herd without HERD_LEAVE (R393). A leader dissolves it. -/
def State.depart (s : State) : State :=
  let plans := s.herdPlans
  let s := if s.isLeader then s.tellAll none [8] else s
  let s := plans.foldl (fun s p =>
    let s := (s.incompleteItems (fun i => i.c == p.1 && i.h == p.2.1)).cancelOutputs (fun x => x.c == p.1 && x.h == p.2.1)
    s.floatOutputs p.2.2.img) (s.drainHerd s.beat)
  (s.revokeFrom (fun _ _ => true)).detach

/-- The member is TIME_LOST (Table 17.5). -/
def State.timeLost (s : State) : State :=
  ((((s.put F.HRD_STATUS_TSTATE 3).raiseHrd 3).tellAll none [9, s.self]).depart)

/-- MEMBER_DROP: another member is lost to this one (R392). The leader tells the others. -/
def State.memberDrop (s : State) (m : Nat) : State :=
  let known := s.present m || s.herd.members.any (fun x => x.idx == m)
  let s := (s.memberAbsent m).revokeFrom (fun d _ => d == m)
  let s := s.onHerd (fun h => { h with members := h.members.filter (fun x => x.idx != m)
                                       exports := h.exports.filter (fun x => x.device != m)
                                       leavers := h.leavers.filter (fun x => x.1 != m) })
  let s := s.put F.HRD_STATUS_COUNT (s.herd.members.length + 1)
  if known then (if s.isLeader then s.tellAll none [3, m] else s).raiseHrd 1 else s

/-- A link goes DOWN (R375): a peer that no link joins any longer is dropped, and a member without a parent is TIME_LOST. -/
def State.linkLost (s : State) (l : Nat) : State :=
  let m := s.peer l
  let up := s.linkUp l
  let s := ((s.put (F.HRD_LINK_STATE_STATE l) 0).put (F.HRD_LINK_SLOTS_EXIST l) 0)
  let s := s.onHerd (fun h => { h with training := tdel h.training l, stopped := tdel h.stopped l, paths := tdel h.paths l })
  if !up then s
  else
    let s := (s.incSat (F.HRD_LINK_CNT2_DOWN l)).raiseHrd 5
    if (s.linkTo m).isSome then s
    else
      let s := s.revokeFrom (fun d _ => d == m)
      if s.inHerd = false then s
      else
        let s := s.memberDrop m
        if s.herdState == 2 && s.parentLink.isNone then s.timeLost else s

/-- LINK_DOWN: two beats have passed without a good flit (R375). -/
def linkDown (l : Nat) (s : State) : State :=
  if s.linkUp l && decide (tget s.herd.goodBeat l 0 + 3 ≤ s.beat) then s.linkLost l else s

end Sys2Proof.Machine
end

