-- ==== Sys2Proof/Machine/React.lean ====
section
/-! DEFINITION. What a fault detector's firing does (R353 to R362, Tables 16.2 and 16.3): the log record, the effect the unit
chapters set for the items served, and the reaction at the detector's level. -/

namespace Sys2Proof.Machine

/-- The record that a unit ran last. -/
def State.lastOf (s : State) (unit : Nat) : Option RecRun := tfind s.lastRun unit

/-- The items that a record serves receive FAULTED (R51). -/
def State.faultRun (s : State) (run : Option RecRun) : State :=
  match run with
  | some r => if r.item then s.faultItems (fun i => i.c == r.c && i.id == r.n) else s
  | none => s

/-- FMU_CTL.EN (R353). -/
def State.fmuOn (s : State) : Bool := s.on F.FMU_CTL_EN

/-! ## Units without a spare (R360) -/

/-- One firing counted against a unit's record; how many records have fired within 8,000 beats. -/
def State.noteFire (s : State) (unit : Nat) (run : Option RecRun) : Nat × State :=
  let kept := s.unitFires.filter (fun x => decide (s.beat < x.2.1 + 8000))
  let again := run.isSome && kept.any (fun x => x.1 == unit && x.2.2 == run)
  let l := if again then kept else kept ++ [(unit, s.beat, run)]
  ((l.filter (fun x => x.1 == unit)).length, { s with unitFires := l })

/-- The firings that declare a unit failed; 0 is treated as 1 (Table 16.7). -/
def State.permLim (s : State) : Nat := max 1 (s.get F.FMU_CTL_PERM_LIM)

/-- A unit declared failed: its bit, its record and its event. -/
def State.declareFailed (s : State) (id : Nat) : State :=
  let s := if within id 0x40 0x47 then s.putBit F.FMU_UNITFAIL_CHU (id - 0x40) true
           else if within id 0x48 0x4B then s.putBit F.FMU_UNITFAIL_PPU (id - 0x48) true else s
  (s.log { det := id, kind := 4, level := s.detLevel id 0, unit := detUnit id 0 }).raiseFmu 4

/-- The firing of a chain unit's, a PPU channel's or the composer's detector counts toward its failure. -/
def State.countUnit (s : State) (id : Nat) (run : Option RecRun) : State :=
  if s.fmuOn = false then s
  else
    let unit := detUnit id 0
    let n := s.noteFire unit run
    let s := n.2
    if n.1 < s.permLim then s
    else if id = 0x09 then (s.declareFailed id).warmReset 4 id
    else if (tfind s.failFrom unit).isSome then s
    else { s.declareFailed id with failFrom := tput s.failFrom unit (s.beat + 1) }

/-! ## Reactions by level -/

/-- The device level (R362): the record, then the warm reset. -/
def State.deviceFault (s : State) (id site : Nat) : State :=
  (s.logDet id site (if 0x58 ≤ id && id ≤ 0x5D then site else 0) none 1 false).warmReset 4 id

/-- The tamper level (R417): the counter, TAMPER and the zeroization that the reset brings. -/
def State.tamperFault (s : State) (id : Nat) : State :=
  let s := s.logDet id 0 0 none 1 false
  let s := s.incSat (if id = 4 then F.KSU_TAMPER_VOLT else if id = 5 then F.KSU_TAMPER_CLK else F.KSU_TAMPER_TEMP)
  ((s.put F.KSU_STATUS_TAMPER 1).warmReset 6 id).raiseKsu 0

/-- The domains that a thermal hold keeps ON (R328). -/
def holdKeeps (d : Nat) : Bool := [0, 1, 2, 15, 35, 64].contains d

/-- Every other domain is OFF during a thermal hold, and ON after it. -/
def State.holdDomains (s : State) (st : Nat) : State :=
  ((rangeFrom 0 93).filter (fun d => !holdKeeps d)).foldl (fun s d => s.put (F.PMC_DOM_STATE_STATE d) st) s

/-- The thermal trip (R324). -/
def State.tripFault (s : State) (site : Nat) : State :=
  ((((s.logDet 7 site 0 none 1 false).incSat F.EMU_TRIP_CNT_TRIPS).warmReset 5 7).put F.GLB_STATUS_THERM_HOLD 1).holdDomains 2

/-- The rail that a rail detector watches (R440): its supervisor holds a warm reset until RAIL_RETURN. -/
def railOf (id site : Nat) : Option Nat :=
  if within id 0x19 0x1C then some (8 + (id - 0x19)) else if id = 0x1D then some site else none

/-- A rail seen outside its window. -/
def State.railBad (s : State) (id site : Nat) : State :=
  match railOf id site with
  | some r => if s.railsBad.contains r then s else { s with railsBad := s.railsBad ++ [r] }
  | none => s

/-- The checksum of a Tine engine (R212, R354, R356, R357): the items of its record, if its outputs are taken, and the fence. -/
def State.engineFault (s : State) (id : Nat) : State :=
  let e := (id - 0x20) / 16
  let n := (id - 0x20) % 16
  let run := s.lastOf (16 * e + n)
  let role := s.engRole e n
  let k := s.logicalOf e n
  let s := if role = 0 then s.faultRun run else s
  let s := (s.incSat (F.TINE_CKCNT_MISMATCH e n)).logDet id 0 (if role = 0 then k else 0)
    (if role = 0 then run else none) 1 (role == 2)
  if s.fmuOn = false then s
  else if role = 0 then s.fence e n
  else if role = 2 then s.abandonShadow e n
  else s

/-- The compare of a chain unit or the check of a PPU channel (R230, R237). -/
def State.unitFault (s : State) (id : Nat) : State :=
  let run := s.lastOf (detUnit id 0)
  let u := id % 4
  let s := if id < 0x48 then s.incSat (F.CHU_CMPCNT_MISMATCH ((id - 0x40) / 4) u)
           else if u % 2 = 0 then s.incSat (F.PPU_CKCNT_S_MISMATCH (u / 2)) else s.incSat (F.PPU_CKCNT_D_MISMATCH (u / 2))
  ((s.faultRun run).logDet id 0 0 run 1 false).countUnit id run

/-- The items that the owner of a claimed bank serves in the present beat (R241). -/
def State.bankServes (s : State) (b : Nat) (i : Item) : Bool :=
  match s.plan? i.c i.h with
  | some p =>
    p.phase.live && p.img.hasClaim 4 b &&
    (p.img.classRecs i.cls).any (fun r => decide (i.beat + r.beat ≤ s.beat) && decide (s.beat < i.beat + r.beat + r.span) &&
      (p.img.recClaims r).any (fun k => k.kind == 4 && decide (k.first ≤ b) && decide (b < k.first + k.count) &&
        (k.p0 == 0 || p.img.itemBank k.p0 i == some b)))
  | none => false

/-- The SRAM ownership detector (R241): an access from a unit that is not the owner was not performed. Which unit it was the
firing does not tell. -/
def State.ownFault (s : State) (id site : Nat) : State :=
  let d := id - 0x4C
  let hit := s.items.find? (s.bankServes site)
  let x := s.draw
  let s := (x.2.incSat (F.SRM_OWN_CNT_OWN d)).logError
    ⟨x.1 % 2 ^ 16, (match hit with | some i => i.c | none => 0xFF), true, (match hit with | some i => i.id | none => 0)⟩
    (bankLa site) 5 0
  (s.faultItems (fun i => s.bankServes site i)).logDet id site 0
    (hit.map (fun i => ⟨i.c, i.h, true, 0, i.id⟩)) 1 false

/-- The contexts that a DMX channel serves: bound by a ring, or claiming it (R302, Table 3.4). -/
def State.channelCtxs (s : State) (n : Nat) : List Nat :=
  List.eraseDups ((s.queues.filter (fun (x : Nat × Queue) => x.2.typ == 2 && x.2.chan == n)).map (fun x => x.1 / 128) ++
   (s.livePlans.filter (fun p => p.2.2.img.hasClaim 5 n)).map (fun p => p.1))

/-- The context level (R361): a recovery falls due on each context that the unit serves. -/
def State.contextFault (s : State) (id site : Nat) : State :=
  let cs := s.channelCtxs site
  let s := s.logDet id site 0 (cs.head?.map (fun c => ⟨c, 0, false, 0, 0⟩)) 1 false
  if s.fmuOn = false then s
  else { s with recovers := s.recovers ++ (cs.filter (fun c => !s.recovers.contains (c, id, false))).map (fun c => (c, id, false)) }

/-- A lane of a package link that a spare absorbs, or does not (R449). -/
def State.laneFaulty (s : State) (id site : Nat) : State :=
  let l := id - 0x58
  if s.detLevel id site = 5 then s.deviceFault id site
  else
    let s := s.logDet id site site none 1 true
    if s.lanesBad.contains (l, site) then s else { s with lanesBad := s.lanesBad ++ [(l, site)] }

/-- The rotation self-test of a C-die: the engine under test fails now, if there is one (R358). -/
def State.rotationFault (s : State) (id : Nat) : State :=
  let e := id - 0x5E
  match (s.engDie e).tests.find? (fun x => x.2.2 ≤ 1) with
  | some (n, _, _) =>
    let s := (s.setBist e n false).scramble (engLa e n) (16 * 0x20000)
    (s.onDie e (fun d => { d with tests := d.tests.filter (fun y => y.1 != n) })).spareLost e n
  | none => s.logDet id 0 0 none 5 true

/-- A detector fires at a site (R353). -/
def State.fireDetector (s : State) (id site : Nat) : State :=
  if within id 0x04 0x06 then s.tamperFault id
  else if id = 0x07 then s.tripFault site
  else if id = 0x09 then
    let run := s.lastOf 0x7000
    ((s.faultRun run).logDet id site 0 run 1 false).countUnit id run
  else if id = 0x0A then
    let s := s.logDet id site 0 (if (tfind s.ranges site).isSome then some ⟨site / 32, 0, false, 0, 0⟩ else none) 1 false
    if (tfind s.ranges site).isSome then s.revoke [site] else s
  else if id = 0x0B then s.contextFault id site
  else if within id 0x0C 0x0F then (s.logDet id 0 0 none 1 false).linkLost (id - 0x0C)
  else if id = 0x12 then
    let s := s.logDet id site site none 1 false
    s.putBit (onFioFld site) (site % 32) true
  else if id = 0x14 then s.logDet id 0 0 none 1 false
  else if within id 0x15 0x18 then droop (id - 0x15) (s.logDet id 0 0 none 1 true)
  else if id = 0x1E then ((s.logDet id site 0 none 1 false).put F.EMU_STATUS_SENSOR_LOST 1).raiseEmu 6
  else if within id 0x20 0x3F then s.engineFault id
  else if within id 0x40 0x4B then s.unitFault id
  else if within id 0x4C 0x4F then s.ownFault id site
  else if within id 0x50 0x57 then ((s.logDet id 0 0 none 1 false).setCal (id - 0x50) 2).raiseAcq 3
  else if within id 0x58 0x5D then s.laneFaulty id site
  else if 0x5E ≤ id then s.rotationFault id
  else (s.railBad id site).deviceFault id site

/-- DETECTOR_FIRE: a detector of Table 16.2 in a domain that is ON; the inputs of the others are clamped (R331, R350). -/
def detectorFire (id site : Nat) (s : State) : State :=
  if siteOk id site && s.domOn (detDomain id site) then s.fireDetector id site else s

/-- TAMPER (R417). -/
def tamper (det : Nat) (s : State) : State := s.tamperFault det

end Sys2Proof.Machine
end

