-- ==== Sys2Proof/Machine/Pmc.lean ====
section
/-! DEFINITION. Power domains (15_power_domains.md): what each offers and holds, when it may sleep, entry, wake and clock switch
(R29, R328 to R340), planned windows (R335), group sleep (R344), the power commands (R345 to R347) and the domain reset
(R430). -/

namespace Sys2Proof.Machine

/-! ## The domains (Tables 15.1 and 15.4) -/

/-- The offset of a domain within its C-die, for the domains of the C-dies. -/
def domSlot (d : Nat) : Nat := (d - 35) % 29
def domDie (d : Nat) : Nat := (d - 35) / 29

def isTine (d : Nat) : Bool := decide (35 ≤ d) && within (domSlot d) 2 17
def isChu (d : Nat) : Bool := decide (35 ≤ d) && within (domSlot d) 18 21
def isPpu (d : Nat) : Bool := decide (35 ≤ d) && domSlot d == 22
def isSram (d : Nat) : Bool := decide (35 ≤ d) && decide (23 ≤ domSlot d)

/-- The domain offers a state: 1 RETENTION, 2 OFF. -/
def domOffers (d aim : Nat) : Bool :=
  !domFixed d && (if aim = 1 then (domLeads d).1 != 0 else if aim = 2 then (domLeads d).2 != 0 else false)

/-- Entry time in beats. -/
def domEntry (d : Nat) : Nat := if within d 8 10 then 2 else 1

/-- The domain may take a planned window. -/
def domWindowed (d : Nat) : Bool := within d 17 26 || isChu d || isPpu d || isSram d

/-- The SRAM banks of a domain, ascending. -/
def domBanks (d : Nat) : List Nat :=
  if d = 25 then rangeFrom 0 0x40
  else if d = 26 then rangeFrom 0x40 0x40
  else if d = 27 then rangeFrom 0x80 0x80
  else if isTine d then engineBanks (domDie d) (domSlot d - 2)
  else if isSram d then rangeFrom (0x200 + 0x200 * domDie d + 32 * (domSlot d - 23)) 32
  else []

/-! ## Claims, idleness and dependants (R333, R343) -/

/-- The physical engine of a domain carries a logical engine that the test accepts. -/
def State.tineClaimed (s : State) (d : Nat) : Bool := isTine d && s.engineClaimed (domDie d) (domSlot d - 2)

/-- A domain is claimed (R333). -/
def State.domClaimed (s : State) (d : Nat) : Bool :=
  s.livePlans.any (fun p => p.2.2.img.claims.any (fun k =>
    if k.kind = 15 then decide (k.first ≤ d) && decide (d < k.first + k.count) else if k.kind = 1 then false else k.kind != 13 && (s.claimDomains k).contains d)) ||
  s.tineClaimed d ||
  (within d 4 6 && s.livePlans.any (fun p => p.2.2.phase != .admitted)) ||
  (isTine d && s.on (F.TINE_ROTCFG_ROT_EN (domDie d)))

/-- A descriptor that is held or runs uses memory of LPDDR5X channel `ch`. -/
def State.channelHeld (s : State) (ch : Nat) : Bool :=
  s.queues.any (fun x => x.2.descs.any (fun d => (d.phase == .held || d.phase == .running) && d.uses (dramLa ch) 0x200000000))

/-- A SELFTEST_RUN of a chain unit or PPU channel is under way. -/
def State.unitTesting (s : State) (kind i : Nat) : Bool :=
  (s.ctxCmds 0).any (fun k => k.2.op == 0x82 && pf k.2.par 8 1 == kind && pf k.2.par 9 1 == i &&
    match k.2.phase with | .executing _ => true | _ => false)

/-- A unit of the domain holds a record, a descriptor, a command or a transfer in progress. -/
def State.domBusy (s : State) (d : Nat) : Bool :=
  if d = 4 then s.queues.any (fun x => !x.2.cmds.isEmpty)
  else if d = 5 then s.queues.any (fun x => !x.2.descs.isEmpty)
  else if d = 6 then !s.chans.isEmpty || s.queues.any (fun x => x.2.descs.any (fun y => y.phase == .running))
  else if within d 8 10 then s.channelHeld (d - 7)
  else if within d 11 14 then
    (tfind s.herd.training (d - 11)).isSome || s.herd.sent.any (fun x => x.link == d - 11) || (s.inHerd && s.linkUp (d - 11))
  else if within d 17 24 then s.acqState (d - 17) != 0 && s.acqState (d - 17) != 6 || s.getBit F.DFC_STATUS_RUNNING (d - 17)
  else if d = 27 || d = 28 then s.get F.EVP_STATUS_EN != 0 || !s.builders.isEmpty
  else if within d 29 32 then s.portOn (d - 29)
  else if d = 34 then (rangeFrom 0 16).any (fun j => s.pulseActive j || !(s.lineOut j).pend.isEmpty)
  else if isTine d then
    let e := s.engDie (domDie d)
    e.copying.isSome || e.tests.any (fun t => t.1 == domSlot d - 2) || s.zeroing.any (fun b => (domBanks d).contains b)
  else if isChu d then s.unitTesting 1 (4 * domDie d + (domSlot d - 18))
  else if isPpu d then s.unitTesting 2 (2 * domDie d) || s.unitTesting 2 (2 * domDie d + 1)
  else s.zeroing.any (fun b => (domBanks d).contains b)

/-- The dependants of a domain that are ON (Table 15.5). -/
def State.domDependent (s : State) (d : Nat) : Bool :=
  if d = 28 then (rangeFrom 29 4).any s.domOn
  else if d = 27 then s.domOn 28
  else if within d 17 24 && (d - 17) % 2 = 1 then s.paired (d - 17) && s.domOn (d - 1)
  else if d = 5 then s.domOn 6
  else false

/-! ## Domain records -/

/-- The domain's record, before the first move as the last device reset left it. -/
def State.dom (s : State) (d : Nat) : Dom := tget s.doms d ⟨0, s.resetT, s.resetT, false, s.resetT, 0, false, false⟩

def State.setDom (s : State) (d : Nat) (x : Dom) : State := { s with doms := tput s.doms d x }

def State.domPhase (s : State) (d : Nat) : Nat := s.get (F.PMC_DOM_STATE_PHASE d)
def State.domState (s : State) (d : Nat) : Nat := s.get (F.PMC_DOM_STATE_STATE d)

/-- The domain's idle timer starts anew (R332, R346). -/
def State.touchDom (s : State) (d : Nat) : State :=
  if s.get (F.PMC_DOM_CFG_TARGET d) = 0 then s else s.setDom d { s.dom d with idle := s.time }

/-- The state that a domain's residency counts in: that being left while it moves (R349). -/
def State.resState (s : State) (d : Nat) : Nat := if s.domPhase d = 2 then (s.dom d).aim else s.domState d

def resReg (d st : Nat) : Reg :=
  if st = 0 then R.PMC_DOM_RES_ON d else if st = 1 then R.PMC_DOM_RES_RET d else R.PMC_DOM_RES_OFF d

/-- A residency counter as it reads now. -/
def State.residency (s : State) (d st : Nat) : Nat :=
  s.rd (resReg d st) + (if s.resState d = st then s.time - (s.dom d).resT else 0)

/-- The residency counters brought up to date. -/
def State.accrue (s : State) (d : Nat) : State :=
  let st := s.resState d
  (s.wr (resReg d st) (s.residency d st)).setDom d { s.dom d with resT := s.time }

/-- PMC_STATUS.WAKING. -/
def State.showWaking (s : State) : State :=
  s.put F.PMC_STATUS_WAKING (b2n ((rangeFrom 0 93).any (fun d => s.domPhase d == 2)))

/-! ## The always-on supply (R341) -/

/-- A bank kept by a domain in RETENTION (R330). -/
def State.bankKept (s : State) (d b : Nat) : Bool :=
  bit (s.rd (R.PMC_DOM_KEEP0 d) + s.rd (R.PMC_DOM_KEEP1 d) * 2 ^ 64) (b - (domBanks d).headD 0) || s.bankHeld b ||
  (s.localOwner b).isSome

/-- EST_MA: 14 mA, 0.5 mA for each domain in full RETENTION, 0.02 mA for each kept bank. -/
def State.estMa (s : State) : Nat :=
  let ret := (rangeFrom 0 93).filter (fun d => s.domState d == 1)
  let full := (ret.filter (fun d => (domBanks d).isEmpty)).length
  let kept := sumNat (ret.map (fun d => ((domBanks d).filter (s.bankKept d)).length))
  ceilDiv (1400 + 50 * full + 2 * kept) 100

/-- PMC_AON.LP. -/
def State.lpMode (s : State) : Bool :=
  s.on F.PMC_AON_LP_EN && (rangeFrom 0 93).all (fun d => domFixed d || (s.domState d != 0 && s.domPhase d == 0)) &&
  decide (s.estMa ≤ 24)

/-! ## What a state loses (R329, Table 15.2) -/

/-- Registers of a span of BAR0 put back to their reset values. -/
def State.dropRegs (s : State) (a n : Nat) : State :=
  { s with regs := s.regs.filter (fun r => decide (r.1 < a) || decide (a + n ≤ r.1)) }

/-- A bank of the event surface lost: its cells hold zeros (R253). -/
def State.loseSurface (s : State) (lost : List Nat) : State :=
  (rangeFrom 0 4).foldl (fun s p =>
    let banks := (rangeFrom 0x80 0x80).filter (fun b =>
      decide (surfLa p 0 0 < bankLa (b + 1)) && decide (bankLa b < surfLa (p + 1) 0 0))
    let gone (key : Nat) : Bool :=
      let x := key / 2 % 1280
      let y := key / 2560 % 800
      lost.contains (surfLa p x y / 0x20000)
    let mine (key : Nat) : Bool := decide (surfKey p 0 0 0 ≤ key) && decide (key < surfKey (p + 1) 0 0 0)
    if banks.all (fun b => !lost.contains b) then s
    else
      let s : State := { s with surface := s.surface.filter (fun e => !(mine e.1 && gone e.1)) }
      if (s.port p).cleared = false then s
      else if banks.all lost.contains then s.setPort p { s.port p with cleared := false }
      else { s with surface := ((rangeFrom (surfKey p 0 0 0) 2048000).filter gone).foldl (fun l k => tput l k 0) s.surface }) s

/-- Banks lost: zeros with valid check bits before their first access (R253). -/
def State.loseBanks (s : State) (d : Nat) (lost : List Nat) : State :=
  let s := lost.foldl (fun s b => s.zeroBank b) s
  if d = 27 then s.loseSurface lost else s

/-- What OFF loses of a domain's logic, and the work that a domain reset abandons (R329, R430). -/
def State.loseLogic (s : State) (d : Nat) : State :=
  if within d 11 14 then
    let l := d - 11
    let s := s.linkLost l
    let s := s.dropRegs (R.HRD_LINK_STATE l).key 0x40
    s.onHerd (fun h => { h with sent := h.sent.filter (fun x => x.link != l), seqs := tdel h.seqs l,
                                lastSeq := tdel h.lastSeq l, goodBeat := tdel h.goodBeat l })
  else if within d 17 24 then
    let n := d - 17
    let s := (s.dropRegs (R.ACQ_CH_STATE n).key 0x100).dropRegs (R.DFC_CH_STATE n).key 0x100
    let s := ((s.putBit F.ACQ_STATUS_PAIR (n / 2) false).putBit F.DFC_STATUS_RUNNING n false).setCal n 0
    { s with acqs := tdel s.acqs n, dfcs := tdel s.dfcs n }
  else if d = 28 then
    let ports := (rangeFrom 0 4).filter s.portOn
    let s := ports.foldl (fun s p => s.portUnlock p) s
    let s := s.dropRegs R.EVP_STATUS.key 0x100000
    { s with builders := [], windows := [],
             ports := s.ports.map (fun x => (x.1, { EvpPort.init with mapper := x.2.mapper, cleared := x.2.cleared })) }
  else if within d 29 32 then
    let x := s.port (d - 29)
    (s.dropRegs (R.EVP_P_PHY (d - 29)).key 8).setPort (d - 29) { x with fifo := [], gap := false, crcWait := false, seenTh := false }
  else if d = 33 then
    { s with lineIns := s.lineIns.map (fun x => (x.1, { x.2 with active := false, held := none }))
             encs := s.encs.map (fun x => (x.1, { x.2 with a := false, b := false, z := false })) }
  else if isTine d then
    let e := domDie d
    let n := domSlot d - 2
    s.clearRegs [R.TINE_STAT e n, R.TINE_LASTCYC e n, R.TINE_RECS e n, R.TINE_CKCNT e n]
  else if isChu d then
    let u := domSlot d - 18
    let s := s.dropRegs (R.CHU_STAT (domDie d) u).key 0x40000
    { s with copies := s.copies.filter (fun x => x.unit != 0x1000 + 4 * domDie d + u) }
  else if isPpu d then
    let s := s.dropRegs (R.PPU_STAT (domDie d)).key 0x40000
    { s with copies := s.copies.filter (fun x => x.unit != 0x2000 + 2 * domDie d && x.unit != 0x2001 + 2 * domDie d) }
  else s

/-- A domain's contents as it enters a state (Table 15.2). -/
def State.loseContents (s : State) (d aim : Nat) : State :=
  if aim = 2 then (s.loseLogic d).loseBanks d (domBanks d)
  else s.loseBanks d ((domBanks d).filter (fun b => !s.bankKept d b))

/-! ## Entry, wake and switch -/

/-- An entry into a state begins (R332). -/
def State.startEntry (s : State) (d aim : Nat) : State :=
  (s.put (F.PMC_DOM_STATE_PHASE d) 1).setDom d { s.dom d with aim := aim, t := s.time, demand := false }

/-- A wake begins (R338, R339): an unplanned one takes 4 beats more while the regulator is in LP mode (R341). -/
def State.startWake (s : State) (d : Nat) (planned : Bool) : State :=
  let st := s.domState d
  let lead := (if st = 1 then (domLeads d).1 else (domLeads d).2) + (if s.lpMode && !planned then 4 else 0)
  let s := (s.put (F.PMC_DOM_STATE_PHASE d) 2).setDom d { s.dom d with aim := st, t := s.time, demand := false, lead := lead, stuck := false }
  s.put F.PMC_STATUS_WAKING 1

/-- A domain is to be ON: it wakes, or will when the entry it is in has ended (R337, R340). -/
def State.callDom (s : State) (d : Nat) (planned : Bool) : State :=
  if s.domPhase d = 1 then s.setDom d { s.dom d with demand := true }
  else if s.domPhase d = 2 || s.domState d = 0 then s
  else s.startWake d planned

/-- A demand (R340): in a planned window it waits; during an entry, whether isolation has closed decides between an entry
abandoned and a full wake after it. -/
def State.demand (s : State) (d : Nat) : State :=
  let s := s.touchDom d
  if s.on (F.PMC_DOM_STATE_WINDOW d) || (s.dom d).demand then s
  else if s.domPhase d = 1 && !(s.dom d).reset then
    let x := s.draw
    if x.1 % 2 = 0 then
      let s := ((x.2.put (F.PMC_DOM_STATE_PHASE d) 0).incSat F.PMC_CNT_ABORTS)
      { s with group := s.group.map (fun g => if g.moving = some d then { g with moving := none } else g) }
    else x.2.setDom d { x.2.dom d with demand := true }
  else s.callDom d false

/-- Commands that wait for the domain end with a status (R346). -/
def State.endWaits (s : State) (d status : Nat) : State :=
  ((s.ctxCmds 0).filter (fun k => k.2.phase == .executing (.wake d))).foldl (fun s k => s.fixResult 0 k.1 k.2.seq status 0) s

/-! ## Group sleep (R344, Table 15.6) -/

/-- Why a domain refuses a target state, before BUSY; 0 for no reason. -/
def State.refuseReason (s : State) (d aim : Nat) : Nat :=
  if domFixed d then 1
  else if domOffers d aim = false then 5
  else if s.domPhase d = 2 then 6
  else if isTine d && s.on (F.TINE_ROTCFG_ROT_EN (domDie d)) then 7
  else if s.domClaimed d then 2
  else if s.domDependent d then 4
  else 0

/-- A refusal recorded. -/
def State.noteRefusal (s : State) (d reason : Nat) : State :=
  let s := (s.incSat F.PMC_CNT_REFUSALS).incSat (F.PMC_DOM_CNT_REFUSED d)
  ((s.put F.PMC_LASTREF_DOMAIN d).put F.PMC_LASTREF_REASON reason).raisePmc 0

/-- The request ends with its result. -/
def State.endGroup (s : State) (g : Group) : State :=
  let s : State := { s with group := none }
  let s := s.put F.PMC_STATUS_GROUP 0
  match g.refusal with
  | none => s.fixResult g.c g.q g.seq stOk g.slept
  | some (d, r, i) => s.fixResult g.c g.q g.seq stSleep (d + 256 * r + 65536 * i)

/-- The members that have entered wake again, newest first, one at a time. -/
def State.rollGroup (s : State) (g : Group) : List Nat → State
  | [] => s.endGroup { g with done := [], moving := none }
  | d :: t =>
    if s.domState d = 0 && s.domPhase d = 0 then s.rollGroup g t
    else
      let s := s.callDom d false
      { s with group := some { g with done := t, moving := some d } }

/-- A member refuses: the request is rolled back. -/
def State.refuseGroup (s : State) (g : Group) (d reason : Nat) : State :=
  let s := s.noteRefusal d reason
  let s := if g.done = [] then s else s.incSat F.PMC_CNT2_ROLLBACKS
  s.rollGroup { g with refusal := some (d, reason, g.index), todo := [] } g.done

/-- The members still to come are asked in turn. -/
def State.askGroup (s : State) (g : Group) : List Nat → State
  | [] => s.endGroup { g with todo := [] }
  | d :: t =>
    let r := s.refuseReason d g.target
    if r != 0 then s.refuseGroup g d r
    else if s.domPhase d = 0 && (s.domState d == g.target || s.domState d == 2) then
      s.askGroup { g with todo := t, index := g.index + 1, asked := none } t
    else if s.domBusy d || s.domPhase d = 1 then
      let since := g.asked.getD s.time
      if since + 10000 ≤ s.time then s.refuseGroup g d 3
      else { s with group := some { g with todo := d :: t, asked := some since } }
    else
      let s := s.startEntry d g.target
      { s with group := some { g with todo := d :: t, moving := some d, asked := none } }

/-- The group request goes on unless a member is on its way. -/
def State.groupStep (s : State) : State :=
  match s.group with
  | none => s
  | some g =>
    if g.moving.isSome then s
    else match g.refusal with
      | none => s.askGroup g g.todo
      | some _ => s.rollGroup g g.done

/-- A member has finished its move. -/
def State.groupMoved (s : State) (d : Nat) : State :=
  match s.group with
  | none => s
  | some g =>
    if g.moving != some d then s
    else match g.refusal with
      | none =>
        State.groupStep { s with group := some { g with moving := none, done := d :: g.done, todo := g.todo.drop 1,
                                                        slept := g.slept + 1, index := g.index + 1 } }
      | some _ => State.groupStep { s with group := some { g with moving := none } }

/-! ## Events -/

/-- DOMAIN_IDLE_TIMEOUT (R332). -/
def domainIdleTimeout (d : Nat) (s : State) : State :=
  let aim := s.get (F.PMC_DOM_CFG_TARGET d)
  if aim != 0 && s.domState d == 0 && s.domPhase d == 0 && !s.domClaimed d && !s.domBusy d && !s.domDependent d &&
     decide ((s.dom d).idle + 100 * s.get (F.PMC_DOM_CFG_IDLE_US d) ≤ s.time) then s.startEntry d aim
  else s

/-- DOMAIN_ENTRY_DONE (R329 to R332): the state is reached, and a demand or a domain reset wakes the domain again. -/
def domainEntryDone (d : Nat) (s : State) : State :=
  let x := s.dom d
  if s.domPhase d != 1 || decide (s.time < x.t + 500 * domEntry d) then s
  else
    let s := s.accrue d
    let s := if s.on F.FMU_STATUS_INJ_ACTIVE && s.get F.FMU_INJ_DETECTOR != 0x12 &&
        detDomain (s.get F.FMU_INJ_DETECTOR) s.injSite == d then s.endInjection else s
    let s := s.loseContents d x.aim
    let s := (s.put (F.PMC_DOM_STATE_STATE d) x.aim).put (F.PMC_DOM_STATE_PHASE d) 0
    let s := (if x.aim = 2 then s.putBit (onFioFld d) (d % 32) true else s).incSat (F.PMC_DOM_CNT_ENTRIES d)
    if x.reset || x.demand then s.startWake d false else s.groupMoved d

/-- DOMAIN_DEMAND (R340). -/
def domainDemand (d : Nat) (s : State) : State := s.demand d

/-- DOMAIN_WAKE_DONE: isolation opens and the domain starts on FIO (R29, R339). -/
def domainWakeDone (d : Nat) (s : State) : State :=
  let x := s.dom d
  if s.domPhase d != 2 || s.domState d == 0 || decide (s.time < x.t + 500 * (x.lead - 1)) then s
  else
    let s := s.put (F.PMC_DOM_STATE_STATE d) 0
    s.putBit (onFioFld d) (d % 32) true

/-- A wake ends, on the functional clock or on FIO (R349). -/
def State.endWake (s : State) (d : Nat) : State :=
  let s := s.accrue d
  ((s.put (F.PMC_DOM_STATE_PHASE d) 0).showWaking).touchDom d

/-- CLK_SWITCH_DONE (R29). A wake ends with it, at its lead. -/
def clkSwitchDone (d : Nat) (s : State) : State :=
  let x := s.dom d
  if d = 0 || s.domState d != 0 || s.onFio d = false || x.stuck || s.domPhase d == 1 ||
     (s.domPhase d == 2 && decide (s.time < x.t + 500 * x.lead)) then s
  else
    let waking := s.domPhase d == 2
    let s := s.putBit (onFioFld d) (d % 32) false
    if waking then ((s.endWake d).endWaits d stOk).groupMoved d else s.endWaits d stOk

/-- CLK_SWITCH_FAIL (R29, R339): the domain stays on FIO and detector 0x12 fires. -/
def clkSwitchFail (d : Nat) (s : State) : State :=
  let x := s.dom d
  if d = 0 || s.domState d != 0 || s.onFio d = false || x.stuck || s.domPhase d == 1 then s
  else
    let waking := s.domPhase d == 2
    let s := (s.incSat F.CLK_SWFAIL_CNT_SWFAIL).raisePmc 1
    let s := (s.logDet 0x12 d d none 1 false).setDom d { s.dom d with stuck := true }
    if waking then ((s.endWake d).endWaits d stFaulted).groupMoved d else s.endWaits d stFaulted

/-! ## Planned windows (R335) -/

/-- A plan's cycle at a beat: the beats since its first cycle began, when its cycles run there. -/
def Plan.cycleAt (p : Plan) (k : Nat) : Option Nat :=
  if (p.phase == .running && decide (p.start ≤ k)) ||
     (p.phase == .draining && decide (p.start ≤ k) && decide (k < p.stop + p.img.lat)) then some (k - p.start) else none

/-- One window at a beat boundary. -/
def State.windowBeat (s : State) (p : Plan) (k : Claim) (d : Nat) : State :=
  let c := max 1 p.img.cyc
  match p.cycleAt s.beat with
  | none => s
  | some n =>
    let s := if n % c = (k.p0 + k.p1) % c && decide (k.p0 + k.p1 ≤ n) then
        let s := s.put (F.PMC_DOM_STATE_WINDOW d) 0
        if s.domState d = 0 && s.domPhase d = 0 && !s.onFio d then s else (s.incSat F.PMC_CNT2_LATE).raisePmc 2
      else s
    let s := if n % c = k.p0 then
        let s := s.put (F.PMC_DOM_STATE_WINDOW d) 1
        if s.domState d = 0 && s.domPhase d = 0 then s.startEntry d 1 else s
      else s
    if n % c = k.p0 + k.p1 - (domLeads d).1 then s.callDom d true else s

/-- The windows of every plan at a beat boundary. A window whose plan has ended ends with it. -/
def State.windowsBeat (s : State) : State :=
  let live := s.livePlans.filter (fun p => (p.2.2.cycleAt s.beat).isSome)
  let s := live.foldl (fun s p => (p.2.2.img.claims.filter (fun k => k.kind == 15)).foldl (fun s k =>
    (rangeFrom k.first k.count).foldl (fun s d => s.windowBeat p.2.2 k d) s) s) s
  let held (d : Nat) : Bool := live.any (fun p => p.2.2.img.hasClaim 15 d)
  ((rangeFrom 0 93).filter (fun d => s.on (F.PMC_DOM_STATE_WINDOW d) && !held d)).foldl
    (fun s d => (s.put (F.PMC_DOM_STATE_WINDOW d) 0).callDom d true) s

/-- Idle timers of busy domains at a beat boundary (R332). -/
def State.idleBeat (s : State) : State :=
  ((rangeFrom 0 93).filter (fun d => s.get (F.PMC_DOM_CFG_TARGET d) != 0 && s.domBusy d)).foldl (fun s d => s.touchDom d) s

/-- The domains that an ARMED plan claims (R333). -/
def State.planDomains (s : State) (im : PlanImage) : List Nat :=
  rangeFrom 4 3 ++ im.claims.flatMap (fun k => if k.kind = 15 then rangeFrom k.first k.count else if k.kind = 13 then [] else s.claimDomains k)

/-- The claimed domains of a plan are woken (R337). -/
def State.wakeClaimed (s : State) (im : PlanImage) : State := (s.planDomains im).foldl (fun s d => s.callDom d true) s

/-- The arm lead Λ of a plan (R58): the wake leads are those of the states that its domains are in. -/
def State.armLead (s : State) (im : PlanImage) : Nat :=
  max 400 (8 + maxNat ((s.planDomains im).map (fun d =>
    if s.domWorks d then 0 else if s.domState d = 1 then (domLeads d).1 else if s.domState d = 2 then (domLeads d).2 else 0)))

/-- The engines of a C-die are woken when rotation is turned on (R333). -/
def State.wakeEngines (s : State) (e : Nat) : State := (rangeFrom (37 + 29 * e) 16).foldl (fun s d => s.callDom d true) s

/-! ## Commands (R345 to R347) -/

/-- PWR_POLICY SET (R346). -/
def cmdPwrSet (k : Cmd) (s : State) : CmdOut :=
  let d := pf k.par 8 1
  let aim := pf k.par 10 1
  let us := pf k.par 12 4
  let keep := pf k.par 16 16
  if 92 < d || 2 < aim || (aim != 0 && domOffers d aim = false) || (aim != 0 && within us 1 1000000 = false) ||
     (if (domBanks d).isEmpty then 1 else 2 ^ (domBanks d).length) ≤ keep then refuse s stBadParam
  else
    let s := (s.put (F.PMC_DOM_CFG_TARGET d) aim).put (F.PMC_DOM_CFG_IDLE_US d) us
    let s := (s.wr (R.PMC_DOM_KEEP0 d) keep).wr (R.PMC_DOM_KEEP1 d) (keep / 2 ^ 64)
    okay (s.setDom d { s.dom d with idle := s.time })

/-- PWR_POLICY WAKE (R346). -/
def cmdPwrWake (k : Cmd) (s : State) : CmdOut :=
  let d := pf k.par 8 1
  if 92 < d then refuse s stBadParam
  else if s.on (F.PMC_DOM_STATE_WINDOW d) then refuse s stBadState
  else if s.domState d = 0 && s.domPhase d = 0 && (d = 0 || !s.onFio d) then okay (s.touchDom d)
  else if s.domState d = 0 && s.domPhase d = 0 && (s.dom d).stuck then refuse s stFaulted
  else
    let s := s.demand d
    if s.domState d = 0 && s.domPhase d = 0 && !s.onFio d then okay s else .wait (.wake d) s

/-- PWR_POLICY AON (R346). -/
def cmdPwrAon (k : Cmd) (s : State) : CmdOut :=
  if pf k.par 8 1 != 0 || 1 < pf k.par 11 1 then refuse s stBadParam
  else okay (s.put F.PMC_AON_LP_EN (pf k.par 11 1))

/-- The members of a PWR_GROUP_SLEEP. -/
def groupMembers (par : Nat) : List Nat := (rangeFrom 0 (pf par 8 1)).map (fun i => pf par (16 + i) 1)

/-- PWR_GROUP_SLEEP (R344, R347): the first member is asked at the next beat boundary. -/
def cmdGroupSleep (c q : Nat) (k : Cmd) (s : State) : CmdOut :=
  let n := pf k.par 8 1
  let aim := pf k.par 9 1
  let l := groupMembers k.par
  if within n 1 16 = false || within aim 1 2 = false || l.any (fun d => decide (92 < d)) || l.eraseDups.length != l.length then
    refuse s stBadParam
  else if s.group.isSome then .stay
  else
    let s : State := { s with group := some ⟨c, q, k.seq, aim, l, [], none, none, none, 0, 0⟩ }
    .wait .group (s.put F.PMC_STATUS_GROUP 1)

/-- A group request whose command is aborted is rolled back and replies nothing (R83, R344). -/
def State.abortGroup (s : State) (seq : Nat) : State :=
  match s.group with
  | some g => if g.seq = seq then (g.done.foldl (fun (s : State) d => s.callDom d false) { s with group := none }).put F.PMC_STATUS_GROUP 0 else s
  | none => s

/-! ## Domain reset (R430) -/

/-- GLB_DOMRST written with DOMAIN and KEY. -/
def glbDomrst (d key : Nat) (s : State) : State :=
  if key ≠ 0xA5 then s
  else
    let busy := s.on F.GLB_DOMRST_BUSY
    let r :=
      if 92 < d || domFixed d then 1
      else if s.domClaimed d then 2
      else if domOffers d 2 = false then 3
      else if s.on (F.PMC_DOM_STATE_WINDOW d) then 4
      else if busy then 5
      else if s.domDependent d then 6
      else 0
    if r != 0 then s.put F.GLB_DOMRST_RESULT r
    else
      let s := ((s.put F.GLB_DOMRST_DOMAIN d).put F.GLB_DOMRST_RESULT 0).put F.GLB_DOMRST_BUSY 1
      let s := s.accrue d
      let s := s.startEntry d 2
      s.setDom d { s.dom d with reset := true }

/-- DOMAIN_RESET_DONE: the domain is ON again (R430). -/
def domainResetDone (s : State) : State :=
  let d := s.get F.GLB_DOMRST_DOMAIN
  let x := s.dom d
  if s.on F.GLB_DOMRST_BUSY && x.reset && s.domState d == 0 && s.domPhase d == 0 && (x.stuck || !s.onFio d) then
    let s := (s.put F.GLB_DOMRST_BUSY 0).put F.GLB_DOMRST_RESULT (if x.stuck then 7 else 0)
    (s.setDom d { x with reset := false }).raiseGlb 0
  else s

/-! ## Commands and the domains they need (R340) -/

/-- The domains whose units or memory a command needs, beside H_CPX: its own units, and the ATU for its buffers. -/
def State.cmdDomains (k : Cmd) : List Nat :=
  let op := k.op
  let a := pf k.par 8 1
  let b := pf k.par 9 1
  let atu := if op ∈ [0x10, 0x15, 0x20, 0x22, 0x30, 0x31, 0x32, 0x33, 0x40, 0x42, 0x50, 0x51, 0x53, 0x60, 0x61, 0x81, 0x92, 0x93, 0xA0]
    then [5] else []
  let own :=
    if op = 0x50 || op = 0x51 || op = 0x53 then [17 + a % 8]
    else if op = 0x60 then [28, 29 + a % 4]
    else if op = 0x61 then [27, 28]
    else if op = 0x42 then [6]
    else if op = 0x82 then
      (if a = 0 then [37 + 29 * (b / 16 % 2) + b % 16] else if a = 1 then [53 + 29 * (b / 4 % 2) + b % 4] else [57 + 29 * (b / 2 % 2)])
    else []
  4 :: (atu ++ own)

/-- A packet has passed the checks that every packet meets, so that its command is one to run. -/
def State.admitted (s : State) (c op : Nat) (k : Cmd) : Bool :=
  k.headerOk && paramOk op k.par && s.hasRights c op && !s.recoveryRefuses op && (selector op k.par).2.contains (selector op k.par).1

/-- A command has been served: the idle timers of the domains that it needs start anew (R332). -/
def State.served (s : State) (k : Cmd) : State := (State.cmdDomains k).foldl (fun s d => s.touchDom d) s

/-- A row's command runs; while a domain that it needs is asleep it waits, and its demand wakes the domain (R340). -/
def State.runNeeding (s : State) (c q op sel : Nat) (body : Cmd → State → CmdOut) : State :=
  match s.startable c q with
  | none => s
  | some (_, k) =>
    let ds := State.cmdDomains k
    if k.rowOf op sel && s.admitted c op k && ds.any (fun d => !s.domOn d) then
      (ds.filter (fun d => !s.domOn d)).foldl (fun s d => s.demand d) s
    else (s.runCmd c q op sel body).served k

end Sys2Proof.Machine
end

