-- ==== Sys2Proof/Machine/Herd.lean ====
section
/-! DEFINITION. The Herd at work (17_herd.md): flits and their retry (R371 to R374), links (R375, R376), common time (R377 to
R379), joining and leaving (R380, R381, R394), HERD_XFER (R386), windows (R388, R389), forwarded results (R391) and the Herd
commands (R395). The spec gives a CONTROL or TIME flit no layout for what it carries: the message forms below are the
model's own. -/

namespace Sys2Proof.Machine

/-! ## What the device tells of itself -/

/-- The running firmware's version, and its major and minor parts alone (R380, R400). -/
def State.fwVersion (s : State) : Nat := match s.fw with | some f => f.version % 2 ^ 24 | none => 0
def State.fwMajorMinor (s : State) : Nat := s.fwVersion / 256

/-- The Herd plan that counts as the device's one: the running one, else the furthest on (R380, R383). -/
def State.herdPlan (s : State) : Option (Nat × Nat × Plan) :=
  let l := s.herdPlans
  let at_ (ph : PlanPhase) : Option (Nat × Nat × Plan) := l.find? (fun p => p.2.2.phase == ph && !p.2.2.armedSwap)
  [at_ .running, at_ .armed, at_ .admitted, at_ .draining].findSome? id

/-- An armed swap of a Herd plan: its N. -/
def State.herdSwap (s : State) : Option (Nat × Nat × Plan) :=
  s.herdPlans.find? (fun p => p.2.2.phase == .armed && p.2.2.armedSwap)

/-- A bit mask of a list of bit numbers. -/
def maskOf (l : List Nat) : Nat := l.eraseDups.foldl (fun m i => m + 2 ^ i) 0

/-- The members whose links join this device directly. -/
def State.directMask (s : State) : Nat := maskOf (s.upLinks.map s.peer)

/-- This device is present (R370). -/
def State.selfPresent (s : State) : Bool := s.inHerd && s.herdPlans.any (fun p => p.2.2.phase == .running)

/-- The leader's message about itself and the Herd. -/
def State.leaderInfo (s : State) : LeaderInfo :=
  let p := s.herdPlan
  let n := s.herdSwap
  { idx := s.self, fw := s.fwMajorMinor, epoch := s.rd R.HRD_EPOCH,
    used := maskOf (s.self :: s.herd.members.map Member.idx),
    hash := (p.map (fun x => x.2.2.img.hash)).getD 0,
    planState := (p.map (fun x => x.2.2.phase.code)).getD 0,
    anchor := (p.map (fun x => x.2.2.anchor)).getD 0,
    swap := (n.map (fun x => x.2.2.anchor)).getD 0,
    swapHash := (n.map (fun x => x.2.2.img.hash)).getD 0 }

/-- The LEADER message with the depth of the device that passes it on. -/
def LeaderInfo.msg (x : LeaderInfo) (depth : Nat) : List Nat :=
  [1, x.fw, x.epoch, x.used, x.hash, x.planState, x.anchor, x.swap, x.swapHash, x.idx, depth]

/-- What the device tells its neighbours: the leader with its own depth, and itself as a member. -/
def State.selfMsgs (s : State) : List (List Nat) :=
  if s.inHerd = false then []
  else
    let lead := if s.isLeader then some s.leaderInfo else s.herd.leader
    let me := [2, s.self, s.depth, s.directMask, s.fwVersion, b2n s.selfPresent, b2n (!s.herdPlans.isEmpty)]
    (match lead with | some x => [x.msg s.depth] | none => []) ++ [me]

/-- Changes are told in the next CONTROL flit of every link (R373). -/
def State.tellChanges (s : State) : State :=
  let l := s.selfMsgs
  if l = s.herd.told then s
  else (l.foldl (fun s m => s.tellAll none m) s).onHerd (fun h => { h with told := l })

/-- The windows that this device exports to a member, as messages. -/
def State.exportMsgs (s : State) (m : Nat) : List (List Nat) :=
  (rangeFrom 0 64).filterMap (fun w =>
    let r := s.rd (R.HRD_EXP w)
    if bit r 27 && bit (bits r 23 16) m then
      some [5, s.self, w, numField r 12 4, bits r 25 24, bits r 26 26] else none)

/-- The device's own bit of PRESENT brought up to date. -/
def State.showSelf (s : State) : State :=
  if s.inHerd = false then s
  else
    let was := s.present s.self
    let now := s.selfPresent
    let s := s.putBit F.HRD_STATUS_PRESENT s.self now
    if now && !was then s.raiseHrd 0 else s

/-! ## Time exchanges (R377, R378) -/

/-- A TF64 difference in picoseconds. -/
def tfPs (x : Int) : Int := roundNear (x * 10000) 8192

/-- The TF64 time at which flit time 2 of the tail of a beat begins on a link (R372, R373). -/
def State.tailTime (s : State) (l k : Nat) : Nat :=
  let flit := 21120 * 4 / max 1 (s.linkWidth l)
  k * 500 * 8192 + (4224000 + 2 * flit) * 8192 / 10000

/-- Whether the peer on a link is the parent. -/
def State.isParent (s : State) (l : Nat) : Bool := s.parentLink == some l

/-- The leader's and every parent's side of an exchange at a beat: its TIME flit to its children. -/
def State.sendTime (s : State) : State :=
  if s.inHerd = false then s
  else (s.upLinks.filter (fun l => s.isLeader || !s.isParent l)).foldl (fun s l =>
    s.emit (.flit l 4 [0, s.tailTime l s.beat, uint 32 (sint 32 (s.rd R.HRD_OFFSET)), s.depth, s.get F.HRD_STATUS_TSTATE])) s

/-- The exchanges of a beat k with k mod 200 = 0 begin; a member that has gone 10 of them without a result is TIME_LOST. -/
def State.timeBeat (s : State) : State :=
  if s.beat % 200 != 0 then s
  else if s.herdState == 2 then
    let n := if s.herd.had then 0 else s.herd.missed + 1
    if 10 ≤ n then s.timeLost else (s.onHerd (fun h => { h with missed := n, had := false })).sendTime
  else s.sendTime

/-- A member's Θ places it in a time state (Table 17.5), and the firmware steers its trim (R37): by how much is open. -/
def State.placeTime (s : State) (theta : Int) : State :=
  let s := s.wr R.HRD_OFFSET (uint 32 theta)
  if 40000 ≤ theta.natAbs then s.timeLost
  else
    let s := if theta.natAbs ≤ 8000 then s.put F.HRD_STATUS_TSTATE 1
      else ((s.put F.HRD_STATUS_TSTATE 2).incSat F.HRD_TIME_CNT_DRIFT).raiseHrd 2
    let x := s.draw
    let trim : Int := (x.1 % 40001 : Nat) - 20000
    (x.2.put F.CLK_TRIM_TRIM (uint 16 trim)).put F.CLK_STATUS_TRIM_ACTIVE (b2n (trim != 0))

/-! ## The step of device time (02_time.md, "If device time is stepped at Herd join") -/

/-- Device time stepped by `d` ticks. Ticks that the device has noted move with it, so that spans of time stay what they are;
the same step is added to every sensor mapping. -/
def State.stepTime (s : State) (d : Int) : State :=
  let f (t : Nat) : Nat := ((t : Int) + d).toNat
  let g (t : Int) : Int := t + d
  let s := (rangeFrom 0 4).foldl (fun (s : State) p =>
    s.wr (R.CLK_SMAP_OFFSET p) (uint 64 (sint 64 (s.rd (R.CLK_SMAP_OFFSET p)) + d))) s
  { s with
    time := f s.time
    resetT := f s.resetT
    encs := s.encs.map (fun e => (e.1, { e.2 with lastCount := f e.2.lastCount, hist := e.2.hist.map (fun x => (f x.1, x.2)) }))
    lineIns := s.lineIns.map (fun x => (x.1, { x.2 with since := f x.2.since, capT := x.2.capT.map f }))
    lineOuts := s.lineOuts.map (fun x => (x.1, { x.2 with pulseEnd := x.2.pulseEnd.map f }))
    doms := s.doms.map (fun x => (x.1, { x.2 with t := f x.2.t, idle := f x.2.idle, resT := f x.2.resT }))
    ports := s.ports.map (fun x => (x.1, { x.2 with
      tracks := x.2.tracks.map (fun k => (k.1, { k.2 with since := f k.2.since, tLast := g k.2.tLast }))
      mapper := { x.2.mapper with tick := f x.2.mapper.tick, good := f x.2.mapper.good, lastEv := g x.2.mapper.lastEv
                                  maps := x.2.mapper.maps.map (fun m => (m.1, g m.2.1, m.2.2))
                                  mins := x.2.mapper.mins.map (fun m => (m.1, f m.2))
                                  least := x.2.mapper.least.map (fun m => (m.1 + d, m.2.1, f m.2.2)) } }))
    engDies := s.engDies.map (fun x => (x.1, { x.2 with copyT := f x.2.copyT, tests := x.2.tests.map (fun t => (t.1, f t.2.1, t.2.2)) }))
    queues := s.queues.map (fun x => (x.1, { x.2 with unsigT := f x.2.unsigT, descs := x.2.descs.map (fun y => { y with startT := f y.startT }) }))
    atsPend := s.atsPend.map (fun x => { x with since := f x.since })
    droops := s.droops.map (fun x => (f x.1, x.2))
    cool := s.cool.map f }

/-! ## Joining (R380) -/

/-- The HERD_JOIN that is under way. -/
def State.joining (s : State) : Option (Nat × Cmd) :=
  (s.ctxCmds 0).find? (fun k => match k.2.phase with | .executing .join => true | _ => false)

/-- A join ends without membership. -/
def State.failJoin (s : State) (status : Nat) : State :=
  match s.joining with
  | some (q, k) => s.detach.fixResult 0 q k.seq status 0
  | none => s.detach

/-- Training of a link begins (R375). -/
def State.train (s : State) (l : Nat) : State :=
  (s.put (F.HRD_LINK_STATE_STATE l) 1).onHerd (fun h => { h with training := tput h.training l s.beat })

/-- Links named by a mask that are DOWN start training. -/
def State.trainLinks (s : State) (mask : Nat) : State :=
  ((rangeFrom 0 4).filter (fun l => bit mask l && s.get (F.HRD_LINK_STATE_STATE l) == 0 && s.domOn (11 + l))).foldl
    (fun s l => s.train l) s

/-- The set bits of a mask. -/
def popcount (m : Nat) : Nat := ((rangeFrom 0 8).filter (bit m)).length

/-- Some plan of the device is ARMED, RUNNING or DRAINING. -/
def State.planWorks (s : State) : Bool := s.livePlans.any (fun p => p.2.2.phase != .admitted)

/-- Checks 2 to 4 of Table 17.6: the status of the first that fails. -/
def State.joinChecks (s : State) (k : Cmd) (x : LeaderInfo) : Option Nat :=
  let hash := pf k.par 16 32
  if x.fw != s.fwMajorMinor then some stHerdVersion
  else if pf k.par 12 4 != x.epoch || bit x.used (pf k.par 9 1) || decide (8 ≤ popcount x.used) || s.planWorks then some stHerdState
  else if hash != 0 && !(hash == x.hash && within x.planState 2 5) then some stHerdPlan
  else none

/-- Every check has passed: the time step, and the device is MEMBER. -/
def State.becomeMember (s : State) (q : Nat) (k : Cmd) (x : LeaderInfo) (theta : Int) : State :=
  let s := s.stepTime (-(roundNear theta 10000))
  let s := ((s.put F.HRD_STATUS_STATE 2).put F.HRD_STATUS_SELF (pf k.par 9 1)).put F.HRD_STATUS_LEADER x.idx
  let s := (s.put F.HRD_STATUS_COUNT (popcount x.used + 1)).put F.HRD_STATUS_TSTATE 1
  let s := (s.wr R.HRD_EPOCH x.epoch).wr R.HRD_OFFSET (uint 32 (theta - 10000 * roundNear theta 10000))
  let s := s.onHerd (fun h => { h with had := true, missed := 0, checked := false, thetas := [] })
  s.fixResult 0 q k.seq stOk 0

/-- The checks of a join in their order, as far as they can be made now. -/
def State.joinStep (s : State) : State :=
  match s.joining with
  | none => s
  | some (q, k) =>
    match s.parentLink, s.herd.leader with
    | some _, some x =>
      if s.herd.checked = false then
        match s.joinChecks k x with
        | some st => s.failJoin st
        | none => s.onHerd (fun h => { h with checked := true, thetas := [] })
      else if s.herd.thetas.length < 16 then s
      else
        let hi := s.herd.thetas.foldl max (s.herd.thetas.headD 0)
        let lo := s.herd.thetas.foldl min (s.herd.thetas.headD 0)
        if hi - lo ≤ 8000 then s.becomeMember q k x (s.herd.thetas.headD 0) else s.failJoin stHerdTime
    | _, _ => if s.herd.joinT + 100000000 ≤ s.time then s.failJoin stTimeout else s

/-- A result of an exchange. -/
def State.exchangeDone (s : State) (theta : Int) : State :=
  if s.herdState == 1 then (s.onHerd (fun h => { h with thetas := theta :: h.thetas })).joinStep
  else if s.herdState == 2 then (s.onHerd (fun h => { h with had := true, missed := 0 })).placeTime theta
  else s

/-! ## Messages received -/

/-- The depth told by the peer on a link. -/
def State.peerDepth (s : State) (l : Nat) : Option Nat := tfind s.herd.paths l

/-- A device at depth 1 passes on what comes from its parent to its children, and what comes from a child to its parent; the
leader passes on what comes from one member to the others. -/
def State.passOn (s : State) (l : Nat) (msg : List Nat) : State :=
  if s.isLeader then s.tellAll (some l) msg
  else if s.depth != 1 then s
  else if s.isParent l then
    (s.upLinks.filter (fun x => x != l && s.peerDepth x != some 1 && s.peerDepth x != some 0)).foldl (fun s x => s.tell x msg) s
  else if s.peerDepth l = some 2 then s.tellParent msg else s

/-- A member's message about itself. -/
def State.heardMember (s : State) (x : Member) (present : Bool) : State :=
  let s := s.onHerd (fun h => { h with members := h.members.filter (fun y => y.idx != x.idx) ++ [x] })
  let s := s.put F.HRD_STATUS_COUNT (s.herd.members.length + 1)
  if present && !s.present x.idx then (s.putBit F.HRD_STATUS_PRESENT x.idx true).raiseHrd 0
  else if !present && s.present x.idx then s.memberAbsent x.idx
  else s

/-- The ENCODER of the device's Herd plan, and its HWM less the leader's at a beat boundary (R385). -/
def State.encOffset (s : State) (k : Nat) (hwm : Int) : Int :=
  let n := (s.herdPlan.map (fun p => p.2.2.img.enc)).getD 0
  (s.enc n).hwmAt (500 * k) - hwm

/-- The leader's HWM at a beat boundary. -/
def State.heardHwm (s : State) (k : Nat) (hwm : Int) : State :=
  let d := s.encOffset k hwm
  if s.herd.ofsDue then (s.wr R.HRD_ENC_OFS (uint 64 d)).onHerd (fun h => { h with ofsDue := false })
  else if 1 < (d - sint 64 (s.rd R.HRD_ENC_OFS)).natAbs then s.incSat F.HRD_CNT_ENC_MISMATCH
  else s

/-- The leader counts an undelivered result and writes its record (R391). -/
def State.logUndelivered (s : State) (id home dest cls result t : Nat) : State :=
  let e := s.rd R.HRD_UNDEL % 16
  let s := s.wr (R.HRD_UNDLOG e) (id + home * 2 ^ 32 + dest * 2 ^ 40 + cls * 2 ^ 48 + result * 2 ^ 56 + t % 2 ^ 48 * 2 ^ 64)
  (s.incWrap F.HRD_UNDEL_UNDEL).raiseHrd 6

/-- An undelivered result, logged by the leader or reported to it. -/
def State.undelivered (s : State) (home : Nat) (f : Forward) : State :=
  if s.isLeader then s.logUndelivered f.id home f.dest f.cls f.result (500 * f.beat)
  else s.tellParent [7, f.id, home, f.dest, f.cls, f.result, 500 * f.beat % 2 ^ 48]

/-- The boundary at which a leave falls: the next cycle boundary of the running Herd plan, or now (R394). -/
def State.leaveBoundary (s : State) : Nat :=
  match s.herdPlans.find? (fun p => p.2.2.phase == .running) with
  | some p =>
    let c := max 1 p.2.2.img.cyc
    p.2.2.anchor + ((s.beat - p.2.2.anchor) / c + 1) * c
  | none => s.beat

/-- The device is LEAVING from its boundary on: its Herd plans drain (R394). -/
def State.leaveBeat (s : State) : State :=
  match s.herd.leaveAt with
  | some d => if d ≤ s.beat && !s.on F.HRD_STATUS_LEAVING then (s.put F.HRD_STATUS_LEAVING 1).drainHerd d else s
  | none => s

/-- Members whose leave boundary has come are absent from it on (R392). -/
def State.leaversBeat (s : State) : State :=
  (s.herd.leavers.filter (fun x => decide (x.2 ≤ s.beat) && s.present x.1)).foldl (fun s x => s.memberAbsent x.1) s

/-- A member has become DETACHED after its HERD_LEAVE. -/
def State.memberLeft (s : State) (m : Nat) : State :=
  let s := (s.memberAbsent m).revokeFrom (fun d _ => d == m)
  let s := s.onHerd (fun h => { h with members := h.members.filter (fun x => x.idx != m)
                                       exports := h.exports.filter (fun x => x.device != m)
                                       leavers := h.leavers.filter (fun x => x.1 != m)
                                       paths := h.paths.filter (fun x => s.peer x.1 != m) })
  s.put F.HRD_STATUS_COUNT (s.herd.members.length + 1)

/-- A CONTROL message. -/
def State.control (s : State) (l : Nat) (msg : List Nat) : State :=
  match msg with
  | [0, t4] =>
    match s.herd.exchange with
    | some (t1, t2, t3, up) =>
      let a : Int := t2 - t1
      let b : Int := t4 - t3
      let asym := sint 32 (s.rd (R.HRD_LINK_ASYM l))
      let theta := tfPs (a - b) / 2 - asym + up
      let s := s.wr (R.HRD_LINK_RTT l) (uint 32 (tfPs (a + b)))
      (s.onHerd (fun h => { h with exchange := none })).exchangeDone theta
    | none => s
  | [1, fw, epoch, used, hash, ps, anchor, swap, swapHash, idx, depth] =>
    let s := s.onHerd (fun h => { h with paths := tput h.paths l depth })
    if s.isLeader || !s.isParent l then s
    else
      let s := s.onHerd (fun h => { h with leader := some ⟨idx, fw, epoch, used, hash, ps, anchor, swap, swapHash⟩ })
      let s := if s.herdState == 2 then (s.put F.HRD_STATUS_LEADER idx).wr R.HRD_EPOCH epoch else s
      s.joinStep
  | [2, idx, hops, links, fw, present, live] =>
    if s.inHerd = false || idx == s.self then s
    else (s.heardMember ⟨idx, hops, links, fw, live == 1⟩ (present == 1)).passOn l msg
  | [3, m] =>
    if s.inHerd = false || s.isLeader then s
    else
      let s := s.passOn l msg
      if m = s.self then s.depart else s.memberDrop m
  | [4, m, d] =>
    if s.inHerd = false || m == s.self then s
    else
      let s := (s.passOn l msg).onHerd (fun h => { h with leavers := tput h.leavers m d })
      if m = s.get F.HRD_STATUS_LEADER && s.herd.leaveAt.isNone then s.onHerd (fun h => { h with leaveAt := some d }) else s
  | [5, device, window, len, rights, planned] =>
    let rest := s.herd.exports.filter (fun x => !(x.device == device && x.window == window))
    if len = 0 then
      (s.onHerd (fun h => { h with exports := rest })).revokeFrom (fun d w => d == device && w == window)
    else s.onHerd (fun h => { h with exports := rest ++ [⟨device, window, len, rights, planned == 1⟩] })
  | [6, k, hwm] => if s.herdState == 2 && s.isParent l then (s.passOn l msg).heardHwm k (sint 64 hwm) else s
  | [7, id, home, dest, cls, result, t] =>
    if s.isLeader then s.logUndelivered id home dest cls result t else if s.inHerd then s.passOn l msg else s
  | [8] => if s.herdState == 2 && s.isParent l then (s.passOn l msg).depart else s
  | [9, m] =>
    if s.inHerd = false || m == s.self then s
    else if s.isLeader then s.memberDrop m
    else if s.isParent l && s.peer l == m then s.timeLost
    else s.passOn l msg
  | [11] => if s.inHerd then (s.selfMsgs ++ s.exportMsgs (s.peer l)).foldl (fun s m => s.tell l m) s else s
  | [10, m] => if s.inHerd = false || m == s.self then s else (s.passOn l msg).memberLeft m
  | _ => s

/-- A TIME flit: the parent's with the tick it came at, or a child's reply (R377). -/
def State.timeFlit (s : State) (l : Nat) (body : List Nat) : State :=
  match body with
  | [0, t1, up, depth, tstate, t2] =>
    let s := s.onHerd (fun h => { h with paths := tput h.paths l depth })
    if s.isLeader || !s.isParent l then s
    else if tstate = 3 && s.herdState == 2 then s.timeLost
    else
      let x := s.draw
      let t3 : Nat := x.1 % 2 ^ 64
      (x.2.onHerd (fun h => { h with exchange := some ((t1 : Int), (t2 : Int), (t3 : Int), sint 32 up) })).emit (.flit l 4 [1, t3])
  | [1, _, t4] => if s.inHerd then s.tell l [0, t4] else s
  | _ => s

/-! ## Windows (R388) -/

/-- An access to an exported window by the peer of a link: allowed when the window is exported to it with the right, for planned
or background access as it was exported, and the extent lies within it. -/
def State.windowOk (s : State) (l w off n right : Nat) (planned : Bool) : Bool :=
  let r := s.rd (R.HRD_EXP w)
  decide (w < 64) && bit r 27 && bit (bits r 23 16) (s.peer l) && covers (bits r 25 24) right && (bit r 26 == planned) &&
  decide (off + n ≤ numField r 12 4)

/-- A Ditcharid link's unit ID (Table 11.5). -/
def linkWho (l : Nat) (planned : Bool) : Who := ⟨0x9000 + l, 0xFF, planned, 0⟩

/-- Bytes of a flit's payload. -/
def flitBytes (l : List Nat) : List PByte := clean (l.map (fun x => BitVec.ofNat 8 x))

/-- A write into an exported window. -/
def State.windowWrite (s : State) (l w off : Nat) (d : List Nat) (planned : Bool) : State :=
  if s.windowOk l w off d.length 2 planned = false then s.incSat F.HRD_CNT_REJECT
  else
    let segs := cutSegs (s.windowSegs w) off d.length
    if planned then s.planWrite (linkWho l true) segs (flitBytes d) else s.writeSegs (linkWho l false) segs (flitBytes d)

/-- A read of an exported window, answered in a BACKGROUND flit. -/
def State.windowRead (s : State) (e : HostEnv) (l w off n : Nat) : State :=
  if s.windowOk l w off n 1 false = false then s.incSat F.HRD_CNT_REJECT
  else
    let x := s.readSegs e (linkWho l false) (cutSegs (s.windowSegs w) off n)
    x.2.emit (.flit l 2 ((128 + w) :: off :: x.1.map (fun b => b.1.toNat)))

/-! ## Flits (R371 to R374) -/

/-- The last good sequence number of a link, and the next one to send. -/
def State.lastGood (s : State) (l : Nat) : Nat := tget s.herd.lastSeq l 0
def State.nextSeq (s : State) (l : Nat) : Nat := tget s.herd.seqs l 0

/-- An acknowledgement goes back in an IDLE flit. -/
def State.ack (s : State) (l seq : Nat) : State :=
  (s.onHerd (fun h => { h with lastSeq := tput h.lastSeq l seq })).emit (.flit l 0 [0, seq])

/-- A flit stopped on a link until a beat has passed (R375). -/
def State.linkStopped (s : State) (l : Nat) : Bool :=
  match tfind s.herd.stopped l with | some k => decide (s.beat ≤ k) | none => false

/-- A good flit acted on by its type. -/
def State.takeFlit (s : State) (l typ : Nat) (e : HostEnv) (body : List Nat) : State :=
  match typ, body with
  | 0, [0, seq] =>
    s.onHerd (fun h => { h with sent := h.sent.filter (fun x => !(x.link == l && x.seq == seq))
                                forwards := h.forwards.filter (fun f => f.via != some (l, seq)) })
  | 0, [1, seq] =>
    s.onHerd (fun h => { h with sent := h.sent.map (fun x => if x.link == l && x.seq == seq then { x with nak := true } else x) })
  | 1, seq :: _ :: w :: off :: d => (s.ack l seq).windowWrite l w off d true
  | 2, w :: off :: d =>
    if w < 64 then s.windowWrite l w off d false
    else if w < 128 then (match d with | [n] => s.windowRead e l (w - 64) off n | _ => s)
    else s
  | 3, msg => s.control l msg
  | 4, msg => s.timeFlit l msg
  | 5, seq :: d =>
    let s := s.ack l seq
    (match d with
     | [_, cls, result, pos] => s.onHerd (fun h => { h with inbox := h.inbox ++ [(cls, result, sint 64 pos)] })
     | _ => s)
  | _, _ => s

/-- FLIT_RECEIVE: a flit whose CRC fails is discarded and answered with NAK (R371). -/
def flitReceive (l : Nat) (f : Flit) (e : HostEnv) (s : State) : State :=
  if s.linkUp l = false || s.linkStopped l then s
  else if f.crcOk = false then s.emit (.flit l 0 [1, (s.lastGood l + 1) % 4096])
  else (s.onHerd (fun h => { h with goodBeat := tput h.goodBeat l s.beat })).takeFlit l f.typ e f.body

/-- The end of the tail of a beat has come (R372). -/
def State.tailOver (s : State) (k : Nat) : Bool := decide (500 * k + 498 ≤ s.time)

/-- A PLANNED flit lost: its record's items receive INCOMPLETE (R374). -/
def State.loseFlit (s : State) (x : SentFlit) : State :=
  let s := s.onHerd (fun h => { h with sent := h.sent.filter (fun y => !(y.link == x.link && y.seq == x.seq)) })
  let s := s.incSat (F.HRD_LINK_CNT_LOST x.link)
  if x.run.item then s.incompleteItems (fun i => i.c == x.run.c && i.id == x.run.n) else s

/-- FLIT_LOST: no good copy by the end of the tail of beat k + 1. -/
def flitLost (l slot : Nat) (s : State) : State :=
  match s.herd.sent.find? (fun x => x.link == l && x.slot == slot && s.tailOver (x.beat + 1)) with
  | some x => s.loseFlit x
  | none => s

/-- FLIT_REPLAY: a flit that was NAKed, or is not acknowledged by the end of the tail of its beat, is sent again; one that has
failed 8 replays fires the link's detector (R374). -/
def flitReplay (l id : Nat) (s : State) : State :=
  match s.herd.sent.find? (fun x => x.link == l && x.seq == id && (x.nak || s.tailOver x.beat)) with
  | some x =>
    if 8 ≤ x.replays then s.fireDetector (0x0C + l) 0
    else
      let s := s.onHerd (fun h => { h with sent := h.sent.map (fun y =>
        if y.link == l && y.seq == id then { y with replays := y.replays + 1, nak := false } else y) })
      (s.incSat (F.HRD_LINK_CNT_REPLAY l)).emit (.flit l 1 x.body)
  | none => s

/-- RESULT_UNDELIVERED: not acknowledged by the end of the tail of beat b + L + 1 (R391). -/
def resultUndelivered (id dev : Nat) (s : State) : State :=
  match s.herd.forwards.find? (fun f => f.id == id && f.dest == dev && s.tailOver (f.beat + 1)) with
  | some f => (s.onHerd (fun h => { h with forwards := h.forwards.filter (fun x => x != f) })).undelivered s.self f
  | none => s

/-- A result forwarded to another member at beat b + L (R390): a message on the lowest link that joins them, or UNDELIVERED at
once when the member is known to be absent. -/
def State.forward (s : State) (f : Forward) (pos : Int) : State :=
  match s.linkTo f.dest with
  | some l =>
    if s.present f.dest = false then s.undelivered s.self f
    else
      let q := s.nextSeq l
      let s := s.onHerd (fun h => { h with seqs := tput h.seqs l ((q + 1) % 4096), forwards := h.forwards ++ [{ f with via := some (l, q) }] })
      s.emit (.flit l 5 [q, f.id, f.cls, f.result, uint 64 pos])
  | none => s.undelivered s.self f

/-! ## HERD_XFER (R386) -/

/-- Bytes cut into slots: the parts that one beat's slots take. -/
def cutSlots : List (Nat × Nat) → Nat → List (Nat × Nat × Nat)
  | [], _ => []
  | (slot, p0) :: t, off => (slot, off, p0) :: cutSlots t (off + p0)

/-- One PLANNED flit of a record. -/
def State.sendPlanned (s : State) (l slot beat w off : Nat) (d : List PByte) (run : RecRun) : State :=
  let q := s.nextSeq l
  let body := q :: slot :: w :: off :: d.map (fun b => b.1.toNat)
  (s.onHerd (fun h => { h with seqs := tput h.seqs l ((q + 1) % 4096)
                               sent := h.sent ++ [⟨l, slot, beat, q, body, run, 0, false⟩] })).emit (.flit l 1 body)

/-- The item offset of a record in its window (R386). -/
def Act.windowOffset (a : Act) : Nat :=
  match a.item with
  | some i =>
    (match i.slot with
     | some (sl, n) => (sl * a.plan.img.q + n % a.plan.img.q) * (ceilDiv a.rcd.xLen 64 * 64)
     | none => 0)
  | none => 0

/-- The part of a record's bytes that each slot of each of its beats takes: beat, slot, offset and size. -/
def Act.xferParts (a : Act) (slots : List (Nat × Nat)) : List (Nat × Nat × Nat × Nat) :=
  (rangeFrom 0 a.rcd.issue).flatMap (fun i =>
    (cutSlots slots (i * sumNat (slots.map (·.2)))).map (fun p => (a.start + i, p.1, p.2.1, p.2.2)))

/-- The flits of a record's bytes, none for a slot that they do not reach. -/
def State.sendParts (s : State) (a : Act) (r : RecRun) (bytes : List PByte) (parts : List (Nat × Nat × Nat × Nat)) : State :=
  parts.foldl (fun s p =>
    let d := (bytes.drop p.2.2.1).take p.2.2.2
    if d = [] then s
    else s.sendPlanned a.rcd.xLink p.2.1 p.1 a.rcd.xWindow (a.rcd.op2 + a.windowOffset + p.2.2.1) d r) s

/-- HERD_XFER: in its first beat the record reads its bytes and hands each beat's slots their part; each flit belongs to its own
beat. A record whose slots or link are gone sends nothing, and its items are INCOMPLETE (R376). -/
def herdXfer (r : RecRun) (s : State) : State :=
  match s.due? r 9 with
  | none => s
  | some a =>
    let l := a.rcd.xLink
    let slots := a.plan.img.slotsOf a.rcd l
    if a.start ≠ s.beat then s
    else if s.actDomains a = false then (s.faultAct a).markRan r
    else if s.linkUp l = false || s.peer l != a.rcd.xMember || slots.any (fun x => decide (50 * s.linkWidth l ≤ x.1)) then
      (s.incompleteAct a).markRan r
    else match s.actBuf a a.rcd.inBuf with
      | none => s
      | some b =>
        let x := s.readBuf (a.who (0x9000 + l)) b 0 a.rcd.xLen
        let s := (x.2.consume a (x.1.any (·.2) || b.revoked)).noteRun (0x9000 + l) r
        (s.sendParts a r x.1 (a.xferParts slots)).markRan r

/-! ## Links (R375, R376) -/

/-- Width of a set of healthy lanes, at most `w`: four, a pair, or one. -/
def lanesWidth (lanes w : Nat) : Nat :=
  if 4 ≤ w && lanes = 15 then 4
  else if 2 ≤ w && (bits lanes 1 0 == 3 || bits lanes 3 2 == 3) then 2
  else if 1 ≤ w && lanes != 0 then 1
  else 0

/-- The link is UP at a width. -/
def State.setWidth (s : State) (l w : Nat) : State :=
  let s := (s.put (F.HRD_LINK_STATE_STATE l) 2).put (F.HRD_LINK_STATE_WIDTH l) (if w = 4 then 2 else w - 1)
  s.put (F.HRD_LINK_SLOTS_EXIST l) (50 * w)

/-- Check 0x07 again at a width step: a record that claims a slot which no longer exists (R376). -/
def State.linkShort (s : State) (l : Nat) : State :=
  if s.herdPlans.any (fun p => p.2.2.img.claims.any (fun k =>
    k.kind == 6 && (rangeFrom k.first k.count).any (fun n => n / 256 == l && decide (50 * s.linkWidth l ≤ n % 256))))
  then s.raiseHrd 4 else s

/-- LANE_FAULT: the link stops in this beat and the next (R375). -/
def laneFault (l lane : Nat) (s : State) : State :=
  if s.linkUp l = false || s.getBit (F.HRD_LINK_STATE_LANES l) lane = false then s
  else
    let w := s.linkWidth l
    let s := s.putBit (F.HRD_LINK_STATE_LANES l) lane false
    let lost := s.herd.sent.filter (fun x => x.link == l && decide (s.beat ≤ x.beat) && decide (x.beat ≤ s.beat + 1))
    let s := (lost.foldl (fun s x => s.loseFlit x) s).incSat (F.HRD_LINK_CNT2_DEGRADE l)
    if lanesWidth (s.get (F.HRD_LINK_STATE_LANES l)) (w / 2) = 0 then s.linkLost l
    else s.onHerd (fun h => { h with stopped := tput h.stopped l (s.beat + 1), goodBeat := tput h.goodBeat l (s.beat + 1) })

/-- Links that stopped for a lane are UP at the next lower width at the boundary after their two beats. -/
def State.linksBeat (s : State) : State :=
  (s.herd.stopped.filter (fun x => decide (x.2 < s.beat))).foldl (fun s x =>
    let s := s.onHerd (fun h => { h with stopped := tdel h.stopped x.1 })
    let w := lanesWidth (s.get (F.HRD_LINK_STATE_LANES x.1)) (s.linkWidth x.1 / 2)
    if s.linkUp x.1 && decide (0 < w) then (s.setWidth x.1 w).linkShort x.1 else s) s

/-- LINK_TRAINED: the link is UP on the healthy lanes that training found. -/
def linkTrained (l lanes peer peerLink : Nat) (s : State) : State :=
  let w := lanesWidth lanes 4
  if (tfind s.herd.training l).isNone || w = 0 then s
  else
    let s := ((s.put (F.HRD_LINK_STATE_LANES l) lanes).put (F.HRD_LINK_STATE_PEER l) peer).put (F.HRD_LINK_STATE_PEER_LINK l) peerLink
    let s := (s.setWidth l w).onHerd (fun h => { h with training := tdel h.training l, goodBeat := tput h.goodBeat l s.beat })
    (if s.inHerd then (s.selfMsgs ++ s.exportMsgs peer).foldl (fun s m => s.tell l m) s else s).joinStep

/-- LINK_TRAINING_TIMEOUT: 400 beats have passed (R375). -/
def linkTrainingTimeout (l : Nat) (s : State) : State :=
  match tfind s.herd.training l with
  | none => s
  | some k =>
    if s.beat < k + 400 then s
    else if (tfind s.herd.paths l).isSome then (s.put (F.HRD_LINK_STATE_STATE l) 2).linkLost l
    else (s.put (F.HRD_LINK_STATE_STATE l) 0).onHerd (fun h => { h with training := tdel h.training l })

/-- HRD_LINK_RETRAIN (R376): ignored and counted while a plan in ADMITTED to DRAINING claims a slot of the link. -/
def hrdLinkRetrain (l : Nat) (s : State) : State :=
  if s.livePlans.any (fun p => p.2.2.img.claims.any (fun k => k.kind == 6 && (rangeFrom k.first k.count).any (fun n => n / 256 == l)))
  then s.incWrap F.HRD_STATUS_WIGN
  else s.train l

/-! ## SYNC_OUT and the marker (R379) -/

/-- SYNC_OUT_PULSE. -/
def syncOutPulse (s : State) : State :=
  if s.isLeader && s.on F.HRD_CFG_SYNC_OUT_EN && s.time % 100000 == 0 then s.emit .syncOut else s

/-- A SYNC_IN edge on a member, against the nearest multiple of 100,000 ticks plus MARKER_NS. -/
def State.markerEdge (s : State) : State :=
  if s.herdState != 2 then s
  else
    let ns : Int := 10 * s.time - s.get F.HRD_CFG_MARKER_NS
    let r := ns % 1000000
    if 20 < min r (1000000 - r) then s.incSat F.HRD_TIME_CNT_MARKER else s

/-! ## Commands (R395) -/

/-- HERD_JOIN ACTION 0 (R380). -/
def cmdHerdJoin (k : Cmd) (s : State) : CmdOut :=
  if 7 < pf k.par 9 1 || within (pf k.par 10 1) 1 15 = false then refuse s stBadParam
  else if s.herdState != 0 then refuse s stHerdState
  else
    let s := ((s.trainLinks (pf k.par 10 1)).put F.HRD_STATUS_STATE 1).tellAll none [11]
    .wait .join (s.onHerd (fun h => { h with joinT := s.time, checked := false, thetas := [] }))

/-- HERD_JOIN ACTION 1 (R381). -/
def cmdHerdFound (k : Cmd) (s : State) : CmdOut :=
  if 7 < pf k.par 9 1 || 15 < pf k.par 10 1 then refuse s stBadParam
  else if s.herdState != 0 then refuse s stHerdState
  else
    let m := pf k.par 9 1
    let s := ((s.trainLinks (pf k.par 10 1)).put F.HRD_STATUS_STATE 3).put F.HRD_STATUS_SELF m
    okay (((s.put F.HRD_STATUS_LEADER m).put F.HRD_STATUS_COUNT 1).wr R.HRD_EPOCH (pf k.par 12 4))

/-- HERD_JOIN ACTION 2 (R381). -/
def cmdHerdEpoch (k : Cmd) (s : State) : CmdOut :=
  if 15 < pf k.par 10 1 then refuse s stBadParam
  else if s.isLeader = false || s.herd.members.any Member.live || !s.herdPlans.isEmpty then refuse s stHerdState
  else okay ((s.trainLinks (pf k.par 10 1)).wr R.HRD_EPOCH (pf k.par 12 4))

/-- HERD_LEAVE (R394). -/
def cmdHerdLeave (s : State) : CmdOut :=
  if s.inHerd = false then refuse s stHerdState
  else
    let d := s.herd.leaveAt.getD s.leaveBoundary
    let s := (s.tellAll none [4, s.self, d]).onHerd (fun h => { h with leaveAt := some d })
    .wait .leave s.leaveBeat

/-- The HERD_LEAVE commands that wait reply (R394). -/
def State.endLeave (s : State) : State :=
  ((s.ctxCmds 0).filter (fun k => match k.2.phase with | .executing .leave => true | _ => false)).foldl
    (fun s k => s.fixResult 0 k.1 k.2.seq stOk 0) s

/-- HERD_LEAVE_DONE: the Herd plans are STOPPED and, on the leader, the members are gone. -/
def herdLeaveDone (s : State) : State :=
  if s.on F.HRD_STATUS_LEAVING = false || !s.herdPlans.isEmpty || (s.isLeader && !s.herd.members.isEmpty) then s
  else (((s.tellAll none [10, s.self]).revokeFrom (fun _ _ => true)).detach).endLeave

/-- The status block of one member (Table 17.10). -/
def State.memberBlock (s : State) (m : Nat) : Bytes :=
  let me := s.inHerd && s.self == m
  let x := s.herd.members.find? (fun x => x.idx == m)
  let known := me || x.isSome
  let leaving := if me then s.on F.HRD_STATUS_LEAVING
                 else (match tfind s.herd.leavers m with | some d => decide (d ≤ s.beat) | none => false)
  let lead := s.inHerd && s.get F.HRD_STATUS_LEADER == m && known
  let hops := if me then s.depth else (x.map Member.hops).getD 0
  let links := if me then s.directMask else (x.map Member.links).getD 0
  let fw := if me then s.fwVersion else (x.map Member.fw).getD 0
  leBytes 1 (b2n (s.inHerd && s.present m) + 2 * b2n leaving + 4 * b2n lead) ++ leBytes 1 hops ++ leBytes 1 links ++ leBytes 1 0 ++
    leBytes 3 fw ++ leBytes 1 0

/-- The Herd status block (Table 17.10). -/
def State.herdBlock (s : State) : Bytes :=
  leBytes 1 s.herdState ++ leBytes 1 (if s.herdState = 0 then 0xFF else s.self) ++ leBytes 1 (s.get F.HRD_STATUS_LEADER) ++
    leBytes 1 (s.get F.HRD_STATUS_COUNT) ++ leBytes 4 (s.rd R.HRD_EPOCH) ++ leBytes 8 s.time ++ leBytes 4 (s.rd R.HRD_OFFSET) ++
    leBytes 1 (s.get F.HRD_STATUS_TSTATE) ++ leBytes 1 s.depth ++ leBytes 10 0 ++
    (rangeFrom 0 8).flatMap s.memberBlock ++ leBytes 32 0

/-- HERD_STATUS (R395). -/
def cmdHerdStatus (c : Nat) (e : HostEnv) (k : Cmd) (s : State) : CmdOut :=
  if pf k.par 16 8 % 64 ≠ 0 then refuse s stBadParam
  else s.withDest e c (pf k.par 16 8) 128 (fun segs s => okay (s.writeSegs (Who.cpx c) segs (clean s.herdBlock)))

/-- A LOCAL range of SRAM banks that no plan claims (R388). -/
def State.plannedWindow (s : State) (r : Range) (off n : Nat) : Bool :=
  r.kind == 1 && decide (r.la < 0x100000000) && !r.revoked &&
  (rangeFrom ((r.la + off) / 0x20000) ((r.la + off + n - 1) / 0x20000 + 1 - (r.la + off) / 0x20000)).all (fun b => !s.bankHeld b)

/-- The members that a mask names hear of a window over the links that join them directly. -/
def State.tellWindow (s : State) (mask w len rights planned : Nat) : State :=
  (s.upLinks.filter (fun l => bit mask (s.peer l))).foldl (fun s l => s.tell l [5, s.self, w, len, rights, planned]) s

/-- WINDOW_EXPORT ACTION 0 (R388, R395). -/
def cmdWindowExport (c : Nat) (k : Cmd) (s : State) : CmdOut :=
  let w := pf k.par 9 1
  let off := pf k.par 16 4
  let len := pf k.par 20 4
  let flags := pf k.par 11 1
  let id := pf k.par 12 2
  if 63 < w || off % 64 ≠ 0 || len % 64 ≠ 0 || len < 64 then refuse s stBadParam
  else if s.inHerd = false then refuse s stHerdState
  else match s.rangeById c id with
    | none => refuse s stBadState
    | some (_, r) =>
      if bit (s.rd (R.HRD_EXP w)) 27 || r.len < off + len || (bit flags 2 && s.plannedWindow r off len = false) then refuse s stBadState
      else
        let cfg := id + pf k.par 10 1 * 2 ^ 16 + flags * 2 ^ 24 + 2 ^ 27
        let s := s.wr (R.HRD_EXP w) (cfg + c * 2 ^ 32 + off * 2 ^ 64 + len * 2 ^ 96)
        okay (s.tellWindow (pf k.par 10 1) w len (flags % 4) (bits flags 2 2))

/-- The exporter's admitted Herd plan holds, in any partition, a HERD_XFER record that names the window (R389). -/
def State.windowPushed (s : State) (w : Nat) : Bool :=
  s.herdPlans.any (fun p => (p.2.2.whole.itemRecs ++ p.2.2.whole.cycRecs).any (fun r =>
    r.kind == 9 && r.xMember == s.self && r.xWindow == w))

/-- WINDOW_EXPORT ACTION 1 (R389, R395). -/
def cmdWindowWithdraw (c : Nat) (k : Cmd) (s : State) : CmdOut :=
  let w := pf k.par 9 1
  let r := s.rd (R.HRD_EXP w)
  if 63 < w then refuse s stBadParam
  else if bit r 27 = false || numField r 4 1 % 128 ≠ c || s.windowPushed w then refuse s stBadState
  else okay ((s.tellWindow (bits r 23 16) w 0 0 0).wr (R.HRD_EXP w) 0)

end Sys2Proof.Machine
end

