-- ==== Sys2Proof/Machine/Ksu.lean ====
section
/-! DEFINITION. Trust (18_trust_update.md): the flash with its slots, markers and boot records (R399 to R402), the firmware
commands (R405 to R408), customer keys (R410), the debug unlock (R415), the fuses (R397, R419), and the model store's
commands (R216, R217, R411). -/

namespace Sys2Proof.Machine

/-! ## The flash (R399) -/

/-- One byte of the flash; an erased byte is 0xFF. -/
def State.flashByte (s : State) (a : Nat) : Byte := memByte s.flash a ^^^ 0xFF#8

def State.flashRead (s : State) (a n : Nat) : Bytes := (rangeFrom a n).map s.flashByte

/-- Bytes written. -/
def State.flashWrite (s : State) (a : Nat) (d : Bytes) : State := { s with flash := memPuts s.flash a (d.map (· ^^^ 0xFF#8)) }

/-- A span erased. -/
def State.flashErase (s : State) (a n : Nat) : State := { s with flash := memClear s.flash a n }

/-- Slot A or B (Table 18.2), and the verified marker's place in it. -/
def slotAt (slot : Nat) : Nat := if slot = 0 then 0x100000 else 0x900000
def markerAt (slot : Nat) : Nat := slotAt slot + 0x7FF000

/-- The ASCII bytes of a magic, as four. -/
def magic (a b c d : Nat) : Bytes := [a, b, c, d].map (BitVec.ofNat 8)

/-! ## Images and markers (R400, R401) -/

def State.imgField (s : State) (slot off n : Nat) : Nat := leNat (s.flashRead (slotAt slot + off) n)
def State.imgLen (s : State) (slot : Nat) : Nat := s.imgField slot 8 4

/-- MAGIC, FMT, PART and IMAGE_LEN are right. -/
def State.imgFormatOk (s : State) (slot : Nat) : Bool :=
  let n := s.imgLen slot
  s.flashRead (slotAt slot) 4 == magic 0x42 0x46 0x57 0x49 && s.imgField slot 4 2 == 1 && s.imgField slot 0x14 4 == 0x4832 &&
  n % 64 == 0 && within n 0x200 0x7FF000

/-- The key's digest is an unrevoked root, the signature verifies, and SVN is not below the fuses. -/
def State.imgSigned (s : State) (slot : Nat) : Bool :=
  let key := s.imgField slot 7 1
  let pub := s.flashRead (slotAt slot + 0x40) 96
  let sig := s.flashRead (slotAt slot + 0xA0) 96
  let covered := s.flashRead (slotAt slot) 0xA0 ++ s.flashRead (slotAt slot + 0x100) (s.imgLen slot - 0x100)
  decide (key < 4) && Config.rootDigest key == some (sha384 pub) && !bit s.rootRev key &&
  ecdsaOk pub sig (sha384 covered) && decide (s.svn ≤ s.imgField slot 0x10 4)

/-- An authentic image. -/
def State.authentic (s : State) (slot : Nat) : Bool := s.imgFormatOk slot && s.imgSigned slot

/-- The digest of a slot's image as read. -/
def State.imgDigest (s : State) (slot : Nat) : Bytes := sha384 (s.flashRead (slotAt slot) (s.imgLen slot))

/-- The marker's MAGIC and CRC are good. -/
def State.markerOk (s : State) (slot : Nat) : Bool :=
  let m := s.flashRead (markerAt slot) 64
  m.take 4 == magic 0x42 0x56 0x4D 0x4B && crc32c (m.take 0x3C) == leField m 0x3C 4

/-- The marker's digest is that of the image. -/
def State.markerMatches (s : State) (slot : Nat) : Bool :=
  s.flashRead (markerAt slot + 8) 48 == s.imgDigest slot && leNat (s.flashRead (markerAt slot + 4) 4) == s.imgLen slot

/-- A bootable slot. -/
def State.bootable (s : State) (slot : Nat) : Bool := s.markerOk slot && s.imgFormatOk slot && s.markerMatches slot && s.imgSigned slot

/-- A record closed by its CRC at 0x3C. -/
def withCrc (b : Bytes) : Bytes := b ++ leBytes 4 (crc32c b)

/-- The marker written over an erased sector. -/
def State.writeMarker (s : State) (slot : Nat) : State :=
  let b := magic 0x42 0x56 0x4D 0x4B ++ leBytes 4 (s.imgLen slot) ++ s.imgDigest slot ++ leBytes 4 0
  (s.flashErase (markerAt slot) 4096).flashWrite (markerAt slot) (withCrc b)

/-! ## Boot records (R402) -/

/-- A boot record with the copy that holds it (2 when no copy is valid). -/
structure BootRec where
  copy : Nat
  seq : Nat
  active : Nat
  trial : Bool
  attempts : Nat
  deriving DecidableEq, Repr

/-- A copy, when it is valid. -/
def State.bootCopy (s : State) (i : Nat) : Option BootRec :=
  let b := s.flashRead (4096 * i) 64
  if b.take 4 == magic 0x42 0x42 0x52 0x43 && crc32c (b.take 0x3C) == leField b 0x3C 4 then
    some ⟨i, leField b 4 4, leField b 8 1 % 2, bit (leField b 9 1) 0, leField b 10 1⟩
  else none

/-- `a` is later than `b` in serial order. -/
def laterSeq (a b : Nat) : Bool := within ((a + 2 ^ 32 - b) % 2 ^ 32) 1 (2 ^ 31 - 1)

/-- The current record. -/
def State.bootRec (s : State) : BootRec :=
  match s.bootCopy 0, s.bootCopy 1 with
  | some a, some b => if laterSeq b.seq a.seq then b else a
  | some a, none => a
  | none, some b => b
  | none, none => ⟨2, 0, 0, false, 0⟩

/-- What KSU_STATUS, KSU_BOOT and KSU_BOOTSEQ show of the current record. -/
def State.showRecord (s : State) : State :=
  let r := s.bootRec
  let s := (s.put F.KSU_STATUS_TRIAL (b2n r.trial)).put F.KSU_STATUS_SLOT_REC r.active
  (s.put F.KSU_BOOT_ATTEMPTS r.attempts).wr R.KSU_BOOTSEQ r.seq

/-- A new record, one later than the current one, in the other copy's sector. -/
def State.newRecord (s : State) (active : Nat) (trial : Bool) (attempts : Nat) : State :=
  let r := s.bootRec
  let at_ := if r.copy = 0 then 4096 else 0
  let b := magic 0x42 0x42 0x52 0x43 ++ leBytes 4 ((r.seq + 1) % 2 ^ 32) ++ leBytes 1 active ++ leBytes 1 (b2n trial) ++
    leBytes 1 attempts ++ leBytes 49 0
  ((s.flashErase at_ 4096).flashWrite at_ (withCrc b)).showRecord

/-- The image of a slot runs. -/
def State.runSlot (s : State) (slot : Nat) : State :=
  let f : FwInfo := ⟨slot, s.imgField slot 0xC 3, s.imgField slot 6 1, s.imgField slot 0x10 4, s.imgField slot 7 1⟩
  let s : State := { s with fw := some f }
  ((s.put F.KSU_STATUS_SLOT_RUN slot).put F.KSU_STATUS_CLASS f.cls)

/-- The boot fell back to the other slot, or reverted a trial. -/
def State.fallBack (s : State) : State := (s.put F.KSU_BOOT_FELLBACK 1).raiseKsu 3

/-- The boot ROM (R403): it runs a slot, or no slot is bootable. -/
def State.bootRom (s : State) : Bool × State :=
  let r := s.bootRec
  let s :=
    if r.trial && r.attempts = 0 then (s.newRecord (1 - r.active) false 0).fallBack
    else if r.trial then s.newRecord r.active true (r.attempts - 1)
    else s.showRecord
  let a := s.bootRec.active
  if s.bootable a then (true, s.runSlot a)
  else if s.bootable (1 - a) then (true, ((s.newRecord (1 - a) false 0).fallBack).runSlot (1 - a))
  else (false, s)

/-! ## Firmware commands (R405 to R408) -/

/-- The inactive slot. -/
def State.inactiveSlot (s : State) : Nat :=
  match s.fw with
  | some f => 1 - f.slot
  | none => 1 - s.bootRec.active

/-- FW_DOWNLOAD (R406). -/
def cmdFwDownload (c : Nat) (e : HostEnv) (k : Cmd) (s : State) : CmdOut :=
  let src := pf k.par 8 8
  let off := pf k.par 16 4
  let len := pf k.par 20 4
  let slot := s.inactiveSlot
  if src % 64 ≠ 0 || off % 4096 ≠ 0 || len % 64 ≠ 0 || len < 64 || 0x7FF000 < off + len then refuse s stBadParam
  else if (s.pinned c src len 1).isNone then refuse s stUnpinned
  else if s.bootRec.trial then refuse s stBadState
  else s.withRead e c src len (fun b s =>
    let s := if bit (pf k.par 24 1) 0 then s.flashErase (slotAt slot) 0x800000 else s.flashErase (markerAt slot) 4096
    okay (s.flashWrite (slotAt slot + off) b))

/-- FW_VERIFY (R406). -/
def cmdFwVerify (s : State) : CmdOut :=
  let slot := s.inactiveSlot
  if s.bootRec.trial then refuse s stBadState
  else if s.imgFormatOk slot = false then refuse (s.flashErase (markerAt slot) 4096) stImageBad
  else if s.imgSigned slot = false then refuse (s.flashErase (markerAt slot) 4096) stAuthFail
  else okay (s.writeMarker slot)
    (s.imgField slot 0xC 3 + (s.imgField slot 6 1 % 2) * 2 ^ 24 + (s.imgField slot 0x10 4 % 128) * 2 ^ 25)

/-- FW_ACTIVATE (R407). -/
def cmdFwActivate (k : Cmd) (s : State) : CmdOut :=
  let slot := s.inactiveSlot
  let rst := bit (pf k.par 8 1) 0
  if s.bootRec.trial || s.markerOk slot = false || (rst && s.planWorks) then refuse s stBadState
  else if s.markerMatches slot = false then refuse s stImageBad
  else if s.authentic slot = false then refuse s stAuthFail
  else
    let s := s.newRecord slot true 3
    okay (if rst then { s with resetAfter := some k.seq } else s)

/-- FW_CONFIRM (R408). -/
def cmdFwConfirm (s : State) : CmdOut :=
  let r := s.bootRec
  match s.fw with
  | none => refuse s stBadState
  | some f =>
    if r.trial = false || r.active ≠ f.slot then refuse s stBadState
    else
      let s := s.newRecord f.slot false 0
      okay { s with svn := max s.svn f.svn } (max s.svn f.svn)

/-! ## Customer keys (R410) -/

/-- KWK (R398). -/
def kwk : Bytes :=
  (hmac384 Config.duk (beBytes 4 1 ++ [0x42, 0x52, 0x4D, 0x2D, 0x4B, 0x57, 0x4B].map (BitVec.ofNat 8) ++ beBytes 1 0 ++ beBytes 4 0x100)).take 32

/-- The bytes of consecutive 32-bit registers, and bytes written into them. -/
def State.regBytes (s : State) (r : Nat → Reg) (n : Nat) : Bytes := (rangeFrom 0 n).flatMap (fun i => leBytes 4 (s.rd (r i)))
def State.setRegBytes (s : State) (r : Nat → Reg) (n : Nat) (b : Bytes) : State :=
  (rangeFrom 0 n).foldl (fun s i => s.wr (r i) (leField b (4 * i) 4)) s

/-- Debug is unlocked. -/
def State.dbg (s : State) : Bool := s.on F.KSU_STATUS_DBG

/-- A key operation ends with its result. -/
def State.keyDone (s : State) (result : Nat) : State := (s.put F.KSU_KEYCTL_RESULT result).raiseKsu 1

/-- KSU_KEY_LOAD. -/
def ksuKeyLoad (slot : Nat) (s : State) : State :=
  let s := s.put F.KSU_KEYCTL_SLOT slot
  if s.dbg then s.keyDone 2
  else
    let b := s.regBytes R.KSU_BLOB 16
    match gcmOpen kwk ((b.drop 4).take 12) (b.take 4) ((b.drop 16).take 32) (b.drop 48) with
    | none => s.keyDone 1
    | some key =>
      let s : State := { s with keys := tput s.keys slot (leField b 0 4, leNat key) }
      ((s.putBit F.KSU_KEYVALID_VALID slot true).wr (R.KSU_KEYID slot) (leField b 0 4)).keyDone 0

/-- KSU_KEY_CLEAR. -/
def ksuKeyClear (slot : Nat) (s : State) : State :=
  let s : State := { s.put F.KSU_KEYCTL_SLOT slot with keys := tdel s.keys slot }
  ((s.putBit F.KSU_KEYVALID_VALID slot false).wr (R.KSU_KEYID slot) 0).keyDone 0

/-- KSU_KEY_WRAP: the IV comes from the random generator. -/
def ksuKeyWrap (slot : Nat) (s : State) : State :=
  let s := s.put F.KSU_KEYCTL_SLOT slot
  if s.dbg || s.provLock then s.keyDone 2
  else
    let id := leBytes 4 (s.rd R.KSU_KEYIN_ID)
    let iv := freeBytes s.fresh 12
    let r := gcmSeal kwk iv id (s.regBytes R.KSU_KEYIN 8)
    let s : State := { s with fresh := s.fresh + 12 }
    let s := (s.setRegBytes R.KSU_BLOB 16 (id ++ iv ++ r.1 ++ r.2)).clearRegs ((rangeFrom 0 8).map R.KSU_KEYIN)
    s.keyDone 0

/-! ## Debug unlock and fuses (R415, R416, R419) -/

/-- A fresh nonce. -/
def State.newNonce (s : State) : State :=
  let b := freeBytes s.fresh 32
  State.setRegBytes { s with fresh := s.fresh + 32 } R.KSU_DBG_CHAL 8 b

/-- What an unlock's signature covers. -/
def State.unlockText (s : State) : Bytes :=
  [0x42, 0x52, 0x4D, 0x44, 0x42, 0x47, 0x30, 0x31].map (BitVec.ofNat 8) ++ leBytes 16 Config.devid ++
    s.regBytes R.KSU_DBG_CHAL 8 ++ leBytes 1 s.svn

/-- KSU_DBG_UNLOCK: UNLOCK is written with KEYSEL (R415). -/
def ksuDbgUnlock (keysel : Nat) (s : State) : State :=
  let s := s.put F.KSU_DBG_CTL_KEYSEL keysel
  let pub := s.regBytes R.KSU_DBG_PUB 24
  let sig := s.regBytes R.KSU_DBG_SIG 24
  if s.on F.KSU_STATUS_DBG_LOCKOUT then (s.put F.KSU_DBG_CTL_RESULT 2).newNonce
  else if !s.livePlans.isEmpty then (s.put F.KSU_DBG_CTL_RESULT 3).newNonce
  else if Config.debugDigest (s.get F.KSU_DBG_CTL_KEYSEL) == some (sha384 pub) && ecdsaOk pub sig (sha384 s.unlockText) then
    ((s.put F.KSU_DBG_CTL_RESULT 0).put F.KSU_STATUS_DBG 1).warmReset 7 0xFF
  else
    let s := ((s.put F.KSU_DBG_CTL_RESULT 1).incSat F.KSU_DBG_CTL_FAILS).raiseKsu 2
    (if 3 ≤ s.get F.KSU_DBG_CTL_FAILS then s.put F.KSU_STATUS_DBG_LOCKOUT 1 else s).newNonce

/-- KSU_REVOKE (R419). -/
def ksuRevoke (v : Nat) (s : State) : State :=
  let i := bits v 1 0
  match s.fw with
  | none => s
  | some f =>
    let other := 1 - f.slot
    if bits v 15 8 ≠ 0x5A || i == f.key || (s.bootable other && s.imgField other 7 1 == i) then s
    else { s with rootRev := s.rootRev ||| 2 ^ i }

/-- KSU_PROV_LOCK (R397). -/
def ksuProvLock (v : Nat) (s : State) : State :=
  if bit v 0 then State.put { s with provLock := true } F.KSU_LOCKCTL_PROV_LOCK 1 else s

/-! ## The model store (R216, R217, R411) -/

/-- The plaintext of an envelope: its bytes, or a status. -/
def State.openModel (s : State) (slot : Nat) (b : Bytes) : Except Nat Bytes :=
  let h := b.take 64
  let n := leField h 0x18 4
  if h.take 4 != magic 0x42 0x4D 0x44 0x45 || leField h 4 2 != 1 || b.length != n + 80 || leField h 6 2 != 0 ||
     (h.drop 0x1C).any (· != 0) then .error stImageBad
  else match tfind s.keys slot with
    | none => .error stAuthFail
    | some (id, key) =>
      if id != leField h 8 4 || s.dbg then .error stAuthFail
      else match gcmOpen (leBytes 32 key) ((h.drop 0xC).take 12) h ((b.drop 64).take n) (b.drop (64 + n)) with
        | some p => .ok p
        | none => .error stAuthFail

/-- Blocks of the model store. -/
def modelBlocks : Nat := 131072

/-- The lowest `n` free blocks of the model store, if there are so many. -/
def State.freeBlocks (s : State) (n : Nat) : Option (List Nat) :=
  let used := s.models.flatMap (fun m => m.blocks)
  if modelBlocks < used.length + n then none
  else some (((rangeFrom 0 (used.length + n)).filter (fun b => !used.contains b)).take n)

/-- An image made resident: its bytes go to its blocks, ciphertext for one that was loaded encrypted (R412). -/
def State.storeModel (s : State) (c id : Nat) (enc : Bool) (b : Bytes) (ls : List Layer) (blocks : List Nat) : State :=
  let put (s : State) (x : Nat × Nat) : State :=
    let at_ := dramLa 0 + 4096 * (Config.modelStore + x.2)
    let part := (b.drop (4096 * x.1)).take 4096
    if enc then State.writeLa { s with fresh := s.fresh + 4096 } (Who.cpx c) at_ (clean (freeBytes s.fresh 4096))
    else s.writeLa (Who.cpx c) at_ (clean part)
  let s := ((rangeFrom 0 blocks.length).zip blocks).foldl put s
  { s with models := s.models ++ [⟨c, id, b.length, modelHash b, ls, enc, b, blocks⟩] }

/-- MODEL_LOAD (R215, R216). -/
def cmdModelLoad (c : Nat) (e : HostEnv) (k : Cmd) (s : State) : CmdOut :=
  let src := pf k.par 8 8
  let len := pf k.par 16 4
  let id := pf k.par 20 4
  let enc := bit (pf k.par 24 1) 0
  let slot := pf k.par 25 1
  if src % 64 ≠ 0 || id = 0xFFFFFFFF || (!enc && (within len 128 0x2000000 = false || len % 64 ≠ 0)) ||
     (enc && (within len 208 (0x2000000 + 80) = false || 15 < slot)) then refuse s stBadParam
  else s.withRead e c src len (fun raw s =>
    match (if enc then s.openModel slot raw else .ok raw) with
    | .error st => refuse s st
    | .ok b =>
      match checkModel b with
      | .error x => refuse s x.1 x.2
      | .ok ls =>
        if (s.model? c id).isSome then refuse s stBadState
        else match s.freeBlocks (ceilDiv b.length 4096) with
          | none => refuse s stMemory
          | some blocks => okay (s.storeModel c id enc b ls blocks) (modelHash b))

/-- A plan in ADMITTED to DRAINING of the context references a model (R66). -/
def State.modelUsed (s : State) (c id : Nat) : Bool :=
  s.livePlans.any (fun p => p.1 == c && p.2.2.img.models.any (fun m => m.id == id))

/-- MODEL_EVICT (R217). -/
def cmdModelEvict (c : Nat) (k : Cmd) (s : State) : CmdOut :=
  let id := pf k.par 8 4
  if (s.model? c id).isNone then refuse s stBadParam
  else if s.modelUsed c id then refuse s stBadState
  else okay { s with models := s.models.filter (fun m => !(m.c == c && m.id == id)) }

/-- MODEL_LIST (R217). -/
def cmdModelList (c : Nat) (e : HostEnv) (k : Cmd) (s : State) : CmdOut :=
  let dva := pf k.par 8 8
  let len := pf k.par 16 4
  if dva % 64 ≠ 0 then refuse s stBadParam
  else s.withDest e c dva len (fun segs s =>
    let mine := s.models.filter (fun m => m.c == c)
    let l := mine.take (len / 16)
    let b := l.flatMap (fun m => leBytes 4 m.id ++ leBytes 4 m.len ++ leBytes 4 m.hash ++ leBytes 2 m.layers.length ++
      leBytes 2 (b2n (s.modelUsed c m.id) + 2 * b2n m.enc))
    okay (s.writeSegs (Who.cpx c) segs (clean b)) (l.length + 65536 * mine.length))

end Sys2Proof.Machine
end

