-- ==== Sys2Proof/Machine/Boot.lean ====
section
/-! DEFINITION. The boot (R423 to R429, Table 19.3), contexts as they are enabled (R69), and the thermal hold (R324). -/

namespace Sys2Proof.Machine

/-- The function of a context is enabled: its BAR2 window is cleared and it is ACTIVE (Table 4.1). -/
def State.enableCtx (s : State) (c : Nat) : State :=
  (s.dropRegs ((c + 1) * 0x100000000) 0x100000000).setCtx c ⟨.active, 0, 0⟩

/-- A boot that cannot go on (R428). -/
def State.bootError (s : State) (code : Nat) : State := (s.put F.GLB_STATUS_ERR 1).put F.GLB_STATUS_ERR_CODE code

def State.nextStage (s : State) : State := s.put F.GLB_STATUS_STAGE (s.get F.GLB_STATUS_STAGE + 1)

/-- Stage 1: the root PLL locks and device time starts at zero (R32). -/
def State.bootClocks (s : State) : State :=
  let s : State := { s with time := 0, resetT := 0 }
  (clockFlds.foldl (fun s f => s.put f 1) s).nextStage

/-- Stage 2: every SRAM word is zero and the KSU draws afresh (R253, R398, R413, R415). -/
def State.bootZero (s : State) : State :=
  let s := ((rangeFrom 0 4).foldl (fun s d => s.put (F.SRM_STATUS_ZERO_DONE d) 1) s).newNonce
  if 8 ≤ s.get F.GLB_RSTCAUSE_LOOP then s.bootError 5 else s.nextStage

/-- Stage 3: the boot ROM, or recovery (R403, R404, R427). -/
def State.bootRomStage (s : State) : State :=
  let r := s.bootRom
  if r.1 then r.2.nextStage
  else
    let s := (((r.2.put F.KSU_STATUS_RECOVERY 1).put F.GLB_STATUS_RECOVERY 1).put F.GLB_STATUS_STAGE 9).put F.GLB_STATUS_WARM 0
    s.enableCtx 0

/-- Stage 4: the firmware runs and switches every domain to its functional clock, but for those whose switch fails. -/
def State.bootFirmware (s : State) (failed : List Nat) : State :=
  let s := (s.put F.CPX_STATUS_RUN 1).put F.CPX_STATUS_LOCKSTEP_OK 1
  let s := match s.fw with
    | some f => (s.put F.CPX_FWVER_VERSION f.version).put F.CPX_FWVER_SLOT f.slot
    | none => s
  ((rangeFrom 1 92).foldl (fun s d => if failed.contains d then clkSwitchFail d s else clkSwitchDone d s) s).nextStage

/-- Stage 5: LPDDR5X trained, with the size code and the data rate that every channel came up with (R244, R246). -/
def State.bootDram (s : State) (size mts : Nat) : State :=
  let s := (rangeFrom 0 4).foldl (fun s c => (s.put (F.MEMC_CH_CFG_SIZE c) size).put (F.MEMC_CH_CFG_MTS c) mts) s
  ((s.put F.MEMC_STATUS_TRAINED 0xF).put F.MEMC_STATUS_READY 1).nextStage

/-- Start-up replacement on a C-die (R359): the first failing engine below 15 takes the spare; the others stay DEGRADED. -/
def State.bootEngines (s : State) (e mask : Nat) : State :=
  let s := (rangeFrom 0 16).foldl (fun s n => s.setBist e n (!bit mask n)) s
  let bad := (rangeFrom 0 15).filter (bit mask)
  let s := if bit mask 15 then (s.setRole e 15 4 31).put (F.TINE_SPARE_VALID e) 0 else s
  let s := match bad with
    | [] => s
    | k :: _ =>
      if bit mask 15 then s
      else
        let s := (s.setRole e 15 0 (15 * e + k)).put (F.TINE_SPARE_VALID e) 0
        let s := (s.put (F.TINE_MAP_PHYS e k) 15).incWrap (F.TINE_MAPGEN_GEN e)
        (s.log { det := 0x20 + 16 * e + k, kind := 3, level := 2, unit := 16 * e + k, sub := 15 * e + k, info := 15 }).raiseFmu 5
  bad.foldl (fun s n => s.setRole e n 4 31) s

/-- Units that failed stage 6 (R360). -/
def State.bootUnits (s : State) (kind n mask : Nat) : State :=
  (rangeFrom 0 n).foldl (fun s u => s.unitTested kind u (!bit mask u)) s

/-- Stage 6: the self-tests, with the engines and units that fail them as masks. -/
def State.bootTests (s : State) (m : List Nat) : State :=
  let s := ((s.bootEngines 0 (m.getD 0 0)).bootEngines 1 (m.getD 1 0)).bootUnits 1 8 (m.getD 2 0)
  (s.bootUnits 2 4 (m.getD 3 0)).nextStage

/-- Stage 7: fuses completed, contexts enabled, READY (R408, R424, R429). -/
def State.bootFinal (s : State) : State :=
  let s : State := match s.fw with
    | some f => if s.bootRec.trial then s else { s with svn := max s.svn f.svn }
    | none => s
  let s := (rangeFrom 0 (s.numVfs + 1)).foldl (fun s c => s.enableCtx c) s
  let s := (s.nextStage.put F.GLB_STATUS_READY 1).put F.GLB_STATUS_WARM 0
  (s.wr R.GLB_BOOT_T s.time).put F.GLB_RSTCAUSE_LOOP 0

/-- BOOT_STAGE_DONE: the present stage ends, or cannot. -/
def bootStageDone (b : BootEnv) (s : State) : State :=
  if s.bootHeld || s.on F.GLB_STATUS_ERR then s
  else match s.get F.GLB_STATUS_STAGE with
    | 1 => if b.ok then s.bootClocks else s.bootError 1
    | 2 => if b.ok then s.bootZero else s.bootError 2
    | 3 => s.bootRomStage
    | 4 => s.bootFirmware b.vals
    | 5 => if b.ok then s.bootDram (b.vals.getD 0 1 % 4) (b.vals.getD 1 8533) else s.bootError (if b.errCode = 4 then 4 else 3)
    | 6 => s.bootTests b.vals
    | 7 => s.bootFinal
    | _ => s

/-! ## Temperature (R323, R324) -/

/-- THERMAL_SAMPLE: the readings of the four dies in quarter degrees; 125 °C trips. -/
def thermalSample (t : List Int) (s : State) : State :=
  let s := s.thermal t
  if s.on F.GLB_STATUS_THERM_HOLD then
    { s with cool := if t.all (fun x => decide (x < 420)) then some (s.cool.getD s.time) else none }
  else match findIdx (fun x => decide (500 ≤ x)) 0 t with
    | some d => s.tripFault d
    | none => s

/-- THERM_HOLD_END: every die has read below 105 °C for 100 ms. -/
def thermHoldEnd (s : State) : State :=
  match s.cool with
  | some t =>
    if s.on F.GLB_STATUS_THERM_HOLD && decide (t + 10000000 ≤ s.time) then
      State.holdDomains { s.put F.GLB_STATUS_THERM_HOLD 0 with cool := none } 0
    else s
  | none => s

end Sys2Proof.Machine
end

