-- ==== Sys2Proof/Machine/PlanImage.lean ====
section
/-! DEFINITION. The plan image (R48 to R50, Tables 3.1 to 3.11, 17.7): its sections as they are read from the bytes, and the
format that PLAN_LOAD checks. -/

namespace Sys2Proof.Machine

/-! ## Directory and sections (Tables 3.1, 3.2) -/

/-- A directory entry. -/
structure Sect where
  typ : Nat
  off : Nat
  len : Nat
  count : Nat

/-- Directory entry number `i`. -/
def readSect (b : Bytes) (i : Nat) : Sect :=
  let o := 0x80 + 16 * i
  ⟨leField b o 2, leField b (o + 4) 4, leField b (o + 8) 4, leField b (o + 12) 4⟩

/-- The directory entries in use. -/
def imageSects (b : Bytes) : List Sect := (rangeFrom 0 (min 16 (leField b 0x44 2))).map (readSect b)

/-- Entry size of a section type (Table 3.2). -/
def sectSize (t : Nat) : Nat := if t = 3 || t = 5 || t = 6 || t = 9 then 32 else if t = 11 then 64 else 16

/-- The section of a type. -/
def findSect (b : Bytes) (t : Nat) : Option Sect := (imageSects b).find? (fun x => x.typ == t)

/-- Bytes cut into `n` pieces of `k`. -/
def pieces (k : Nat) : Nat → Bytes → List Bytes
  | 0, _ => []
  | n + 1, b => b.take k :: pieces k n (b.drop k)

/-- The entries of a section; none when the image has no such section. -/
def sectEntries (b : Bytes) (t : Nat) : List Bytes :=
  match findSect b t with
  | some x => pieces (sectSize t) x.count (b.drop x.off)
  | none => []

/-- COUNT of a section lies in its range (Table 3.2). -/
def sectCountOk (b : Bytes) (t n : Nat) : Bool :=
  match t with
  | 1 => within n 1 4096
  | 2 => n == 1
  | 3 => decide (n ≤ 32768)
  | 4 => n == leField b 0x36 1
  | 5 => within n 1 16384
  | 6 => n == leField b 0x37 1
  | 7 => decide (n ≤ 256)
  | 8 => decide (n ≤ 1024)
  | 9 => n == leField b 0x36 1
  | 10 => decide (n ≤ 64)
  | 11 => n == 1
  | _ => false

/-! ## Entries -/

def readClaim (e : Bytes) : Claim := ⟨leField e 0 1, leField e 2 2, leField e 4 4, leField e 8 4, leField e 12 4⟩

def readRec (e : Bytes) : Rec :=
  { kind := leField e 0 1, flags := leField e 1 1, claimFirst := leField e 2 2, claimCount := leField e 4 2, beat := leField e 6 2,
    issue := leField e 8 2, span := leField e 10 2, slack := leField e 12 2, model := leField e 14 2, inBuf := leField e 16 2,
    outBuf := leField e 18 2, op0 := leField e 20 4, op1 := leField e 24 4, op2 := leField e 28 4 }

def readClassD (e : Bytes) : ClassD := ⟨leField e 0 1, leField e 2 2, leField e 4 2, leField e 6 2⟩

def readRule (e : Bytes) : Rule :=
  ⟨leField e 0 1, leField e 1 1, leField e 2 1, leField e 3 1, sint 32 (leField e 4 4), leField e 8 4, leField e 12 4, leField e 16 2⟩

def readModelRef (e : Bytes) : ModelRef := ⟨leField e 0 4, leField e 4 4, leField e 8 4⟩

def readBufRef (e : Bytes) : BufRef := ⟨leField e 0 2, leField e 2 1, leField e 4 4, leField e 8 4⟩

def readVerdict (e : Bytes) : VerdictRule :=
  let limits (o : Nat) : List Int := (rangeFrom 0 4).map (fun i => sint 16 (leField e (o + 2 * i) 2))
  { cls := leField e 0 1, failResult := leField e 1 1, nscores := leField e 2 1, scoreSrc := leField e 4 2,
    scoreOfs := leField e 6 2, low := limits 8, high := limits 16, gradeSrc := leField e 0x18 2,
    gradeOfs := leField e 0x1A 2, paySrc := leField e 0x1C 2, payGran := leField e 0x1E 2 }

def readReject (e : Bytes) : RejectRule := ⟨leField e 0 1, leField e 1 1, leField e 2 1, leField e 4 4, leField e 8 4⟩

/-- The image that a run of bytes spells. -/
def readImage (b : Bytes) : PlanImage :=
  { hash := leField b 0x10 32, len := leField b 8 4, flags := leField b 0xC 4, cyc := leField b 0x30 2,
    slots := leField b 0x32 2, lat := leField b 0x34 2, vmax := leField b 0x38 4, enc := leField b 0x3C 1,
    epoch := leField b 0x40 4, claims := (sectEntries b 1).map readClaim,
    decl := leField ((sectEntries b 2).headD []) 0 4, cycRecs := (sectEntries b 3).map readRec,
    classes := (sectEntries b 4).map readClassD, itemRecs := (sectEntries b 5).map readRec,
    rules := (sectEntries b 6).map readRule, models := (sectEntries b 7).map readModelRef,
    bufs := (sectEntries b 8).map readBufRef, verdicts := (sectEntries b 9).map readVerdict,
    rejects := (sectEntries b 10).map readReject, herd := leNat ((sectEntries b 11).headD []) }

/-! ## The format (R48 to R50) -/

/-- The header of Table 3.1 and its hash (R49). -/
def headerOk (b : Bytes) : Bool :=
  let f := leField b
  f 0 4 == 0x4E4C5042 && f 4 2 == 1 && decide (f 6 2 ≤ 3) && f 8 4 == b.length && b.length % 64 == 0 &&
  within b.length 0x200 (16 * 2 ^ 20) && decide (f 0xC 4 ≤ 1) &&
  f 0x10 32 == leNat (sha256 (b.take 0x10 ++ List.replicate 32 0 ++ b.drop 0x30)) &&
  within (f 0x30 2) 4 4096 && within (f 0x32 2) 1 256 && within (f 0x34 2) 8 4096 && within (f 0x36 1) 1 16 &&
  within (f 0x37 1) 1 64 && within (f 0x38 4) 1 250 && decide (f 0x3C 1 ≤ 3) && f 0x3D 3 == 0 &&
  (f 0x40 4 == 0 || f 0xC 4 == 1) && within (f 0x44 2) 1 16 && f 0x46 58 == 0

/-- Directory entry `i` of an image whose header is good: an unused one is zero, a used one names a section in its place
that meets no earlier one (Table 3.1, R50). -/
def sectOk (b : Bytes) (i : Nat) : Bool :=
  let x := readSect b i
  if leField b 0x44 2 ≤ i then leField b (0x80 + 16 * i) 16 == 0
  else
    leField b (0x80 + 16 * i + 2) 2 == 0 && within x.typ 1 11 && x.off % 64 == 0 && decide (0x180 ≤ x.off) &&
    decide (x.off + x.len ≤ b.length) && x.len == x.count * sectSize x.typ && sectCountOk b x.typ x.count &&
    (rangeFrom 0 i).all (fun j =>
      let y := readSect b j
      x.typ != y.typ && (decide (x.off + x.len ≤ y.off) || decide (y.off + y.len ≤ x.off)))

/-- The sections that must be there are (R50), and the ENERGY section's reserved bytes are zero. -/
def sectsOk (b : Bytes) : Bool :=
  [1, 2, 3, 4, 5, 6, 9].all (fun t => (findSect b t).isSome) && (findSect b 11).isSome == (leField b 0xC 4 == 1) &&
  leField ((sectEntries b 2).headD []) 4 12 == 0

/-- The FIRST and COUNT of a claim name resources of its kind (Tables 3.3, 3.4). Which banks exist and may be claimed is check
0x04's (R239). -/
def claimOk (e : Bytes) : Bool :=
  let k := readClaim e
  let top := match k.kind with
    | 1 => 30 | 2 => 8 | 3 => 4 | 4 => 2 ^ 32 | 5 => 64 | 6 => 1024 | 7 => 6 | 8 => 16 | 9 => 4 | 10 => 64 | 11 => 8
    | 12 => 4 | 13 => 4 | 14 => 4 | 15 => 93 | _ => 0
  within k.kind 1 15 && leField e 1 1 == 0 && within k.count 1 256 && decide (k.first + k.count ≤ top) &&
  (if k.kind = 5 then within k.p0 1 64 else if k.kind = 12 then within k.p0 1 16
   else [4, 6, 7, 14, 15].contains k.kind || k.p0 == 0) &&
  (k.kind == 14 || k.kind == 15 || k.p1 == 0)

/-- An activity record (Table 3.5). -/
def recOk (e : Bytes) : Bool :=
  let r := readRec e
  within r.kind 1 9 && decide (r.flags < 4) && within r.claimCount 1 16 && within r.issue 1 64 && within r.span r.issue 4096

/-- A class descriptor (Table 3.7). -/
def classOk (e : Bytes) : Bool :=
  let d := readClassD e
  decide (d.cls ≤ 15) && leField e 1 1 == 0 && within d.minGap 1 4096 && within d.recCount 1 4096 && leField e 8 8 == 0

/-- A trigger rule (Table 3.8). -/
def ruleOk (e : Bytes) : Bool :=
  let r := readRule e
  decide (r.source ≤ 2) && decide (r.srcIndex < (if r.source = 1 then 8 else 4)) &&
  (if r.source = 0 then decide (r.group ≤ 15) else r.group == 0) && within r.window 1 16777216 && within r.count 1 256 &&
  (r.count == 1 || decide (1 ≤ r.rep)) && leField e 18 14 == 0

/-- A verdict rule (Table 3.10). -/
def verdictOk (e : Bytes) : Bool :=
  let v := readVerdict e
  within v.failResult 1 3 && decide (v.nscores ≤ 4) && leField e 3 1 == 0 && (v.nscores == 0) == (v.scoreSrc == 0xFFFF) &&
  (v.nscores != 0 || v.scoreOfs == 0) &&
  decide (v.payGran ≤ 328)

/-- A reject rule (Table 3.11). -/
def rejectOk (e : Bytes) : Bool :=
  let r := readReject e
  decide (r.output ≤ 15) && decide (r.mask < 128) && leField e 3 1 == 0 && within r.pulse 1 1000000 && leField e 12 4 == 0

/-- The first entry that fails a test. -/
def firstBad {α : Type} (l : List α) (ok : α → Bool) : Option Nat := findIdx (fun x => !ok x) 0 l

/-- The ranges of the classes lie within ITEM_RECORDS, are disjoint and cover it (R50): the first record that belongs to no
class or to several. -/
def classCover (im : PlanImage) : Option Nat :=
  match firstBad im.classes (fun d => decide (d.recFirst + d.recCount ≤ im.itemRecs.length)) with
  | some i => some i
  | none => firstBad (rangeFrom 0 im.itemRecs.length) (fun i =>
      (im.classes.filter (fun d => decide (d.recFirst ≤ i) && decide (i < d.recFirst + d.recCount))).length == 1)

/-- The format of an image: the index of the first entry that breaks R48 to R50, 0 where no entry does it alone. -/
def imageFault (b : Bytes) : Option Nat :=
  if headerOk b = false then some 0
  else match firstBad (rangeFrom 0 16) (sectOk b) with
  | some i => some i
  | none =>
    if sectsOk b = false then some 0
    else
      let im := readImage b
      let h := (sectEntries b 11).headD []
      firstBad (sectEntries b 1) claimOk <|> firstBad (sectEntries b 3) recOk <|> firstBad (sectEntries b 4) classOk <|>
      firstBad (sectEntries b 5) recOk <|> firstBad (sectEntries b 6) ruleOk <|>
      firstBad (sectEntries b 7) (fun e => leField e 12 4 == 0) <|>
      firstBad (sectEntries b 8) (fun e => decide (leField e 2 1 < 8) && leField e 3 1 == 0 && leField e 12 4 == 0) <|>
      firstBad (sectEntries b 9) verdictOk <|> firstBad (sectEntries b 10) rejectOk <|>
      (if (im.classes.map (·.cls)).eraseDups.length = im.classes.length then none else some 0) <|>
      classCover im <|>
      (if leField h 3 1 = 0 ∧ leField h 0x3C 4 = 0 then none else some 0)

end Sys2Proof.Machine
end

