-- ==== Sys2Proof/Machine/Portion.lean ====
section
/-! DEFINITION. What of an image a device checks at PLAN_ADMIT (R383), and the questions that the checks of Table 3.12 ask of
it: the resources that records use (R454), where their operands lie, when holds meet (R53), and what crosses the package
links (R210). -/

namespace Sys2Proof.Machine

/-! ## Records with their places -/

/-- A record with its index in its section and its class; a cycle record has none. -/
structure ARec where
  idx : Nat
  rcd : Rec
  cls : Option ClassD

def ARec.isItem (x : ARec) : Bool := x.cls.isSome

/-- Elements of a list with their indices. -/
def indexed {α : Type} (l : List α) : List (Nat × α) := (rangeFrom 0 l.length).zip l

/-- The classes of this device's partition; all of them when the plan is no Herd plan. -/
def PlanImage.ownClasses (im : PlanImage) (self : Nat) : List ClassD :=
  if im.isHerd then slice im.classes (im.classPart self) else im.classes

def PlanImage.ownRejects (im : PlanImage) (self : Nat) : List (Nat × RejectRule) :=
  if im.isHerd then slice (indexed im.rejects) (im.rejectPart self) else indexed im.rejects

/-- The records of this device's partition, cycle records first. -/
def PlanImage.ownRecs (im : PlanImage) (self : Nat) : List ARec :=
  let cyc := if im.isHerd then slice (indexed im.cycRecs) (im.cycPart self) else indexed im.cycRecs
  cyc.map (fun x => ⟨x.1, x.2, none⟩) ++ (im.ownClasses self).flatMap (fun d =>
    ((indexed im.itemRecs).drop d.recFirst).take d.recCount |>.map (fun x => ⟨x.1, x.2, some d⟩))

/-- The verdict rules of this device's classes, with their indices. -/
def PlanImage.ownVerdicts (im : PlanImage) (self : Nat) : List (Nat × VerdictRule) :=
  (indexed im.verdicts).filter (fun v => (im.ownClasses self).any (fun d => d.cls == v.2.cls))

/-! ## The plan under admission -/

/-- One admission: the state, the context, the partition that this device checks (its image with the other partitions blanked)
and its records, the plan it is paired with (handle and image), and the chain programs that the device read, by BUFFERS
index. -/
structure Adm where
  s : State
  c : Nat
  im : PlanImage
  recs : List ARec
  mate : Option (Nat × PlanImage)
  progs : List (Nat × Bytes)

/-- A refusal of a check: status and DETAIL (R54). -/
def deny (st chk idx : Nat) : Option (Nat × Nat) := some (st, chk * 2 ^ 24 + idx % 2 ^ 24)

/-- The first record that a test finds offending refuses the plan. -/
def Adm.eachRec (a : Adm) (st chk : Nat) (bad : ARec → Bool) : Option (Nat × Nat) :=
  match a.recs.find? bad with
  | some x => deny st chk x.idx
  | none => none

/-- The same for a list of indexed entries. -/
def eachOf {α : Type} (l : List (Nat × α)) (st chk : Nat) (bad : α → Bool) : Option (Nat × Nat) :=
  match l.find? (fun x => bad x.2) with
  | some x => deny st chk x.1
  | none => none

/-- The other plans in ADMITTED to DRAINING, the partner of the pair left out (R63). -/
def Adm.others (a : Adm) : List PlanImage :=
  (a.s.livePlans.filter (fun p => !(p.1 == a.c && some p.2.1 == a.mate.map (·.1)))).map (fun p => p.2.2.img)

/-! ## Claims -/

/-- Resources of a kind that a record claims. -/
def PlanImage.recUnits (im : PlanImage) (r : Rec) (kind : Nat) : List Nat :=
  ((im.recClaims r).filter (fun k => k.kind == kind)).flatMap (fun k => rangeFrom k.first k.count)

/-- A record claims resource `n` of a kind in its own range (R454). -/
def PlanImage.recHas (im : PlanImage) (r : Rec) (kind n : Nat) : Bool :=
  (im.recClaims r).any (fun k => k.kind == kind && decide (k.first ≤ n) && decide (n < k.first + k.count))

/-- Two claims of a kind name a common resource (R52): KIND 13 is a shared read and KIND 15 no resource. -/
def Claim.meets (x y : Claim) : Bool :=
  x.kind == y.kind && (within x.kind 1 12 || x.kind == 14) &&
  decide (x.first < y.first + y.count) && decide (y.first < x.first + x.count)

/-- The same for R53: a bank set gives each item its own banks. -/
def Claim.clash (x y : Claim) : Bool := x.meets y && !(x.kind == 4 && (x.p0 != 0 || y.p0 != 0))

/-- Beats for which a record holds a claim (R53). -/
def Rec.holdLen (r : Rec) (k : Claim) : Nat := if [1, 2, 3, 5, 11, 12].contains k.kind then r.issue else r.span

/-- The claims that two records have in common, as the beats that each holds them. -/
def commonHolds (ix iy : PlanImage) (x y : Rec) : List (Nat × Nat) :=
  (ix.recClaims x).flatMap (fun k => ((iy.recClaims y).filter (fun m => k.clash m)).map (fun m => (x.holdLen k, y.holdLen m)))

/-- Holds [a, a + n) and [b, b + m) meet modulo C. -/
def meetMod (c a n b m : Nat) : Bool :=
  let c := max 1 c
  decide ((b % c + c - a % c) % c < n) || decide ((a % c + c - b % c) % c < m)

/-- [a, a + n) and [b + d, b + d + m) meet for some d from `lo` to `hi`. -/
def meetShift (a n b m lo hi : Nat) : Bool :=
  let least : Int := max lo ((a : Int) - b - m + 1)
  let most : Int := min hi ((a : Int) + n - 1 - b)
  decide (least ≤ most)

/-! ## Operands -/

/-- The operands of a record that lie in memory while it runs (R47, R454): IN_BUF, OUT_BUF, IN2 of a CHAIN_OP, AUX0 and AUX1
of a DMX_RUN that name no stream ring. -/
def Rec.memOps (r : Rec) : List Nat :=
  (r.inBuf :: r.outBuf :: (if r.kind = 2 then [r.in2] else if r.kind = 5 then
    [r.aux 0, r.aux 1].filter (fun o => (streamOf 2 o).isNone) else [])).filter (· != 0xFFFF)

/-- The range that a BUFFERS operand lies in, with its entry. -/
def State.opRange (s : State) (c : Nat) (im : PlanImage) (op : Nat) : Option (Range × BufRef) :=
  if 0x4000 ≤ op then none
  else match im.bufs[op]? with
    | some b => (s.rangeById c b.rangeId).map (fun x => (x.2, b))
    | none => none

/-- Kind of the range of an operand: 0 HOST, 1 LOCAL, 2 MIGR, 3 REMOTE; 9 for a bank set. -/
def State.opKind (s : State) (c : Nat) (im : PlanImage) (op : Nat) : Nat :=
  match s.opRange c im op with
  | some x => x.1.kind
  | none => 9

/-- Bytes of an operand: one bank for a bank set, LENGTH for a BUFFERS entry. -/
def PlanImage.opLen (im : PlanImage) (op : Nat) : Nat :=
  if op = 0xFFFF then 0 else if 0x8000 ≤ op then 0x20000
  else match im.bufs[op]? with | some b => b.length | none => 0

/-- The spans of device memory behind an operand. -/
def State.opSpans (s : State) (c : Nat) (im : PlanImage) (op : Nat) : List (Nat × Nat) :=
  if op = 0xFFFF then []
  else if 0x8000 ≤ op then (im.setBanks (op - 0x8000)).map (fun b => (bankLa b, 0x20000))
  else match s.opRange c im op with
    | some (r, b) => if r.kind = 1 then laSpans (r.segs b.offset b.length) else []
    | none => []

/-- The banks that a BUFFERS operand lies in. -/
def State.opBanks (s : State) (c : Nat) (im : PlanImage) (op : Nat) : List Nat :=
  (s.opSpans c im op).flatMap (fun p =>
    if p.1 < 0x100000000 && p.2 != 0 then rangeFrom (p.1 / 0x20000) ((p.1 + p.2 - 1) / 0x20000 + 1 - p.1 / 0x20000) else [])

/-- The dies that an operand lies on; LPDDR5X, the host and other devices lie behind the H-die (R210). -/
def State.opDies (s : State) (c : Nat) (im : PlanImage) (op : Nat) : List Nat :=
  if op = 0xFFFF then []
  else if 0x8000 ≤ op then ((im.setBanks (op - 0x8000)).map bankDie).eraseDups
  else if (streamOf 2 op).isSome then [0]
  else match s.opBanks c im op with
    | [] => [3]
    | l => (l.map bankDie).eraseDups

/-! ## Package links (R210) -/

/-- The package link between two dies (Table 1.3). -/
def dieLink (a b : Nat) : Option Nat :=
  match min a b, max a b with
  | 0, 1 => some 0 | 0, 2 => some 1 | 1, 2 => some 2 | 1, 3 => some 3 | 2, 3 => some 4 | 0, 3 => some 5 | _, _ => none

/-- Granules per beat that a package link carries in each direction (Table 1.3): 128 GB/s or 64 GB/s. -/
def linkGranules (l : Nat) : Nat := if l = 2 || l = 5 then 5000 else 10000

/-- Granules per beat that a record's claims reserve on a link. -/
def PlanImage.linkShare (im : PlanImage) (r : Rec) (l : Nat) : Nat :=
  sumNat (((im.recClaims r).filter (fun k => k.kind == 7 && decide (k.first ≤ l) && decide (l < k.first + k.count))).map (·.p0))

/-- Granules that operands move over a link toward a unit on die `ud`, or away from it: (operand, granules) pairs. -/
def Adm.crossing (a : Adm) (ud l : Nat) (ops : List (Nat × Nat)) : Nat :=
  sumNat ((ops.filter (fun o => (a.s.opDies a.c a.im o.1).any (fun d => dieLink ud d == some l))).map (·.2))

/-- A record's shares carry what its operands move across every link (R210). -/
def Adm.sharesOk (a : Adm) (r : Rec) (ud : Nat) (ins outs : List (Nat × Nat)) : Bool :=
  (rangeFrom 0 6).all (fun l =>
    decide (ceilDiv (a.crossing ud l ins) r.issue ≤ a.im.linkShare r l) &&
    decide (ceilDiv (a.crossing ud l outs) r.issue ≤ a.im.linkShare r l))

/-! ## What the records move -/

/-- The program of a CHAIN_OP record, as it was read. -/
def Adm.prog (a : Adm) (r : Rec) : Option ChainProg := (a.progs.find? (fun x => x.1 == r.prog)).map (·.2)

/-- The program of a DMX_RUN record, when it is resident with an equal CRC. -/
def Adm.dmxProg (a : Adm) (r : Rec) : Option (List DInstr) :=
  match tfind a.s.progs (progKey a.c r.progId) with
  | some p => if p.crc = r.progCrc then some p.code else none
  | none => none

def DInstr.isMove : DInstr → Bool
  | .move .. => true
  | _ => false

/-- The MOVEs of a DMX_RUN record's expanded program, with their offsets. -/
def Adm.moves (a : Adm) (r : Rec) : List (DInstr × Exec) :=
  match a.dmxProg r with
  | some code => (((expandProg code).getD []).map (fun e => (code.getD e.idx .fin, e))).filter (fun m => m.1.isMove)
  | none => []

/-- Operand numbers of a MOVE: source and destination. -/
def DInstr.ends : DInstr → Nat × Nat
  | .move s d .. => (s, d)
  | _ => (0, 0)

/-- Bytes that a record reads and writes as pairs (operand, bytes), and the die of its unit. -/
def Adm.traffic (a : Adm) (r : Rec) : List (Nat × Nat) × List (Nat × Nat) × Nat :=
  match r.kind with
  | 1 =>
    let ls := match a.s.recModel a.c a.im r with | some m => m.recLayers r | none => []
    ([(r.inBuf, (ls.head?.map Layer.inBytes).getD 0)], [(r.outBuf, (ls.getLast?.map Layer.outBytes).getD 0)],
      1 + a.im.recUnit r 1 / 15)
  | 2 => match a.prog r with
    | some p =>
      let t := ChainProg.traffic p r.chainCount
      ([(r.inBuf, t.1), (r.in2, t.2.1)], [(r.outBuf, t.2.2)], 1 + a.im.recUnit r 2 / 4)
    | none => ([], [], 1 + a.im.recUnit r 2 / 4)
  | 3 => ([(r.inBuf, 2 * r.sortN)], [(r.outBuf, 128 * ceilDiv (2 * r.sortK) 64)], 1 + a.im.recUnit r 3 / 2)
  | 4 => ([(r.inBuf, deltaOfs r.detN + 8 * r.detN)], [(r.outBuf, 64 + 16 * r.outMax)], 1 + a.im.recUnit r 3 / 2)
  | 9 => ([(r.inBuf, r.xLen)], [], 3)
  | _ => ([], [], 3)

/-- Granules of bytes, operand by operand. -/
def inGranules (l : List (Nat × Nat)) : List (Nat × Nat) := l.map (fun x => (x.1, ceilDiv x.2 64))

/-- Granules that a DMX_RUN record's moves read and write, operand by operand. -/
def Adm.dmxGranules (a : Adm) (r : Rec) : List (Nat × Nat) × List (Nat × Nat) :=
  let l := (a.moves r).map (fun m => (m.1.ends, a.s.moveGranules a.c a.im r m.1 m.2.so m.2.dofs))
  (l.map (fun x => (r.operand x.1.1, x.2.1)), l.map (fun x => (r.operand x.1.2, x.2.2)))

/-! ## Acquisition -/

/-- Channels of an ACQ_ARM record. -/
def Rec.acqChans (r : Rec) : List Nat := (rangeFrom 0 8).filter (fun n => bit (bits r.op0 7 0) n)

/-- Each channel of an ACQ_ARM record with the profile it uses (R169). -/
def Adm.acqProfiles (a : Adm) (r : Rec) : List (Nat × Nat) :=
  r.acqChans.map (fun n => (n, (a.s.acq n).profile (bits r.op0 11 8)))

/-- B: the bytes of the channels' segments (R165, R170). -/
def Adm.acqBytes (a : Adm) (r : Rec) : Nat := sumNat ((a.acqProfiles r).map (fun x => segBytes x.2 (pLen x.2)))

/-- One sample of a profile's source in units of 1/256 tick (R170, R186). -/
def State.sampleUnits (s : State) (n p : Nat) : Nat := s.rawPeriod n / 32 * (if pDfc p then (s.dfc n).d else 1)

/-- Bytes of the patch that a patch-mode record writes, over the ports that it may be built on (R139). -/
def Adm.patchBytes (a : Adm) (r : Rec) : Nat :=
  maxNat ((a.im.recUnits r 12).map (fun n =>
    let q := (a.s.port n).profile (bits r.op0 7 4)
    numField q 0 1 * numField q 1 1 * 4))

def Rec.patchMode (r : Rec) : Bool := r.kind == 6 && !bit r.op0 0
def Rec.predictMode (r : Rec) : Bool := r.kind == 6 && bit r.op0 0

/-- How many records of a class can be at work at once: ceil(SPAN / MIN_GAP). -/
def ARec.depth (x : ARec) : Nat :=
  match x.cls with
  | some d => ceilDiv x.rcd.span (max 1 d.minGap)
  | none => 0

end Sys2Proof.Machine
end

