-- ==== Sys2Proof/Machine/AdmitUnits.lean ====
section
/-! DEFINITION. The admission checks that the unit chapters set for their records: check 0x01 (R117, R137, R170, R205, R225,
R231, R233, R297, R387) and the parts of checks 0x04 to 0x07 that speak of one record. Each answers whether the record
offends. -/

namespace Sys2Proof.Machine

/-- An operand value names a BUFFERS entry or a bank set of the plan; 0xFFFF names none (Table 3.5). -/
def PlanImage.opOk (im : PlanImage) (op : Nat) : Bool :=
  op == 0xFFFF || (if 0x8000 ≤ op then im.claims.any (fun k => k.kind == 4 && k.p0 != 0 && k.p0 + 0x8000 == op)
                   else decide (op < im.bufs.length))

/-- Bits of an OP word that are reserved are zero: the word lies under a mask of its fields. -/
def opBits (w mask : Nat) : Bool := w ||| mask == mask

/-- A mask of bits `[hi:lo]`. -/
def maskBits (hi lo : Nat) : Nat := (2 ^ (hi + 1 - lo) - 1) * 2 ^ lo

/-! ## Check 0x01 -/

/-- TINE_RUN (R205). The tests on layers are made only when the model is resident with the HASH_LO of its MODELS entry. -/
def Adm.tineImage (a : Adm) (r : Rec) : Bool :=
  let chain (l : List Layer) : Bool := (l.zip (l.drop 1)).all (fun p =>
    p.2.ih == p.1.ohN && p.2.iw == p.1.owN && p.2.c == p.1.k && p.2.dtype == p.1.dtype)
  (a.im.recUnits r 1).length != 1 || r.span != r.issue || r.model == 0xFFFF || r.inBuf == 0xFFFF || r.outBuf == 0xFFFF ||
  !opBits r.op0 (maskBits 19 0) || !opBits r.op1 (maskBits 23 0) || !opBits r.op2 (maskBits 14 0 + maskBits 30 16) ||
  !within r.layerCount 1 16 || (if r.freq then !within r.chainN 1 4 || r.layerCount != 1 else r.chainN != 0) ||
  (match a.s.recModel a.c a.im r with
   | some m =>
     let ls := m.recLayers r
     decide (m.layers.length < r.layerFirst + r.layerCount) || bits r.op0 7 0 != maxNat (ls.map (·.fh)) ||
       bits r.op0 15 8 != maxNat (ls.map (·.fw)) || !chain ls
   | none => false)

/-- A BUFFERS entry that check 0x02 would pass: a range pinned in the context (R268). -/
def State.bufPinned (s : State) (c : Nat) (b : BufRef) : Bool :=
  match s.rangeById c b.rangeId with
  | some (_, r) => [0, 1, 3].contains r.kind && !r.revoked && decide (b.offset + b.length ≤ r.len) && covers r.rights b.rights
  | none => false

/-- CHAIN_OP (R225), with its program when the program's buffer is pinned (R223). -/
def Adm.chainImage (a : Adm) (r : Rec) : Bool :=
  (a.im.recUnits r 2).length != 1 || r.inBuf == 0xFFFF || r.outBuf == 0xFFFF || !opBits r.op0 (maskBits 30 0) ||
  !opBits r.op1 (maskBits 15 0) || !within r.chainCount 1 16384 || !a.im.opOk r.in2 ||
  (match a.im.bufs[r.prog]? with
   | some b => b.length != 768 || (a.s.bufPinned a.c b &&
       !(match a.prog r with | some p => ChainProg.valid p r.chainCount | none => false))
   | none => true)

/-- The units of a record are exactly one PPU channel of a kind, and no unit of another kind (R231, R233). -/
def Adm.onePpu (a : Adm) (r : Rec) (d : Nat) : Bool :=
  (match a.im.recUnits r 3 with | [u] => u % 2 == d | _ => false) &&
  (a.im.recClaims r).all (fun k => !([1, 2, 5, 11, 12] : List Nat).contains k.kind)

/-- PPU_SORT (R231). -/
def Adm.sortImage (a : Adm) (r : Rec) : Bool :=
  !a.onePpu r 0 || r.inBuf == 0xFFFF || r.outBuf == 0xFFFF || !opBits r.op0 (maskBits 16 0 + maskBits 24 24) ||
  !opBits r.op1 (maskBits 10 0) || !within r.sortN 1 65536 || !within r.sortK 1 1024 || decide (r.sortN < r.sortK)

/-- PPU_DETECT (R233). -/
def Adm.detectImage (a : Adm) (r : Rec) : Bool :=
  !a.onePpu r 1 || r.inBuf == 0xFFFF || r.outBuf == 0xFFFF || !opBits r.op0 (maskBits 13 0 + maskBits 28 16) ||
  !opBits r.op1 (maskBits 8 0 + maskBits 23 16) || !within r.detN 1 8192 || !within r.cand 1 4096 ||
  !within r.outMax 1 256 || !within r.iouTh 1 255 || decide (r.detN < r.cand) || decide (r.cand < r.outMax) ||
  (match a.im.bufs[r.anch]? with
   | some b => b.length != 8 * r.detN || !bit b.rights 0
   | none => true)

/-- DMX_RUN (R297). The tests on MOVEs and WAITs are made on the resident program; without it check 0x06 refuses. -/
def Adm.dmxImage (a : Adm) (x : ARec) : Bool :=
  let r := x.rcd
  let auxOk (o : Nat) : Bool := (streamOf 2 o).isSome || (a.im.opOk o && !(within o 0x4000 0x7FFF))
  (a.im.recUnits r 5).length != 1 || !opBits r.op0 (maskBits 17 0) || !auxOk (r.aux 0) || !auxOk (r.aux 1) ||
  ((a.dmxProg r).getD []).any (fun i =>
    match i with
    | .move src dst .. =>
      r.operand src == 0xFFFF || r.operand dst == 0xFFFF || !i.xfer.ok || (streamOf dst (r.operand dst)).isSome ||
      ((streamOf src (r.operand src)).isSome && i.xfer.xform != 0)
    | .wait 1 _ _ _ => !x.isItem
    | _ => false)

/-- EVP_PATCH (R137). -/
def Adm.evpImage (x : ARec) : Bool :=
  let r := x.rcd
  !x.isItem || r.issue != 1 || !opBits r.op0 (maskBits 0 0 + maskBits 10 4 + maskBits 21 16) || !opBits r.op2 (maskBits 19 0) ||
  (if r.patchMode then decide (r.span < 2) || r.outBuf == 0xFFFF
   else decide (2 ^ 24 ≤ r.op1) || !within r.op2 2 50000)

/-- ACQ_ARM (R169, R170). -/
def Adm.acqImage (a : Adm) (x : ARec) : Bool :=
  let r := x.rcd
  let src := bits r.op0 14 12
  let line := bits r.op0 21 16
  let delay := bits r.op1 23 0
  let period := bits r.op2 15 0
  let counts := (a.acqProfiles r).map (fun y => pCount y.2)
  !x.isItem || r.issue != 1 || decide (r.span < 2) || !opBits r.op0 (maskBits 14 0 + maskBits 21 16) ||
  !opBits r.op1 (maskBits 23 0) || !opBits r.op2 (maskBits 15 0) || src == 7 ||
  (if src = 4 || src = 5 then false else if src = 2 then decide (7 < line) else line != 0) ||
  (!(src == 3 || src == 4 || src == 6) && delay != 0) ||
  (if (src = 4 || src = 6) && counts.any (fun n => decide (1 < n)) then period == 0 else period != 0) ||
  !(decide (0x8000 ≤ r.inBuf) && r.inBuf != 0xFFFF)

/-- STROBE (R117, Table 5.2). -/
def Adm.strobeImage (r : Rec) : Bool :=
  !opBits r.op0 (maskBits 9 0 + maskBits 25 16) || !opBits r.op1 (maskBits 23 0) || decide (1 < bits r.op0 3 2) ||
  !within (bits r.op0 25 16) 1 1024 || (bits r.op0 3 2 == 1 && decide (r.op1 < 512)) || !within (bits r.op2 15 0) 128 65535 ||
  decide (bits r.op2 31 16 = 0) || decide (bits r.op2 31 16 * 256 ≤ bits r.op2 15 0)

/-- HERD_XFER (R386, R387). -/
def Adm.xferImage (a : Adm) (r : Rec) : Bool :=
  let slots := a.im.recUnits r 6
  !opBits r.op0 (maskBits 2 0 + maskBits 5 4 + maskBits 13 8) || !opBits r.op1 (maskBits 23 0) || r.xLen == 0 ||
  r.inBuf == 0xFFFF || r.outBuf != 0xFFFF || r.xMember == a.s.self || decide (a.im.memberCount ≤ r.xMember) ||
  decide (r.span < r.issue + 2) || slots == [] || slots.any (fun n => n / 256 != r.xLink)

/-- A record offends against check 0x01: its indices and its unit's rules (R47, R205 and the rules above). -/
def Adm.recImage (a : Adm) (x : ARec) : Bool :=
  let r := x.rcd
  decide (a.im.claims.length < r.claimFirst + r.claimCount) || !(r.model == 0xFFFF || decide (r.model < a.im.models.length)) ||
  !a.im.opOk r.inBuf || !a.im.opOk r.outBuf || (!x.isItem && r.memOps.any (fun o => decide (0x8000 ≤ o))) ||
  (match r.kind with
   | 1 => a.tineImage r
   | 2 => a.chainImage r
   | 3 => a.sortImage r
   | 4 => a.detectImage r
   | 5 => a.dmxImage x
   | 6 => Adm.evpImage x
   | 7 => a.acqImage x
   | 8 => Adm.strobeImage r
   | _ => a.xferImage r)

/-! ## Check 0x04: what a record uses and claims (R454) -/

/-- An operand's memory is claimed within the record's own range: its bank set, its banks, its DRAM window. -/
def Adm.opClaimed (a : Adm) (r : Rec) (op : Nat) : Bool :=
  if 0x8000 ≤ op then (a.im.recClaims r).any (fun k => k.kind == 4 && k.p0 != 0 && k.p0 + 0x8000 == op)
  else (a.s.opBanks a.c a.im op).all (fun b => a.im.recHas r 4 b) &&
    (match a.s.bufChannel a.c a.im op with
     | some ch => a.im.recHas r 14 ch
     | none => true)

/-- TINE_RUN with FREQ: exactly CHAIN_N chain units of the engine's die (R211). -/
def Adm.freqUnits (a : Adm) (r : Rec) : Bool :=
  let us := a.im.recUnits r 2
  us.length == r.chainN && us.all (fun u => u / 4 == a.im.recUnit r 1 / 15)

/-- DMX_RUN: its operands, semaphores and streams (R287, R297). -/
def Adm.dmxClaims (a : Adm) (r : Rec) : Bool :=
  r.memOps.all (fun o => a.s.opKind a.c a.im o != 3) &&
  (a.moves r).all (fun m => a.s.opKind a.c a.im (r.operand m.1.ends.1) != 0) &&
  ((a.dmxProg r).getD []).all (fun i => match i with | .wait 2 n _ _ => a.im.hasClaim 5 n | _ => true) &&
  [r.aux 0, r.aux 1].all (fun o =>
    match streamOf 2 o with
    | some n => (rangeFrom (a.s.dfc n).ringFirst (a.s.dfc n).ringBanks).all (fun b => a.im.hasClaim 4 b)
    | none => true)

/-- EVP_PATCH: the port's builders and the link share of a patch, the line and the encoder of a prediction (R141). -/
def Adm.evpClaims (a : Adm) (x : ARec) : Bool :=
  let r := x.rcd
  if r.patchMode then
    a.im.recUnits r 12 != [] &&
    (a.im.recUnits r 12).all (fun n =>
      let need := sumNat ((a.recs.filter (fun y => y.rcd.patchMode && a.im.recHas y.rcd 12 n)).map ARec.depth)
      (a.im.claims.filter (fun k => k.kind == 12 && decide (k.first ≤ n) && decide (n < k.first + k.count))).all
        (fun k => decide (need ≤ k.p0))) &&
    (a.s.opDies a.c a.im r.outBuf).all (fun d =>
      match dieLink 0 d with
      | some l => decide (ceilDiv (a.patchBytes r) 64 ≤ a.im.linkShare r l)
      | none => true)
  else
    a.im.recHas r 13 a.im.enc && a.im.recUnits r 12 == [] &&
    a.recs.any (fun y => y.isItem && y.idx != x.idx && (y.cls.map (·.cls)) == (x.cls.map (·.cls)) &&
      a.im.recHas y.rcd 10 (bits r.op0 21 16))

/-- ACQ_ARM: channels, recorders, history, trains and the link share (R170, R194). -/
def Adm.acqClaims (a : Adm) (x : ARec) : Bool :=
  let r := x.rcd
  let src := bits r.op0 14 12
  let total := a.acqBytes r
  (a.acqProfiles r).all (fun y =>
    let n := y.1
    let p := y.2
    a.im.recHas r 11 n && (a.s.acqState n == 0 || a.s.acqState n == 6) &&
    decide (sumNat ((a.recs.filter (fun z => z.rcd.kind == 7 && a.im.recHas z.rcd 11 n)).map ARec.depth) ≤ 4) &&
    decide (pPre p * pDec p ≤ (if pDfc p then 2048 else 128 * a.s.rawPerTick n)) &&
    (src != 3 || pCount p == 1) &&
    (!((src == 4 || src == 6) && decide (1 < pCount p)) ||
      decide ((pLen p * pDec p + 32 + pPre p * pDec p) * a.s.sampleUnits n p ≤ bits r.op2 15 0 * 256)) &&
    (!pDfc p || a.s.dfcState n == 2)) &&
  (!(src == 4 || src == 5) || a.im.recHas r 10 (bits r.op0 21 16)) &&
  (a.s.opDies a.c a.im r.outBuf).all (fun d =>
    match dieLink 0 d with
    | some l => decide (ceilDiv total 64 ≤ a.im.linkShare r l)
    | none => true)

/-- A record offends against check 0x04 by itself. -/
def Adm.recClaimsBad (a : Adm) (x : ARec) : Bool :=
  let r := x.rcd
  !r.memOps.all (a.opClaimed r) ||
  !(match r.kind with
    | 1 => (!r.freq || a.freqUnits r) && r.memOps.all (fun o => !([0, 3] : List Nat).contains (a.s.opKind a.c a.im o))
    | 2 | 3 | 4 => r.memOps.all (fun o => !([0, 3] : List Nat).contains (a.s.opKind a.c a.im o))
    | 5 => a.dmxClaims r
    | 6 => a.evpClaims x
    | 7 => a.acqClaims x
    | 8 => a.im.recHas r 9 (bits r.op0 1 0) && (bits r.op0 3 2 != 1 || a.im.recHas r 10 (bits r.op0 9 4))
    | 9 => ((a.im.recClaims r).filter (fun k => k.kind == 6)).all (fun k => within k.p0 1 240) &&
        decide (r.xLen ≤ r.issue * sumNat ((a.im.slotsOf r r.xLink).map (·.2)))
    | _ => true)

/-! ## Check 0x05 -/

/-- The cycle count that the device charges a record; none for the kinds that have none, or whose model or program is not
resident (R205). -/
def Adm.cycles (a : Adm) (r : Rec) : Option Nat :=
  match r.kind with
  | 1 => (a.s.recModel a.c a.im r).map (fun m => a.s.tineCycles a.c a.im r (m.recLayers r))
  | 2 => (a.prog r).map (fun p => a.s.chainCycles a.c a.im r p)
  | 3 => some (a.s.sortCycles a.c a.im r)
  | 4 => some (a.s.detectCycles a.c a.im r)
  | 5 => (a.dmxProg r).map (fun code => a.s.dmxCycles a.c a.im r code ((expandProg code).getD []))
  | _ => none

/-- The condition of R298 on a stream source. -/
def Adm.streamTimeOk (a : Adm) (r : Rec) : Bool :=
  ((a.dmxProg r).getD []).all (fun i =>
    match i with
    | .move src _ _ _ _ _ _ _ _ _ _ _ lines blag =>
      match streamOf src (r.operand src) with
      | some n => decide (2 ≤ blag) && decide (blag + (lines - 1) + (r.span - 1) ≤ (a.s.dfc n).slots (a.s.rawPerTick n))
      | none => true
    | _ => true)

/-- Where an ACQ_ARM train ends (R170), in 1/256 tick, against the end of the beat before the record's last. -/
def Adm.acqTimeOk (a : Adm) (r : Rec) : Bool :=
  let src := bits r.op0 14 12
  !(src == 4 || src == 6) ||
  (a.acqProfiles r).all (fun y =>
    decide (bits r.op1 23 0 + (pCount y.2 - 1) * bits r.op2 15 0 * 256 + (pLen y.2 - pPre y.2) * pDec y.2 * a.s.sampleUnits y.1 y.2 ≤
      (r.span - (if src = 4 then 2 else 1)) * 128000))

/-- A record offends against check 0x05 (Table 3.12, R117, R170, R297). -/
def Adm.recTimeBad (a : Adm) (x : ARec) : Bool :=
  let r := x.rcd
  (if x.isItem then decide (a.im.lat < r.beat + r.span + 7) else decide (a.im.cyc < r.beat + r.span)) ||
  (match a.cycles r with
   | some n => decide (r.issue * (if r.kind = 5 then 4000 else 6000) < n + r.slack)
   | none => false) ||
  (match r.kind with
   | 5 => (match a.dmxProg r with | some code => (expandProg code).isNone | none => false) || !a.streamTimeOk r
   | 7 => !a.acqTimeOk r
   | 8 => decide (r.span * 128000 < (if bits r.op0 3 2 = 1 then 128000 else 0) + r.op1 +
       (bits r.op0 25 16 - 1) * bits r.op2 31 16 * 256 + bits r.op2 15 0)
   | _ => false)

/-! ## Check 0x06 -/

/-- Every span of a MOVE lies within its operands: the stream's block, a bank, or LENGTH (R297). -/
def Adm.moveFits (a : Adm) (r : Rec) (m : DInstr × Exec) : Bool :=
  let inside (n : Nat) (l : List (Int × Nat)) : Bool := l.all (fun p => decide (0 ≤ p.1) && decide (p.1 + (p.2 : Int) ≤ (n : Int)))
  match m.1 with
  | .move src dst _ _ _ _ len sofs dofs _ _ _ _ _ =>
    (match streamOf src (r.operand src) with
     | some n => inside ((a.s.dfc n).blockBytes (a.s.rawPerTick n)) [((sofs : Nat) + m.2.so, len)]
     | none => inside (a.im.opLen (r.operand src)) (m.1.xfer.srcSpans ((sofs : Nat) + m.2.so))) &&
    inside (a.im.opLen (r.operand dst)) (m.1.xfer.dstSpans ((dofs : Nat) + m.2.dofs))
  | _ => true

/-- The DRAM conditions of R246 on one record. -/
def Adm.dramBad (a : Adm) (x : ARec) : Bool :=
  let r := x.rcd
  let chans := r.memOps.filterMap (a.s.bufChannel a.c a.im)
  let wins (ch : Nat) : List Claim :=
    (a.im.recClaims r).filter (fun k => k.kind == 14 && decide (k.first ≤ ch) && decide (ch < k.first + k.count))
  let c := max 1 a.im.cyc
  let holds (k : Claim) : Bool :=
    if x.isItem then k.p0 == a.im.cyc * 65536
    else k.p0 / 65536 == a.im.cyc || decide ((r.beat + c - k.p0 % 65536 % c) % c + r.span ≤ k.p0 / 65536)
  (r.dram && chans.any (fun ch => !(wins ch).any holds)) ||
  r.memOps.any (fun o =>
    (a.s.bufChannel a.c a.im o).isSome &&
    (match a.im.bufs[o]? with
     | some b => b.offset % 64 != 0 || b.length % 64 != 0
     | none => false))

/-- A record offends against check 0x06 by itself (R141, R170, R207, R225, R246, R297, R387). -/
def Adm.recMemoryBad (a : Adm) (x : ARec) : Bool :=
  let r := x.rcd
  a.dramBad x ||
  !(match r.kind with
    | 1 => match a.s.recModel a.c a.im r with
      | some m =>
        let ls := m.recLayers r
        decide ((ls.head?.map Layer.inBytes).getD 0 ≤ a.im.opLen r.inBuf) &&
        decide ((ls.getLast?.map Layer.outBytes).getD 0 ≤ a.im.opLen r.outBuf)
      | none => false
    | 2 => match a.prog r with
      | some p =>
        let t := ChainProg.traffic p r.chainCount
        decide (64 * r.inGran + t.1 ≤ a.im.opLen r.inBuf) && decide (64 * r.outGran + t.2.2 ≤ a.im.opLen r.outBuf) &&
        (t.2.1 == 0 || decide (64 * ChainProg.in2Gran p + t.2.1 ≤ a.im.opLen r.in2))
      | none => false
    | 3 => decide (64 * r.inGran + 2 * r.sortN ≤ a.im.opLen r.inBuf) &&
        decide (64 * r.outGran + 64 * ceilDiv (2 * r.sortK) 64 + 2 * r.sortK ≤ a.im.opLen r.outBuf)
    | 4 => decide (deltaOfs r.detN + 8 * r.detN ≤ a.im.opLen r.inBuf) && decide (64 + 16 * r.outMax ≤ a.im.opLen r.outBuf)
    | 5 => (a.dmxProg r).isSome && (a.moves r).all (a.moveFits r)
    | 6 => !r.patchMode || decide (a.patchBytes r ≤ a.im.opLen r.outBuf)
    | 7 =>
      let banks := a.im.setBanks (r.inBuf - 0x8000)
      banks.all (fun b => decide (b < 0x80) && (rangeFrom 0 8).all (fun n =>
        a.s.acqState n == 0 || a.s.acqState n == 6 || !(a.s.acq n).region.contains b)) &&
      decide (a.acqBytes r ≤ 0x20000) &&
      (if r.outBuf = 0xFFFF then r.span == 2 else decide (a.acqBytes r ≤ a.im.opLen r.outBuf))
    | 9 =>
      match a.s.herd.exports.find? (fun e => e.device == r.xMember && e.window == r.xWindow) with
      | some e =>
        let step := ceilDiv r.xLen 64 * 64
        e.planned && bit e.rights 1 &&
        decide (r.op2 + (if x.isItem then (a.im.slots * a.im.q - 1) * step else 0) + r.xLen ≤ e.len)
      | none => false
    | _ => true)

/-! ## Check 0x07 -/

/-- A record offends against check 0x07 by itself (R210, R228, R297, R387). -/
def Adm.recLinkBad (a : Adm) (x : ARec) : Bool :=
  let r := x.rcd
  !(match r.kind with
    | 1 | 2 | 3 | 4 =>
      let t := a.traffic r
      a.sharesOk r t.2.2 (inGranules t.1) (inGranules t.2.1)
    | 5 => let g := a.dmxGranules r; a.sharesOk r 3 g.1 g.2
    | 9 =>
      a.s.linkUp r.xLink && a.s.peer r.xLink == r.xMember &&
      (a.im.recUnits r 6).all (fun n => decide (n % 256 < 50 * a.s.linkWidth (n / 256))) &&
      a.sharesOk r 3 (inGranules [(r.inBuf, r.xLen)]) []
    | _ => true)

end Sys2Proof.Machine
end

