-- ==== Sys2Proof/Machine/Admit.lean ====
section
/-! DEFINITION. The admission checks of Table 3.12 on a whole plan, 0x01 to 0x0A, in the order of the table (R54). Each answers
the refusal, if any: its status and DETAIL. -/

namespace Sys2Proof.Machine

/-! ## 0x01 IMAGE -/

/-- The FIRST sequence of a section of a Herd plan is not one: it begins at 0, never decreases, and ends within its section
(R382). -/
def PlanImage.firstBad (im : PlanImage) (off n count : Nat) : Bool :=
  let l := (rangeFrom 0 im.memberCount).map (fun m => im.herdField (off + n * m) n)
  l.headD 0 != 0 || (l.zip (l.drop 1)).any (fun p => decide (p.2 < p.1)) || l.any (fun x => decide (count < x))

/-- The claims of a record lie within a part of the claim table. -/
def Rec.claimsIn (r : Rec) (p : Nat × Nat) : Bool := decide (p.1 ≤ r.claimFirst) && decide (r.claimFirst + r.claimCount ≤ p.2)

/-- The structure of a Herd plan (R382), on the image as it was loaded. -/
def herdShape (w : PlanImage) : Option (Nat × Nat) :=
  if w.isHerd = false then none
  else if w.herdField 1 1 != 0xFF || !within w.memberCount 1 8 || decide (w.memberCount ≤ w.herdField 2 1) ||
      w.firstBad 0x04 2 w.claims.length || w.firstBad 0x14 2 w.cycRecs.length || w.firstBad 0x24 1 w.classes.length ||
      w.firstBad 0x2C 1 w.rules.length || w.firstBad 0x34 1 w.rejects.length then deny stImageBad 1 0
  else (rangeFrom 0 w.memberCount).findSome? (fun m =>
    let mine := slice w.classes (w.classPart m)
    eachOf (slice (indexed w.rules) (w.rulePart m)) stImageBad 1 (fun (r : Rule) => !mine.any (fun d => d.cls == r.cls)) <|>
    eachOf (slice (indexed w.cycRecs) (w.cycPart m)) stImageBad 1 (fun (r : Rec) => !r.claimsIn (w.claimPart m)) <|>
    eachOf (mine.flatMap (fun d => ((indexed w.itemRecs).drop d.recFirst).take d.recCount)) stImageBad 1
      (fun (r : Rec) => !r.claimsIn (w.claimPart m)))

/-- A verdict rule's sources and class (R51). -/
def PlanImage.verdictRefs (im : PlanImage) (v : VerdictRule) : Bool :=
  im.classes.any (fun d => d.cls == v.cls) && (im.verdicts.filter (fun x => x.cls == v.cls)).length == 1 &&
  (v.nscores == 0) == (v.scoreSrc == 0xFFFF) && [v.scoreSrc, v.gradeSrc, v.paySrc].all im.opOk

def Adm.check1 (a : Adm) (whole : PlanImage) : Option (Nat × Nat) :=
  let known (c : Nat) : Bool := a.im.classes.any (fun d => d.cls == c)
  herdShape whole <|>
  a.eachRec stImageBad 1 a.recImage <|>
  eachOf (indexed a.im.rules) stImageBad 1 (fun (r : Rule) => !known r.cls) <|>
  eachOf (indexed a.im.verdicts) stImageBad 1 (fun v => !a.im.verdictRefs v) <|>
  eachOf (indexed a.im.rejects) stImageBad 1 (fun (r : RejectRule) => !known r.cls)

/-! ## 0x02 PINNED, 0x03 FILTER -/

/-- The operand values that a record names besides memory operands: the buffers of a chain program and an anchor table. -/
def Rec.bufRefs (r : Rec) : List Nat :=
  r.memOps ++ (if r.kind = 2 then [r.prog] else if r.kind = 4 then [r.anch] else [])

/-- The BUFFERS entries that the device checks: all of them, or those that its partition references (R383). -/
def Adm.bufsUsed (a : Adm) : List (Nat × BufRef) :=
  if a.im.isHerd then
    let named := a.recs.flatMap (fun x => x.rcd.bufRefs) ++
      (a.im.ownVerdicts a.s.self).flatMap (fun v => [v.2.scoreSrc, v.2.gradeSrc, v.2.paySrc])
    (indexed a.im.bufs).filter (fun b => named.contains b.1)
  else indexed a.im.bufs

def Adm.check2 (a : Adm) : Option (Nat × Nat) := eachOf a.bufsUsed stUnpinned 2 (fun b => !a.s.bufPinned a.c b)

def Adm.check3 (a : Adm) : Option (Nat × Nat) :=
  a.eachRec stFilter 3 (fun x =>
    let r := x.rcd
    let fh := bits r.op0 7 0
    let fw := bits r.op0 15 8
    r.kind == 1 && !(if r.freq then within fh 13 31 && within fw 13 31 && fh % 2 == 1 && fw % 2 == 1 && a.im.recUnits r 2 != []
                     else decide (fh ≤ 11) && decide (fw ≤ 11)))

/-! ## 0x04 RESOURCE -/

/-- A domain in which a claim holds a resource. -/
def State.claimTouches (s : State) (d : Nat) (k : Claim) : Bool :=
  k.kind != 15 && k.kind != 0 && k.kind != 13 && (s.claimDomains k).contains d

/-- Domains of a KIND 15 claim. -/
def Claim.windowDoms (k : Claim) : List Nat := if k.kind = 15 then rangeFrom k.first k.count else []

/-- A claim that another plan's claims forbid: a common resource, or an idle window on a domain that the other plan uses
(R52). -/
def Adm.claimTaken (a : Adm) (k : Claim) : Bool :=
  a.others.any (fun o => o.claims.any (fun m =>
    k.meets m || k.windowDoms.any (fun d => a.s.claimTouches d m) || m.windowDoms.any (fun d => a.s.claimTouches d k)))

/-- Two records of a plan break R53; `g` is the MIN_GAP of the class they share. -/
def Adm.recsClash (a : Adm) (x y : ARec) : Bool :=
  let hs := commonHolds a.im a.im x.rcd y.rcd
  let same := x.idx == y.idx && x.isItem == y.isItem
  match x.cls, y.cls with
  | none, none => !same && hs.any (fun h => meetMod a.im.cyc x.rcd.beat h.1 y.rcd.beat h.2)
  | some d, some e =>
    if d.cls = e.cls then
      hs.any (fun h =>
        (!same && meetShift x.rcd.beat h.1 y.rcd.beat h.2 0 0) || meetShift x.rcd.beat h.1 y.rcd.beat h.2 d.minGap a.im.lat)
    else !hs.isEmpty
  | _, _ => !hs.isEmpty

/-- A record that breaks R53 with one that stands no later in the plan. -/
def Adm.clashesBefore (a : Adm) : List ARec → Option ARec
  | [] => none
  | y :: earlier =>
    match a.clashesBefore earlier with
    | some z => some z
    | none => if a.recsClash y y || earlier.any (fun x => a.recsClash x y || a.recsClash y x) then some y else none

/-- The program channels of an image with their shares (R287). -/
def PlanImage.chanShares (im : PlanImage) : List (Nat × Nat) :=
  (im.claims.filter (fun k => k.kind == 5)).flatMap (fun k => (rangeFrom k.first k.count).map (fun n => (n, k.p0)))

/-- The program channels that a plan's DMX_RUN records use. -/
def Adm.dmxChans (a : Adm) : List Nat := (a.recs.filter (fun x => x.rcd.kind == 5)).flatMap (fun x => a.im.recUnits x.rcd 5)

/-- The channels that write a HOST range: the verdict channel, and those whose programs move to one. -/
def Adm.hostChans (a : Adm) : List Nat :=
  let used := a.dmxChans
  (a.im.chanShares.map (·.1)).filter (fun n => !used.contains n ||
    a.recs.any (fun x => x.rcd.kind == 5 && (a.im.recUnits x.rcd 5).contains n &&
      (a.moves x.rcd).any (fun m => a.s.opKind a.c a.im (x.rcd.operand m.1.ends.2) == 0)))

/-- The admission view of a plan that is admitted already. -/
def State.admOf (s : State) (c : Nat) (im : PlanImage) : Adm := ⟨s, c, im, im.ownRecs s.self, none, []⟩

/-- The sum of shares over channels, a channel that both members of a swap pair claim counted once at its larger share. -/
def shareSum (l : List (Nat × Nat)) : Nat :=
  sumNat ((l.map (·.1)).eraseDups.map (fun n => maxNat ((l.filter (fun x => x.1 == n)).map (·.2))))

/-- R287: the sums over every live plan and the partner, of all channels and of the host-writing ones. -/
def Adm.sharesOver (a : Adm) : Bool :=
  let all := a.s.livePlans.map (fun p => a.s.admOf p.1 p.2.2.img) ++ [a]
  let part (b : Adm) (host : Bool) : List (Nat × Nat) :=
    let hs := b.hostChans
    b.im.chanShares.filter (fun x => !host || hs.contains x.1)
  decide (48 < shareSum (all.flatMap (fun b => part b false))) || decide (32 < shareSum (all.flatMap (fun b => part b true)))

/-- R301: exactly one channel that no DMX_RUN record uses, with a share that carries the plan's verdicts. -/
def Adm.verdictChanBad (a : Adm) : Bool :=
  let used := a.dmxChans
  match (a.im.chanShares.filter (fun x => !used.contains x.1)) with
  | [x] => decide (125 * x.2 / 2 < a.im.slots * (1 + maxNat ((a.im.ownVerdicts a.s.self).map (fun v => v.2.payGran))))
  | _ => true

/-- The semaphores that a record's program waits on. -/
def Adm.semsOf (a : Adm) (r : Rec) : List Nat :=
  if r.kind = 5 then ((a.dmxProg r).getD []).filterMap (fun i => match i with | .wait 2 n _ _ => some n | _ => none) else []

/-- Another channel's record waits on a semaphore of this record too (R297). -/
def Adm.semShared (a : Adm) (x : ARec) : Bool :=
  (a.semsOf x.rcd).any (fun n => a.recs.any (fun y => y.rcd.kind == 5 && (a.semsOf y.rcd).contains n &&
    a.im.recUnit y.rcd 5 != a.im.recUnit x.rcd 5))

/-- Predicted windows that can be open at once, of one plan (R141). -/
def Adm.predictDepth (a : Adm) : Nat := sumNat ((a.recs.filter (fun x => x.rcd.predictMode)).map ARec.depth)

def Adm.check4 (a : Adm) : Option (Nat × Nat) :=
  eachOf (indexed a.im.claims) stResource 4 a.claimTaken <|>
  (match a.clashesBefore a.recs.reverse with | some x => deny stResource 4 x.idx | none => none) <|>
  eachOf (indexed a.im.claims) stResource 4 (fun (k : Claim) => k.kind == 4 && (rangeFrom k.first k.count).any (fun b =>
    !bankClaimable b || (match a.s.localOwner b with | some c => c != a.c | none => false))) <|>
  a.eachRec stResource 4 a.recClaimsBad <|>
  a.eachRec stResource 4 a.semShared <|>
  (if 64 < a.predictDepth + sumNat ((a.s.livePlans.filter (fun p => !(p.1 == a.c && some p.2.1 == a.mate.map (·.1)))).map
      (fun p => (a.s.admOf p.1 p.2.2.img).predictDepth)) && a.predictDepth != 0 then
     a.eachRec stResource 4 (fun x => x.rcd.predictMode) else none) <|>
  (if a.verdictChanBad || a.sharesOver then
     eachOf (indexed a.im.claims) stResource 4 (fun (k : Claim) => k.kind == 5) <|> deny stResource 4 0 else none)

/-! ## 0x05 TIME -/

/-- A reject rule's least OFFSET (Table 3.12, R390). -/
def Adm.check5 (a : Adm) : Option (Nat × Nat) :=
  a.eachRec stTime 5 a.recTimeBad <|>
  eachOf (a.im.ownRejects a.s.self) stTime 5 (fun (r : RejectRule) =>
    let mine := (a.im.ownClasses a.s.self).any (fun d => d.cls == r.cls)
    decide (r.offset < a.im.vmax * (a.im.lat + (if mine then 1 else 2))))

/-! ## 0x06 MEMORY -/

/-- The MODELS entries that the device checks (R383). -/
def Adm.modelsUsed (a : Adm) : List (Nat × ModelRef) :=
  if a.im.isHerd then (indexed a.im.models).filter (fun m => a.recs.any (fun x => x.rcd.model == m.1)) else indexed a.im.models

def Adm.modelBad (a : Adm) (f : ModelRef) : Bool :=
  match a.s.model? a.c f.id with
  | some m => m.hash != f.hashLo || m.len != f.bytes
  | none => true

/-- Bank-set IDs of a plan. -/
def PlanImage.setIds (im : PlanImage) : List Nat :=
  ((im.claims.filter (fun k => k.kind == 4 && k.p0 != 0)).map (·.p0)).eraseDups

/-- A bank set without S × Q distinct banks. -/
def PlanImage.setBad (im : PlanImage) (k : Claim) : Bool :=
  k.kind == 4 && k.p0 != 0 &&
  (let l := im.setBanks k.p0
   l.length != im.slots * im.q || l.eraseDups.length != l.length)

/-- Operands by which a record touches a bank (R240). -/
def Rec.touches (r : Rec) (op : Nat) : Bool :=
  op != 0xFFFF && (r.inBuf == op || r.outBuf == op || (r.kind == 2 && r.in2 == op))

/-- The composer reads an operand (R51). -/
def VerdictRule.reads (v : VerdictRule) (op : Nat) : Bool :=
  op != 0xFFFF && ((v.nscores != 0 && v.scoreSrc == op) || v.gradeSrc == op || (v.payGran != 0 && v.paySrc == op))

/-- Two intervals [a, a + n) and [b, b + m) meet. -/
def spansMeet (a n b m : Nat) : Bool := decide (a < b + m) && decide (b < a + n)

/-- R240 for one class and one bank set: the index of the later record of the first two owners that meet. -/
def Adm.ownersMeet (a : Adm) (d : ClassD) (set : Nat) : Option Nat :=
  let op := set + 0x8000
  let own := a.recs.filter (fun x => x.cls.map (·.cls) == some d.cls && x.rcd.touches op)
  let composer := a.im.verdicts.any (fun v => v.cls == d.cls && v.reads op)
  (own.find? (fun y =>
    own.any (fun x => decide (x.idx < y.idx) && spansMeet x.rcd.beat x.rcd.span y.rcd.beat y.rcd.span) ||
    (composer && spansMeet y.rcd.beat y.rcd.span (a.im.lat - 7) 7))).map (·.idx)

def Adm.bankOwners (a : Adm) : Option (Nat × Nat) :=
  (a.im.ownClasses a.s.self).findSome? (fun d =>
    a.im.setIds.findSome? (fun set => match a.ownersMeet d set with | some i => deny stMemory 6 i | none => none))

/-- A KIND 14 window outside the cycle (R246). -/
def PlanImage.dramWindowBad (im : PlanImage) (k : Claim) : Bool :=
  k.kind == 14 && (decide (im.cyc ≤ k.p0 % 65536) || !within (k.p0 / 65536) 1 im.cyc)

/-- A plan's largest reservation on a channel over the beats of its cycle (R246). -/
def PlanImage.dramPeak (im : PlanImage) (ch : Nat) : Nat :=
  let wins := im.claims.filter (fun k => k.kind == 14 && decide (k.first ≤ ch) && decide (ch < k.first + k.count))
  let c := max 1 im.cyc
  maxNat (wins.map (fun w =>
    let t := w.p0 % 65536
    sumNat ((wins.filter (fun k => decide ((t + c - k.p0 % 65536 % c) % c < k.p0 / 65536))).map (·.p1))))

/-- The largest planned sum of a channel (Table 11.3). -/
def State.dramLimit (s : State) (ch : Nat) : Nat :=
  let r := s.get (F.MEMC_CH_CFG_MTS ch)
  if 8533 ≤ r then 1280 else if 7500 ≤ r then 1024 else if 6400 ≤ r then 768 else 0

/-- A KIND 14 claim on a channel whose planned sum is too large. -/
def Adm.dramOver (a : Adm) (k : Claim) : Bool :=
  k.kind == 14 && (rangeFrom k.first k.count).any (fun ch =>
    decide (a.s.dramLimit ch < a.im.dramPeak ch + sumNat (a.others.map (fun o => o.dramPeak ch))))

/-- The DRAM bytes that an operand covers, with whether the record writes it. -/
def Adm.dramSpans (a : Adm) (r : Rec) : List (Nat × Nat × Bool) :=
  let wr := (a.moves r).map (fun m => r.operand m.1.ends.2)
  r.memOps.flatMap (fun o =>
    if (a.s.bufChannel a.c a.im o).isSome then (a.s.opSpans a.c a.im o).map (fun p => (p.1, p.2, o == r.outBuf || wr.contains o)) else [])

/-- Two records touch a common byte of DRAM that one of them writes. -/
def Adm.dramShared (a : Adm) (x y : Rec) : Bool :=
  (a.dramSpans x).any (fun p => (a.dramSpans y).any (fun q => (p.2.2 || q.2.2) && spansMeet p.1 p.2.1 q.1 q.2.1))

/-- The holds of two distinct records can meet at all: of cycle records modulo C, of items of one class at entry beats that R59
allows, and of any other two at some beat. -/
def Adm.canMeet (a : Adm) (x y : ARec) : Bool :=
  match x.cls, y.cls with
  | none, none => meetMod a.im.cyc x.rcd.beat x.rcd.span y.rcd.beat y.rcd.span
  | some d, some e =>
    if d.cls = e.cls then
      meetShift x.rcd.beat x.rcd.span y.rcd.beat y.rcd.span 0 0 ||
      meetShift x.rcd.beat x.rcd.span y.rcd.beat y.rcd.span d.minGap a.im.lat ||
      meetShift y.rcd.beat y.rcd.span x.rcd.beat x.rcd.span d.minGap a.im.lat
    else true
  | _, _ => true

/-- A record shares written DRAM bytes with an earlier one at the same time (R246). -/
def Adm.dramClash (a : Adm) : List ARec → Option ARec
  | [] => none
  | y :: earlier =>
    match a.dramClash earlier with
    | some z => some z
    | none => if earlier.any (fun x => a.canMeet x y && a.dramShared x.rcd y.rcd) then some y else none

/-- A channel with a stream whose ring banks the plan does not claim as single banks (R194). -/
def Adm.ringUnclaimed (a : Adm) (k : Claim) : Bool :=
  k.kind == 11 && (rangeFrom k.first k.count).any (fun n =>
    (a.s.dfc n).stream && !(rangeFrom (a.s.dfc n).ringFirst (a.s.dfc n).ringBanks).all (fun b =>
      a.im.claims.any (fun m => m.kind == 4 && m.p0 == 0 && decide (m.first ≤ b) && decide (b < m.first + m.count))))

/-- A channel whose filter must be RUNNING (R194): check 0x04. -/
def Adm.streamOff (a : Adm) (k : Claim) : Bool :=
  k.kind == 11 && (rangeFrom k.first k.count).any (fun n => (a.s.dfc n).stream && a.s.dfcState n != 2)

/-- A region of an engine's local banks: the engine, its first granule and length, and for weights what they hold (HASH_LO, layers,
place). -/
structure Region where
  eng : Nat
  at_ : Nat
  len : Nat
  holds : Option (Nat × Nat × Nat)

/-- The weight and scratch regions of a TINE_RUN record (R206, R207). -/
def Adm.regionsOf (a : Adm) (x : ARec) : List Region :=
  if x.rcd.kind = 1 then
    match a.s.recModel a.c a.im x.rcd with
    | some m =>
      let ls := m.recLayers x.rcd
      let e := a.im.recUnit x.rcd 1
      let w := weightRegion x.rcd ls
      let t := scratchRegion x.rcd ls
      ⟨e, w.1, w.2, some (m.hash, x.rcd.layerFirst, x.rcd.layerCount)⟩ :: (if t.2 = 0 then [] else [⟨e, t.1, t.2, none⟩])
    | none => []
  else []

/-- Two regions of one engine that R207 does not let stand together. -/
def Region.bad (x y : Region) : Bool :=
  x.eng == y.eng && spansMeet x.at_ x.len y.at_ y.len &&
  !(x.at_ == y.at_ && x.len == y.len && x.holds.isSome && x.holds == y.holds)

/-- The first record whose regions leave the engine, or do not stand beside those of an earlier record or each other. -/
def Adm.regionBad (a : Adm) : List ARec → Option ARec
  | [] => none
  | y :: earlier =>
    match a.regionBad earlier with
    | some z => some z
    | none =>
      let mine := a.regionsOf y
      if mine.any (fun g => decide (32768 < g.at_ + g.len)) ||
         (match mine with | g :: t => t.any (fun k => g.bad k) | [] => false) ||
         earlier.any (fun x => (a.regionsOf x).any (fun g => mine.any (fun k => g.bad k))) then some y else none

/-- The distinct chain programs that records name on a unit. -/
def Adm.unitProgs (a : Adm) (u : Nat) : List Bytes :=
  ((a.recs.filter (fun x => x.rcd.kind == 2 && a.im.recUnit x.rcd 2 == u)).filterMap (fun x => a.prog x.rcd)).eraseDups

/-- The anchor entries that records name on a PPU, each table once: BUFFERS index and entries. -/
def Adm.ppuTables (a : Adm) (u : Nat) : List (Nat × Nat) :=
  ((a.recs.filter (fun x => x.rcd.kind == 4 && a.im.recUnit x.rcd 3 / 2 == u)).map (fun x => (x.rcd.anch, x.rcd.detN))).eraseDups

/-- Instructions of the programs that records name on a program channel, each program once (R299). -/
def Adm.chanCode (a : Adm) (n : Nat) : Nat :=
  let l := ((a.recs.filter (fun x => x.rcd.kind == 5 && a.im.recUnit x.rcd 5 == n)).map (fun x => x.rcd)).filterMap (fun r =>
    (a.dmxProg r).map (fun code => (r.progId, code.length)))
  sumNat (l.eraseDups.map (·.2))

/-- A record whose unit's stores the plan overflows (R226, R233, R299). -/
def Adm.storeOver (a : Adm) (x : ARec) : Bool :=
  let r := x.rcd
  match r.kind with
  | 2 => decide (64 < (a.unitProgs (a.im.recUnit r 2)).length)
  | 4 => decide (8192 < sumNat ((a.ppuTables (a.im.recUnit r 3 / 2)).map (·.2)))
  | 5 => decide (512 < a.chanCode (a.im.recUnit r 5))
  | _ => false

def Adm.check6 (a : Adm) : Option (Nat × Nat) :=
  eachOf a.modelsUsed stMemory 6 a.modelBad <|>
  eachOf (indexed a.im.claims) stMemory 6 a.im.setBad <|>
  a.bankOwners <|>
  eachOf (indexed a.im.claims) stMemory 6 (fun (k : Claim) => a.im.dramWindowBad k || a.dramOver k || a.ringUnclaimed k) <|>
  a.eachRec stMemory 6 a.recMemoryBad <|>
  (match a.dramClash a.recs.reverse with | some x => deny stMemory 6 x.idx | none => none) <|>
  (match a.regionBad a.recs.reverse with | some x => deny stMemory 6 x.idx | none => none) <|>
  a.eachRec stMemory 6 a.storeOver

/-! ## 0x07 LINK -/

/-- Granules per beat that an image's claims reserve on a package link. -/
def PlanImage.linkTotal (im : PlanImage) (l : Nat) : Nat :=
  sumNat ((im.claims.filter (fun k => k.kind == 7 && decide (k.first ≤ l) && decide (l < k.first + k.count))).map (·.p0))

/-- A KIND 7 claim on a link that is full, or a KIND 6 claim on slots that its link does not carry. -/
def Adm.claimUncarried (a : Adm) (k : Claim) : Bool :=
  (k.kind == 7 && (rangeFrom k.first k.count).any (fun l =>
    decide (linkGranules l < a.im.linkTotal l + sumNat (a.others.map (fun o => o.linkTotal l))))) ||
  (k.kind == 6 && (rangeFrom k.first k.count).any (fun n =>
    a.s.linkUp (n / 256) = false || decide (50 * a.s.linkWidth (n / 256) ≤ n % 256)))

/-- A member's own classes that a reject rule of another member names: the classes forwarded to that member (R390). -/
def PlanImage.forwardedTo (im : PlanImage) (self m : Nat) : List Nat :=
  (((im.memberRejects m).map RejectRule.cls).filter (fun k => (im.ownClasses self).any (fun d => d.cls == k))).eraseDups

/-- Forwarding between this member and another lacks a direct link, or does not fit it (R390). -/
def Adm.forwardBad (a : Adm) (m : Nat) : Bool :=
  let toM := (a.im.forwardedTo a.s.self m).length
  let froM := (a.im.forwardedTo m a.s.self).length
  (toM != 0 || froM != 0) && (decide (30 < a.im.slots * max toM froM) || !a.s.upLinks.any (fun l => a.s.peer l == m))

def Adm.check7 (a : Adm) : Option (Nat × Nat) :=
  eachOf (indexed a.im.claims) stLink 7 a.claimUncarried <|>
  a.eachRec stLink 7 a.recLinkBad <|>
  (if a.im.isHerd && ((rangeFrom 0 a.im.memberCount).filter (· != a.s.self)).any a.forwardBad then deny stLink 7 0 else none)

/-! ## 0x08 SLEEP -/

/-- A record holds a resource of a domain inside a window of the cycle; the resources of item records always count as held
(R334). -/
def Adm.heldIn (a : Adm) (d p0 p1 : Nat) : Bool :=
  a.recs.any (fun x => (a.im.recClaims x.rcd).any (fun k =>
    a.s.claimTouches d k && (x.isItem || spansMeet x.rcd.beat (x.rcd.holdLen k) p0 p1)))

/-- A window of a domain is refused (Table 3.12, R334). -/
def Adm.windowBad (a : Adm) (i : Nat) (k : Claim) (d : Nat) : Bool :=
  !domWindowed d || k.p1 == 0 || decide (k.p1 < domEntry d + (domLeads d).1) || decide (a.im.cyc < k.p0 + k.p1) ||
  a.heldIn d k.p0 k.p1 ||
  (indexed a.im.claims).any (fun m => m.1 != i && m.2.windowDoms.contains d && spansMeet k.p0 k.p1 m.2.p0 m.2.p1)

def Adm.check8 (a : Adm) : Option (Nat × Nat) :=
  (indexed a.im.claims).findSome? (fun k =>
    match k.2.windowDoms.find? (a.windowBad k.1 k.2) with
    | some d => deny stSleep 8 d
    | none => none)

/-! ## 0x09 ENERGY -/

/-- R55 with the partner left out, and the overlap sub-check of every other live pair with this plan among the others. -/
def Adm.check9 (a : Adm) : Option (Nat × Nat) :=
  let w := a.s.rd R.EMU_WINDOW
  let b := a.s.rd R.EMU_BUDGET_UJ
  let rv := a.s.rd R.EMU_RESERVE_UJ
  let rest := a.s.livePlans.filter (fun p => !a.s.pairOld p.1 p.2.1 && !(p.1 == a.c && some p.2.1 == a.mate.map (·.1)))
  let mine := a.im.share w
  let pairs := a.s.livePairs.any (fun x =>
    let others := sumNat ((a.s.livePlans.filter (fun p => !(p.1 == x.1 && (p.2.1 == x.2.1 || p.2.1 == x.2.2.1)) &&
      !a.s.pairOld p.1 p.2.1)).map (fun p => p.2.2.img.share w))
    decide (b < overlapNeed x.2.2.2.1 x.2.2.2.2 w (others + mine) rv))
  if b < sumNat (rest.map (fun p => p.2.2.img.share w)) + mine + rv || pairs then deny stEnergy 9 0 else none

/-! ## 0x0A HERD -/

/-- The Herd checks (Table 3.12, R383): membership, epoch, one Herd plan at a time, and on a member the leader's hash. -/
def Adm.check10 (a : Adm) : Option (Nat × Nat) :=
  if a.im.isHerd = false then none
  else if a.s.inHerd = false || decide (a.im.memberCount ≤ a.s.self) || a.im.epoch != a.s.rd R.HRD_EPOCH ||
      a.s.herdPlans.any (fun p => !(p.1 == a.c && some p.2.1 == a.mate.map (·.1))) then deny stHerdState 10 0
  else if a.s.isLeader then none
  else match a.s.herd.leader with
    | some x => if x.hash = a.im.hash || x.swapHash = a.im.hash then none else deny stHerdPlan 10 0
    | none => deny stHerdPlan 10 0

/-- Checks 0x01 to 0x0A on one plan in the order of Table 3.12; 0x02 to 0x09 pass over a Herd plan on a device
that is no member of it (R383). -/
def Adm.alone (a : Adm) (whole : PlanImage) : Option (Nat × Nat) :=
  a.check1 whole <|>
  (if a.im.isHerd && (a.s.inHerd = false || decide (a.im.memberCount ≤ a.s.self)) then none
   else a.check2 <|> a.check3 <|> (eachOf (indexed a.im.claims) stResource 4 a.streamOff <|> a.check4) <|> a.check5 <|> a.check6 <|>
     a.check7 <|> a.check8 <|> a.check9) <|>
  a.check10

end Sys2Proof.Machine
end

