-- ==== Sys2Proof/Machine/Overlap.lean ====
section
/-! DEFINITION. Check 0x0B: whether the two members of a swap pair can run beside each other during the overlap (R63, R207, R226,
R233, R299, R336). `p` is the admission view of the running plan P, `n` that of the new plan N; beats count from the swap
boundary k. -/

namespace Sys2Proof.Machine

/-- The refusal of a sub-check (R63). -/
def denyPair (sub idx : Nat) : Option (Nat × Nat) := deny stOverlap sub idx

/-- The beats, counted from k, at which a cycle record of P starts in the overlap (R63). -/
def overlapStarts (c l beat : Nat) : List Nat :=
  if l ≤ beat then [] else (rangeFrom 0 ((l - 1 - beat) / max 1 c + 1)).map (fun i => beat + i * c)

/-- A hold [t, t + n) meets a cycle record of N that holds `m` beats from BEAT of each of its cycles. -/
def meetsCycle (c t n beat m : Nat) : Bool :=
  decide (beat < t + n) && decide (t < beat + (t + n - 1 - beat) / max 1 c * c + m)

/-- Holds of a record of P and a record of N on one resource meet in the overlap (R63). -/
def overlapMeets (p n : Adm) (x y : ARec) (h : Nat × Nat) : Bool :=
  let l := p.im.lat
  match x.cls, y.cls with
  | some d, some e => meetShift x.rcd.beat h.1 y.rcd.beat h.2 (if d.cls = e.cls then e.minGap else 1) l
  | none, some _ => (overlapStarts p.im.cyc l x.rcd.beat).any (fun t => decide (y.rcd.beat < t + h.1))
  | some _, none => decide (y.rcd.beat + 2 ≤ x.rcd.beat + h.1)
  | none, none => (overlapStarts p.im.cyc l x.rcd.beat).any (fun t => meetsCycle n.im.cyc t h.1 y.rcd.beat h.2)

/-- The claims that records of the two plans have in common, as the beats that each holds them; a line output may be claimed by
both (R63). -/
def pairHolds (p n : PlanImage) (x y : Rec) : List (Nat × Nat) :=
  (p.recClaims x).flatMap (fun k => ((n.recClaims y).filter (fun m => k.clash m && k.kind != 8)).map (fun m => (x.holdLen k, y.holdLen m)))

def pairResource (p n : Adm) : Option (Nat × Nat) :=
  match n.recs.find? (fun y => p.recs.any (fun x => (pairHolds p.im n.im x.rcd y.rcd).any (overlapMeets p n x y))) with
  | some y => denyPair 4 y.idx
  | none => none

/-- A bank in bank sets of both plans. -/
def pairBanks (p n : Adm) : Option (Nat × Nat) :=
  let old := p.im.setIds.flatMap p.im.setBanks
  match (indexed n.im.claims).find? (fun k => k.2.kind == 4 && k.2.p0 != 0 && (rangeFrom k.2.first k.2.count).any (fun b => old.contains b)) with
  | some k => denyPair 6 k.1
  | none => none

/-- The regions of both plans on a logical engine (R207). -/
def pairRegions (p n : Adm) : Option (Nat × Nat) :=
  let old := p.recs.flatMap p.regionsOf
  let new := n.recs.flatMap n.regionsOf
  match new.find? (fun g => old.any (fun k => g.bad k)) with
  | some g => denyPair 6 g.eng
  | none => none

/-- The stores of chain units, PPUs and program channels (R226, R233, R299). -/
def pairStores (p n : Adm) : Option (Nat × Nat) :=
  let overfull (u : Nat) : Bool := decide (64 < ((p.unitProgs u ++ n.unitProgs u).eraseDups).length)
  let tables (u : Nat) : Bool := decide (8192 < sumNat ((p.ppuTables u ++ n.ppuTables u).map (·.2)))
  let code (a : Adm) (c : Nat) : List (Nat × Nat) :=
    ((a.recs.filter (fun x => x.rcd.kind == 5 && a.im.recUnit x.rcd 5 == c)).map (·.rcd)).filterMap (fun r =>
      (a.dmxProg r).map (fun l => (r.progId, l.length)))
  (match (rangeFrom 0 8).find? overfull with | some u => denyPair 6 u | none => none) <|>
  (if (rangeFrom 0 2).any tables then denyPair 6 0 else none) <|>
  (match (rangeFrom 0 64).find? (fun c => decide (512 < sumNat (((code p c ++ code n c).eraseDups).map (·.2)))) with
   | some c => denyPair 6 c
   | none => none)

/-- The package links (R63). -/
def pairLinks (p n : Adm) : Option (Nat × Nat) :=
  match (indexed n.im.claims).find? (fun k => k.2.kind == 7 && (rangeFrom k.2.first k.2.count).any (fun l =>
      decide (linkGranules l < p.im.linkTotal l + n.im.linkTotal l + sumNat (n.others.map (fun o => o.linkTotal l))))) with
  | some k => denyPair 7 k.1
  | none => none

/-- A plan's windows cover a domain at a beat counted from k. -/
def Adm.windowAt (a : Adm) (d t : Nat) : Bool :=
  let b := t % max 1 a.im.cyc
  a.im.claims.any (fun k => k.windowDoms.contains d && decide (k.p0 ≤ b) && decide (b < k.p0 + k.p1))

/-- A plan holds a resource of a domain at a beat counted from k; what item records claim counts as held at every beat
(R334). -/
def Adm.holdsAt (a : Adm) (d t : Nat) : Bool :=
  let b := t % max 1 a.im.cyc
  a.recs.any (fun x => (a.im.recClaims x.rcd).any (fun k =>
    a.s.claimTouches d k && (x.isItem || (decide (x.rcd.beat ≤ b) && decide (b < x.rcd.beat + x.rcd.holdLen k)))))

/-- R336. -/
def pairSleep (p n : Adm) : Option (Nat × Nat) :=
  let ds := ((p.im.claims ++ n.im.claims).flatMap Claim.windowDoms).eraseDups
  match ds.find? (fun d => (rangeFrom 0 p.im.lat).any (fun t =>
      (p.windowAt d t && (n.holdsAt d t || n.windowAt d t)) || (n.windowAt d t && p.holdsAt d t))) with
  | some d => denyPair 8 d
  | none => none

/-- The energy of the overlap (R63). -/
def pairEnergy (p n : Adm) : Option (Nat × Nat) :=
  let s := n.s
  let w := s.rd R.EMU_WINDOW
  let rest := s.livePlans.filter (fun x => !s.pairOld x.1 x.2.1 && !(x.1 == n.c && some x.2.1 == n.mate.map (·.1)))
  if s.rd R.EMU_BUDGET_UJ < overlapNeed p.im n.im w (sumNat (rest.map (fun x => x.2.2.img.share w))) (s.rd R.EMU_RESERVE_UJ) then
    denyPair 9 0
  else none

/-- Check 0x0B. -/
def check11 (p n : Adm) : Option (Nat × Nat) :=
  pairResource p n <|> pairBanks p n <|> pairRegions p n <|> pairStores p n <|> pairLinks p n <|> pairSleep p n <|> pairEnergy p n

end Sys2Proof.Machine
end

