-- ==== Sys2Proof/Machine/PlanCommands.lean ====
section
/-! DEFINITION. The plan commands (R56 to R58, R61, R64, R67, R384; Tables 3.13 to 3.16). -/

namespace Sys2Proof.Machine

/-! ## PLAN_LOAD -/

/-- Bytes of the plan store in use (Table 3.15). -/
def State.planStore (s : State) : Nat := sumNat (s.plans.map (fun p => p.2.whole.len))

/-- A plan as PLAN_LOAD leaves it. -/
def Plan.loaded (im : PlanImage) : Plan where
  phase := .loaded
  img := im
  whole := im
  anchor := 0
  start := 0
  stop := 0
  cancel := false
  partner := none
  armedSwap := false
  admFree := false
  entries := []
  lastZ := []
  takenCycle := 0
  taken := 0
  lastTake := []
  cycRan := []
  items := 0
  niSlot := 0
  niGap := 0
  faulted := 0
  incomplete := 0

/-- PLAN_LOAD: an image whose format is wrong is refused with the check's ID 0x01 and the index of the offending entry. -/
def cmdPlanLoad (c : Nat) (e : HostEnv) (k : Cmd) (s : State) : CmdOut :=
  let n := pf k.par 16 4
  if within n 0x200 (16 * 2 ^ 20) = false then refuse s stBadParam
  else s.withRead e c (pf k.par 8 8) n (fun b s =>
    match imageFault b with
    | some i => refuse s stImageBad (2 ^ 24 + i)
    | none =>
      match (rangeFrom 0 4).find? (fun h => s.planPhase c h == .empty) with
      | none => refuse s stBadState
      | some h =>
        if 64 * 2 ^ 20 < s.planStore + n then refuse s stMemory
        else okay (s.setPlan c h (Plan.loaded (readImage b))) h)

/-! ## PLAN_ADMIT -/

/-- The chain programs of an image's own records that the device can read: BUFFERS index and bytes, none for a poisoned one; with
the state that the reads leave (R223). -/
def State.readProgs (s : State) (e : HostEnv) (c : Nat) (im : PlanImage) (recs : List ARec) :
    List (Nat × Option Bytes) × State :=
  let ids := ((recs.filter (fun x => x.rcd.kind == 2)).map (fun x => x.rcd.prog)).eraseDups
  ids.foldl (fun (acc : List (Nat × Option Bytes) × State) i =>
    match im.bufs[i]? with
    | some b =>
      if b.length = 768 && acc.2.bufPinned c b then
        match acc.2.buf? c im none i with
        | some x =>
          let r := acc.2.copyRead e (Who.cpx c) (cutSegs x.segs 0 768)
          (acc.1 ++ [(i, if r.1.any (·.2) then none else some (r.1.map (·.1)))], r.2)
        | none => acc
      else acc
    | none => acc) ([], s)

/-- The records that this device checks of a plan: none of a Herd plan that has no partition for it (R383). -/
def State.planRecs (s : State) (im : PlanImage) : List ARec :=
  if im.isHerd && (s.inHerd = false || decide (im.memberCount ≤ s.self)) then [] else im.ownRecs s.self

/-- The admission view of the running partner: its programs are those copied when it was armed. -/
def State.partnerAdm (s : State) (c h : Nat) (im : PlanImage) : Adm :=
  ⟨s, c, im, im.ownRecs s.self, none, (s.copies.filter (fun k => k.plan == 4 * c + h)).map (fun k => (k.buf, k.data))⟩

/-- A handle that PLAN_ADMIT finds in a state it needs (R56, R57): the partner RUNNING, and no other plan of the context live. -/
def State.admitState (s : State) (c h : Nat) (mate : Option Nat) : Bool :=
  (s.planPhase c h == .loaded || s.planPhase c h == .stopped) &&
  (match mate with | some m => s.planPhase c m == .running | none => true) &&
  (rangeFrom 0 4).all (fun o => o == h || some o == mate || !(s.planPhase c o).live)

/-- The plan admitted: its counters start anew (Table 3.16). -/
def Plan.admitted (p : Plan) (im : PlanImage) (mate : Option Nat) (free : Bool) : Plan :=
  { Plan.loaded p.whole with phase := .admitted, img := im, partner := mate, admFree := free }

/-- What admission says of a plan: ST_POISONED for a program that cannot be read, or the status and DETAIL of the first check of
Table 3.12 that fails (R54); with the image that this device would run and the state that the reads leave. -/
def State.admission (s : State) (e : HostEnv) (c : Nat) (mate : Option Nat) (p : Plan) :
    Except (Nat × Nat) PlanImage × State :=
  let im := p.whole.partition s.self
  let recs := s.planRecs im
  let r := s.readProgs e c im recs
  if r.1.any (fun x => x.2.isNone) then (.error (stPoisoned, 0), r.2)
  else
    let s := r.2
    let progs := r.1.filterMap (fun x => x.2.map (fun b => (x.1, b)))
    let old := mate.bind (fun m => (s.plan? c m).map (fun q => (m, q.img)))
    let a : Adm := ⟨s, c, im, recs, old, progs⟩
    match a.alone p.whole <|> (match old with | some o => check11 (s.partnerAdm c o.1 o.2) a | none => none) with
    | some x => (.error x, s)
    | none => (.ok im, s)

/-- The partner that a PLAN_ADMIT names with MODE 1. -/
def admitMate (par : Nat) : Option Nat := if pf par 9 1 = 1 then some (pf par 10 1) else none

/-- PLAN_ADMIT. While a bank that the plan claims is still being zeroed, the command waits (R243). -/
def cmdPlanAdmit (c : Nat) (e : HostEnv) (k : Cmd) (s : State) : CmdOut :=
  let h := pf k.par 8 1
  if 3 < h || 1 < pf k.par 9 1 || 3 < pf k.par 10 1 then refuse s stBadParam
  else match s.plan? c h with
    | none => refuse s stBadState
    | some p =>
      if s.admitState c h (admitMate k.par) = false then refuse s stBadState
      else match s.admission e c (admitMate k.par) p with
        | (.error x, s) => refuse s x.1 x.2
        | (.ok im, s) =>
          if (s.planBanks im).any (fun b => s.zeroing.contains b) then
            (if k.phase = .executing .zeroing then .stay else .wait .zeroing s)
          else
            okay (s.setPlan c h (p.admitted im (admitMate k.par) (s.spareFree 0 && s.spareFree 1))) (p.whole.hash % 2 ^ 32)

/-! ## PLAN_ARM -/

/-- The image with the records of this device's partition alone: what its units are filled for. -/
def PlanImage.mine (im : PlanImage) (self : Nat) : PlanImage :=
  { im with itemRecs := ((im.ownRecs self).filter ARec.isItem).map (·.rcd)
            cycRecs := ((im.ownRecs self).filter (fun x => !x.isItem)).map (·.rcd) }

/-- A plan ARMED for a beat: weights, programs and tables are loaded, its domains are woken (R58, R206, R226, R337). -/
def State.armPlan (s : State) (e : HostEnv) (c h : Nat) (p : Plan) (anchor start : Nat) (swap : Bool) : State :=
  let own := p.img.mine s.self
  let s := s.setPlan c h { p with phase := .armed, anchor := anchor, start := start, armedSwap := swap }
  let s := ((s.fillWeights c h own).fillCopies e c h own).fillProgs c h own
  s.wakeClaimed p.img

/-- The first cycle boundary of a plan at or after a beat (R36). -/
def boundaryFrom (anchor cyc k : Nat) : Nat := if k ≤ anchor then anchor else anchor + ceilDiv (k - anchor) (max 1 cyc) * cyc

/-- PLAN_ARM of a plan that is no swap partner (R58). -/
def State.armFrom (s : State) (e : HostEnv) (c h : Nat) (p : Plan) (req : Nat) : CmdOut :=
  let lead := s.armLead p.img
  let a := if req = 0 then s.beat + lead else req
  if a < s.beat + lead then refuse s stTime lead
  else okay (s.armPlan e c h p a a false) (a % 2 ^ 32)

/-- PLAN_ARM of N for a boundary of P (R64). -/
def State.armSwap (s : State) (e : HostEnv) (c h : Nat) (p old : Plan) (req : Nat) : CmdOut :=
  let lead := s.armLead p.img
  let cyc := max 1 old.img.cyc
  let k := if req = 0 then boundaryFrom old.anchor cyc (s.beat + lead) else req
  if k < old.anchor || (k - old.anchor) % cyc != 0 then refuse s stBadParam
  else if k < s.beat + lead then refuse s stTime lead
  else okay (s.armPlan e c h p k k true) (k % 2 ^ 32)

/-- PLAN_ARM on a member (R384): the leader's anchor, or the leader's swap boundary. -/
def State.armMember (s : State) (e : HostEnv) (c h : Nat) (p : Plan) (mode req : Nat) : CmdOut :=
  let lead := s.armLead p.img
  match s.herd.leader with
  | none => refuse s stHerdState
  | some x =>
    if mode = 1 && x.swap != 0 && x.swapHash == p.img.hash then
      if req != 0 && req != x.swap then refuse s stBadParam
      else if x.swap < s.beat + lead then refuse s stTime lead
      else okay (s.armPlan e c h p x.swap x.swap true) (x.swap % 2 ^ 32)
    else if x.hash = p.img.hash && (x.planState = 3 || x.planState = 4) then
      if req != 0 && req != x.anchor then refuse s stBadParam
      else okay (s.armPlan e c h p x.anchor (boundaryFrom x.anchor p.img.cyc (s.beat + lead)) false) (x.anchor % 2 ^ 32)
    else refuse s stHerdState

def cmdPlanArm (c : Nat) (e : HostEnv) (k : Cmd) (s : State) : CmdOut :=
  let h := pf k.par 8 1
  let mode := pf k.par 9 1
  let req := pf k.par 16 8
  if 3 < h || 1 < mode then refuse s stBadParam
  else match s.plan? c h with
    | none => refuse s stBadState
    | some p =>
      if p.phase != .admitted || p.partner.isSome != (mode == 1) then refuse s stBadState
      else if p.img.isHerd && !s.isLeader then s.armMember e c h p mode req
      else if mode = 0 then s.armFrom e c h p req
      else match p.partner.bind (fun m => if m < 4 then s.plan? c m else none) with
        | some old => if old.phase = .running then s.armSwap e c h p old req else refuse s stBadState
        | none => refuse s stBadState

/-! ## PLAN_STOP, PLAN_UNLOAD -/

/-- N is ARMED for a swap with this plan as P (R64). -/
def State.swapArmed (s : State) (c h : Nat) : Bool :=
  (s.ctxPlans c).any (fun p => p.2.phase == .armed && p.2.armedSwap && p.2.partner == some h)

/-- The stop boundary of a plan stopped now (R61): the first cycle boundary after the present beat. -/
def State.stopBoundary (s : State) (p : Plan) : Nat := boundaryFrom p.anchor p.img.cyc (s.beat + 1)

/-- PLAN_STOP: a RUNNING plan drains from its stop boundary on, a timed change (R61, R81). -/
def cmdPlanStop (c : Nat) (k : Cmd) (s : State) : CmdOut :=
  let h := pf k.par 8 1
  if 3 < h then refuse s stBadParam
  else match s.plan? c h with
    | none => refuse s stBadState
    | some p =>
      if p.phase = .armed then okay (s.stopPlan c h p)
      else if p.phase != .running || s.swapArmed c h then refuse s stBadState
      else .wait (.atBeat (s.stopBoundary p)) s

/-- The plan enters DRAINING at its stop boundary (Table 3.13). -/
def State.drainPlan (s : State) (c h k : Nat) (cancel : Bool) : State :=
  s.onPlan c h (fun p => if p.phase = .running then { p with phase := .draining, stop := k, cancel := cancel } else p)

def cmdPlanUnload (c : Nat) (k : Cmd) (s : State) : CmdOut :=
  let h := pf k.par 8 1
  if 3 < h then refuse s stBadParam
  else match s.plan? c h with
    | none => refuse s stBadState
    | some p =>
      if p.phase = .loaded || p.phase = .stopped then okay (s.delPlan c h)
      else if p.phase = .admitted then okay ((s.delPlan c h).endClaims c h p)
      else refuse s stBadState

/-! ## PLAN_STATUS -/

/-- A live plan claims a logical engine whose physical engine cannot run (R356, Table 3.16). -/
def State.degraded (s : State) (p : Plan) : Bool :=
  p.phase.live && (rangeFrom 0 30).any (fun k => p.img.hasClaim 1 k && s.engSick (k / 15) (s.physOf k))

/-- The plan is a member of a live swap pair. -/
def State.hasPartner (s : State) (c h : Nat) (p : Plan) : Bool :=
  (match p.partner with | some m => decide (m < 4) | none => false) || s.pairOld c h

/-- The status block (Table 3.16); an EMPTY handle shows zeros. -/
def State.planBlock (s : State) (c h : Nat) : Bytes :=
  match s.plan? c h with
  | none => leBytes 1 0 ++ leBytes 1 h ++ leBytes 70 0 ++ leBytes 8 (s.time % 2 ^ 64) ++ leBytes 48 0
  | some p =>
    let last := if p.stop = 0 then s.beat else min p.stop s.beat
    let cycles := if p.phase.code < 4 then 0 else (last - p.start) / max 1 p.img.cyc
    leBytes 1 p.phase.code ++ leBytes 1 h ++ leBytes 1 (b2n (s.hasPartner c h p) + 2 * b2n (s.degraded p)) ++ leBytes 1 0 ++
    leBytes 4 p.whole.hash ++ leBytes 8 p.anchor ++ leBytes 8 p.stop ++ leBytes 8 cycles ++ leBytes 8 p.items ++
    leBytes 8 p.niSlot ++ leBytes 8 p.niGap ++ leBytes 8 p.faulted ++ leBytes 8 p.incomplete ++ leBytes 8 (s.time % 2 ^ 64) ++
    leBytes 48 0

/-- PLAN_STATUS: the block goes to pinned host memory, 64-byte aligned (Table 3.14). -/
def cmdPlanStatus (c : Nat) (e : HostEnv) (k : Cmd) (s : State) : CmdOut :=
  let h := pf k.par 8 1
  let dva := pf k.par 16 8
  if 3 < h || dva % 64 != 0 then refuse s stBadParam
  else s.withDest e c dva 128 (fun segs s => okay (s.writeSegs (Who.cpx c) segs (clean (s.planBlock c h))))

end Sys2Proof.Machine
end

