-- ==== Sys2Proof/Machine/CtxReset.lean ====
section
/-! DEFINITION. How commands end before their time (R83 to R85), the context reset with its order (R86 to R90, R283, R307, R361),
and the commands that wait for other commands to commit (R83, R88, R97). -/

namespace Sys2Proof.Machine

/-! ## A command that is ended -/

/-- What a command in execution has begun is undone (Table 4.5). A wake goes on, since it is the domain's. -/
def State.undoWait (s : State) (k : Cmd) : State :=
  match k.phase with
  | .executing .group => s.abortGroup k.seq
  | .executing .join => s.detach
  | .executing .leave => if s.on F.HRD_STATUS_LEAVING then s else s.onHerd (fun h => { h with leaveAt := none })
  | .executing .selftest =>
    let e := pf k.par 9 1 / 16
    let n := pf k.par 9 1 % 16
    (s.scramble (engLa e n) (16 * 0x20000)).onDie e (fun d => { d with tests := d.tests.filter (fun t => !(t.1 == n && t.2.2 == 2)) })
  | .executing (.resetting t _) => if (s.ctx t).phase = .resetting then s.setCtx t { s.ctx t with phase := .active } else s
  | _ => s

/-- A command ends with ST_ABORTED; its reply is written when its turn comes (R80, R83). -/
def State.abortCmd (s : State) (c q : Nat) (k : Cmd) : State := (s.undoWait k).fixResult c q k.seq stAborted 0

/-- A command that has neither reached COMMITTING nor made a timed change can still be ended (R83, R88). -/
def Cmd.endable (k : Cmd) : Bool := k.phase != .committing && !k.timed

/-! ## The steps of R88 -/

/-- Steps 1 and 2 on one queue: packets that have not started are discarded, other commands that can be ended are. The command
that carries the reset is spared. -/
def State.resetQueue (s : State) (c q : Nat) (spare : Option Nat) : Nat × State :=
  match s.queue? c q with
  | none => (0, s)
  | some x =>
    if x.typ != 1 then (0, s)
    else
      let kept := x.cmds.filter (fun k => k.phase != .queued || some k.seq == spare)
      let s := s.setQueue c q { x with cmds := kept, h := x.t }
      let ends := kept.filter (fun k => k.endable && some k.seq != spare)
      (ends.length, ends.foldl (fun s k => s.abortCmd c q k) s)

/-- The PLN counters of a context (step 5, R68). -/
def plnCounters (c : Nat) : List Reg :=
  [R.CPX_PLN_ITEMS c, R.CPX_PLN_NI_SLOT c, R.CPX_PLN_NI_GAP c, R.CPX_PLN_FAULTED c, R.CPX_PLN_INCOMPLETE c, R.CPX_PLN_REFCNT c,
   R.FN_VLOST c]

/-- Steps 3 to 5: plans, channels and counters. `say` tells whether rings write their STOPPED entries (R90, R307). -/
def State.resetWork (s : State) (c : Nat) (say : Bool) : State :=
  let s := s.resetPlans c
  let s := ((s.ctxQueues c).filter (fun x => x.2.typ == 2)).foldl (fun s x => s.resetRing c x.1 say) s
  (s.clearRegs (plnCounters c)).setCtx c { s.ctx c with nextItem := 0 }

/-- The steps of R88 on a context: RESETTING, and the number of commands ended. -/
def State.resetCtx (s : State) (c : Nat) (spare : Option Nat) : Nat × State :=
  let s := s.setCtx c { s.ctx c with phase := .resetting, discarded := 0 }
  let r := (s.ctxQueues c).foldl (fun (acc : Nat × State) x =>
    let y := acc.2.resetQueue c x.1 spare
    (acc.1 + y.1, y.2)) (0, s)
  (r.1, r.2.resetWork c true)

/-! ## Commands that wait for others -/

/-- No command of a context is still to commit, but for those not started and the one that carries the reset (R89). -/
def State.quiet (s : State) (c : Nat) (spare : Option Nat) : Bool :=
  (s.ctxCmds c).all (fun k => k.2.phase == .queued || some k.2.seq == spare)

/-- A queue is gone: a ring first, with its channel's binding (R97, R307). -/
def State.destroyQueue (s : State) (c q : Nat) : State := (s.resetRing c q false).delQueue c q

/-- One command that waits for others goes on when they have committed and its CQ has room: ABORT (R83), CTX_RESET (R88),
RING_DESTROY (R97). -/
def State.settleCmd (s : State) (c q : Nat) (k : Cmd) : State :=
  let room := match s.queue? c q with | some x => x.room | none => false
  match k.phase with
  | .executing (.abortHeld n) => if (s.ctxCmds c).any (fun x => x.2.seq == n) then s else s.fixResult c q k.seq stTooLate 0
  | .executing (.resetting t n) =>
    if s.quiet t (some k.seq) && room then
      let d := min n 0xFFFF + 65536 * min (s.ctx t).discarded 0xFFFF
      let s := if (s.ctx t).phase = .resetting then s.setCtx t { s.ctx t with phase := .active } else s
      s.fixResult c q k.seq stOk d
    else s
  | .executing (.destroying g) =>
    match s.queue? c g with
    | none => s.fixResult c q k.seq stOk 0
    | some x => if x.cmds.isEmpty && room then (s.destroyQueue c g).fixResult c q k.seq stOk 0 else s
  | _ => s

/-- A recovery under way ends when the commands it ended have committed (R361). -/
def State.settleRecovery (s : State) (c det : Nat) : State :=
  if s.quiet c none then
    let s : State := { s with recovers := s.recovers.filter (fun r => r != (c, det, true)) }
    let s := if (s.ctx c).phase = .resetting then s.setCtx c { s.ctx c with phase := .active } else s
    let s := s.log { det := 0xFF, kind := 2, level := 4, ctx := c }
    ((s.ctxErr c stFaulted 0).raiseFmu 1).put F.FMU_RECOV_CTX c |>.incSat F.FMU_RECOV_COUNT
  else s

/-- Everything that waits for commands to commit. -/
def State.settle (s : State) : State :=
  let s := (s.recovers.filter (fun r => r.2.2)).foldl (fun s r => s.settleRecovery r.1 r.2.1) s
  let all := s.queues.flatMap (fun x => x.2.cmds.map (fun k => (x.1, k)))
  all.foldl (fun s x => s.settleCmd (x.1 / 128) (x.1 % 128) x.2) s

/-! ## CTX_RESET, CONTEXT_RECOVERY -/

/-- CTX_RESET (R86 to R88). -/
def cmdCtxReset (c q : Nat) (k : Cmd) (s : State) : CmdOut :=
  let t := pf k.par 8 1
  if 127 < t then refuse s stBadParam
  else if c != 0 && t != c then refuse s stNoRights
  else match (s.ctx t).phase with
    | .resetting => refuse s stBadState
    | .disabled => refuse s stBadParam
    | .active =>
      if (s.ctxCmds t).any (fun x => x.2.phase == .committing && !(t == c && x.1 == q)) then .stay
      else
        let r := s.resetCtx t (some k.seq)
        .wait (.resetting t r.1) r.2

/-- CONTEXT_RECOVERY: a recovery that is due begins; it writes no reply of its own (R361). -/
def contextRecovery (c det : Nat) (s : State) : State :=
  if s.recovers.contains (c, det, false) && (s.ctx c).phase == .active then
    let s : State := { s with recovers := s.recovers.map (fun r => if r == (c, det, false) then (c, det, true) else r) }
    (s.resetCtx c none).2.settle
  else s

/-! ## Function resets (R90) -/

/-- The background captures that a context owns stop, and their regions are released (R168). -/
def State.dropCaptures (s : State) (c : Nat) : State :=
  (rangeFrom 0 8).foldl (fun s n =>
    if within (s.acqState n) 1 5 && s.get (F.ACQ_CH_STATE_OWNER n) == c then
      let s := s.acqStop n
      let x := s.acq n
      s.setAcq n { x with segs := [], blk := x.blk - numField x.blk 6 2 * 2 ^ 48 }
    else s) s

/-- The registers of a context that a function reset clears: RIGHTS, SOURCE and CMDS (R90, R283, Table 4.16). -/
def State.clearCtxRegs (s : State) (c : Nat) : State :=
  ((s.wr (R.CPX_CTX_RIGHTS c) 0).put (F.ATU_CTX_CFG_SOURCE c) 0).wr (R.CPX_CTX_CMDS c) 0

/-- R90 on a context: every command ends without a reply, its queues, ranges, models and plans go, and it is DISABLED. -/
def State.disableCtx (s : State) (e : HostEnv) (c : Nat) : State :=
  if (s.ctx c).phase = .disabled then s
  else
    let s := (s.ctxCmds c).foldl (fun s k => s.undoWait k.2) s
    let s := (s.resetWork c false).dropCaptures c
    let s := (s.ctxQueues c).foldl (fun s x => s.delQueue c x.1) s
    let s := s.unpinAll e c
    let s : State := { s with models := s.models.filter (fun m => m.c != c)
                              plans := s.plans.filter (fun p => p.1 / 4 != c)
                              progs := s.progs.filter (fun p => p.1 / 65536 != c)
                              recovers := s.recovers.filter (fun r => r.1 != c) }
    let s := (s.dropRegs ((c + 1) * 0x100000000) 0x100000000).clearCtxRegs c
    (s.setCtx c Ctx.off).settle

/-- VF_FLR: a Function Level Reset of VF n. -/
def vfFlr (n : Nat) (e : HostEnv) (s : State) : State := s.disableCtx e n

/-- VF_ENABLE_SET: the contexts of the enabled VFs become ACTIVE (Table 4.1). Before READY the boot enables them. -/
def vfEnableSet (num : Nat) (s : State) : State :=
  let s : State := { s with numVfs := num }
  if s.ready then
    ((rangeFrom 1 num).filter (fun c => (s.ctx c).phase == .disabled)).foldl (fun s c => s.enableCtx c) s
  else s

/-- VF_ENABLE_CLEAR: every VF context is reset and DISABLED (R90). -/
def vfEnableClear (e : HostEnv) (s : State) : State :=
  (rangeFrom 1 127).foldl (fun s c => s.disableCtx e c) { s with numVfs := 0 }

end Sys2Proof.Machine
end

