-- ==== Sys2Proof/Machine/Commands.lean ====
section
/-! DEFINITION. The CPX (04_commands.md): doorbells and packets (R74 to R79, R98), commit (R81), timeouts (R82, R95), and the
commands that the chapter itself defines (R83, R95 to R97). -/

namespace Sys2Proof.Machine

/-! ## Doorbells -/

/-- A packet of 64 bytes as an accepted command: parameter bytes at or above 8 + LEN are read as zero (R79). -/
def packetCmd (seq idx : Nat) (b : Bytes) : Cmd :=
  let n := leNat b
  ⟨seq, idx, n % 2 ^ 64, n / 2 ^ 64 % 2 ^ (8 * min 56 (numField n 4 2)), .queued, false⟩

/-- One SQ entry fetched (R74). -/
def State.fetch (s : State) (e : HostEnv) (c q idx : Nat) : State :=
  match s.queue? c q with
  | none => s
  | some x =>
    let r := s.readSegs e (Who.cpx c) (s.queueSegs c x (x.sqAddr + 64 * idx) 64 1)
    let k := packetCmd r.2.cmdSeq idx (r.1.map (·.1))
    State.onQueue { r.2 with cmdSeq := r.2.cmdSeq + 1 } c q (fun x => { x with cmds := x.cmds ++ [k] })

/-- SQ entries from `a` up to but not including `b`, modulo `n`. -/
def entriesFrom (n a b : Nat) : List Nat := (rangeFrom 0 ((b + n - a) % max 1 n)).map (fun i => (a + i) % max 1 n)

/-- An accepted tail of a COMMAND queue: T moves and the packets are fetched. -/
def State.takeTail (s : State) (e : HostEnv) (c q : Nat) (x : Queue) (tail : Nat) : State :=
  (entriesFrom x.sqN x.t tail).foldl (fun s i => s.fetch e c q i) (s.setQueue c q { x with t := tail })

/-- An accepted tail of a ring: its descriptors are taken up and translated, and a STOPPED ring runs again (R271, Table
13.9). -/
def State.takeRing (s : State) (e : HostEnv) (c q : Nat) (x : Queue) (tail : Nat) : State :=
  let new := (entriesFrom x.sqN x.t tail).map (fun i => (⟨i, none, .fresh, [], [], 0, 0⟩ : Desc))
  let x := { x with t := tail, descs := x.descs ++ new, ring := if x.ring = .stopped then .running else x.ring }
  (s.setQueue c q x).translateRing e c q

/-- FN_SQDB (R74, R76). The doorbell is a demand on H_CPX (R340). -/
def fnSqdb (c q tail : Nat) (e : HostEnv) (s : State) : State :=
  if (s.ctx c).phase = .disabled then s
  else
    let s := if s.domOn 4 then s else s.demand 4
    match s.queue? c q with
    | none => s.ctxErr c stBadState q
    | some x =>
      if x.typ = 3 then s
      else if x.sqN ≤ tail || (tail + x.sqN - x.h) % x.sqN < (x.t + x.sqN - x.h) % x.sqN then s.overrun c q
      else if x.typ = 2 then s.takeRing e c q x tail
      else s.takeTail e c q x tail

/-- FN_CQDB (R75, R76): released entries let waiting replies and ring entries go out. -/
def fnCqdb (c q head : Nat) (s : State) : State :=
  if (s.ctx c).phase = .disabled then s
  else match s.queue? c q with
    | none => s.ctxErr c stBadState q
    | some x =>
      if x.cqN ≤ head || (x.p + x.cqN - x.e) % x.cqN < (x.p + x.cqN - head) % x.cqN then s.overrun c q
      else
        let s := s.setQueue c q { x with e := head }
        (if x.typ = 2 then s.endFailed c q else s.pump c q).settle

/-- Queue 0 as ENABLE makes it (R98). -/
def State.queueZero (s : State) (c : Nat) : Queue where
  typ := 1
  phys := true
  sqN := s.get (F.FN_Q0_SIZE_SQ_M1 c) + 1
  cqN := s.get (F.FN_Q0_SIZE_CQ_M1 c) + 1
  sqAddr := s.rd (R.FN_Q0_SQBASE c)
  cqAddr := s.rd (R.FN_Q0_CQBASE c)
  h := 0
  t := 0
  p := 0
  e := 0
  phase := true
  vector := s.get (F.FN_Q0_CTRL_VECTOR c)
  coalesce := s.get (F.FN_Q0_CTRL_COALESCE c)
  coalUs := 0
  unsig := 0
  unsigT := 0
  payDva := 0
  payStride := 0
  cmds := []
  chan := 0
  prio := 0
  cont := false
  ring := .stopped
  descs := []

/-- FN_Q0_CTRL (R98). -/
def fnQ0Ctrl (c v : Nat) (s : State) : State :=
  if (s.ctx c).phase = .disabled then s
  else
    let s := (s.put (F.FN_Q0_CTRL_VECTOR c) (bits v 15 8)).put (F.FN_Q0_CTRL_COALESCE c) (bits v 23 16)
    match s.queue? c 0 with
    | some x =>
      if bit v 0 = false && x.cmds.isEmpty then (s.delQueue c 0).put (F.FN_Q0_CTRL_ENABLE c) 0
      else s.setQueue c 0 { x with vector := bits v 15 8, coalesce := bits v 23 16 }
    | none =>
      if bit v 0 && s.get (F.FN_Q0_SIZE_SQ_M1 c) != 0 && s.get (F.FN_Q0_SIZE_CQ_M1 c) != 0 then
        (s.put (F.FN_Q0_CTRL_ENABLE c) 1).setQueue c 0 (s.queueZero c)
      else s

/-! ## Commit, timeouts -/

/-- H after a commit: the entry of the next uncommitted command, or T (R74). -/
def nextHead (rest : List Cmd) (t : Nat) : Nat :=
  match rest with
  | n :: _ => n.idx
  | [] => t

/-- REPLY_WRITE_RESPONSE: the oldest command of the queue commits (R81); a commit of FW_ACTIVATE starts its warm reset (R407). -/
def replyWriteResponse (c q : Nat) (s : State) : State :=
  match s.queue? c q with
  | none => s
  | some x =>
    match x.cmds with
    | k :: rest =>
      if k.phase = .committing then
        let s := (s.setQueue c q { x with cmds := rest, h := nextHead rest x.t }).incWrap (F.CPX_CTX_CMDS_CMDS c)
        if s.resetAfter = some k.seq then s.warmReset 8 0xFF else (s.pump c q).settle
      else s
    | [] => s

/-- A command's own work reaches host memory (R82). -/
def Cmd.hostWork (k : Cmd) : Bool :=
  k.op ∈ [0x10, 0x11, 0x12, 0x15, 0x20, 0x22, 0x33, 0x42, 0x53, 0x61, 0x81, 0x92, 0xA0] ||
  (k.op == 0x50 && pf k.par 9 1 == 1) || (k.op == 0x51 && pf k.par 9 1 == 1) || (k.op == 0x60 && pf k.par 9 1 != 0)

/-- COMMAND_TIMEOUT: the command that runs on a queue ends with ST_TIMEOUT and changes nothing (R82). -/
def commandTimeout (c q : Nat) (s : State) : State :=
  match s.startable c q with
  | some (x, k) => if k.hostWork && s.admitted c k.op k then s.conclude c q x k (refuse s stTimeout) else s
  | none => s

/-- CQ_COALESCE_TIMEOUT: COAL_US after the first entry not signalled (R95). -/
def cqCoalesceTimeout (c q : Nat) (s : State) : State :=
  match s.queue? c q with
  | some x =>
    if x.coalUs != 0 && x.unsig != 0 && decide (x.unsigT + 100 * x.coalUs ≤ s.time) then
      (s.setQueue c q { x with unsig := 0 }).signal c x.vector
    else s
  | none => s

/-! ## NOP, ECHO, QUERY_DEVICE -/

def cmdNop (s : State) : CmdOut := okay s

def cmdEcho (k : Cmd) (s : State) : CmdOut := okay s (pf k.par 8 4)

/-- Physical engines that neither failed nor are fenced. -/
def State.healthyEngines (s : State) : Nat :=
  ((rangeFrom 0 32).filter (fun n => !s.engSick (n / 16) (n % 16))).length

/-- The values of Table 4.12. -/
def State.query (s : State) (c sel : Nat) : Option Nat :=
  match sel with
  | 0 => some (0x4832 + 0xB0 * 2 ^ 16)
  | 1 => some s.fwVersion
  | 2 => some (if s.dramBytes = 0 then 0 else (4 * s.dramBytes - 2 ^ 30) / 2 ^ 20)
  | 3 => some c
  | 4 => some ((s.ctxQueues c).length + 128 * 256)
  | 5 => some (30 + s.healthyEngines * 256)
  | 6 => some (s.herdState + s.get F.HRD_STATUS_COUNT * 256)
  | 7 => some (s.rd (R.CPX_CTX_RIGHTS c))
  | _ => none

def cmdQueryDevice (c : Nat) (k : Cmd) (s : State) : CmdOut :=
  match s.query c (pf k.par 8 1) with
  | some v => okay s v
  | none => refuse s stBadParam

/-! ## RING_CREATE, RING_DESTROY (R96, R97, R302) -/

/-- The fields of a RING_CREATE lie in the ranges of Tables 4.2, 4.11 and 13.6. -/
def ringFieldsOk (par : Nat) : Bool :=
  let typ := pf par 9 1
  let vec := pf par 10 1
  let sqN := pf par 12 4
  let cqN := pf par 16 4
  let chan := pf par 48 2
  within (pf par 8 1) 1 127 && within typ 1 3 && (decide (vec < 64) || vec == 0xFF) &&
  (if typ = 3 then
     sqN == 0 && within cqN 64 65536 && pf par 20 8 == 0 && pf par 28 8 % 32 == 0 && pf par 36 8 % 64 == 0 &&
     (if pf par 36 8 = 0 then pf par 44 2 == 0 else within (pf par 44 2) 1 328)
   else
     within sqN 2 4096 && within cqN 2 4096 && pf par 20 8 % 64 == 0 && pf par 28 8 % (if typ = 1 then 16 else 32) == 0 &&
     pf par 36 8 == 0 && pf par 44 2 == 0) &&
  (typ != 2 || ((chan == 0 || within chan 64 191) && decide (pf par 50 1 ≤ 3) && decide (pf par 51 1 ≤ 1)))

/-- Rings bound to a ring channel, with their contexts. -/
def State.boundTo (s : State) (n : Nat) : List Nat := (s.rings.filter (fun x => x.2.2.chan == n)).map (·.1)

/-- The channel of a new ring: the one named, when it is free for the context, or the lowest unbound one (R302). -/
def State.ringChannel (s : State) (c chan : Nat) : Option Nat :=
  if chan = 0 then (rangeFrom 64 128).find? (fun n => (s.boundTo n).isEmpty)
  else
    let l := s.boundTo chan
    if l.length < 16 && l.all (· == c) then some chan else none

/-- A queue as RING_CREATE makes it. -/
def newQueue (par chan : Nat) : Queue where
  typ := pf par 9 1
  phys := false
  sqN := pf par 12 4
  cqN := pf par 16 4
  sqAddr := pf par 20 8
  cqAddr := pf par 28 8
  h := 0
  t := 0
  p := 0
  e := 0
  phase := true
  vector := pf par 10 1
  coalesce := pf par 11 1
  coalUs := pf par 46 2
  unsig := 0
  unsigT := 0
  payDva := pf par 36 8
  payStride := pf par 44 2
  cmds := []
  chan := chan
  prio := pf par 50 1
  cont := pf par 51 1 == 1
  ring := .running
  descs := []

/-- The areas of a queue lie in pinned ranges with their rights (R73). -/
def State.areasPinned (s : State) (c : Nat) (x : Queue) : Bool :=
  (x.typ == 3 || (s.pinned c x.sqAddr (64 * x.sqN) 1).isSome) &&
  (s.pinned c x.cqAddr (x.cqEntry * x.cqN) 2).isSome &&
  (x.payDva == 0 || (s.pinned c x.payDva (64 * x.payStride * x.cqN) 2).isSome)

/-- The VERDICT queue of a context (R72). -/
def State.verdictQueue (s : State) (c : Nat) : Option (Nat × Queue) := (s.ctxQueues c).find? (fun x => x.2.typ == 3)

def cmdRingCreate (c : Nat) (k : Cmd) (s : State) : CmdOut :=
  let q := pf k.par 8 1
  let typ := pf k.par 9 1
  if ringFieldsOk k.par = false then refuse s stBadParam
  else if (s.queue? c q).isSome || (typ == 3 && (s.verdictQueue c).isSome) then refuse s stBadState
  else match (if typ = 2 then s.ringChannel c (pf k.par 48 2) else some 0) with
    | none => refuse s stBadState
    | some chan =>
      let x := newQueue k.par chan
      if s.areasPinned c x then okay (s.setQueue c q x) (gq c q) else refuse s stUnpinned

def cmdRingDestroy (c q : Nat) (k : Cmd) (s : State) : CmdOut :=
  let g := pf k.par 8 1
  if within g 1 127 = false || g = q then refuse s stBadParam
  else match s.queue? c g with
    | none => refuse s stBadState
    | some x =>
      if x.typ = 3 && (s.ctxPlans c).any (fun p => p.2.phase == .armed || p.2.phase == .running || p.2.phase == .draining) then
        refuse s stBadState
      else .wait (.destroying g) ((x.cmds.filter Cmd.endable).foldl (fun s y => s.abortCmd c g y) s)

/-! ## ABORT (R83, R85) -/

def cmdAbort (c q : Nat) (k : Cmd) (s : State) : CmdOut :=
  let g := pf k.par 8 1
  if 127 < g then refuse s stBadParam
  else match (s.queueCmds c g).find? (fun y => y.tag == pf k.par 10 2) with
    | none => refuse s stTooLate
    | some y =>
      if g = q || unabortable y.op then refuse s stTooLate
      else if y.endable then okay (s.abortCmd c g y)
      else .wait (.abortHeld y.seq) s

end Sys2Proof.Machine
end

