-- ==== Sys2Proof/Machine/Items.lean ====
section
/-! DEFINITION. Items (01_machine.md, 03_plans.md): how window entries make items (R16, R17, R59, R60), what the verdict
composer forms (R51), and the verdict record with its payload, rejects and forwarded results at b + L (R18, R91 to R93,
R110, R390). -/

namespace Sys2Proof.Machine

/-! ## Creation (R16, R17, R59, R60) -/

/-- A window entry that HWM of the plan's ENCODER has reached. -/
def State.reached (s : State) (p : Plan) (x : Entry) : Bool := decide (x.pos ≤ (s.enc p.img.enc).hwm)

/-- Entries that are reached under a plan that creates no item for them are dropped (R60). -/
def State.dropEntries (s : State) (c : Nat) : State :=
  { s with plans := s.plans.map (fun kp =>
      (kp.1, if kp.1 / 4 = c && kp.2.phase != .running then { kp.2 with entries := kp.2.entries.filter (fun x => !s.reached kp.2 x) }
             else kp.2)) }

/-- Of two entries the one whose trigger rule has the lower index, then the one with the lower number (R17). -/
def Entry.first (x y : Entry) : Entry := if y.rule < x.rule || (y.rule == x.rule && decide (y.j < x.j)) then y else x

/-- The entry of a plan that makes the next item. -/
def State.nextEntry (s : State) (p : Plan) : Option Entry :=
  match p.entries.filter (s.reached p) with
  | [] => none
  | x :: t => some (t.foldl Entry.first x)

/-- The slots taken in the cycle of the present beat. -/
def Plan.takenIn (p : Plan) (n : Nat) : Nat := if p.takenCycle = n then p.taken else 0

/-- Why an item gets no slot: the cycle's slots are taken, or the gap of its class has not passed (R59). -/
inductive NoSlot where
  | slots
  | gap
  deriving DecidableEq, Repr

def State.noSlot (s : State) (p : Plan) (cls n : Nat) : Option NoSlot :=
  if p.img.slots ≤ p.takenIn n then some .slots
  else match tfind p.lastTake cls, p.img.classOf cls with
    | some b, some d => if s.beat < b + d.minGap then some .gap else none
    | _, _ => none

/-- The plan with a slot of a cycle taken. -/
def Plan.takeSlot (p : Plan) (cls n beat : Nat) : Plan :=
  { p with takenCycle := n, taken := p.takenIn n + 1, lastTake := tput p.lastTake cls beat }

/-- The counters of an item that got no slot. -/
def State.countNoSlot (s : State) (c h : Nat) : NoSlot → State
  | .slots => (s.incWrap (F.CPX_PLN_NI_SLOT_NI_SLOT c)).onPlan c h (fun p => { p with niSlot := p.niSlot + 1 })
  | .gap => (s.incWrap (F.CPX_PLN_NI_GAP_NI_GAP c)).onPlan c h (fun p => { p with niGap := p.niGap + 1 })

/-- The item that an entry makes. -/
def State.newItem (s : State) (c h : Nat) (p : Plan) (x : Entry) (cls : Nat) (slot : Option (Nat × Nat)) : Item :=
  { c := c, h := h, id := (s.ctx c).nextItem, cls := cls, rule := x.rule, pos := x.pos, stamp := s.time, beat := s.beat,
    slot := slot, faulted := false, incomplete := s.dependsAbsent c p.whole cls, ran := [], composed := none, j := x.j,
    markT := x.markT, windowed := false }

/-- One entry of a RUNNING plan becomes an item. -/
def State.createItem (s : State) (c h : Nat) (p : Plan) (x : Entry) : State :=
  match p.img.rules[x.rule]? with
  | none => s
  | some r =>
    let n := (s.beat - p.anchor) / max 1 p.img.cyc
    let no := s.noSlot p r.cls n
    let i := s.newItem c h p x r.cls (if no.isSome then none else some (p.takenIn n, n))
    let p := { p with entries := p.entries.erase x, items := p.items + 1 }
    let s := s.setPlan c h (if no.isSome then p else p.takeSlot r.cls n s.beat)
    let s := s.setCtx c { s.ctx c with nextItem := (i.id + 1) % 2 ^ 32 }
    let s := State.incWrap { s with items := s.items ++ [i] } (F.CPX_PLN_ITEMS_ITEMS c)
    match no with
    | some w => s.countNoSlot c h w
    | none => s

/-- ITEM_CREATE: the next item of the context's RUNNING plan. -/
def itemCreate (c : Nat) (s : State) : State :=
  let s := s.dropEntries c
  match (s.ctxPlans c).find? (fun p => p.2.phase == .running && (s.nextEntry p.2).isSome) with
  | none => s
  | some (h, p) =>
    match s.nextEntry p with
    | none => s
    | some x => s.createItem c h p x

/-! ## Composition (R51, R92) -/

/-- The composer at work on an item, as an error record names it. -/
def Item.who (i : Item) : Who := ⟨0x7000, i.c, true, i.id⟩

/-- Bytes that the composer reads from a source of its verdict rule; a REVOKED range reads poison (R269). -/
def State.sourceRead (s : State) (e : HostEnv) (p : Plan) (i : Item) (op off n : Nat) : List PByte × State :=
  match s.buf? i.c p.img (some i) op with
  | none => (poisonBytes n, s)
  | some b => if b.revoked then (poisonBytes n, s) else s.copyRead e i.who (cutSegs b.segs off n)

/-- The scores against their limits. -/
def VerdictRule.judge (v : VerdictRule) (scores : List Int) : Nat :=
  if ((rangeFrom 0 v.nscores).all (fun k =>
      decide (v.low.getD k 0 ≤ scores.getD k 0) && decide (scores.getD k 0 ≤ v.high.getD k 0))) then 0 else v.failResult

/-- The scores in the order of their bytes; those beyond NSCORES are 0 (Table 4.6). -/
def scoresOf (n : Nat) (d : Bytes) : List Int :=
  (rangeFrom 0 4).map (fun k => if k < n then sint 16 (leField d (2 * k) 2) else 0)

/-- What the composer forms for an item from its sources, each read only when it is in use. -/
def State.compose (s : State) (e : HostEnv) (p : Plan) (i : Item) (v : VerdictRule) : State :=
  let x := if v.nscores = 0 then (clean (List.replicate 8 0), s) else s.sourceRead e p i v.scoreSrc v.scoreOfs 8
  let y := if v.gradeSrc = 0xFFFF then (clean [0, 0], x.2) else x.2.sourceRead e p i v.gradeSrc v.gradeOfs 2
  let z := if v.paySrc = 0xFFFF || v.payGran = 0 then ([], y.2) else y.2.sourceRead e p i v.paySrc 0 (64 * v.payGran)
  let w := z.2.result 0x09 (x.1 ++ y.1)
  let d := w.1.map (·.1)
  let scores := scoresOf v.nscores (d.take 8)
  let bad := (x.1 ++ y.1 ++ z.1).any (·.2)
  (w.2.mapItems (fun k => k.c == i.c && k.id == i.id) (fun k =>
    { k with composed := some ⟨v.judge scores, scores, leNat (d.drop 8), z.1⟩, faulted := k.faulted || bad })).noteRun 0x7000
      ⟨i.c, i.h, true, 0, i.id⟩

/-- An item with a slot that has not been composed is composed. -/
def State.composeItem (s : State) (e : HostEnv) (p : Plan) (i : Item) : State :=
  if i.slot.isNone || i.composed.isSome then s
  else match p.img.verdicts.find? (fun v => v.cls == i.cls) with
    | some v => s.compose e p i v
    | none => s

/-- The plan of an item, RUNNING or DRAINING. -/
def State.itemPlan (s : State) (i : Item) : Option Plan :=
  match s.plan? i.c i.h with
  | some p => if p.phase == .running || p.phase == .draining then some p else none
  | none => none

/-- VERDICT_COMPOSE: in beats b + L − 7 to b + L − 1. -/
def verdictCompose (c id : Nat) (e : HostEnv) (s : State) : State :=
  match s.item? c id with
  | none => s
  | some i =>
    match s.itemPlan i with
    | none => s
    | some p =>
      if i.beat + p.img.lat ≤ s.beat + 7 && decide (s.beat < i.beat + p.img.lat) then s.composeItem e p i else s

/-! ## The verdict (R18, R51, R91 to R93) -/

/-- The result with the codes that replace the composer's, in their order (R51). -/
def Item.result (i : Item) : Nat :=
  if i.slot.isNone then 4
  else if i.faulted then 5
  else if i.incomplete then 6
  else match i.composed with
    | some v => v.result
    | none => 0

/-- What the record carries of the composer's work: nothing when the item ran no record (Table 4.6, R92). -/
def Item.shown (i : Item) : Composed :=
  match i.composed with
  | some v => if i.ran = [] then ⟨v.result, [0, 0, 0, 0], 0, []⟩ else v
  | none => ⟨0, [0, 0, 0, 0], 0, []⟩

/-- A verdict record (Table 4.6). -/
def verdictBytes (i : Item) (hash : Nat) (grades : Nat) (scores : List Int) (res : Nat) (paid cut phase : Bool) : Bytes :=
  leBytes 4 i.id ++ leBytes 4 hash ++ leBytes 6 (uint 48 i.pos) ++ leBytes 2 grades ++ leBytes 6 i.stamp ++ leBytes 1 res ++
    leBytes 1 (b2n phase + 2 * b2n paid + 4 * i.cls + 64 * b2n cut) ++ scores.flatMap (fun x => leBytes 2 (uint 16 x))

/-- The payload, then the record, written to the context's VERDICT queue; without room or queue the record is lost. -/
def State.writeVerdict (s : State) (i : Item) (p : Plan) : State :=
  match s.verdictQueue i.c with
  | none => s.incWrap (F.FN_VLOST_VLOST i.c)
  | some (q, x) =>
    if x.room = false then s.incWrap (F.FN_VLOST_VLOST i.c)
    else
      let v := i.shown
      let n := 64 * x.payStride
      let pay := if x.payDva = 0 then [] else v.payload.take n
      let s := if pay = [] then s
        else s.writeSegs i.who (s.queueSegs i.c x (x.payDva + x.p * n) pay.length 2) pay
      s.cqWrite i.c q false (verdictBytes i (p.img.hash % 2 ^ 32) v.grades v.scores i.result (pay != [])
        (pay != [] && decide (n < v.payload.length)))

/-- The counters of Table 3.16 that a verdict moves (R68). -/
def State.countVerdict (s : State) (i : Item) : State :=
  if i.result = 5 then (s.incWrap (F.CPX_PLN_FAULTED_FAULTED i.c)).onPlan i.c i.h (fun p => { p with faulted := p.faulted + 1 })
  else if i.result = 6 then
    (s.incWrap (F.CPX_PLN_INCOMPLETE_INCOMPLETE i.c)).onPlan i.c i.h (fun p => { p with incomplete := p.incomplete + 1 })
  else s

/-- The reject rules of a class evaluated for a result at an entry position (R110). -/
def State.evalRejects (s : State) (c h enc cls res : Nat) (pos : Int) (l : List RejectRule) : State :=
  (l.filter (fun r => r.cls == cls && bit r.mask res)).foldl (fun s r =>
    s.addOutput r.output ⟨pos + r.offset, r.pulse, enc, c, h, false⟩) s

/-- The members other than this one whose partitions hold a reject rule for a class (R390). -/
def State.rejectMembers (s : State) (im : PlanImage) (cls : Nat) : List Nat :=
  if im.isHerd then
    (rangeFrom 0 im.memberCount).filter (fun m => m != s.self && (im.memberRejects m).any (fun r => r.cls == cls))
  else []

/-- The leader position of a position on this device (R385). -/
def State.toLeader (s : State) (pos : Int) : Int := if s.isLeader then pos else pos - sint 64 (s.rd R.HRD_ENC_OFS)
def State.fromLeader (s : State) (pos : Int) : Int := if s.isLeader then pos else pos + sint 64 (s.rd R.HRD_ENC_OFS)

/-- The record, the counters, the rejects and the forwarded results of an item whose beat b + L has come. -/
def State.issueVerdict (s : State) (i : Item) (p : Plan) : State :=
  let s := (s.writeVerdict i p).countVerdict i
  let s := s.evalRejects i.c i.h p.img.enc i.cls i.result i.pos (p.whole.memberRejects s.self)
  let s := (s.rejectMembers p.whole i.cls).foldl (fun (s : State) m =>
    s.forward ⟨i.id, i.cls, m, i.result, s.beat, none⟩ (s.toLeader i.pos)) s
  { s with items := s.items.filter (fun k => !(k.c == i.c && k.id == i.id)) }

/-- The verdict of an item falls due in the present beat. -/
def State.verdictDue (s : State) (i : Item) : Bool :=
  match s.itemPlan i with
  | some p => s.beat == i.beat + p.img.lat
  | none => false

/-- ITEM_VERDICT: in beat b + L, after every older item of the context that is due in the same beat (R18). -/
def itemVerdict (c id : Nat) (e : HostEnv) (s : State) : State :=
  match s.items.find? (fun i => i.c == c && s.verdictDue i) with
  | none => s
  | some i =>
    if i.id ≠ id then s
    else match s.itemPlan i with
      | none => s
      | some p =>
        let s := s.composeItem e p i
        match s.item? c id with
        | some i => s.issueVerdict i p
        | none => s

/-! ## Results forwarded to this member (R390) -/

/-- One received result evaluated under this member's reject rules of its Herd plan. -/
def State.evalForwarded (s : State) (cls res : Nat) (pos : Int) : State :=
  match s.herdPlans.find? (fun p => p.2.2.phase == .running || p.2.2.phase == .draining) with
  | some (c, h, p) => s.evalRejects c h p.img.enc cls res (s.fromLeader pos) (p.whole.memberRejects s.self)
  | none => s

/-- The boundary at which received results are evaluated. -/
def State.inboxBeat (s : State) : State :=
  let l := s.herd.inbox
  if l = [] then s
  else l.foldl (fun (s : State) m => s.evalForwarded m.1 m.2.1 m.2.2) (s.onHerd (fun h => { h with inbox := [] }))

end Sys2Proof.Machine
end

