-- ==== Sys2Proof/Machine/Beat.lean ====
section
/-! DEFINITION. Device time (02_time.md): the tick that passes while no command waits, and the beat boundary with the
beat-locked work that begins there (R32 to R36): plans that start, stop and swap (R56, R60 to R62), timed commands (R81) and
the boundary duties of every block. -/

namespace Sys2Proof.Machine

/-! ## Commands that wait for a tick or a beat (R81) -/

/-- The result of a chain unit's or PPU channel's self-test is the hardware's (R368): free. -/
def State.endUnitTest (s : State) (k : Cmd) : Nat × State :=
  let x := s.draw
  let pass := x.1 % 2 == 1
  (b2n pass, x.2.unitTested (pf k.par 8 1) (pf k.par 9 1) pass)

/-- The change that a timed command makes when its beat or tick `n` has come, with its DETAIL. -/
def State.timedChange (s : State) (c n : Nat) (k : Cmd) : Nat × State :=
  match k.op with
  | 0x13 => (n % 2 ^ 32, s.drainPlan c (pf k.par 8 1) n (bit (pf k.par 9 1) 0))
  | 0x51 => (0, if s.dfcState (pf k.par 8 1) = 1 then s.dfcBegin (pf k.par 8 1) else s)
  | 0x71 => (min (s.admittedSum (pf k.par 12 4)) 0xFFFFFFFF, s.applyBudget k.par)
  | 0x80 => (n % 2 ^ 32, s.armInjection k.par)
  | 0x82 => s.endUnitTest k
  | _ => (0, s)

/-- One command whose beat or tick has come makes its change and its result is fixed. -/
def State.endTimed (s : State) (g n : Nat) (k : Cmd) : State :=
  let x := s.timedChange (g / 128) n k
  (x.2.markTimed (g / 128) (g % 128) k.seq).fixResult (g / 128) (g % 128) k.seq stOk x.1

/-- The beat or tick that a command waits for, when it has come. DFC_SYNC ends an ACQ_SYNC itself. -/
def State.timeCome (s : State) (k : Cmd) : Option Nat :=
  match k.phase with
  | .executing (.atBeat n) => if n ≤ s.beat && !k.timed then some n else none
  | .executing (.atTick t) => if t ≤ s.time && k.op != 0x52 && !k.timed then some t else none
  | _ => none

/-- Every timed command whose time has come. -/
def State.timedCommands (s : State) : State :=
  (s.queues.flatMap (fun x => x.2.cmds.map (fun k => (x.1, k)))).foldl (fun s x =>
    match s.timeCome x.2 with
    | some n => s.endTimed x.1 n x.2
    | none => s) s

/-! ## A tick -/

/-- What every tick brings: the forward marks, line inputs that reach MIN_US, commands timed for the tick. -/
def State.tickWork (s : State) : State :=
  let s := (rangeFrom 0 4).foldl (fun (s : State) n => s.encTick n) s
  let s := (rangeFrom 0 8).foldl (fun (s : State) i => s.liTick i) s
  s.timedCommands

/-- The tick that passes when no command waits. The last tick of a beat ends with BEAT_BOUNDARY only. -/
def idle (s : State) : State :=
  if s.time % 500 = 499 then s
  else
    let s : State := { s with time := s.time + 1 }
    if s.ready then s.tickWork.settle else s

/-! ## Plans at a boundary (R56, R60 to R62, R384, R385) -/

/-- An ARMED plan whose beat has come is RUNNING; at a swap its P drains from this boundary and hands over the class gaps. -/
def State.startPlan (s : State) (c h : Nat) (p : Plan) : State :=
  let old := if p.armedSwap then p.partner.bind (fun m => if m < 4 then (s.plan? c m).map (fun q => (m, q)) else none) else none
  let s := match old with
    | some (m, _) => s.drainPlan c m p.start false
    | none => s
  let s := s.setPlan c h { p with phase := .running, armedSwap := false,
                                  lastTake := match old with | some (_, q) => q.lastTake | none => p.lastTake }
  if p.whole.isHerd && s.herdState == 2 then s.onHerd (fun x => { x with ofsDue := true }) else s

/-- The plans that start at this boundary. -/
def State.startPlans (s : State) : State :=
  (s.livePlans.filter (fun p => p.2.2.phase == .armed && decide (p.2.2.start ≤ s.beat))).foldl
    (fun s p => s.startPlan p.1 p.2.1 p.2.2) s

/-- The leader's swap boundary has come on a member whose N is not armed: its P drains anyway (R384). -/
def State.swapWithout (s : State) : State :=
  match s.herd.leader with
  | none => s
  | some x =>
    if s.herdState != 2 || x.swap = 0 || decide (s.beat < x.swap) then s
    else (s.herdPlans.filter (fun p => p.2.2.phase == .running && p.2.2.img.hash == x.hash &&
        !s.swapArmed p.1 p.2.1 && x.hash != x.swapHash)).foldl (fun s p => s.drainPlan p.1 p.2.1 x.swap false) s

/-! ## Blocks at a boundary -/

/-- The leader's HWM on its Herd plan's ENCODER goes out with each time exchange and at the plan's start (R385). -/
def State.tellHwm (s : State) (started : Bool) : State :=
  if s.isLeader && (started || s.beat % 200 == 0) then
    match s.herdPlan with
    | some (_, _, p) => s.tellAll none [6, s.beat, uint 64 (s.enc p.img.enc).hwm]
    | none => s
  else s

/-- The Herd's duties at a boundary. -/
def State.herdBeat (s : State) (started : Bool) : State :=
  let s := (((s.leaveBeat.leaversBeat).linksBeat).inboxBeat).showSelf
  (((s.timeBeat).tellHwm started).tellChanges).joinStep

/-- Energy, line I/O, sensors, strobes and the fabric's beat. -/
def State.unitsBeat (s : State) (energy : Nat) : State :=
  let s := s.unmetBeat.emuBeat energy
  let s := (rangeFrom 0 4).foldl (fun (s : State) n => s.encBeat n) s
  let s := (rangeFrom 0 4).foldl (fun (s : State) p => s.evpBeat p) s
  let s := s.strobeBeat
  { s with fabric := s.fabric.filter (fun e => e.beat == s.beat) }

/-- Rotation and power at a boundary. -/
def State.powerBeat (s : State) : State := ((((s.rotationDue 0).rotationDue 1).windowsBeat).idleBeat).groupStep

/-- A Herd plan goes RUNNING at this boundary. -/
def State.herdStarts (s : State) : Bool :=
  s.herdPlans.any (fun p => p.2.2.phase == .armed && decide (p.2.2.start ≤ s.beat))

/-- Entries reached before this tick under plans that are not RUNNING make no items (R60). -/
def State.dropEarly (s : State) : State :=
  { s with plans := s.plans.map (fun kp =>
      (kp.1, if kp.2.phase != .running then { kp.2 with entries := kp.2.entries.filter (fun x => !s.reached kp.2 x) }
             else kp.2)) }

/-- The beat-locked work of a new beat. -/
def State.beatWork (s : State) (e : BeatEnv) : State :=
  let s := s.dropEarly.tickWork.unitsBeat e.energy
  let started := s.herdStarts
  let s := s.startPlans.swapWithout
  ((s.powerBeat.herdBeat started).revokeBeat).settle

/-- The copies of device time compared with the H-die counter (R34). -/
def State.compareTimes (s : State) (dies : List Nat) : State :=
  match dies with
  | [] => s
  | d :: _ => s.fireDetector 0x13 d

/-- BEAT_BOUNDARY: device time goes to the next multiple of 500. Beat work begins when the device is READY. -/
def beatBoundary (e : BeatEnv) (s : State) : State :=
  let s : State := { s with time := (s.beat + 1) * 500 }
  if s.ready then (s.beatWork e).compareTimes e.timeDiff else s

/-- LIO_ENC_RELOCK (R103); a member of a Herd sets its encoder offset anew (R385). -/
def lioEncRelock (n : Nat) (s : State) : State :=
  let lost := s.ready && s.encLost n
  let s := encRelock n s
  if lost && s.herdState == 2 then s.onHerd (fun x => { x with ofsDue := true }) else s

end Sys2Proof.Machine
end

