-- ==== Sys2Proof/Machine/RegTable.lean ====
section
/-! DEFINITION. The register tables of the spec as data: for each register its first offset, up to two instance
counts and strides, its width and its fields with their access codes and reset values (Tables 0.3 and the "Registers"
section of every chapter). REGISTER_READ and REGISTER_WRITE look offsets up here. -/

namespace Sys2Proof.Machine

def tableGlb : List RegDesc := [
  ⟨0x0, 1, 0x0, 1, 0x0, 32, [⟨15, 0, .ro, 0x4832⟩, ⟨23, 16, .ro, 0xb0⟩]⟩,
  ⟨0x4, 1, 0x0, 1, 0x0, 32, [⟨0, 0, .ro, 0x0⟩, ⟨1, 1, .ro, 0x0⟩, ⟨2, 2, .ro, 0x0⟩, ⟨3, 3, .ro, 0x0⟩, ⟨4, 4, .ro, 0x0⟩, ⟨11, 8, .ro, 0x0⟩, ⟨23, 16, .ro, 0x0⟩]⟩,
  ⟨0x8, 1, 0x0, 1, 0x0, 32, [⟨3, 0, .ro, 0x0⟩, ⟨15, 8, .ro, 0xff⟩, ⟨19, 16, .ro, 0x0⟩]⟩,
  ⟨0xc, 1, 0x0, 1, 0x0, 32, [⟨15, 0, .ro, 0x0⟩]⟩,
  ⟨0x10, 1, 0x0, 1, 0x0, 64, [⟨63, 0, .ro, 0x0⟩]⟩,
  ⟨0x18, 1, 0x0, 1, 0x0, 32, [⟨15, 0, .rc, 0x0⟩, ⟨16, 16, .ro, 0x0⟩]⟩,
  ⟨0x1c, 1, 0x0, 1, 0x0, 32, [⟨25, 0, .ro, 0x0⟩]⟩,
  ⟨0x20, 1, 0x0, 1, 0x0, 32, [⟨6, 0, .rw, 0x0⟩, ⟨15, 8, .wo, 0x0⟩, ⟨18, 16, .ro, 0x0⟩, ⟨31, 31, .ro, 0x0⟩]⟩,
  ⟨0x24, 1, 0x0, 1, 0x0, 32, [⟨0, 0, .w1c, 0x0⟩, ⟨1, 1, .w1c, 0x0⟩]⟩,
  ⟨0x28, 1, 0x0, 1, 0x0, 32, [⟨1, 0, .rw, 0x0⟩]⟩,
  ⟨0x2c, 1, 0x0, 1, 0x0, 32, [⟨7, 0, .rw, 0xff⟩]⟩]

def tableClk : List RegDesc := [
  ⟨0x10000, 1, 0x0, 1, 0x0, 32, [⟨0, 0, .ro, 0x0⟩, ⟨1, 1, .ro, 0x0⟩, ⟨2, 2, .ro, 0x0⟩, ⟨3, 3, .ro, 0x0⟩]⟩,
  ⟨0x10008, 1, 0x0, 1, 0x0, 64, [⟨63, 0, .ro, 0x0⟩]⟩,
  ⟨0x10018, 1, 0x0, 1, 0x0, 32, [⟨15, 0, .ro, 0x0⟩]⟩,
  ⟨0x1001c, 1, 0x0, 1, 0x0, 32, [⟨17, 0, .ro, 0x0⟩]⟩,
  ⟨0x10020, 1, 0x0, 1, 0x0, 32, [⟨15, 0, .rc, 0x0⟩]⟩,
  ⟨0x10030, 1, 0x0, 1, 0x0, 32, [⟨31, 0, .ro, 0xffffffff⟩]⟩,
  ⟨0x10034, 1, 0x0, 1, 0x0, 32, [⟨31, 0, .ro, 0xffffffff⟩]⟩,
  ⟨0x10038, 1, 0x0, 1, 0x0, 32, [⟨28, 0, .ro, 0x1fffffff⟩]⟩,
  ⟨0x10100, 4, 0x40, 1, 0x0, 32, [⟨1, 0, .ro, 0x0⟩, ⟨6, 4, .ro, 0x0⟩, ⟨12, 8, .ro, 0x0⟩]⟩,
  ⟨0x10108, 4, 0x40, 1, 0x0, 64, [⟨63, 0, .ro, 0x0⟩]⟩,
  ⟨0x10110, 4, 0x40, 1, 0x0, 32, [⟨31, 0, .ro, 0x0⟩]⟩,
  ⟨0x10114, 4, 0x40, 1, 0x0, 32, [⟨15, 0, .rc, 0x0⟩]⟩]

def tablePmc : List RegDesc := [
  ⟨0x20000, 1, 0x0, 1, 0x0, 32, [⟨0, 0, .ro, 0x0⟩, ⟨1, 1, .ro, 0x0⟩]⟩,
  ⟨0x20004, 1, 0x0, 1, 0x0, 32, [⟨0, 0, .w1c, 0x0⟩, ⟨1, 1, .w1c, 0x0⟩, ⟨2, 2, .w1c, 0x0⟩, ⟨3, 3, .w1c, 0x0⟩]⟩,
  ⟨0x20008, 1, 0x0, 1, 0x0, 32, [⟨3, 0, .rw, 0x0⟩]⟩,
  ⟨0x2000c, 1, 0x0, 1, 0x0, 32, [⟨7, 0, .rw, 0xff⟩]⟩,
  ⟨0x20010, 1, 0x0, 1, 0x0, 32, [⟨0, 0, .ro, 0x0⟩, ⟨1, 1, .ro, 0x0⟩, ⟨2, 2, .w1c, 0x0⟩, ⟨15, 8, .ro, 0xe⟩]⟩,
  ⟨0x20014, 1, 0x0, 1, 0x0, 32, [⟨6, 0, .ro, 0x0⟩, ⟨11, 8, .ro, 0x0⟩]⟩,
  ⟨0x20018, 1, 0x0, 1, 0x0, 32, [⟨15, 0, .rc, 0x0⟩, ⟨31, 16, .rc, 0x0⟩]⟩,
  ⟨0x2001c, 1, 0x0, 1, 0x0, 32, [⟨15, 0, .rc, 0x0⟩, ⟨31, 16, .rc, 0x0⟩]⟩,
  ⟨0x21000, 93, 0x40, 1, 0x0, 32, [⟨1, 0, .ro, 0x0⟩, ⟨27, 8, .ro, 0x0⟩]⟩,
  ⟨0x21004, 93, 0x40, 1, 0x0, 32, [⟨1, 0, .ro, 0x0⟩, ⟨3, 2, .ro, 0x0⟩, ⟨4, 4, .ro, 0x0⟩, ⟨5, 5, .ro, 0x0⟩, ⟨6, 6, .ro, 0x0⟩]⟩,
  ⟨0x21008, 93, 0x40, 1, 0x0, 64, [⟨63, 0, .ro, 0x0⟩]⟩,
  ⟨0x21010, 93, 0x40, 1, 0x0, 64, [⟨63, 0, .ro, 0x0⟩]⟩,
  ⟨0x21018, 93, 0x40, 1, 0x0, 64, [⟨63, 0, .ro, 0x0⟩]⟩,
  ⟨0x21020, 93, 0x40, 1, 0x0, 64, [⟨63, 0, .ro, 0x0⟩]⟩,
  ⟨0x21028, 93, 0x40, 1, 0x0, 64, [⟨63, 0, .ro, 0x0⟩]⟩,
  ⟨0x21030, 93, 0x40, 1, 0x0, 32, [⟨15, 0, .rc, 0x0⟩, ⟨31, 16, .rc, 0x0⟩]⟩,
  ⟨0x21034, 93, 0x40, 1, 0x0, 32, [⟨15, 0, .ro, 0x0⟩, ⟨31, 16, .ro, 0x0⟩]⟩]

def tableEmu0 : List RegDesc := [
  ⟨0x30000, 1, 0x0, 1, 0x0, 32, [⟨0, 0, .ro, 0x0⟩, ⟨1, 1, .ro, 0x0⟩, ⟨2, 2, .ro, 0x0⟩, ⟨3, 3, .ro, 0x0⟩]⟩,
  ⟨0x30004, 1, 0x0, 1, 0x0, 32, [⟨0, 0, .w1c, 0x0⟩, ⟨1, 1, .w1c, 0x0⟩, ⟨2, 2, .w1c, 0x0⟩, ⟨3, 3, .w1c, 0x0⟩, ⟨4, 4, .w1c, 0x0⟩, ⟨5, 5, .w1c, 0x0⟩, ⟨6, 6, .w1c, 0x0⟩]⟩,
  ⟨0x30008, 1, 0x0, 1, 0x0, 32, [⟨6, 0, .rw, 0x0⟩]⟩,
  ⟨0x3000c, 1, 0x0, 1, 0x0, 32, [⟨7, 0, .rw, 0xff⟩]⟩,
  ⟨0x30010, 1, 0x0, 1, 0x0, 32, [⟨31, 0, .ro, 0x17318⟩]⟩,
  ⟨0x30014, 1, 0x0, 1, 0x0, 32, [⟨16, 0, .ro, 0xc8⟩]⟩,
  ⟨0x30018, 1, 0x0, 1, 0x0, 32, [⟨31, 0, .ro, 0x128e⟩]⟩,
  ⟨0x3001c, 1, 0x0, 1, 0x0, 32, [⟨6, 0, .ro, 0x1⟩]⟩,
  ⟨0x30020, 1, 0x0, 1, 0x0, 32, [⟨31, 0, .ro, 0x17318⟩]⟩,
  ⟨0x30024, 1, 0x0, 1, 0x0, 32, [⟨31, 0, .ro, 0x708⟩]⟩,
  ⟨0x30028, 1, 0x0, 1, 0x0, 32, [⟨31, 0, .ro, 0x0⟩]⟩,
  ⟨0x3002c, 1, 0x0, 1, 0x0, 32, [⟨9, 0, .ro, 0x0⟩]⟩,
  ⟨0x30030, 1, 0x0, 1, 0x0, 64, [⟨63, 0, .ro, 0x0⟩]⟩,
  ⟨0x30038, 1, 0x0, 1, 0x0, 32, [⟨23, 0, .ro, 0x0⟩]⟩,
  ⟨0x30040, 1, 0x0, 1, 0x0, 64, [⟨63, 0, .ro, 0x0⟩]⟩,
  ⟨0x30048, 1, 0x0, 1, 0x0, 64, [⟨63, 0, .ro, 0x0⟩]⟩,
  ⟨0x30050, 1, 0x0, 1, 0x0, 32, [⟨31, 0, .rc, 0x0⟩]⟩,
  ⟨0x30054, 1, 0x0, 1, 0x0, 32, [⟨31, 0, .rc, 0x0⟩]⟩,
  ⟨0x30058, 1, 0x0, 1, 0x0, 32, [⟨31, 0, .rc, 0x0⟩]⟩,
  ⟨0x3005c, 1, 0x0, 1, 0x0, 32, [⟨31, 0, .rc, 0x0⟩]⟩,
  ⟨0x30060, 1, 0x0, 1, 0x0, 32, [⟨7, 0, .rw, 0x64⟩, ⟨15, 8, .rw, 0x20⟩]⟩,
  ⟨0x30064, 1, 0x0, 1, 0x0, 32, [⟨11, 0, .ro, 0x0⟩]⟩,
  ⟨0x30068, 1, 0x0, 1, 0x0, 32, [⟨15, 0, .ro, 0x0⟩]⟩,
  ⟨0x30100, 4, 0x10, 1, 0x0, 32, [⟨11, 0, .ro, 0x0⟩]⟩,
  ⟨0x30104, 4, 0x10, 1, 0x0, 32, [⟨8, 0, .rw, 0x40⟩]⟩]

def tableEmu1 : List RegDesc := [
  ⟨0x30108, 4, 0x10, 1, 0x0, 32, [⟨31, 0, .rc, 0x0⟩]⟩]

def tableEmu : List RegDesc := tableEmu0 ++ tableEmu1

def tableFmu : List RegDesc := [
  ⟨0x40000, 1, 0x0, 1, 0x0, 32, [⟨0, 0, .ro, 0x1⟩, ⟨1, 1, .ro, 0x0⟩, ⟨2, 2, .ro, 0x0⟩, ⟨3, 3, .ro, 0x0⟩, ⟨4, 4, .ro, 0x0⟩, ⟨5, 5, .ro, 0x0⟩, ⟨6, 6, .ro, 0x0⟩]⟩,
  ⟨0x40004, 1, 0x0, 1, 0x0, 32, [⟨0, 0, .rw, 0x1⟩, ⟨11, 8, .rw, 0x3⟩]⟩,
  ⟨0x40008, 1, 0x0, 1, 0x0, 32, [⟨0, 0, .w1c, 0x0⟩, ⟨1, 1, .w1c, 0x0⟩, ⟨2, 2, .w1c, 0x0⟩, ⟨3, 3, .w1c, 0x0⟩, ⟨4, 4, .w1c, 0x0⟩, ⟨5, 5, .w1c, 0x0⟩]⟩,
  ⟨0x4000c, 1, 0x0, 1, 0x0, 32, [⟨5, 0, .rw, 0x0⟩]⟩,
  ⟨0x40010, 1, 0x0, 1, 0x0, 32, [⟨7, 0, .rw, 0xff⟩]⟩,
  ⟨0x40014, 1, 0x0, 1, 0x0, 32, [⟨9, 0, .ro, 0x0⟩, ⟨31, 16, .rc, 0x0⟩]⟩,
  ⟨0x40018, 1, 0x0, 1, 0x0, 32, [⟨31, 0, .ro, 0x0⟩]⟩,
  ⟨0x4001c, 1, 0x0, 1, 0x0, 32, [⟨7, 0, .ro, 0x0⟩, ⟨11, 8, .ro, 0x0⟩]⟩,
  ⟨0x40020, 1, 0x0, 1, 0x0, 32, [⟨6, 0, .ro, 0x0⟩, ⟨9, 8, .ro, 0x0⟩, ⟨31, 16, .ro, 0x0⟩]⟩,
  ⟨0x40028, 1, 0x0, 1, 0x0, 64, [⟨63, 0, .ro, 0x0⟩]⟩,
  ⟨0x40030, 1, 0x0, 1, 0x0, 32, [⟨6, 0, .ro, 0x0⟩, ⟨31, 16, .rc, 0x0⟩]⟩,
  ⟨0x40800, 8, 0x20, 1, 0x0, 256, [⟨255, 0, .ro, 0x0⟩]⟩,
  ⟨0x41000, 96, 0x10, 1, 0x0, 32, [⟨15, 0, .rc, 0x0⟩, ⟨31, 16, .rc, 0x0⟩]⟩,
  ⟨0x41008, 96, 0x10, 1, 0x0, 64, [⟨63, 0, .ro, 0x0⟩]⟩]

def tableKsu : List RegDesc := [
  ⟨0x50000, 1, 0x0, 1, 0x0, 32, [⟨0, 0, .ro, 0x0⟩, ⟨1, 1, .ro, 0x0⟩, ⟨2, 2, .ro, 0x0⟩, ⟨3, 3, .ro, 0x0⟩, ⟨4, 4, .ro, 0x0⟩, ⟨5, 5, .ro, 0x0⟩, ⟨6, 6, .ro, 0x0⟩, ⟨7, 7, .ro, 0x0⟩, ⟨8, 8, .ro, 0x0⟩]⟩,
  ⟨0x50004, 1, 0x0, 1, 0x0, 32, [⟨0, 0, .w1c, 0x0⟩, ⟨1, 1, .w1c, 0x0⟩, ⟨2, 2, .w1c, 0x0⟩, ⟨3, 3, .w1c, 0x0⟩]⟩,
  ⟨0x50008, 1, 0x0, 1, 0x0, 32, [⟨3, 0, .rw, 0x0⟩]⟩,
  ⟨0x5000c, 1, 0x0, 1, 0x0, 32, [⟨7, 0, .rw, 0xff⟩]⟩,
  ⟨0x50010, 1, 0x0, 1, 0x0, 32, [⟨1, 0, .ro, 0x0⟩, ⟨8, 8, .ro, 0x0⟩]⟩,
  ⟨0x50014, 1, 0x0, 1, 0x0, 32, [⟨6, 0, .ro, 0x0⟩, ⟨11, 8, .ro, 0x0⟩, ⟨15, 12, .ro, 0x0⟩, ⟨17, 16, .ro, 0x0⟩]⟩,
  ⟨0x50018, 1, 0x0, 1, 0x0, 32, [⟨3, 0, .rw, 0x0⟩, ⟨9, 8, .wo, 0x0⟩, ⟨18, 16, .ro, 0x0⟩, ⟨31, 31, .ro, 0x0⟩]⟩,
  ⟨0x5001c, 1, 0x0, 1, 0x0, 32, [⟨15, 0, .ro, 0x0⟩]⟩,
  ⟨0x50020, 4, 0x4, 1, 0x0, 32, [⟨31, 0, .ro, 0x0⟩]⟩,
  ⟨0x50030, 1, 0x0, 1, 0x0, 32, [⟨0, 0, .wo, 0x0⟩, ⟨1, 1, .rw, 0x0⟩, ⟨18, 16, .ro, 0x0⟩, ⟨23, 20, .ro, 0x0⟩]⟩,
  ⟨0x50034, 1, 0x0, 1, 0x0, 32, [⟨7, 0, .ro, 0x0⟩, ⟨15, 8, .ro, 0x0⟩, ⟨23, 16, .ro, 0x0⟩]⟩,
  ⟨0x50038, 1, 0x0, 1, 0x0, 32, [⟨1, 0, .wo, 0x0⟩, ⟨15, 8, .wo, 0x0⟩]⟩,
  ⟨0x5003c, 1, 0x0, 1, 0x0, 32, [⟨31, 0, .ro, 0x0⟩]⟩,
  ⟨0x50040, 1, 0x0, 1, 0x0, 32, [⟨0, 0, .w1s, 0x0⟩]⟩,
  ⟨0x50100, 16, 0x4, 1, 0x0, 32, [⟨31, 0, .ro, 0x0⟩]⟩,
  ⟨0x50200, 16, 0x4, 1, 0x0, 32, [⟨31, 0, .rw, 0x0⟩]⟩,
  ⟨0x50240, 8, 0x4, 1, 0x0, 32, [⟨31, 0, .wo, 0x0⟩]⟩,
  ⟨0x50260, 1, 0x0, 1, 0x0, 32, [⟨31, 0, .wo, 0x0⟩]⟩,
  ⟨0x50300, 8, 0x4, 1, 0x0, 32, [⟨31, 0, .ro, 0x0⟩]⟩,
  ⟨0x50400, 24, 0x4, 1, 0x0, 32, [⟨31, 0, .wo, 0x0⟩]⟩,
  ⟨0x50480, 24, 0x4, 1, 0x0, 32, [⟨31, 0, .wo, 0x0⟩]⟩]

def tableCpx : List RegDesc := [
  ⟨0x80000, 1, 0x0, 1, 0x0, 32, [⟨0, 0, .ro, 0x0⟩, ⟨1, 1, .ro, 0x0⟩]⟩,
  ⟨0x80004, 1, 0x0, 1, 0x0, 32, [⟨23, 0, .ro, 0x0⟩, ⟨24, 24, .ro, 0x0⟩]⟩,
  ⟨0x80010, 4, 0x4, 1, 0x0, 32, [⟨31, 0, .ro, 0x0⟩]⟩,
  ⟨0x80100, 128, 0x10, 1, 0x0, 32, [⟨0, 0, .rw, 0x0⟩, ⟨1, 1, .rw, 0x0⟩, ⟨2, 2, .rw, 0x0⟩]⟩,
  ⟨0x80104, 128, 0x10, 1, 0x0, 32, [⟨1, 0, .ro, 0x0⟩]⟩,
  ⟨0x80108, 128, 0x10, 1, 0x0, 32, [⟨31, 0, .ro, 0x0⟩]⟩,
  ⟨0x90000, 16384, 0x8, 1, 0x0, 32, [⟨1, 0, .ro, 0x0⟩, ⟨2, 2, .ro, 0x0⟩, ⟨31, 16, .ro, 0x0⟩]⟩,
  ⟨0x90004, 16384, 0x8, 1, 0x0, 32, [⟨15, 0, .ro, 0x0⟩, ⟨31, 16, .ro, 0x0⟩]⟩,
  ⟨0xc0000, 128, 0x80, 1, 0x0, 32, [⟨2, 0, .ro, 0x0⟩, ⟨6, 4, .ro, 0x0⟩, ⟨10, 8, .ro, 0x0⟩, ⟨14, 12, .ro, 0x0⟩, ⟨17, 16, .ro, 0x0⟩, ⟨18, 18, .ro, 0x0⟩, ⟨21, 20, .ro, 0x0⟩, ⟨22, 22, .ro, 0x0⟩, ⟨24, 24, .ro, 0x0⟩]⟩,
  ⟨0xc0008, 128, 0x80, 1, 0x0, 64, [⟨63, 0, .ro, 0x0⟩]⟩,
  ⟨0xc0010, 128, 0x80, 1, 0x0, 64, [⟨63, 0, .ro, 0x0⟩]⟩,
  ⟨0xc0018, 128, 0x80, 1, 0x0, 64, [⟨63, 0, .ro, 0x0⟩]⟩,
  ⟨0xc0020, 128, 0x80, 1, 0x0, 64, [⟨63, 0, .ro, 0x0⟩]⟩,
  ⟨0xc0028, 128, 0x80, 1, 0x0, 64, [⟨63, 0, .ro, 0x0⟩]⟩,
  ⟨0xc0030, 128, 0x80, 1, 0x0, 64, [⟨63, 0, .ro, 0x0⟩]⟩,
  ⟨0xc0038, 128, 0x80, 1, 0x0, 32, [⟨15, 0, .rc, 0x0⟩]⟩]

def tableAtu : List RegDesc := [
  ⟨0x100000, 1, 0x0, 1, 0x0, 32, [⟨0, 0, .ro, 0x0⟩, ⟨31, 16, .ro, 0x0⟩]⟩,
  ⟨0x100004, 1, 0x0, 1, 0x0, 32, [⟨0, 0, .w1c, 0x0⟩, ⟨1, 1, .w1c, 0x0⟩, ⟨2, 2, .w1c, 0x0⟩, ⟨3, 3, .w1c, 0x0⟩, ⟨4, 4, .w1c, 0x0⟩]⟩,
  ⟨0x100008, 1, 0x0, 1, 0x0, 32, [⟨4, 0, .rw, 0x0⟩]⟩,
  ⟨0x10000c, 1, 0x0, 1, 0x0, 32, [⟨7, 0, .rw, 0xff⟩]⟩,
  ⟨0x100010, 1, 0x0, 1, 0x0, 64, [⟨63, 0, .ro, 0x0⟩]⟩,
  ⟨0x100018, 1, 0x0, 1, 0x0, 64, [⟨63, 0, .ro, 0x0⟩]⟩,
  ⟨0x100020, 1, 0x0, 1, 0x0, 64, [⟨63, 0, .ro, 0x0⟩]⟩,
  ⟨0x100028, 1, 0x0, 1, 0x0, 32, [⟨0, 0, .wo, 0x0⟩]⟩,
  ⟨0x10002c, 1, 0x0, 1, 0x0, 32, [⟨17, 0, .ro, 0x0⟩]⟩,
  ⟨0x100030, 1, 0x0, 1, 0x0, 32, [⟨9, 0, .ro, 0x0⟩, ⟨25, 16, .ro, 0x0⟩]⟩,
  ⟨0x100034, 1, 0x0, 1, 0x0, 32, [⟨15, 0, .rc, 0x0⟩, ⟨31, 16, .rc, 0x0⟩]⟩,
  ⟨0x100100, 4, 0x10, 1, 0x0, 32, [⟨5, 0, .rw, 0x0⟩, ⟨6, 6, .rw, 0x1⟩, ⟨13, 8, .rw, 0x1⟩, ⟨14, 14, .rw, 0x1⟩, ⟨21, 16, .rw, 0x7⟩, ⟨22, 22, .rw, 0x1⟩, ⟨29, 24, .rw, 0x0⟩, ⟨30, 30, .rw, 0x0⟩, ⟨31, 31, .rw, 0x0⟩]⟩,
  ⟨0x100104, 4, 0x10, 1, 0x0, 32, [⟨5, 0, .rw, 0x33⟩, ⟨8, 8, .rw, 0x0⟩, ⟨9, 9, .rw, 0x1⟩, ⟨10, 10, .rw, 0x1⟩]⟩,
  ⟨0x101000, 128, 0x40, 1, 0x0, 32, [⟨1, 0, .rw, 0x0⟩, ⟨5, 4, .rw, 0x0⟩, ⟨8, 8, .rw, 0x0⟩, ⟨15, 10, .rw, 0xf⟩, ⟨31, 16, .rw, 0x3e8⟩]⟩,
  ⟨0x101004, 128, 0x40, 1, 0x0, 32, [⟨19, 0, .rw, 0x0⟩]⟩,
  ⟨0x101008, 128, 0x40, 1, 0x0, 32, [⟨5, 0, .ro, 0x0⟩, ⟨15, 8, .ro, 0x0⟩, ⟨31, 16, .ro, 0x0⟩]⟩,
  ⟨0x10100c, 128, 0x40, 1, 0x0, 32, [⟨15, 0, .rc, 0x0⟩, ⟨31, 16, .rc, 0x0⟩]⟩,
  ⟨0x101010, 128, 0x40, 1, 0x0, 64, [⟨63, 12, .rw, 0x0⟩]⟩,
  ⟨0x101018, 128, 0x40, 1, 0x0, 64, [⟨63, 12, .rw, 0x0⟩]⟩,
  ⟨0x101020, 128, 0x40, 1, 0x0, 64, [⟨63, 12, .rw, 0x0⟩]⟩,
  ⟨0x101028, 128, 0x40, 1, 0x0, 64, [⟨63, 12, .rw, 0x0⟩]⟩,
  ⟨0x101030, 128, 0x40, 1, 0x0, 64, [⟨63, 0, .ro, 0x0⟩]⟩,
  ⟨0x101038, 128, 0x40, 1, 0x0, 32, [⟨7, 0, .ro, 0x0⟩, ⟨14, 8, .ro, 0x0⟩]⟩,
  ⟨0x140000, 4096, 0x20, 1, 0x0, 256, [⟨255, 0, .ro, 0x0⟩]⟩,
  ⟨0x160000, 64, 0x20, 1, 0x0, 256, [⟨255, 0, .ro, 0x0⟩]⟩]

def tableDmx : List RegDesc := [
  ⟨0x180000, 1, 0x0, 1, 0x0, 32, [⟨31, 16, .ro, 0x0⟩]⟩,
  ⟨0x180004, 1, 0x0, 1, 0x0, 32, [⟨0, 0, .w1c, 0x0⟩, ⟨1, 1, .w1c, 0x0⟩, ⟨2, 2, .w1c, 0x0⟩, ⟨3, 3, .w1c, 0x0⟩]⟩,
  ⟨0x180008, 1, 0x0, 1, 0x0, 32, [⟨3, 0, .rw, 0x0⟩]⟩,
  ⟨0x18000c, 1, 0x0, 1, 0x0, 32, [⟨7, 0, .rw, 0xff⟩]⟩,
  ⟨0x180010, 1, 0x0, 1, 0x0, 32, [⟨6, 0, .ro, 0x0⟩, ⟨14, 8, .ro, 0x0⟩]⟩,
  ⟨0x180100, 64, 0x4, 1, 0x0, 32, [⟨15, 0, .ro, 0x0⟩]⟩,
  ⟨0x181000, 192, 0x40, 1, 0x0, 32, [⟨2, 0, .ro, 0x0⟩, ⟨5, 4, .ro, 0x0⟩, ⟨14, 8, .ro, 0x0⟩, ⟨15, 15, .ro, 0x0⟩, ⟨20, 16, .ro, 0x0⟩]⟩,
  ⟨0x181004, 192, 0x40, 1, 0x0, 32, [⟨0, 0, .rw, 0x0⟩]⟩,
  ⟨0x181008, 192, 0x40, 1, 0x0, 32, [⟨15, 0, .ro, 0x0⟩, ⟨22, 16, .ro, 0x0⟩]⟩,
  ⟨0x18100c, 192, 0x40, 1, 0x0, 32, [⟨31, 0, .ro, 0xffffffff⟩]⟩,
  ⟨0x181010, 192, 0x40, 1, 0x0, 64, [⟨63, 0, .ro, 0x0⟩]⟩,
  ⟨0x181018, 192, 0x40, 1, 0x0, 64, [⟨63, 0, .ro, 0x0⟩]⟩,
  ⟨0x181020, 192, 0x40, 1, 0x0, 64, [⟨24, 0, .ro, 0x0⟩, ⟨43, 32, .ro, 0x0⟩]⟩,
  ⟨0x181028, 192, 0x40, 1, 0x0, 64, [⟨63, 0, .ro, 0x0⟩]⟩,
  ⟨0x181030, 192, 0x40, 1, 0x0, 32, [⟨15, 0, .rc, 0x0⟩, ⟨31, 16, .rc, 0x0⟩]⟩,
  ⟨0x181034, 192, 0x40, 1, 0x0, 32, [⟨15, 0, .rc, 0x0⟩, ⟨31, 16, .rc, 0x0⟩]⟩,
  ⟨0x181038, 192, 0x40, 1, 0x0, 32, [⟨7, 0, .rw, 0xff⟩, ⟨31, 16, .rw, 0x0⟩]⟩]

def tableHrd : List RegDesc := [
  ⟨0x200000, 1, 0x0, 1, 0x0, 32, [⟨1, 0, .ro, 0x0⟩, ⟨4, 2, .ro, 0x0⟩, ⟨7, 5, .ro, 0x0⟩, ⟨11, 8, .ro, 0x0⟩, ⟨13, 12, .ro, 0x0⟩, ⟨23, 16, .ro, 0x0⟩, ⟨24, 24, .ro, 0x0⟩, ⟨31, 25, .ro, 0x0⟩]⟩,
  ⟨0x200004, 1, 0x0, 1, 0x0, 32, [⟨0, 0, .w1c, 0x0⟩, ⟨1, 1, .w1c, 0x0⟩, ⟨2, 2, .w1c, 0x0⟩, ⟨3, 3, .w1c, 0x0⟩, ⟨4, 4, .w1c, 0x0⟩, ⟨5, 5, .w1c, 0x0⟩, ⟨6, 6, .w1c, 0x0⟩]⟩,
  ⟨0x200008, 1, 0x0, 1, 0x0, 32, [⟨6, 0, .rw, 0x0⟩]⟩,
  ⟨0x20000c, 1, 0x0, 1, 0x0, 32, [⟨7, 0, .rw, 0xff⟩]⟩,
  ⟨0x200010, 1, 0x0, 1, 0x0, 32, [⟨0, 0, .rw, 0x0⟩, ⟨31, 16, .rw, 0x0⟩]⟩,
  ⟨0x200014, 1, 0x0, 1, 0x0, 32, [⟨31, 0, .ro, 0x0⟩]⟩,
  ⟨0x200018, 1, 0x0, 1, 0x0, 32, [⟨31, 0, .ro, 0x0⟩]⟩,
  ⟨0x20001c, 1, 0x0, 1, 0x0, 32, [⟨15, 0, .rc, 0x0⟩, ⟨31, 16, .rc, 0x0⟩]⟩,
  ⟨0x200020, 1, 0x0, 1, 0x0, 64, [⟨63, 0, .ro, 0x0⟩]⟩,
  ⟨0x200028, 1, 0x0, 1, 0x0, 32, [⟨31, 0, .ro, 0x0⟩]⟩,
  ⟨0x20002c, 1, 0x0, 1, 0x0, 32, [⟨15, 0, .rc, 0x0⟩, ⟨31, 16, .rc, 0x0⟩]⟩,
  ⟨0x200100, 4, 0x40, 1, 0x0, 32, [⟨1, 0, .ro, 0x0⟩, ⟨5, 4, .ro, 0x0⟩, ⟨11, 8, .ro, 0x0⟩, ⟨14, 12, .ro, 0x0⟩, ⟨17, 16, .ro, 0x0⟩]⟩,
  ⟨0x200104, 4, 0x40, 1, 0x0, 32, [⟨0, 0, .wo, 0x0⟩]⟩,
  ⟨0x200108, 4, 0x40, 1, 0x0, 32, [⟨31, 0, .rw, 0x0⟩]⟩,
  ⟨0x20010c, 4, 0x40, 1, 0x0, 32, [⟨31, 0, .ro, 0x0⟩]⟩,
  ⟨0x200110, 4, 0x40, 1, 0x0, 32, [⟨15, 0, .rc, 0x0⟩, ⟨31, 16, .rc, 0x0⟩]⟩,
  ⟨0x200114, 4, 0x40, 1, 0x0, 32, [⟨15, 0, .rc, 0x0⟩, ⟨31, 16, .rc, 0x0⟩]⟩,
  ⟨0x200118, 4, 0x40, 1, 0x0, 32, [⟨7, 0, .ro, 0x0⟩, ⟨15, 8, .ro, 0x0⟩]⟩,
  ⟨0x200400, 16, 0x10, 1, 0x0, 128, [⟨127, 0, .ro, 0x0⟩]⟩,
  ⟨0x200800, 64, 0x10, 1, 0x0, 128, [⟨127, 0, .ro, 0x0⟩]⟩]

def tableMemc : List RegDesc := [
  ⟨0x280000, 1, 0x0, 1, 0x0, 32, [⟨3, 0, .ro, 0x0⟩, ⟨4, 4, .ro, 0x0⟩, ⟨5, 5, .ro, 0x0⟩]⟩,
  ⟨0x280004, 1, 0x0, 1, 0x0, 32, [⟨15, 0, .ro, 0x0⟩]⟩,
  ⟨0x280008, 1, 0x0, 1, 0x0, 32, [⟨0, 0, .rw, 0x1⟩]⟩,
  ⟨0x28000c, 1, 0x0, 1, 0x0, 32, [⟨3, 0, .ro, 0x0⟩, ⟨31, 16, .rc, 0x0⟩]⟩,
  ⟨0x280100, 4, 0x20, 1, 0x0, 32, [⟨1, 0, .ro, 0x0⟩, ⟨31, 16, .ro, 0x0⟩]⟩,
  ⟨0x280104, 4, 0x20, 1, 0x0, 32, [⟨10, 0, .ro, 0x0⟩]⟩,
  ⟨0x280108, 4, 0x20, 1, 0x0, 32, [⟨31, 0, .rc, 0x0⟩]⟩,
  ⟨0x28010c, 4, 0x20, 1, 0x0, 32, [⟨31, 0, .rc, 0x0⟩]⟩,
  ⟨0x280110, 4, 0x20, 1, 0x0, 32, [⟨31, 0, .rc, 0x0⟩]⟩,
  ⟨0x280114, 4, 0x20, 1, 0x0, 32, [⟨2, 0, .ro, 0x0⟩]⟩,
  ⟨0x280200, 16, 0x20, 1, 0x0, 256, [⟨255, 0, .ro, 0x0⟩]⟩]

def tableEvp : List RegDesc := [
  ⟨0x1000000, 1, 0x0, 1, 0x0, 32, [⟨3, 0, .ro, 0x0⟩, ⟨7, 4, .ro, 0x0⟩, ⟨11, 8, .ro, 0x0⟩]⟩,
  ⟨0x1000004, 1, 0x0, 1, 0x0, 32, [⟨0, 0, .w1c, 0x0⟩, ⟨1, 1, .w1c, 0x0⟩, ⟨2, 2, .w1c, 0x0⟩, ⟨3, 3, .w1c, 0x0⟩, ⟨4, 4, .w1c, 0x0⟩, ⟨5, 5, .w1c, 0x0⟩, ⟨6, 6, .w1c, 0x0⟩, ⟨7, 7, .w1c, 0x0⟩]⟩,
  ⟨0x1000008, 1, 0x0, 1, 0x0, 32, [⟨7, 0, .rw, 0x0⟩]⟩,
  ⟨0x100000c, 1, 0x0, 1, 0x0, 32, [⟨7, 0, .rw, 0xff⟩]⟩,
  ⟨0x1000010, 1, 0x0, 1, 0x0, 32, [⟨31, 0, .rc, 0x0⟩]⟩,
  ⟨0x1000014, 1, 0x0, 1, 0x0, 32, [⟨31, 0, .rc, 0x0⟩]⟩,
  ⟨0x1000018, 1, 0x0, 1, 0x0, 32, [⟨31, 0, .ro, 0x0⟩]⟩,
  ⟨0x1000020, 1, 0x0, 1, 0x0, 64, [⟨63, 0, .ro, 0x0⟩]⟩,
  ⟨0x1010000, 4, 0x10000, 1, 0x0, 32, [⟨31, 0, .ro, 0x0⟩]⟩,
  ⟨0x1010004, 4, 0x10000, 1, 0x0, 32, [⟨10, 0, .ro, 0x0⟩, ⟨26, 16, .ro, 0x0⟩]⟩,
  ⟨0x1010008, 4, 0x10000, 1, 0x0, 32, [⟨1, 0, .ro, 0x0⟩, ⟨4, 2, .ro, 0x0⟩, ⟨8, 8, .ro, 0x0⟩]⟩,
  ⟨0x101000c, 4, 0x10000, 1, 0x0, 32, [⟨16, 0, .ro, 0x0⟩, ⟨31, 17, .rc, 0x0⟩]⟩,
  ⟨0x1010010, 4, 0x10000, 1, 0x0, 64, [⟨63, 0, .ro, 0x0⟩]⟩,
  ⟨0x1010018, 4, 0x10000, 1, 0x0, 32, [⟨19, 0, .ro, 0x0⟩]⟩,
  ⟨0x101001c, 4, 0x10000, 1, 0x0, 32, [⟨31, 0, .ro, 0x0⟩]⟩,
  ⟨0x1010020, 4, 0x10000, 1, 0x0, 64, [⟨31, 0, .ro, 0x0⟩, ⟨32, 32, .ro, 0x0⟩]⟩,
  ⟨0x1010028, 4, 0x10000, 1, 0x0, 64, [⟨63, 0, .ro, 0x0⟩]⟩,
  ⟨0x1010030, 4, 0x10000, 1, 0x0, 64, [⟨63, 0, .ro, 0x0⟩]⟩,
  ⟨0x1010038, 4, 0x10000, 1, 0x0, 32, [⟨8, 0, .ro, 0x0⟩, ⟨24, 16, .ro, 0x0⟩]⟩,
  ⟨0x1010040, 4, 0x10000, 16, 0x4, 32, [⟨31, 0, .rc, 0x0⟩]⟩,
  ⟨0x1018000, 4, 0x10000, 256, 0x10, 128, [⟨127, 0, .ro, 0x0⟩]⟩]

def tableAcq : List RegDesc := [
  ⟨0x1200000, 1, 0x0, 1, 0x0, 32, [⟨3, 0, .ro, 0x0⟩, ⟨15, 8, .ro, 0x0⟩, ⟨23, 16, .ro, 0x0⟩]⟩,
  ⟨0x1200004, 1, 0x0, 1, 0x0, 32, [⟨0, 0, .w1c, 0x0⟩, ⟨1, 1, .w1c, 0x0⟩, ⟨2, 2, .w1c, 0x0⟩, ⟨3, 3, .w1c, 0x0⟩, ⟨4, 4, .w1c, 0x0⟩, ⟨5, 5, .w1c, 0x0⟩]⟩,
  ⟨0x1200008, 1, 0x0, 1, 0x0, 32, [⟨5, 0, .rw, 0x0⟩]⟩,
  ⟨0x120000c, 1, 0x0, 1, 0x0, 32, [⟨7, 0, .rw, 0xff⟩]⟩,
  ⟨0x1200010, 1, 0x0, 1, 0x0, 64, [⟨63, 0, .ro, 0x0⟩]⟩,
  ⟨0x1200020, 1, 0x0, 1, 0x0, 64, [⟨63, 0, .ro, 0x0⟩]⟩,
  ⟨0x1200028, 1, 0x0, 1, 0x0, 32, [⟨31, 0, .ro, 0x0⟩]⟩,
  ⟨0x1200040, 1, 0x0, 1, 0x0, 32, [⟨7, 0, .rw, 0x3⟩, ⟨9, 8, .rw, 0x0⟩, ⟨14, 10, .rw, 0x7⟩, ⟨17, 16, .rw, 0x0⟩]⟩,
  ⟨0x1200044, 1, 0x0, 1, 0x0, 32, [⟨31, 0, .rw, 0x0⟩]⟩,
  ⟨0x1200048, 1, 0x0, 1, 0x0, 32, [⟨31, 0, .wo, 0x0⟩]⟩,
  ⟨0x120004c, 1, 0x0, 1, 0x0, 32, [⟨31, 0, .ro, 0x0⟩]⟩,
  ⟨0x1200050, 1, 0x0, 1, 0x0, 32, [⟨0, 0, .ro, 0x0⟩, ⟨1, 1, .w1c, 0x0⟩, ⟨2, 2, .w1c, 0x0⟩]⟩,
  ⟨0x1201000, 8, 0x100, 1, 0x0, 32, [⟨2, 0, .ro, 0x0⟩, ⟨5, 4, .ro, 0x0⟩, ⟨14, 8, .ro, 0x0⟩, ⟨18, 16, .ro, 0x0⟩]⟩,
  ⟨0x1201004, 8, 0x100, 1, 0x0, 32, [⟨31, 0, .ro, 0x0⟩]⟩,
  ⟨0x1201008, 8, 0x100, 1, 0x0, 32, [⟨31, 0, .ro, 0x0⟩]⟩,
  ⟨0x1201010, 8, 0x100, 1, 0x0, 64, [⟨63, 0, .ro, 0x0⟩]⟩,
  ⟨0x1201018, 8, 0x100, 1, 0x0, 32, [⟨15, 0, .rc, 0x0⟩, ⟨31, 16, .rc, 0x0⟩]⟩,
  ⟨0x120101c, 8, 0x100, 1, 0x0, 32, [⟨15, 0, .rc, 0x0⟩, ⟨31, 16, .rc, 0x0⟩]⟩,
  ⟨0x1201020, 8, 0x100, 1, 0x0, 32, [⟨15, 0, .rc, 0x0⟩, ⟨31, 16, .rc, 0x0⟩]⟩,
  ⟨0x1201024, 8, 0x100, 1, 0x0, 32, [⟨15, 0, .ro, 0x0⟩]⟩]

def tableDfc : List RegDesc := [
  ⟨0x1400000, 1, 0x0, 1, 0x0, 32, [⟨7, 0, .ro, 0x0⟩, ⟨15, 8, .ro, 0x0⟩, ⟨23, 16, .ro, 0x0⟩]⟩,
  ⟨0x1400004, 1, 0x0, 1, 0x0, 32, [⟨0, 0, .w1c, 0x0⟩, ⟨1, 1, .w1c, 0x0⟩, ⟨2, 2, .w1c, 0x0⟩]⟩,
  ⟨0x1400008, 1, 0x0, 1, 0x0, 32, [⟨2, 0, .rw, 0x0⟩]⟩,
  ⟨0x140000c, 1, 0x0, 1, 0x0, 32, [⟨7, 0, .rw, 0xff⟩]⟩,
  ⟨0x1400010, 1, 0x0, 1, 0x0, 32, [⟨0, 0, .rw, 0x0⟩, ⟨1, 1, .rw, 0x0⟩]⟩,
  ⟨0x1400018, 1, 0x0, 1, 0x0, 64, [⟨63, 0, .rw, 0x0⟩]⟩,
  ⟨0x1400020, 1, 0x0, 1, 0x0, 32, [⟨15, 0, .rc, 0x0⟩, ⟨31, 16, .rc, 0x0⟩]⟩,
  ⟨0x1401000, 8, 0x100, 1, 0x0, 32, [⟨1, 0, .ro, 0x0⟩, ⟨5, 4, .ro, 0x0⟩, ⟨7, 6, .ro, 0x0⟩, ⟨8, 8, .ro, 0x0⟩, ⟨9, 9, .ro, 0x0⟩]⟩,
  ⟨0x1401004, 8, 0x100, 1, 0x0, 32, [⟨12, 0, .ro, 0x0⟩, ⟨20, 16, .ro, 0x0⟩]⟩,
  ⟨0x1401008, 8, 0x100, 1, 0x0, 32, [⟨22, 0, .ro, 0x0⟩]⟩,
  ⟨0x140100c, 8, 0x100, 1, 0x0, 32, [⟨15, 0, .ro, 0x0⟩, ⟨31, 16, .ro, 0x0⟩]⟩,
  ⟨0x1401010, 8, 0x100, 1, 0x0, 32, [⟨15, 0, .ro, 0x0⟩, ⟨31, 16, .ro, 0x0⟩]⟩,
  ⟨0x1401014, 8, 0x100, 1, 0x0, 32, [⟨15, 0, .ro, 0x0⟩]⟩,
  ⟨0x1401018, 8, 0x100, 1, 0x0, 32, [⟨15, 0, .rc, 0x0⟩, ⟨31, 16, .rc, 0x0⟩]⟩,
  ⟨0x140101c, 8, 0x100, 1, 0x0, 32, [⟨31, 0, .ro, 0x0⟩]⟩,
  ⟨0x1401020, 8, 0x100, 1, 0x0, 64, [⟨63, 0, .ro, 0x0⟩]⟩,
  ⟨0x1401028, 8, 0x100, 1, 0x0, 64, [⟨63, 0, .ro, 0x0⟩]⟩]

def tableLio : List RegDesc := [
  ⟨0x1600000, 1, 0x0, 1, 0x0, 32, [⟨3, 0, .ro, 0xf⟩, ⟨7, 4, .ro, 0x0⟩, ⟨15, 8, .ro, 0x0⟩, ⟨31, 16, .ro, 0x0⟩]⟩,
  ⟨0x1600004, 1, 0x0, 1, 0x0, 32, [⟨0, 0, .w1c, 0x0⟩, ⟨1, 1, .w1c, 0x0⟩, ⟨2, 2, .w1c, 0x0⟩, ⟨3, 3, .w1c, 0x0⟩, ⟨4, 4, .w1c, 0x0⟩, ⟨5, 5, .w1c, 0x0⟩, ⟨6, 6, .w1c, 0x0⟩, ⟨7, 7, .w1c, 0x0⟩]⟩,
  ⟨0x1600008, 1, 0x0, 1, 0x0, 32, [⟨7, 0, .rw, 0x0⟩]⟩,
  ⟨0x160000c, 1, 0x0, 1, 0x0, 32, [⟨7, 0, .rw, 0xff⟩]⟩,
  ⟨0x1600100, 4, 0x40, 1, 0x0, 32, [⟨0, 0, .rw, 0x0⟩, ⟨1, 1, .rw, 0x0⟩, ⟨2, 2, .rw, 0x0⟩, ⟨3, 3, .rw, 0x0⟩, ⟨11, 4, .rw, 0x4⟩, ⟨13, 12, .rw, 0x0⟩, ⟨23, 16, .rw, 0x8⟩]⟩,
  ⟨0x1600104, 4, 0x40, 1, 0x0, 32, [⟨0, 0, .wo, 0x0⟩]⟩,
  ⟨0x1600108, 4, 0x40, 1, 0x0, 64, [⟨63, 0, .ro, 0x0⟩]⟩,
  ⟨0x1600110, 4, 0x40, 1, 0x0, 64, [⟨63, 0, .ro, 0x0⟩]⟩,
  ⟨0x1600118, 4, 0x40, 1, 0x0, 64, [⟨63, 0, .ro, 0x0⟩]⟩,
  ⟨0x1600120, 4, 0x40, 1, 0x0, 32, [⟨19, 0, .rw, 0x2710⟩]⟩,
  ⟨0x1600124, 4, 0x40, 1, 0x0, 32, [⟨31, 0, .rw, 0xf4240⟩]⟩,
  ⟨0x1600128, 4, 0x40, 1, 0x0, 32, [⟨15, 0, .rc, 0x0⟩, ⟨31, 16, .rc, 0x0⟩]⟩,
  ⟨0x160012c, 4, 0x40, 1, 0x0, 32, [⟨7, 0, .ro, 0x0⟩, ⟨31, 16, .ro, 0x0⟩]⟩,
  ⟨0x1600200, 8, 0x10, 1, 0x0, 32, [⟨0, 0, .rw, 0x0⟩, ⟨2, 1, .rw, 0x0⟩, ⟨11, 4, .rw, 0x4⟩, ⟨19, 12, .rw, 0x0⟩, ⟨31, 20, .rw, 0x0⟩]⟩,
  ⟨0x1600208, 8, 0x10, 1, 0x0, 64, [⟨63, 0, .ro, 0x0⟩]⟩,
  ⟨0x1600300, 16, 0x20, 1, 0x0, 32, [⟨0, 0, .rw, 0x0⟩, ⟨1, 1, .rw, 0x0⟩]⟩,
  ⟨0x1600304, 16, 0x20, 1, 0x0, 32, [⟨19, 0, .wo, 0x0⟩]⟩,
  ⟨0x1600308, 16, 0x20, 1, 0x0, 32, [⟨10, 0, .ro, 0x0⟩, ⟨31, 31, .ro, 0x0⟩]⟩,
  ⟨0x160030c, 16, 0x20, 1, 0x0, 32, [⟨31, 0, .ro, 0x0⟩]⟩,
  ⟨0x1600310, 16, 0x20, 1, 0x0, 32, [⟨15, 0, .rc, 0x0⟩, ⟨31, 16, .rc, 0x0⟩]⟩,
  ⟨0x1600314, 16, 0x20, 1, 0x0, 32, [⟨15, 0, .rc, 0x0⟩, ⟨31, 16, .rc, 0x0⟩]⟩,
  ⟨0x1600600, 4, 0x20, 1, 0x0, 32, [⟨0, 0, .rw, 0x0⟩, ⟨1, 1, .rw, 0x0⟩]⟩,
  ⟨0x1600608, 4, 0x20, 1, 0x0, 64, [⟨63, 0, .ro, 0x0⟩]⟩,
  ⟨0x1600610, 4, 0x20, 1, 0x0, 32, [⟨15, 0, .rc, 0x0⟩, ⟨31, 16, .rc, 0x0⟩]⟩]

def tableTine : List RegDesc := [
  ⟨0x2000000, 2, 0x1000000, 16, 0x40000, 32, [⟨2, 0, .ro, 0x0⟩, ⟨12, 8, .ro, 0x0⟩, ⟨16, 16, .ro, 0x0⟩]⟩,
  ⟨0x2000004, 2, 0x1000000, 16, 0x40000, 32, [⟨0, 0, .ro, 0x0⟩, ⟨1, 1, .ro, 0x0⟩, ⟨23, 8, .rc, 0x0⟩]⟩,
  ⟨0x2000008, 2, 0x1000000, 16, 0x40000, 32, [⟨31, 0, .ro, 0x0⟩]⟩,
  ⟨0x2000010, 2, 0x1000000, 16, 0x40000, 64, [⟨63, 0, .ro, 0x0⟩]⟩,
  ⟨0x2000018, 2, 0x1000000, 16, 0x40000, 32, [⟨15, 0, .rc, 0x0⟩]⟩,
  ⟨0x200001c, 2, 0x1000000, 16, 0x40000, 32, [⟨0, 0, .ro, 0x0⟩, ⟨1, 1, .ro, 0x0⟩, ⟨31, 16, .ro, 0x0⟩]⟩,
  ⟨0x2000020, 2, 0x1000000, 16, 0x40000, 64, [⟨63, 0, .ro, 0x0⟩]⟩,
  ⟨0x2000028, 2, 0x1000000, 16, 0x40000, 64, [⟨63, 0, .ro, 0x0⟩]⟩,
  ⟨0x2000100, 2, 0x1000000, 15, 0x4, 32, [⟨3, 0, .ro, 0x0⟩]⟩,
  ⟨0x2000140, 2, 0x1000000, 1, 0x0, 32, [⟨3, 0, .ro, 0xf⟩, ⟨4, 4, .ro, 0x1⟩]⟩,
  ⟨0x2000144, 2, 0x1000000, 1, 0x0, 32, [⟨31, 0, .ro, 0x0⟩]⟩,
  ⟨0x2000148, 2, 0x1000000, 1, 0x0, 32, [⟨0, 0, .rw, 0x1⟩]⟩,
  ⟨0x200014c, 2, 0x1000000, 1, 0x0, 32, [⟨15, 0, .rc, 0x0⟩]⟩]

def tableChu : List RegDesc := [
  ⟨0x2400000, 2, 0x1000000, 4, 0x40000, 32, [⟨0, 0, .ro, 0x0⟩, ⟨1, 1, .ro, 0x0⟩, ⟨23, 8, .rc, 0x0⟩]⟩,
  ⟨0x2400004, 2, 0x1000000, 4, 0x40000, 32, [⟨31, 0, .ro, 0x0⟩]⟩,
  ⟨0x2400008, 2, 0x1000000, 4, 0x40000, 64, [⟨63, 0, .ro, 0x0⟩]⟩,
  ⟨0x2400010, 2, 0x1000000, 4, 0x40000, 32, [⟨15, 0, .rc, 0x0⟩]⟩,
  ⟨0x2400014, 2, 0x1000000, 4, 0x40000, 32, [⟨31, 0, .rc, 0x0⟩]⟩,
  ⟨0x2400018, 2, 0x1000000, 4, 0x40000, 32, [⟨6, 0, .ro, 0x0⟩]⟩]

def tablePpu : List RegDesc := [
  ⟨0x2500000, 2, 0x1000000, 1, 0x0, 32, [⟨0, 0, .ro, 0x0⟩, ⟨1, 1, .ro, 0x0⟩, ⟨23, 8, .rc, 0x0⟩]⟩,
  ⟨0x2500004, 2, 0x1000000, 1, 0x0, 32, [⟨31, 0, .ro, 0x0⟩]⟩,
  ⟨0x2500008, 2, 0x1000000, 1, 0x0, 32, [⟨31, 0, .ro, 0x0⟩]⟩,
  ⟨0x2500010, 2, 0x1000000, 1, 0x0, 64, [⟨63, 0, .ro, 0x0⟩]⟩,
  ⟨0x2500018, 2, 0x1000000, 1, 0x0, 64, [⟨63, 0, .ro, 0x0⟩]⟩,
  ⟨0x2500020, 2, 0x1000000, 1, 0x0, 32, [⟨15, 0, .rc, 0x0⟩, ⟨31, 16, .rc, 0x0⟩]⟩,
  ⟨0x2500024, 2, 0x1000000, 1, 0x0, 32, [⟨8, 0, .ro, 0x0⟩, ⟨28, 16, .ro, 0x0⟩]⟩,
  ⟨0x2500028, 2, 0x1000000, 1, 0x0, 32, [⟨13, 0, .ro, 0x0⟩]⟩]

def tableFn : List RegDesc := [
  ⟨0x0, 128, 0x8, 1, 0x0, 32, [⟨15, 0, .wo, 0x0⟩]⟩,
  ⟨0x4, 128, 0x8, 1, 0x0, 32, [⟨15, 0, .wo, 0x0⟩]⟩,
  ⟨0x1000, 1, 0x0, 1, 0x0, 32, [⟨1, 0, .ro, 0x0⟩, ⟨8, 8, .ro, 0x0⟩]⟩,
  ⟨0x1004, 1, 0x0, 1, 0x0, 32, [⟨15, 0, .rc, 0x0⟩, ⟨22, 16, .rc, 0x0⟩, ⟨31, 31, .rc, 0x0⟩]⟩,
  ⟨0x1008, 1, 0x0, 1, 0x0, 32, [⟨15, 0, .rc, 0x0⟩]⟩,
  ⟨0x1010, 1, 0x0, 1, 0x0, 64, [⟨63, 0, .ro, 0x0⟩]⟩,
  ⟨0x1018, 1, 0x0, 1, 0x0, 64, [⟨63, 0, .ro, 0x0⟩]⟩,
  ⟨0x2000, 1, 0x0, 1, 0x0, 64, [⟨63, 12, .rw, 0x0⟩]⟩,
  ⟨0x2008, 1, 0x0, 1, 0x0, 64, [⟨63, 12, .rw, 0x0⟩]⟩,
  ⟨0x2010, 1, 0x0, 1, 0x0, 32, [⟨11, 0, .rw, 0x0⟩, ⟨27, 16, .rw, 0x0⟩]⟩,
  ⟨0x2014, 1, 0x0, 1, 0x0, 32, [⟨0, 0, .rw, 0x0⟩, ⟨15, 8, .rw, 0xff⟩, ⟨23, 16, .rw, 0x0⟩]⟩,
  ⟨0x8000, 256, 0x4, 1, 0x0, 32, [⟨31, 0, .rw, 0x0⟩]⟩,
  ⟨0x9000, 2, 0x4, 1, 0x0, 32, [⟨31, 0, .ro, 0x0⟩]⟩]

def tableSrm : List RegDesc := [
  ⟨0x0, 1, 0x0, 1, 0x0, 32, [⟨0, 0, .ro, 0x0⟩, ⟨1, 1, .ro, 0x0⟩]⟩,
  ⟨0x4, 1, 0x0, 1, 0x0, 32, [⟨0, 0, .rw, 0x1⟩]⟩,
  ⟨0x8, 1, 0x0, 1, 0x0, 32, [⟨31, 0, .rc, 0x0⟩]⟩,
  ⟨0xc, 1, 0x0, 1, 0x0, 32, [⟨31, 0, .rc, 0x0⟩]⟩,
  ⟨0x10, 1, 0x0, 1, 0x0, 32, [⟨31, 0, .rc, 0x0⟩]⟩,
  ⟨0x14, 1, 0x0, 1, 0x0, 32, [⟨31, 0, .rc, 0x0⟩]⟩,
  ⟨0x18, 1, 0x0, 1, 0x0, 32, [⟨31, 0, .rc, 0x0⟩]⟩,
  ⟨0x20, 1, 0x0, 1, 0x0, 32, [⟨3, 0, .ro, 0x0⟩, ⟨31, 16, .rc, 0x0⟩]⟩,
  ⟨0x100, 16, 0x20, 1, 0x0, 256, [⟨255, 0, .ro, 0x0⟩]⟩,
  ⟨0x1000, 512, 0x4, 1, 0x0, 32, [⟨15, 0, .ro, 0xffff⟩, ⟨22, 16, .ro, 0x0⟩, ⟨23, 23, .ro, 0x0⟩, ⟨24, 24, .ro, 0x0⟩, ⟨25, 25, .ro, 0x0⟩]⟩]

/-- The BAR0 block that holds an offset (Table 1.6, Table 1.7) with the part of the offset its table is written in. -/
def bar0Block (off : Nat) : List RegDesc × Nat :=

  if off < 0x10000 then (tableGlb, 0) else
  if off < 0x20000 then (tableClk, 0) else
  if off < 0x30000 then (tablePmc, 0) else
  if off < 0x40000 then (tableEmu, 0) else
  if off < 0x50000 then (tableFmu, 0) else
  if off < 0x80000 then (tableKsu, 0) else
  if off < 0x100000 then (tableCpx, 0) else
  if off < 0x180000 then (tableAtu, 0) else
  if off < 0x200000 then (tableDmx, 0) else
  if off < 0x280000 then (tableHrd, 0) else
  if off < 0x400000 then (tableMemc, 0) else
  if off < 0x480000 then (tableSrm, srmBase 3) else
  if off < 0x1000000 then ([], 0) else
  if off < 0x1200000 then (tableEvp, 0) else
  if off < 0x1400000 then (tableAcq, 0) else
  if off < 0x1600000 then (tableDfc, 0) else
  if off < 0x1c00000 then (tableLio, 0) else
  if off < 0x2000000 then (tableSrm, srmBase 0) else
  let w := off % 0x1000000
  if off < 0x4000000 then
    if w < 0x400000 then (tableTine, 0) else if w < 0x500000 then (tableChu, 0)
    else if w < 0x600000 then (tablePpu, 0) else (tableSrm, srmBase (off / 0x1000000 - 1))
  else ([], 0)

end Sys2Proof.Machine
end

