-- ==== Sys2Proof/Machine/RegViews.lean ====
section
/-! DEFINITION. What registers show: a register that reports the machinery behind it is computed when it is read; every
other register is the value it holds. -/

namespace Sys2Proof.Machine

/-! ## Which register an offset is -/

/-- A register found in its table: the key of its first instance (of the F-die for an SRM, of context 0 for a function's
window), its instance numbers, the die or context it belongs to, its own key, its row of the table, and the byte within it. -/
structure Hit where
  first : Nat
  i : Nat
  j : Nat
  place : Nat
  key : Nat
  desc : RegDesc
  rel : Nat
  deriving DecidableEq, Repr

/-- A row of a table that holds a byte offset: instance numbers and the byte within the register. -/
def RegDesc.find? (d : RegDesc) (off : Nat) : Option (Nat × Nat × Nat) :=
  if off < d.off then none
  else
    let o := off - d.off
    let i := o / d.stride1
    let j := o % d.stride1 / d.stride2
    let r := o % d.stride1 % d.stride2
    if i < d.count1 && decide (j < d.count2) && decide (r < d.width / 8) then some (i, j, r) else none

/-- The map registers of a C-die show in all 16 engine windows (Table 9.9 and the text before it): their offset in the first. -/
def canonOffset (off : Nat) : Nat :=
  if 0x2000000 ≤ off && decide (off < 0x4000000) && decide (off % 0x1000000 < 0x400000) &&
     within (off % 0x40000) 0x100 0x14F then off - off % 0x1000000 + off % 0x40000 else off

/-- The register that an offset of BAR0 or of a function's BAR2 window lies in (R9: none for an undefined offset). -/
def locate (port : RegPort) (off : Nat) : Option Hit :=
  match port with
  | .bar0 =>
    let o := canonOffset off
    let b := bar0Block o
    let place := ((rangeFrom 0 4).find? (fun p => b.2 != 0 && srmBase p == b.2)).getD 0
    b.1.findSome? (fun d => (d.find? (o - b.2)).map (fun x =>
      ⟨if b.2 = 0 then d.off else d.off + srmBase 0, x.1, x.2.1, place, o - x.2.2, d, x.2.2⟩))
  | .bar2 c =>
    tableFn.findSome? (fun d => (d.find? off).map (fun x =>
      ⟨d.off + 2 ^ 32, x.1, x.2.1, c, (c + 1) * 2 ^ 32 + off - x.2.2, d, x.2.2⟩))

/-! ## Plans, queues and contexts -/

def CtxPhase.code : CtxPhase → Nat
  | .disabled => 0 | .active => 1 | .resetting => 2

/-- CPX_PLNc_STATE (Table 3.18). -/
def State.plnState (s : State) (c : Nat) : Nat :=
  let hs := rangeFrom 0 4
  let run := hs.find? (fun h => s.planPhase c h == .running)
  let swap := (hs.find? (fun h => match s.plan? c h with | some p => p.phase == .armed && p.armedSwap | none => false)) <|>
    ((s.livePairs.find? (fun x => x.1 == c && match s.plan? c x.2.2.1 with
      | some n => s.inOverlap n x.2.2.2.1.lat
      | none => false)).map (fun x => x.2.2.1))
  let bad := hs.any (fun h => match s.plan? c h with | some p => s.degraded p | none => false)
  sumNat (hs.map (fun h => (s.planPhase c h).code * 2 ^ (4 * h))) + run.getD 0 * 2 ^ 16 + b2n run.isSome * 2 ^ 18 +
    swap.getD 0 * 2 ^ 20 + b2n swap.isSome * 2 ^ 22 + b2n bad * 2 ^ 24

/-- CPX_PLNc_ANCHOR: A of the RUNNING plan. -/
def State.plnAnchor (s : State) (c : Nat) : Nat :=
  (((rangeFrom 0 4).filterMap (s.plan? c)).find? (fun p => p.phase == .running)).elim 0 (fun p => p.anchor % 2 ^ 64)

/-- CPX_Qg_CFG and CPX_Qg_PTR (Table 4.17). -/
def State.qCfg (s : State) (g : Nat) : Nat :=
  match tfind s.queues g with
  | some x => x.typ + 4 * b2n x.phase + (x.cqN - 1) * 2 ^ 16
  | none => 0

def State.qPtr (s : State) (g : Nat) : Nat :=
  match tfind s.queues g with
  | some x => x.h + x.p * 2 ^ 16
  | none => 0

def State.showCpx (s : State) (h : Hit) (v : Nat) : Nat :=
  if h.first = (R.CPX_CTXEN 0).key then
    sumNat ((rangeFrom 0 32).map (fun k => b2n ((s.ctx (32 * h.i + k)).phase != .disabled) * 2 ^ k))
  else if h.first = (R.CPX_CTX_STATE 0).key then (s.ctx h.i).phase.code
  else if h.first = (R.CPX_Q_CFG 0).key then s.qCfg h.i
  else if h.first = (R.CPX_Q_PTR 0).key then s.qPtr h.i
  else if h.first = (R.CPX_PLN_STATE 0).key then s.plnState h.i
  else if h.first = (R.CPX_PLN_ANCHOR 0).key then s.plnAnchor h.i
  else v

/-- The function's window (Table 4.19). -/
def State.showFn (s : State) (h : Hit) (v : Nat) : Nat :=
  if h.first = (R.FN_CTX_STATE 0).key then (s.ctx h.place).phase.code + 256 * b2n (s.on (F.FN_CTX_ERR_VALID h.place))
  else if h.first = (R.FN_TIME 0).key then s.time % 2 ^ 64
  else v

/-! ## ATU (Table 12.6) -/

/-- CTXc_STAT: slots in use, faults waiting, descriptors that hold translations. -/
def State.ctxStat (s : State) (c : Nat) : Nat :=
  let ds := (s.rings.filter (fun x => x.1 == c)).flatMap (fun x => x.2.2.descs)
  let waits := (ds.filter (fun d => match d.phase with | .faulted _ _ _ _ => true | _ => false)).length
  let held := (ds.filter (fun d => d.phase == .held || d.phase == .running)).length
  (s.ctxRanges c).length + min waits 255 * 2 ^ 8 + min held 65535 * 2 ^ 16

/-- RNGr: 4 words of 64 bits. -/
def State.rngEntry (s : State) (k : Nat) : Nat :=
  match tfind s.ranges k with
  | none => 0
  | some r =>
    let target := match r.kind with
      | 0 => (r.runs.head?.map (·.1)).getD 0
      | 3 => r.imp
      | _ => r.la
    r.dva + r.len * 2 ^ 64 + (r.kind + 4 * r.rights + 32 + 64 * b2n r.revoked + r.id * 2 ^ 16 + r.runCount * 2 ^ 32) * 2 ^ 128 +
      target * 2 ^ 192

/-- IMPw: 4 words of 64 bits. -/
def State.impEntry (s : State) (w : Nat) : Nat :=
  match tfind s.imports w with
  | none => 0
  | some x => (x.device + x.window * 2 ^ 8 + 2 ^ 16) + x.len * 2 ^ 64 + x.rights * 2 ^ 128 + x.ctx * 2 ^ 192

def State.showAtu (s : State) (h : Hit) (v : Nat) : Nat :=
  if h.first = R.ATU_RUNS.key then s.pinRuns
  else if h.first = (R.ATU_CTX_STAT 0).key then s.ctxStat h.i
  else if h.first = (R.ATU_RNG 0).key then s.rngEntry h.i
  else if h.first = (R.ATU_IMP 0).key then s.impEntry h.i
  else v

/-! ## DMX (Table 13.12) -/

/-- DMX_SHARE: the sums of R287 over the admitted plans. -/
def State.dmxShare (s : State) : Nat :=
  let all := s.livePlans.map (fun p => s.admOf p.1 p.2.2.img)
  let host (a : Adm) : List (Nat × Nat) := let l := a.hostChans; a.im.chanShares.filter (fun x => l.contains x.1)
  min (shareSum (all.flatMap (fun a => a.im.chanShares))) 127 + min (shareSum (all.flatMap host)) 127 * 2 ^ 8

/-- The context whose admitted plan claims a program channel. -/
def State.chanOwner (s : State) (n : Nat) : Option Nat := (s.livePlans.find? (fun p => p.2.2.img.hasClaim 5 n)).map (·.1)

/-- DMX_CHn_STAT. A program channel is ACTIVE or WAITING while it runs a record's program; a ring channel while it runs a
descriptor or a ring of it waits on a fault, and PAUSING or PAUSED under PAUSE. -/
def State.chStat (s : State) (n v : Nat) : Nat :=
  if n < 64 then
    let st := match s.chan? n with | some x => if x.waiting.isSome then 2 else 1 | none => 0
    let prio := match s.chanAt n with | some (_, a, _) => a.rcd.prio | none => 0
    st + prio * 2 ^ 4 + (s.chanOwner n).getD 0 * 2 ^ 8 + b2n (s.chanOwner n).isSome * 2 ^ 15
  else
    let mine := s.rings.filter (fun x => x.2.2.chan == n)
    let st := if s.on (F.DMX_CH_CTL_PAUSE n) then (if bits v 2 0 = 4 then 4 else 3)
      else if (s.activeRing n).isSome then 1
      else if mine.any (fun x => x.2.2.ring == .waiting) then 2 else 0
    let prio := match s.activeRing n with | some (_, _, x, _) => x.prio | none => 0
    st + prio * 2 ^ 4 + (mine.head?.map (·.1)).getD 0 * 2 ^ 8 + b2n (!mine.isEmpty) * 2 ^ 15 + min mine.length 31 * 2 ^ 16

/-- DMX_CHn_POS: the SQ index with the ring's queue, or the instruction index. -/
def State.chPos (s : State) (n : Nat) : Nat :=
  if n < 64 then (match s.chan? n with | some x => x.pc | none => 0)
  else match s.activeRing n with | some (_, q, _, d) => d.idx + q * 2 ^ 16 | none => 0

/-- The next source and destination address, the bytes left in the line and the lines after it: at the start of the
transfer, which is carried out whole. -/
def State.chLine (s : State) (n : Nat) : Nat × Nat × Nat :=
  if n < 64 then
    match s.chanAt n with
    | some (x, a, .move src dst _ _ _ _ len sofs dofs _ _ _ lines _) =>
      let im := a.plan.img
      (uint 64 (s.operandBase x.run.c im (a.rcd.operand src) + x.so + (sofs : Nat)),
       uint 64 (s.operandBase x.run.c im (a.rcd.operand dst) + x.dofs + (dofs : Nat)), len + (lines - 1) * 2 ^ 32)
    | _ => (0, 0, 0)
  else
    match s.activeRing n with
    | some (_, _, _, d) => (d.field 0x10 8, d.field 0x18 8, d.xfer.len + (d.xfer.lines - 1) * 2 ^ 32)
    | none => (0, 0, 0)

def State.showDmx (s : State) (h : Hit) (v : Nat) : Nat :=
  if h.first = R.DMX_SHARE.key then s.dmxShare
  else if h.first = (R.DMX_CH_STAT 0).key then s.chStat h.i v
  else if h.first = (R.DMX_CH_POS 0).key then s.chPos h.i
  else if h.first = (R.DMX_CH_CRC 0).key then (match s.chan? h.i with | some x => x.crc | none => v)
  else if h.first = (R.DMX_CH_SRC 0).key then (s.chLine h.i).1
  else if h.first = (R.DMX_CH_DST 0).key then (s.chLine h.i).2.1
  else if h.first = (R.DMX_CH_REM 0).key then (s.chLine h.i).2.2
  else v

/-! ## Power, faults, trust, energy, DRAM, Herd -/

/-- KSU_OTP: the fuses (R397). -/
def State.otp (s : State) : Nat :=
  let present (f : Nat → Option Bytes) (n : Nat) : Nat := sumNat ((rangeFrom 0 n).map (fun k => b2n (f k).isSome * 2 ^ k))
  s.svn % 128 + present Config.rootDigest 4 * 2 ^ 8 + s.rootRev % 16 * 2 ^ 12 + present Config.debugDigest 2 * 2 ^ 16

/-- The largest sum of granules that plans reserve on a DRAM channel (R246). -/
def State.dramResv (s : State) (ch : Nat) : Nat := sumNat (s.livePlans.map (fun p => p.2.2.img.dramPeak ch))

def State.showHdie (s : State) (h : Hit) (v : Nat) : Nat :=
  if h.first = R.CLK_TIME.key then s.time % 2 ^ 64
  else if h.first = R.PMC_AON.key then putBits (putBits v 1 1 (b2n s.lpMode)) 15 8 s.estMa
  else if h.first = (R.PMC_DOM_STATE 0).key then putBits v 6 6 (b2n (s.domClaimed h.i))
  else if h.first = (R.PMC_DOM_RES_ON 0).key then s.residency h.i 0
  else if h.first = (R.PMC_DOM_RES_RET 0).key then s.residency h.i 1
  else if h.first = (R.PMC_DOM_RES_OFF 0).key then s.residency h.i 2
  else if h.first = R.EMU_ADMITTED_UJ.key then min (s.admittedSum (s.get F.EMU_WINDOW_W)) 0xFFFFFFFF
  else if h.first = R.FMU_STATUS.key then
    putBits v 4 0 (s.get F.FMU_CTL_EN + 2 * b2n s.promise + 4 * b2n s.fwReleased + 8 * b2n (s.spareFree 0) + 16 * b2n (s.spareFree 1))
  else if h.first = R.KSU_STATUS.key then putBits v 7 7 (b2n s.provLock)
  else if h.first = R.KSU_OTP.key then s.otp
  else if h.first = (R.KSU_DEVID 0).key then Config.devid / 2 ^ (32 * h.i)
  else if h.first = R.KSU_LOCKCTL.key then b2n s.provLock
  else if h.first = R.MEMC_CAP.key then (if s.dramBytes = 0 then 0 else (4 * s.dramBytes - 2 ^ 30) / 2 ^ 20)
  else if h.first = (R.MEMC_CH_RESV 0).key then min (s.dramResv h.i) 2047
  else if h.first = (R.HRD_LINK_SLOTS 0).key then
    putBits v 15 8 ((rangeFrom 0 256).filter (fun x => s.claimed 6 (256 * h.i + x))).length
  else v

/-! ## F-die -/

/-- EVP_Pn_TRACKm: 4 words of 32 bits (Table 6.13). -/
def Track.entry (t : Track) : Nat :=
  (t.st + t.group * 2 ^ 4 + min t.hits 255 * 2 ^ 8) + (uint 16 t.x + uint 16 t.y * 2 ^ 16) * 2 ^ 32 +
    (uint 16 t.vx + uint 16 t.vy * 2 ^ 16) * 2 ^ 64 + uint 32 t.tLast * 2 ^ 96

/-- SETTLING outputs that a running filter channel has still to emit (R184). -/
def State.settleLeft (s : State) (n : Nat) : Nat :=
  if s.getBit F.DFC_STATUS_RUNNING n then (s.dfc n).settle - (s.dfc n).made else 0

def State.mask8 (f : Nat → Bool) : Nat := sumNat ((rangeFrom 0 8).map (fun n => b2n (f n) * 2 ^ n))

def State.showFdie (s : State) (h : Hit) (v : Nat) : Nat :=
  if h.first = (R.EVP_P_TRACK 0 0).key then ((tfind (s.port h.i).tracks h.j).map Track.entry).getD 0
  else if h.first = R.ACQ_STATUS.key then putBits v 15 8 (State.mask8 (fun n => s.acqState n == 6))
  else if h.first = (R.ACQ_CH_STATE 0).key then putBits v 2 0 (s.acqState h.i)
  else if h.first = R.DFC_STATUS.key then
    putBits (putBits v 15 8 (State.mask8 (fun n => s.getBit F.DFC_STATUS_RUNNING n && (s.dfc n).stream))) 23 16
      (State.mask8 (fun n => s.settleLeft n != 0))
  else if h.first = (R.DFC_CH_SETTLE 0).key then putBits v 31 16 (s.settleLeft h.i)
  else if h.first = (R.LIO_ENC_POS 0).key then uint 64 (s.enc h.i).pos
  else if h.first = (R.LIO_ENC_HWM 0).key then uint 64 (s.enc h.i).hwm
  else if h.first = (R.LIO_LO_PEND 0).key then (s.lineOut h.i).pend.length + b2n (s.pulseActive h.i) * 2 ^ 31
  else v

/-! ## C-dies and SRAM -/

/-- The record that a unit is running: its last one, while its charged beats last. -/
def State.unitRun (s : State) (unit : Nat) : Option Act :=
  match (tfind s.lastRun unit).bind s.act? with
  | some a => if a.start ≤ s.beat && decide (s.beat < a.start + a.rcd.issue) then some a else none
  | none => none

def State.unitBusy (s : State) (unit : Nat) : Nat := b2n (s.unitRun unit).isSome

def State.showCdie (s : State) (h : Hit) (v : Nat) : Nat :=
  if h.first = (R.TINE_ROLE 0 0).key then putBits v 16 16 (b2n (s.engineClaimed h.i h.j))
  else if h.first = (R.TINE_STAT 0 0).key then
    let a := s.unitRun (16 * h.i + h.j)
    putBits v 1 0 (b2n a.isSome + 2 * b2n (a.elim false (fun a => a.rcd.freq)))
  else if h.first = (R.CHU_STAT 0 0).key then
    let a := s.unitRun (0x1000 + 4 * h.i + h.j)
    putBits v 1 0 (b2n a.isSome + 2 * b2n (a.elim false (fun a => a.rcd.kind == 1)))
  else if h.first = (R.CHU_PROGS 0 0).key then (s.stored (0x1000 + 4 * h.i + h.j)).length
  else if h.first = (R.PPU_STAT 0).key then putBits v 1 0 (s.unitBusy (0x2000 + 2 * h.i) + 2 * s.unitBusy (0x2001 + 2 * h.i))
  else if h.first = (R.PPU_ANCH 0).key then sumNat ((s.stored (0x2001 + 2 * h.i)).map (fun b => b.length / 8))
  else v

/-- The unit of an activity (Table 11.5); patch builders and recorders are the ones it has taken. -/
def State.actUnit (s : State) (a : Act) : Nat :=
  let im := a.plan.img
  match a.rcd.kind with
  | 1 => let k := im.recUnit a.rcd 1; 16 * (k / 15) + s.physOf k
  | 2 => 0x1000 + im.recUnit a.rcd 2
  | 3 => 0x2000 + im.recUnit a.rcd 3
  | 4 => 0x2000 + im.recUnit a.rcd 3
  | 5 => 0x3000 + im.recUnit a.rcd 5
  | 6 => match s.builders.find? (fun b => b.run == a.run) with
    | some b => 0x4000 + 16 * b.port + b.slot
    | none => 0x4000 + 16 * im.recUnit a.rcd 12
  | 7 => match (s.acqRuns.find? (fun r => r.run == a.run)).bind (fun r => r.recs.head?) with
    | some x => 0x5000 + 4 * x.1 + x.2.1
    | none => 0x5000 + 4 * im.recUnit a.rcd 11
  | _ => 0x9000 + im.recUnit a.rcd 6 / 256

/-- The activities of a plan that hold banks in the present beat: from their first beat to the end of their span (R53, R240). -/
def State.holders (s : State) (c h : Nat) (p : Plan) : List Act :=
  let runs := (rangeFrom 0 p.img.cycRecs.length).filterMap (fun i =>
      match p.img.cycRecs[i]? with
      | some k => if s.beat < p.anchor + k.beat then none
                  else s.act? ⟨c, h, false, i, (s.beat - p.anchor - k.beat) / max 1 p.img.cyc⟩
      | none => none) ++
    (s.items.filter (fun i => i.c == c && i.h == h)).flatMap (fun i =>
      (rangeFrom 0 p.img.itemRecs.length).filterMap (fun k => s.act? ⟨c, h, true, k, i.id⟩))
  runs.filter (fun a => a.allowed && decide (a.start ≤ s.beat) && decide (s.beat < a.start + a.rcd.span))

/-- The banks that an activity owns: those it claims singly, its engine's, and its item's bank of each set it touches. -/
def State.actBanks (s : State) (a : Act) : List Nat :=
  let im := a.plan.img
  (im.recClaims a.rcd).flatMap (fun k =>
    if k.kind = 4 && k.p0 == 0 then rangeFrom k.first k.count
    else if k.kind = 1 then (rangeFrom k.first k.count).flatMap (fun e => engineBanks (e / 15) (s.physOf e))
    else []) ++
  im.setIds.filterMap (fun set => if a.rcd.touches (0x8000 + set) then a.item.bind (im.itemBank set) else none)

/-- The item banks that the verdict composer owns over the seven beats before an item's verdict (R51, R240). -/
def State.composerBanks (s : State) (p : Plan) (c h : Nat) : List Nat :=
  (s.items.filter (fun i => i.c == c && i.h == h && decide (i.beat + p.img.lat ≤ s.beat + 7) &&
      decide (s.beat < i.beat + p.img.lat))).flatMap (fun i =>
    p.img.setIds.filterMap (fun set =>
      if p.img.verdicts.any (fun v => v.cls == i.cls && v.reads (0x8000 + set)) then p.img.itemBank set i else none))

/-- The unit that owns a bank in the present beat, 0xFFFF for none (Table 11.7). -/
def State.bankOwner (s : State) (b : Nat) : Nat :=
  (s.livePlans.findSome? (fun p =>
    if p.2.2.phase != .running && p.2.2.phase != .draining then none
    else match (s.holders p.1 p.2.1 p.2.2).find? (fun a => (s.actBanks a).contains b) with
      | some a => some (s.actUnit a)
      | none => if (s.composerBanks p.2.2 p.1 p.2.1).contains b then some 0x7000 else none)).getD 0xFFFF

/-- First bank of a die and the number of its SRM_OWN registers that name a bank. -/
def dieFirstBank (d : Nat) : Nat := if d = 0 then 0 else if d = 1 then 0x100 else if d = 2 then 0x300 else 0x500

/-- SRM_OWNi (Table 11.7). -/
def State.ownReg (s : State) (d i : Nat) : Nat :=
  let b := dieFirstBank d + i
  if bankDie b ≠ d then 0
  else
    let c := ((s.livePlans.find? (fun p => (s.planBanks p.2.2.img).contains b)).map (·.1))
    s.bankOwner b + c.getD 0 * 2 ^ 16 + b2n c.isSome * 2 ^ 23 + b2n (s.zeroing.contains b) * 2 ^ 24 +
      b2n (!s.domOn (bankDomain b)) * 2 ^ 25

def State.showSrm (s : State) (h : Hit) (v : Nat) : Nat :=
  if h.first = (R.SRM_OWN 0 0).key then s.ownReg h.place h.i
  else if h.first = (R.SRM_STATUS 0).key then putBits v 1 1 (b2n (s.zeroing.any (fun b => bankDie b == h.place)))
  else v

/-! ## The value of a register -/

/-- The reset value of a register: the fields of its row, and what depends on the instance (TINE_ROLE, TINE_MAP, the states
and leads of the power domains). -/
def Hit.reset (h : Hit) : Nat :=
  if h.first = (R.TINE_ROLE 0 0).key then (R.TINE_ROLE h.i h.j).reset
  else if h.first = (R.TINE_MAP 0 0).key then (R.TINE_MAP h.i h.j).reset
  else if h.first = (R.PMC_DOM_STATE 0).key then (R.PMC_DOM_STATE h.i).reset
  else if h.first = (R.PMC_DOM_LEAD 0).key then (R.PMC_DOM_LEAD h.i).reset
  else h.desc.fields.foldl (fun x f => putBits x f.hi f.lo f.reset) 0

/-- A located register as a home of a value. -/
def Hit.reg (h : Hit) : Reg := ⟨h.key, h.desc.width, h.reset⟩

/-- What a register holds or shows. -/
def State.shown (s : State) (h : Hit) : Nat :=
  s.showCpx h (s.showFn h (s.showAtu h (s.showDmx h (s.showHdie h (s.showFdie h (s.showCdie h (s.showSrm h (s.rd h.reg))))))))

/-- What a read finds: the measured values (FIO's frequency once 1 ms has passed, the parts' refresh rate, the residual skew
of a calibrated channel) are free. -/
def State.sampled (s : State) (h : Hit) : Nat × State :=
  let x := s.draw
  if h.first = R.CLK_FIO_KHZ.key then (if s.time < s.resetT + 100000 then (0, s) else (x.1 % 2 ^ 18, x.2))
  else if h.first = (R.MEMC_CH_MR4 0).key then
    (if s.getBit F.MEMC_STATUS_TRAINED h.i then (x.1 % 8, x.2) else (0, s))
  else if h.first = (R.ACQ_CH_CAL 0).key then (if s.cal h.i = 0 then (0, s) else (x.1 % 2 ^ 16, x.2))
  else (s.shown h % 2 ^ h.desc.width, s)

end Sys2Proof.Machine
end

