-- ==== Sys2Proof/WellFormed.lean ====
section
/-! DEFINITION. Which commands are well formed: every operand names a unit or lies in a range that the spec gives. -/

namespace Sys2Proof

/-- Every address of an environment is below 2^64. -/
def envOk (e : HostEnv) : Bool :=
  e.mem.all (fun b => decide (b.1 < 2 ^ 64)) && e.poison.all (fun a => decide (a < 2 ^ 64)) &&
  e.noResp.all (fun a => decide (a < 2 ^ 64)) && e.ats.all (fun p => decide (p.hva < 2 ^ 64) && decide (p.bus < 2 ^ 64)) &&
  e.far.all (fun b => decide (b.1 < 2 ^ 54))

/-- A register access inside its window (R22, Table 1.6, Table 4.18). -/
def portOk (p : RegPort) (off size : Nat) : Bool :=
  decide (1 ≤ size) && decide (size ≤ 8) &&
  match p with
  | .bar0 => decide (off + size ≤ 67108864)
  | .bar2 c => decide (c < 128) && decide (off + size ≤ 1048576)

/-- An access that R22 discards: not 4 or 8 bytes wide, or not naturally aligned. -/
def badAccess (off size : Nat) : Bool := !((size == 4 || size == 8) && off % size == 0)

/-- The handle of an activity lies in the range of R56, its context in that of R69. -/
def runOk (r : RecRun) : Bool :=
  decide (r.c < 128) && decide (r.h < 4) && decide (r.idx < 32768)


/-- A command is well formed when its operands name units, contexts, queues and field values the spec gives the
device, and its environment's bytes are bytes. -/
def Instr.wellFormed : Instr → Bool
  | .nop c q env => c < 128 && q < 128 && envOk env
  | .echo c q env => c < 128 && q < 128 && envOk env
  | .queryDevice c q env => c < 128 && q < 128 && envOk env
  | .planLoad c q env => c < 128 && q < 128 && envOk env
  | .planAdmit c q env => c < 128 && q < 128 && envOk env
  | .planArm c q env => c < 128 && q < 128 && envOk env
  | .planStop c q env => c < 128 && q < 128 && envOk env
  | .planUnload c q env => c < 128 && q < 128 && envOk env
  | .planStatus c q env => c < 128 && q < 128 && envOk env
  | .modelLoad c q env => c < 128 && q < 128 && envOk env
  | .modelEvict c q env => c < 128 && q < 128 && envOk env
  | .modelList c q env => c < 128 && q < 128 && envOk env
  | .bufPin c q env => c < 128 && q < 128 && envOk env
  | .bufUnpin c q env => c < 128 && q < 128 && envOk env
  | .tlbInvalidate c q env => c < 128 && q < 128 && envOk env
  | .pageMigrate c q env => c < 128 && q < 128 && envOk env
  | .ringCreate c q env => c < 128 && q < 128 && envOk env
  | .ringDestroy c q env => c < 128 && q < 128 && envOk env
  | .dmaProgLoad c q env => c < 128 && q < 128 && envOk env
  | .acqConfigStop c q env => c < 128 && q < 128 && envOk env
  | .acqConfigApply c q env => c < 128 && q < 128 && envOk env
  | .acqConfigStart c q env => c < 128 && q < 128 && envOk env
  | .acqConfigForce c q env => c < 128 && q < 128 && envOk env
  | .acqConfigPair c q env => c < 128 && q < 128 && envOk env
  | .dfcCoefLoadStop c q env => c < 128 && q < 128 && envOk env
  | .dfcCoefLoadLoad c q env => c < 128 && q < 128 && envOk env
  | .dfcCoefLoadStart c q env => c < 128 && q < 128 && envOk env
  | .acqSync c q env => c < 128 && q < 128 && envOk env
  | .acqReadout c q env => c < 128 && q < 128 && envOk env
  | .evpConfigDisable c q env => c < 128 && q < 128 && envOk env
  | .evpConfigEnable c q env => c < 128 && q < 128 && envOk env
  | .evpConfigGroups c q env => c < 128 && q < 128 && envOk env
  | .evpMaskLoad c q env => c < 128 && q < 128 && envOk env
  | .pwrPolicySet c q env => c < 128 && q < 128 && envOk env
  | .pwrPolicyWake c q env => c < 128 && q < 128 && envOk env
  | .pwrPolicyAon c q env => c < 128 && q < 128 && envOk env
  | .energyBudgetSet c q env => c < 128 && q < 128 && envOk env
  | .pwrGroupSleep c q env => c < 128 && q < 128 && envOk env
  | .faultInject c q env => c < 128 && q < 128 && envOk env
  | .faultInjectClear c q env => c < 128 && q < 128 && envOk env
  | .faultLogRead c q env => c < 128 && q < 128 && envOk env
  | .selftestRun c q env => c < 128 && q < 128 && envOk env
  | .herdJoinJoin c q env => c < 128 && q < 128 && envOk env
  | .herdJoinFound c q env => c < 128 && q < 128 && envOk env
  | .herdJoinEpoch c q env => c < 128 && q < 128 && envOk env
  | .herdLeave c q env => c < 128 && q < 128 && envOk env
  | .herdStatus c q env => c < 128 && q < 128 && envOk env
  | .windowExport c q env => c < 128 && q < 128 && envOk env
  | .windowWithdraw c q env => c < 128 && q < 128 && envOk env
  | .fwDownload c q env => c < 128 && q < 128 && envOk env
  | .fwVerify c q env => c < 128 && q < 128 && envOk env
  | .fwActivate c q env => c < 128 && q < 128 && envOk env
  | .fwConfirm c q env => c < 128 && q < 128 && envOk env
  | .ctxReset c q env => c < 128 && q < 128 && envOk env
  | .abort c q env => c < 128 && q < 128 && envOk env
  | .fnSqdb c q tail env => c < 128 && q < 128 && tail < 65536 && envOk env
  | .fnCqdb c q head => c < 128 && q < 128 && head < 65536
  | .fnQ0Ctrl c v => c < 128 && v < 4294967296
  | .lioEncRelock n => n < 4
  | .lioLoForce j len => j < 16 && len < 1048576
  | .acqSpiTx v => v < 4294967296
  | .dmxPauseSet n => n < 192
  | .dmxPauseClear n => n < 192
  | .atuTlbFlush env => envOk env
  | .ksuKeyLoad slot => slot < 16
  | .ksuKeyClear slot => slot < 16
  | .ksuKeyWrap slot => slot < 16
  | .ksuDbgUnlock keysel => keysel < 2
  | .ksuRevoke v => v < 4294967296
  | .ksuProvLock v => v < 4294967296
  | .glbDomrst domain key => domain < 128 && key < 256
  | .hrdLinkRetrain l => l < 4
  | .registerWrite port off size v => portOk port off size && v < 2 ^ (8 * size)
  | .bar0BadAccess off size _ => off < 67108864 && badAccess off size
  | .bar4Access off size _ v => off < 268435456 && (size == 1 || size == 2 || size == 4 || size == 8) && v < 2 ^ (8 * size)
  | .tapInstruction ir _ => ir < 7
  | .replyWriteResponse c q => c < 128 && q < 128
  | .commandTimeout c q => c < 128 && q < 128
  | .cqCoalesceTimeout c q => c < 128 && q < 128
  | .beatBoundary env => env.timeDiff.all (fun d => decide (d < 4))
  | .planDrained c h => c < 128 && h < 4
  | .itemCreate c => c < 128
  | .verdictCompose c id env => c < 128 && id < 4294967296 && envOk env
  | .itemVerdict c id env => c < 128 && id < 4294967296 && envOk env
  | .tineRun run => runOk run
  | .chainOp run => runOk run
  | .ppuSort run => runOk run
  | .ppuDetect run => runOk run
  | .dmxRun run => runOk run
  | .evpPatch run => runOk run
  | .evpPredict run => runOk run
  | .acqArm run => runOk run
  | .strobe run => runOk run
  | .herdXfer run => runOk run
  | .dmxMove n => n < 64
  | .dmxLoop n => n < 64
  | .dmxWaitBeat n => n < 64
  | .dmxWaitTrig n => n < 64
  | .dmxWaitSem n => n < 64
  | .dmxWaitRelease n => n < 64
  | .dmxWaitTimeout n => n < 64
  | .dmxSignal n => n < 64
  | .dmxEnd n => n < 64
  | .recordLate n => n < 64
  | .descMove n env => n < 192 && envOk env
  | .descNop n env => n < 192 && envOk env
  | .dmxPaused n => n < 192
  | .ringFaultServed c q => c < 128 && q < 128
  | .faultTimeout c q => c < 128 && q < 128
  | .prgResponse c q code env => c < 128 && q < 128 && code < 16 && envOk env
  | .atsInvalidation _ hva len env => hva < 2 ^ 64 && len < 2 ^ 64 && envOk env
  | .invalidateStop n => n < 192
  | .walkTimeout c q => c < 128 && q < 128
  | .encCount n _ _ _ => n < 4
  | .encZEdge n _ _ => n < 4
  | .webStopped n => n < 4
  | .liEdge i _ _ phase => i < 8 && phase < 4
  | .liStuck i => i < 8
  | .outputFire j => j < 16
  | .outputPulseEnd j => j < 16
  | .csi2LongPacket p _ => p < 4
  | .csi2ShortPacket p _ => p < 4
  | .mapperWindowClose p => p < 4
  | .mapperSilent p => p < 4
  | .eventProcess p => p < 4
  | .trackCoastTimeout p m => p < 4 && m < 256
  | .surfaceSweep p x y => p < 4 && x < 1280 && y < 800
  | .fabricFire line => line < 64
  | .fabricArmClose line => line < 64
  | .acqTrigger ch src _ _ => ch < 8 && src < 7
  | .acqFillDone ch => ch < 8
  | .acqSegmentDone ch rec _ => ch < 8 && rec < 4
  | .acqRearmDone ch => ch < 8
  | .acqCalTracking ch => ch < 8
  | .spiTransferDone rx => rx < 4294967296
  | .dfcSync _ => true
  | .dfcStreamBlock ch _ => ch < 8
  | .syncInEdge _ => true
  | .syncOutPulse => true
  | .recordShed run => runOk run
  | .recordOverrun run => runOk run
  | .droop d => d < 4
  | .thermalSample t => t.length == 4
  | .thermHoldEnd => true
  | .detectorFire id _ => id < 96
  | .contextRecovery c det => c < 128 && det < 96
  | .replacementBegin e n => e < 2 && n < 16
  | .replacementSwap e => e < 2
  | .rotationStepBegin e => e < 2
  | .shadowCopyDone e => e < 2
  | .spareSwap e => e < 2
  | .engineSelftestDone e n _ => e < 2 && n < 16
  | .bankZeroDone => true
  | .sramScrub la => la < 184549376
  | .domainIdleTimeout d => d < 93
  | .domainEntryDone d => d < 93
  | .domainDemand d => d < 93
  | .domainWakeDone d => d < 93
  | .clkSwitchDone d => d < 93
  | .clkSwitchFail d => d < 93
  | .domainResetDone => true
  | .aonBrownOut => true
  | .powerOn => true
  | .perstAssert => true
  | .perstDeassert => true
  | .warmDeviceReset cause det => cause < 9 && det < 256
  | .bootStageDone _ => true
  | .tamper det => 4 <= det && det < 7
  | .vfFlr n env => 1 <= n && n < 128 && envOk env
  | .pfFlr => true
  | .vfEnableSet num => num < 128
  | .vfEnableClear env => envOk env
  | .flitReceive l _ env => l < 4 && envOk env
  | .flitLost l _ => l < 4
  | .resultUndelivered _ dev => dev < 8
  | .laneFault l lane => l < 4 && lane < 4
  | .linkDown l => l < 4
  | .linkTrained l lanes peer peerLink => l < 4 && lanes < 16 && peer < 8 && peerLink < 4
  | .herdLeaveDone => true
  | .registerRead port off size => portOk port off size
  | .fabricArmOpen line => line < 64
  | .trackLeavesFrame p m => p < 4 && m < 256
  | .linkTrainingTimeout l => l < 4
  | .flitReplay l _ => l < 4
  | .priEnable alloc _ => alloc <= 512
  | .railReturn rail => rail < 16
  | .dphyStateChange p st lanes _ => p < 4 && st < 4 && lanes < 5

end Sys2Proof
end

