-- ==== Sys2Proof/Machine/RegAccess.lean ====
section
/-! DEFINITION. Host accesses to registers (R8, R9, R22, R23, R25, R425), BAR4, and the TAP (R414). An access of 8 bytes that
covers two registers is two of 4 bytes, the lower address first (R22). -/

namespace Sys2Proof.Machine

/-! ## Reads -/

/-- The fields that a read returns: reserved bits and WO fields read zero (R8, R9). -/
def readMask (fs : List FieldDesc) (v : Nat) : Nat :=
  fs.foldl (fun x f => if f.acc = .wo then x else putBits x f.hi f.lo (bits v f.hi f.lo)) 0

/-- RC fields return to zero once read (R8). -/
def clearRc (fs : List FieldDesc) (v : Nat) : Nat :=
  fs.foldl (fun x f => if f.acc = .rc then putBits x f.hi f.lo 0 else x) v

/-- What reading a register leaves: RC fields cleared; the CE counter of a place starts a new first CE at every address (R254). -/
def State.afterRead (s : State) (h : Hit) : State :=
  let s := if h.desc.fields.any (fun f => f.acc == .rc) then s.wr h.reg (clearRc h.desc.fields (s.rd h.reg)) else s
  let drop (p : Nat) : State := { s with ceSeen := s.ceSeen.filter (fun a => laPlace a != p) }
  if h.first = (R.SRM_CE_CNT 0).key then drop h.place
  else if h.first = (R.MEMC_CH_CE 0).key then drop (4 + h.i)
  else s

/-- Word `k` of a number. -/
def word32 (v k : Nat) : Nat := v / 2 ^ (32 * k) % 2 ^ 32

/-- A wider entry whose fields are all read-only: KSU_DEVID and KSU_DBG_CHAL are such entries, made of 32-bit registers (R6).
Its first key and its number of words. -/
def Hit.entry (h : Hit) : Option (Nat × Nat) :=
  if h.first = (R.KSU_DEVID 0).key then some (h.first, 4)
  else if h.first = (R.KSU_DBG_CHAL 0).key then some (h.first, 8)
  else if 64 < h.desc.width then some (h.key, h.desc.width / 32)
  else none

/-- The word of its entry that a hit is at. -/
def Hit.entryWord (h : Hit) : Nat := if h.desc.width = 32 then h.i else h.rel / 4

/-- All words of the entry that a register lies in, as they are now. -/
def State.entryWords (s : State) (h : Hit) (n : Nat) : List Nat :=
  (rangeFrom 0 n).map (fun k =>
    if h.desc.width = 32 then s.shown { h with i := k, key := h.first + 4 * k } % 2 ^ 32 else word32 (s.shown h) k)

/-- A read of 4 bytes: the value and what it leaves. -/
def State.read4 (s : State) (port : RegPort) (off : Nat) : Nat × State :=
  match locate port off with
  | none => (0, s)
  | some h =>
    match h.entry with
    | some (k, n) =>
      let w := h.entryWord
      if w = 0 then
        let ws := s.entryWords h n
        (ws.headD 0, { s with latches := tput s.latches k (ws.drop 1), unread := s.unread.filter (· != h.key) })
      else match tfind s.latches k with
        | some l => (l.getD (w - 1) 0, s)
        | none => ((s.entryWords h n).getD w 0, s)
    | none =>
      if h.desc.width = 64 then
        let v := readMask h.desc.fields (s.shown h)
        if h.rel < 4 then (word32 v 0, { s with latches := tput s.latches h.key [word32 v 1] })
        else match tfind s.latches h.key with
          | some l => (l.headD 0, { s with latches := tdel s.latches h.key })
          | none => (word32 v 1, s)
      else
        let x := s.sampled h
        (readMask h.desc.fields x.1, x.2.afterRead h)

/-- A read of 4 or 8 bytes: one 64-bit register at once, whatever is latched (R23), or 4 bytes after 4. -/
def State.readAt (s : State) (port : RegPort) (off size : Nat) : Nat × State :=
  if size = 8 then
    match locate port off with
    | some h =>
      if h.desc.width = 64 then (readMask h.desc.fields (s.shown h) % 2 ^ 64, s)
      else
        let lo := s.read4 port off
        let hi := lo.2.read4 port (off + 4)
        (lo.1 + hi.1 * 2 ^ 32, hi.2)
    | none =>
      let hi := s.read4 port (off + 4)
      (hi.1 * 2 ^ 32, hi.2)
  else s.read4 port off

/-! ## Writes -/

/-- The fields of a register after a write, by their access codes (Table 0.3). -/
def writeFields (fs : List FieldDesc) (old v : Nat) : Nat :=
  fs.foldl (fun x f =>
    match f.acc with
    | .rw | .wo => putBits x f.hi f.lo (bits v f.hi f.lo)
    | .w1c => putBits x f.hi f.lo (bits x f.hi f.lo - (bits x f.hi f.lo &&& bits v f.hi f.lo))
    | .w1s => putBits x f.hi f.lo (bits x f.hi f.lo ||| bits v f.hi f.lo)
    | .ro | .rc => x) old

/-- A write by the access codes alone. -/
def State.writePlain (s : State) (h : Hit) (v : Nat) : State := s.wr h.reg (writeFields h.desc.fields (s.rd h.reg) v)

/-- A live plan names an encoder, as its ENCODER or in a KIND 13 claim (R116). -/
def State.encHeld (s : State) (n : Nat) : Bool := s.claimed 13 n || s.livePlans.any (fun p => p.2.2.img.enc == n)

/-- A live plan has a trigger rule whose source is a line input (R116). -/
def State.lineHeld (s : State) (i : Nat) : Bool :=
  s.livePlans.any (fun p => p.2.2.img.rules.any (fun r => r.source == 1 && r.srcIndex == i))

/-- A write ignored under R116. -/
def State.lioIgnored (s : State) : State := s.incWrap F.LIO_STATUS_WIGN

/-- LIO_ENCn_CFG: an encoder that is disabled reads STOPPED; one that is enabled starts at its position (R107). -/
def State.writeEncCfg (s : State) (h : Hit) (v : Nat) : State :=
  let was := s.on (F.LIO_ENC_CFG_EN h.i)
  let s := s.writePlain h v
  let e := s.enc h.i
  if s.on (F.LIO_ENC_CFG_EN h.i) = false then s.putBit F.LIO_STATUS_STOPPED h.i true
  else if was then s
  else
    let e : Enc := { e with hwm := e.pos, beatHwm := e.pos, lastCount := s.time, valid := 0, hist := [], dir := none }
    s.setEnc h.i { e with above := false }

/-- LIO_LIi_CFG (R108). -/
def State.writeLiCfg (s : State) (h : Hit) (v : Nat) : State :=
  let t := s.writePlain h v
  if t.on (F.LIO_LI_CFG_POL h.i) == s.on (F.LIO_LI_CFG_POL h.i) then t else t.liTurn h.i

/-- The LIO registers whose writes have conditions (R104, R103, R115, R116). -/
def State.writeLio (s : State) (h : Hit) (v : Nat) : State :=
  if h.first = (R.LIO_ENC_CTRL 0).key then
    (if bit v 0 then lioEncRelock h.i s else if s.encHeld h.i then s.lioIgnored else s)
  else if h.first = (R.LIO_ENC_CFG 0).key then (if s.encHeld h.i then s.lioIgnored else s.writeEncCfg h v)
  else if h.first = (R.LIO_ENC_STOP 0).key then
    (if s.encHeld h.i then s.lioIgnored else if within (bits v 19 0) 1 1000000 then s.writePlain h v else s)
  else if h.first = (R.LIO_ENC_BTLIM 0).key then (if s.encHeld h.i then s.lioIgnored else s.writePlain h v)
  else if h.first = (R.LIO_LI_CFG 0).key then (if s.lineHeld h.i then s.lioIgnored else s.writeLiCfg h v)
  else if h.first = (R.LIO_LO_CFG 0).key then (if s.claimed 8 h.i then s.lioIgnored else s.writePlain h v)
  else if h.first = (R.LIO_STB_CFG 0).key then (if s.claimed 9 h.i then s.lioIgnored else s.writePlain h v)
  else if h.first = (R.LIO_LO_FORCE 0).key then loForce h.i (bits v 19 0) s
  else s.writePlain h v

/-- The held values of a context cannot change: it has a HOST or MIGR range, or a descriptor holds a translation (R258). -/
def State.atuHeld (s : State) (c : Nat) : Bool :=
  (s.ctxRanges c).any (fun p => p.2.kind == 0 || p.2.kind == 2) ||
  s.rings.any (fun x => x.1 == c && x.2.2.descs.any (fun d => d.phase == .held || d.phase == .running))

/-- A write that would have changed a held value (R258). -/
def State.atuIgnored (s : State) : State := s.incWrap F.ATU_STATUS_WIGN

/-- The ATU_CTXc registers (R258; SOURCE 2 needs ATS Enable). -/
def State.writeAtu (s : State) (h : Hit) (v : Nat) : State :=
  let old := s.rd h.reg
  let new := writeFields h.desc.fields old v
  if h.first = (R.ATU_CTX_CFG 0).key then
    if bits new 1 0 = 2 && bits old 1 0 != 2 && !s.atsOn then s.atuIgnored
    else if s.atuHeld h.i && bits new 5 0 != bits old 5 0 then (s.wr h.reg (putBits new 5 0 (bits old 5 0))).atuIgnored
    else s.wr h.reg new
  else if h.first = (R.ATU_CTX_PASID 0).key || h.first = (R.ATU_CTX_HVA_BASE 0).key || h.first = (R.ATU_CTX_DVA_BASE 0).key ||
      h.first = (R.ATU_CTX_WIN_LEN 0).key || h.first = (R.ATU_CTX_ROOT 0).key then
    if s.atuHeld h.i && new != old then s.atuIgnored else s.wr h.reg new
  else s.wr h.reg new

/-- KSU_KEYCTL, DBG_CTL, REVOKE, LOCKCTL (R397, R410, R415, R419). -/
def State.writeKsu (s : State) (h : Hit) (v : Nat) : State :=
  if h.first = R.KSU_KEYCTL.key then
    (match bits v 9 8 with
     | 1 => ksuKeyLoad (bits v 3 0) s
     | 2 => ksuKeyClear (bits v 3 0) s
     | 3 => ksuKeyWrap (bits v 3 0) s
     | _ => s.put F.KSU_KEYCTL_SLOT (bits v 3 0))
  else if h.first = R.KSU_DBG_CTL.key then
    (if bit v 0 then ksuDbgUnlock (bits v 1 1) s else s.put F.KSU_DBG_CTL_KEYSEL (bits v 1 1))
  else if h.first = R.KSU_REVOKE.key then ksuRevoke v s
  else if h.first = R.KSU_LOCKCTL.key then ksuProvLock v s
  else s.writePlain h v

/-- The function's window: queue 0's bases and sizes are fixed while it is enabled (R98). -/
def State.writeFn (s : State) (h : Hit) (v : Nat) : State :=
  if h.first = (R.FN_SQDB 0 0).key then s
  else if h.first = (R.FN_CQDB 0 0).key then fnCqdb h.place h.i (bits v 15 0) s
  else if h.first = (R.FN_Q0_CTRL 0).key then fnQ0Ctrl h.place v s
  else if h.first = (R.FN_Q0_SQBASE 0).key || h.first = (R.FN_Q0_CQBASE 0).key || h.first = (R.FN_Q0_SIZE 0).key then
    (if s.on (F.FN_Q0_CTRL_ENABLE h.place) then s else s.writePlain h v)
  else s.writePlain h v

/-- A register written with a value as wide as it is. Registers with a row of their own do what the row does. -/
def State.writeReg (s : State) (h : Hit) (v : Nat) : State :=
  if 2 ^ 32 ≤ h.first then s.writeFn h v
  else if within h.first 0x1600000 0x160FFFF then s.writeLio h v
  else if within h.first 0x101000 0x102FFF then s.writeAtu h v
  else if within h.first 0x50000 0x5FFFF then s.writeKsu h v
  else if h.first = (R.CPX_CTX_RIGHTS 0).key then (if h.i = 0 then s else s.writePlain h v)
  else if h.first = R.ATU_TLB_CTL.key then s
  else if h.first = R.GLB_DOMRST.key then glbDomrst (bits v 6 0) (bits v 15 8) s
  else if h.first = (R.HRD_LINK_CTL 0).key then (if bit v 0 then hrdLinkRetrain h.i s else s)
  else if h.first = R.ACQ_SPI_TX.key then acqSpiTx v s
  else if h.first = (R.DMX_CH_CTL 0).key then (if bit v 0 then dmxPauseSet h.i s else dmxPauseClear h.i s)
  else if h.first = R.EMU_THERM_CFG.key then
    s.writePlain h (if within (bits v 7 0) 60 120 then v else putBits v 7 0 (s.get F.EMU_THERM_CFG_T_LIM))
  else if h.first = (R.EMU_DROOP_CFG 0).key then (if within (bits v 8 0) 16 256 then s.writePlain h v else s)
  else if h.first = (R.TINE_ROTCFG 0).key then
    let s := s.writePlain h v
    if s.on (F.TINE_ROTCFG_ROT_EN h.i) then s.wakeEngines h.i else s
  else s.writePlain h v

/-- A write of 4 bytes: into a 32-bit register at once, into the low half of a 64-bit register when its high half is
written (R23). Read-only entries take nothing. -/
def State.write4 (s : State) (port : RegPort) (off v : Nat) : State :=
  match locate port off with
  | none => s
  | some h =>
    if 64 < h.desc.width then s
    else if h.desc.width = 64 then
      if h.rel < 4 then { s with holds := tput s.holds h.key v }
      else
        let low := (tfind s.holds h.key).getD (s.rd h.reg % 2 ^ 32)
        State.writeReg { s with holds := tdel s.holds h.key } h (low + v * 2 ^ 32)
    else s.writeReg h v

/-- A write of 4 or 8 bytes. -/
def State.writeAt (s : State) (port : RegPort) (off size v : Nat) : State :=
  if size = 8 then
    match locate port off with
    | some h =>
      if h.desc.width = 64 then State.writeReg { s with holds := tdel s.holds h.key } h v
      else (s.write4 port off (v % 2 ^ 32)).write4 port (off + 4) (v / 2 ^ 32)
    | none => s.write4 port (off + 4) (v / 2 ^ 32)
  else s.write4 port off v

/-! ## Which accesses are let through, and when -/

/-- BAR0 outside the GLB block answers from READY or RECOVERY on (R425); a BAR2 window while its context is not DISABLED
(R69). -/
def State.barOpen (s : State) (port : RegPort) (off : Nat) : Bool :=
  match port with
  | .bar0 => decide (off < 0x10000) || s.ready || s.on F.GLB_STATUS_RECOVERY
  | .bar2 c => (s.ctx c).phase != .disabled

/-- The sleeping domain that a register's block lies in (Table 15.1), when it can sleep. -/
def Hit.domain (h : Hit) : Option Nat :=
  if 2 ^ 32 ≤ h.first then none
  else
    let k := canonOffset h.key
    if within k 0x80000 0xFFFFF then some 4
    else if within k 0x100000 0x17FFFF then some 5
    else if within k 0x180000 0x1FFFFF then some 6
    else if within k 0x200100 0x2001FF then some (11 + h.i)
    else if within k 0x280120 0x28017F then some (7 + h.i)
    else if h.first = (R.EVP_P_PHY 0).key || h.first = (R.EVP_P_FIFO 0).key then some (29 + h.i)
    else if within k 0x1000000 0x11FFFFF then some 28
    else if within k 0x1201000 0x13FFFFF || within k 0x1401000 0x15FFFFF then some (17 + h.i)
    else if k < 0x2000000 || decide (0x4000000 ≤ k) then none
    else
      let d := k / 0x1000000 - 2
      let w := k % 0x1000000
      if w < 0x400000 && decide (h.first < (R.TINE_MAP 0 0).key) then some (37 + 29 * d + h.j)
      else if within w 0x400000 0x4FFFFF then some (53 + 29 * d + h.j)
      else if within w 0x500000 0x5FFFFF then some (57 + 29 * d)
      else none

/-- A domain answers accesses: it is ON and not on its way out. -/
def State.answers (s : State) (d : Nat) : Bool := s.domOn d && s.domPhase d != 1

/-- An access carried out: a read completes with its value. -/
def State.perform (s : State) (p : Parked) : State :=
  match p.value with
  | some v => s.writeAt p.port p.off p.size v
  | none => let x := s.readAt p.port p.off p.size; x.2.emit (.read x.1)

/-- Accesses that waited for a domain that answers now are carried out in order (R340). -/
def State.serveParked (s : State) : State :=
  (s.parked.filter (fun p => s.answers p.dom)).foldl (fun s p => s.perform p)
    { s with parked := s.parked.filter (fun p => !s.answers p.dom) }

/-- BAR0_BAD_ACCESS: discarded, counted, and noted (R22, R431). -/
def bar0BadAccess (off : Nat) (write : Bool) (s : State) : State :=
  let s := ((s.incSat F.GLB_BADACC_COUNT).put F.GLB_BADACC_WRITE (b2n write)).put F.GLB_BADADDR_OFFSET off
  (if write then s else s.emit (.read 0)).raiseGlb 1

/-- A register access (R22, R340, R425): one of another width or alignment is discarded; so is one while the window is closed; a demand on the domain of its block, whose wake it
waits for. -/
def State.access (s : State) (port : RegPort) (off size : Nat) (v : Option Nat) : State :=
  if badAccess off size then
    match port with
    | .bar0 => bar0BadAccess off v.isSome s
    | .bar2 _ => if v.isNone then s.emit (.read 0) else s
  else if s.barOpen port off = false then (if v.isNone then s.emit (.read 0) else s)
  else
    let h := (locate port off) <|> (if size = 8 then locate port (off + 4) else none)
    match h.bind Hit.domain with
    | none => s.perform ⟨0, port, off, size, v⟩
    | some d =>
      let s := s.demand d
      if s.answers d then s.serveParked.perform ⟨d, port, off, size, v⟩
      else { s with parked := s.parked ++ [⟨d, port, off, size, v⟩] }

/-- REGISTER_WRITE. -/
def registerWrite (port : RegPort) (off size v : Nat) (s : State) : State := s.access port off size (some v)

/-- REGISTER_READ. -/
def registerRead (port : RegPort) (off size : Nat) (s : State) : State := s.access port off size none

/-- DOMAIN_WAKE_DONE with the accesses that waited for it (R339, R340). -/
def wakeDoneServed (d : Nat) (s : State) : State := (domainWakeDone d s).serveParked

/-- DOMAIN_DEMAND with the accesses that its abandoned entry lets through (R340). -/
def demandServed (d : Nat) (s : State) : State := (domainDemand d s).serveParked

/-! ## Other windows -/

/-- BAR4_ACCESS: device-local memory at the aperture's offset while debug is unlocked (R25, R416). -/
def bar4Access (off size : Nat) (write : Bool) (v : Nat) (s : State) : State :=
  let who : Who := ⟨0xC000, 0xFF, false, 0⟩
  if s.dbg = false then (if write then s else s.emit (.read 0))
  else if write then s.writeBg who off (clean (leBytes size v))
  else let x := s.readBg who off size; x.2.emit (.read (leNat (x.1.map (·.1))))

/-- The TAP's view of the debug-unlock registers: DR holds a value (bits [31:0]), a register's offset in the KSU block (bits
[43:32]) and whether it is written (bit 44). -/
def State.dbgKey (s : State) (dr : Nat) : State :=
  let off := 0x50000 + bits dr 43 32
  let ok := match locate .bar0 off with
    | some h => h.first == (R.KSU_DBG_CHAL 0).key || h.first == (R.KSU_DBG_PUB 0).key || h.first == (R.KSU_DBG_SIG 0).key ||
        h.first == R.KSU_DBG_CTL.key
    | none => false
  if !ok then s.emit (.tap 0)
  else if bit dr 44 then s.write4 .bar0 off (bits dr 31 0)
  else let x := s.read4 .bar0 off; x.2.emit (.tap x.1)

/-- TAP_INSTRUCTION: 0 BYPASS, 1 IDCODE, 2 SAMPLE/PRELOAD, 3 EXTEST, 4 CLAMP, 5 HIGHZ, 6 DBGKEY (R414). What the boundary
register samples is free. -/
def tapInstruction (ir dr : Nat) (s : State) : State :=
  let s : State := { s with tapIr := ir, tapHigh := within ir 3 5 }
  match ir with
  | 1 => s.emit (.tap 0x14832001)
  | 2 | 3 => let x := s.draw; x.2.emit (.tap x.1)
  | 6 => s.dbgKey dr
  | _ => s.emit (.tap 0)

end Sys2Proof.Machine
end

