-- ==== Sys2Proof/Machine/Guard.lean ====
section
/-! DEFINITION. How a command runs: a well-formed one takes its effect, any other names a unit, context, queue or access that
the device has none of and stops. -/

namespace Sys2Proof.Machine

/-- The effect of a well-formed command. -/
def guarded (i : Instr) (f : State → State) (s : State) : Host.Outcome State Fault Refusal :=
  if i.wellFormed then .next (f s) else .fault .noSuchUnit

/-- DROOP: the die's droop detector fires (R322, Table 16.2). -/
def droopSeen (d : Nat) (s : State) : State := detectorFire (0x15 + d) 0 s

/-- SYNC_IN_EDGE: the edge as the filter chains see it (R191) and as the Herd's marker check does (R379). -/
def syncInEdge (rising : Bool) (s : State) : State := (s.syncInEdge rising).markerEdge

end Sys2Proof.Machine
end

