-- ==== Sys2Proof/Machine/ExecAcq.lean ====
section
/-! DEFINITION. The meanings of the commands of acquisition and filters: each is its operation on a well-formed command. -/

namespace Sys2Proof.Machine

/-- ACQ_CONFIG_STOP (R174). -/
def execAcqConfigStop (c : Nat) (q : Nat) (env : HostEnv) (s : State) : Host.Outcome State Fault Refusal :=
  guarded (.acqConfigStop c q env) (fun s => State.settle (s.runNeeding c q 0x50 0 (fun k s => cmdAcqStop c k s))) s

/-- ACQ_CONFIG_APPLY (R174). -/
def execAcqConfigApply (c : Nat) (q : Nat) (env : HostEnv) (s : State) : Host.Outcome State Fault Refusal :=
  guarded (.acqConfigApply c q env) (fun s => State.settle (s.runNeeding c q 0x50 1 (fun k s => cmdAcqApply c env k s))) s

/-- ACQ_CONFIG_START (R166). -/
def execAcqConfigStart (c : Nat) (q : Nat) (env : HostEnv) (s : State) : Host.Outcome State Fault Refusal :=
  guarded (.acqConfigStart c q env) (fun s => State.settle (s.runNeeding c q 0x50 2 (fun k s => cmdAcqStart c k s))) s

/-- ACQ_CONFIG_FORCE (R156). -/
def execAcqConfigForce (c : Nat) (q : Nat) (env : HostEnv) (s : State) : Host.Outcome State Fault Refusal :=
  guarded (.acqConfigForce c q env) (fun s => State.settle (s.runNeeding c q 0x50 3 (fun k s => cmdAcqForce c k s))) s

/-- ACQ_CONFIG_PAIR (R152). -/
def execAcqConfigPair (c : Nat) (q : Nat) (env : HostEnv) (s : State) : Host.Outcome State Fault Refusal :=
  guarded (.acqConfigPair c q env) (fun s => State.settle (s.runNeeding c q 0x50 4 (fun k s => cmdAcqPair c k s))) s

/-- DFC_COEF_LOAD_STOP (R187). -/
def execDfcCoefLoadStop (c : Nat) (q : Nat) (env : HostEnv) (s : State) : Host.Outcome State Fault Refusal :=
  guarded (.dfcCoefLoadStop c q env) (fun s => State.settle (s.runNeeding c q 0x51 0 (fun k s => cmdDfcStop c k s))) s

/-- DFC_COEF_LOAD_LOAD (R189). -/
def execDfcCoefLoadLoad (c : Nat) (q : Nat) (env : HostEnv) (s : State) : Host.Outcome State Fault Refusal :=
  guarded (.dfcCoefLoadLoad c q env) (fun s => State.settle (s.runNeeding c q 0x51 1 (fun k s => cmdDfcLoad c env k s))) s

/-- DFC_COEF_LOAD_START (R187). -/
def execDfcCoefLoadStart (c : Nat) (q : Nat) (env : HostEnv) (s : State) : Host.Outcome State Fault Refusal :=
  guarded (.dfcCoefLoadStart c q env) (fun s => State.settle (s.runNeeding c q 0x51 2 (fun k s => cmdDfcStart c k s))) s

/-- ACQ_SYNC (R175). -/
def execAcqSync (c : Nat) (q : Nat) (env : HostEnv) (s : State) : Host.Outcome State Fault Refusal :=
  guarded (.acqSync c q env) (fun s => State.settle (s.runNeeding c q 0x52 0 (fun k s => cmdAcqSync k s))) s

/-- ACQ_READOUT (R176). -/
def execAcqReadout (c : Nat) (q : Nat) (env : HostEnv) (s : State) : Host.Outcome State Fault Refusal :=
  guarded (.acqReadout c q env) (fun s => State.settle (s.runNeeding c q 0x53 0 (fun k s => cmdAcqReadout c env k s))) s

/-- ACQ_SPI_TX (R173). -/
def execAcqSpiTx (v : Nat) (s : State) : Host.Outcome State Fault Refusal :=
  guarded (.acqSpiTx v) (fun s => acqSpiTx v s) s

/-- ACQ_ARM (R171). -/
def execAcqArm (run : RecRun) (s : State) : Host.Outcome State Fault Refusal :=
  guarded (.acqArm run) (fun s => acqArm run s) s

/-- ACQ_TRIGGER (R160). -/
def execAcqTrigger (ch : Nat) (src : Nat) (k : Nat) (samples : List (List Int)) (s : State) : Host.Outcome State Fault Refusal :=
  guarded (.acqTrigger ch src k samples) (fun s => acqTrigger ch src k samples s) s

/-- ACQ_FILL_DONE (R166). -/
def execAcqFillDone (ch : Nat) (s : State) : Host.Outcome State Fault Refusal :=
  guarded (.acqFillDone ch) (fun s => acqFillDone ch s) s

/-- ACQ_SEGMENT_DONE (R166). -/
def execAcqSegmentDone (ch : Nat) (rec : Nat) (samples : List Int) (s : State) : Host.Outcome State Fault Refusal :=
  guarded (.acqSegmentDone ch rec samples) (fun s => acqSegmentDone ch rec samples s) s

/-- ACQ_REARM_DONE (R161). -/
def execAcqRearmDone (ch : Nat) (s : State) : Host.Outcome State Fault Refusal :=
  guarded (.acqRearmDone ch) (fun s => acqRearmDone ch s) s

/-- ACQ_CAL_TRACKING (R153). -/
def execAcqCalTracking (ch : Nat) (s : State) : Host.Outcome State Fault Refusal :=
  guarded (.acqCalTracking ch) (fun s => acqCalTracking ch s) s

/-- SPI_TRANSFER_DONE (R173). -/
def execSpiTransferDone (rx : Nat) (s : State) : Host.Outcome State Fault Refusal :=
  guarded (.spiTransferDone rx) (fun s => spiTransferDone rx s) s

/-- DFC_SYNC (R190). -/
def execDfcSync (cut : List (Nat × Nat × List Int)) (s : State) : Host.Outcome State Fault Refusal :=
  guarded (.dfcSync cut) (fun s => dfcSync cut s) s

/-- DFC_STREAM_BLOCK (R193). -/
def execDfcStreamBlock (ch : Nat) (samples : List Int) (s : State) : Host.Outcome State Fault Refusal :=
  guarded (.dfcStreamBlock ch samples) (fun s => dfcStreamBlock ch samples s) s

/-- SYNC_IN_EDGE (R191). -/
def execSyncInEdge (rising : Bool) (s : State) : Host.Outcome State Fault Refusal :=
  guarded (.syncInEdge rising) (fun s => syncInEdge rising s) s

end Sys2Proof.Machine
end

