-- ==== Sys2Proof/Machine/ExecEngines.lean ====
section
/-! DEFINITION. The meanings of the commands of engines, chain units, post-processing and models: each is its operation on a well-formed command. -/

namespace Sys2Proof.Machine

/-- MODEL_LOAD (R216). -/
def execModelLoad (c : Nat) (q : Nat) (env : HostEnv) (s : State) : Host.Outcome State Fault Refusal :=
  guarded (.modelLoad c q env) (fun s => State.settle (s.runNeeding c q 0x20 0 (fun k s => cmdModelLoad c env k s))) s

/-- MODEL_EVICT (R217). -/
def execModelEvict (c : Nat) (q : Nat) (env : HostEnv) (s : State) : Host.Outcome State Fault Refusal :=
  guarded (.modelEvict c q env) (fun s => State.settle (s.runNeeding c q 0x21 0 (fun k s => cmdModelEvict c k s))) s

/-- MODEL_LIST (R217). -/
def execModelList (c : Nat) (q : Nat) (env : HostEnv) (s : State) : Host.Outcome State Fault Refusal :=
  guarded (.modelList c q env) (fun s => State.settle (s.runNeeding c q 0x22 0 (fun k s => cmdModelList c env k s))) s

/-- TINE_RUN (R209). -/
def execTineRun (run : RecRun) (s : State) : Host.Outcome State Fault Refusal :=
  guarded (.tineRun run) (fun s => tineRun run s) s

/-- CHAIN_OP (R227). -/
def execChainOp (run : RecRun) (s : State) : Host.Outcome State Fault Refusal :=
  guarded (.chainOp run) (fun s => chainOp run s) s

/-- PPU_SORT (R231). -/
def execPpuSort (run : RecRun) (s : State) : Host.Outcome State Fault Refusal :=
  guarded (.ppuSort run) (fun s => ppuSort run s) s

/-- PPU_DETECT (R235). -/
def execPpuDetect (run : RecRun) (s : State) : Host.Outcome State Fault Refusal :=
  guarded (.ppuDetect run) (fun s => ppuDetect run s) s

/-- SELFTEST_RUN (R368). -/
def execSelftestRun (c : Nat) (q : Nat) (env : HostEnv) (s : State) : Host.Outcome State Fault Refusal :=
  guarded (.selftestRun c q env) (fun s => State.settle (s.runNeeding c q 0x82 0 (fun k s => cmdSelftestRun k s))) s

/-- REPLACEMENT_BEGIN (R355). -/
def execReplacementBegin (e : Nat) (n : Nat) (s : State) : Host.Outcome State Fault Refusal :=
  guarded (.replacementBegin e n) (fun s => replacementBegin e n s) s

/-- REPLACEMENT_SWAP (R355). -/
def execReplacementSwap (e : Nat) (s : State) : Host.Outcome State Fault Refusal :=
  guarded (.replacementSwap e) (fun s => replacementSwap e s) s

/-- ROTATION_STEP_BEGIN (R214). -/
def execRotationStepBegin (e : Nat) (s : State) : Host.Outcome State Fault Refusal :=
  guarded (.rotationStepBegin e) (fun s => rotationStepBegin e s) s

/-- SHADOW_COPY_DONE (R213). -/
def execShadowCopyDone (e : Nat) (s : State) : Host.Outcome State Fault Refusal :=
  guarded (.shadowCopyDone e) (fun s => shadowCopyDone e s) s

/-- SPARE_SWAP (R213). -/
def execSpareSwap (e : Nat) (s : State) : Host.Outcome State Fault Refusal :=
  guarded (.spareSwap e) (fun s => spareSwap e s) s

/-- ENGINE_SELFTEST_DONE (R213). -/
def execEngineSelftestDone (e : Nat) (n : Nat) (pass : Bool) (s : State) : Host.Outcome State Fault Refusal :=
  guarded (.engineSelftestDone e n pass) (fun s => engineSelftestDone e n pass s) s

end Sys2Proof.Machine
end

