-- ==== Sys2Proof/Machine/ExecHerd.lean ====
section
/-! DEFINITION. The meanings of the commands of the Herd: each is its operation on a well-formed command. -/

namespace Sys2Proof.Machine

/-- HERD_JOIN_JOIN (R380). -/
def execHerdJoinJoin (c : Nat) (q : Nat) (env : HostEnv) (s : State) : Host.Outcome State Fault Refusal :=
  guarded (.herdJoinJoin c q env) (fun s => State.settle (s.runNeeding c q 0x90 0 (fun k s => cmdHerdJoin k s))) s

/-- HERD_JOIN_FOUND (R381). -/
def execHerdJoinFound (c : Nat) (q : Nat) (env : HostEnv) (s : State) : Host.Outcome State Fault Refusal :=
  guarded (.herdJoinFound c q env) (fun s => State.settle (s.runNeeding c q 0x90 1 (fun k s => cmdHerdFound k s))) s

/-- HERD_JOIN_EPOCH (R381). -/
def execHerdJoinEpoch (c : Nat) (q : Nat) (env : HostEnv) (s : State) : Host.Outcome State Fault Refusal :=
  guarded (.herdJoinEpoch c q env) (fun s => State.settle (s.runNeeding c q 0x90 2 (fun k s => cmdHerdEpoch k s))) s

/-- HERD_LEAVE (R394). -/
def execHerdLeave (c : Nat) (q : Nat) (env : HostEnv) (s : State) : Host.Outcome State Fault Refusal :=
  guarded (.herdLeave c q env) (fun s => State.settle (s.runNeeding c q 0x91 0 (fun _ s => cmdHerdLeave s))) s

/-- HERD_STATUS (R395). -/
def execHerdStatus (c : Nat) (q : Nat) (env : HostEnv) (s : State) : Host.Outcome State Fault Refusal :=
  guarded (.herdStatus c q env) (fun s => State.settle (s.runNeeding c q 0x92 0 (fun k s => cmdHerdStatus c env k s))) s

/-- WINDOW_EXPORT (R388). -/
def execWindowExport (c : Nat) (q : Nat) (env : HostEnv) (s : State) : Host.Outcome State Fault Refusal :=
  guarded (.windowExport c q env) (fun s => State.settle (s.runNeeding c q 0x93 0 (fun k s => cmdWindowExport c k s))) s

/-- WINDOW_WITHDRAW (R389). -/
def execWindowWithdraw (c : Nat) (q : Nat) (env : HostEnv) (s : State) : Host.Outcome State Fault Refusal :=
  guarded (.windowWithdraw c q env) (fun s => State.settle (s.runNeeding c q 0x93 1 (fun k s => cmdWindowWithdraw c k s))) s

/-- HRD_LINK_RETRAIN (R376). -/
def execHrdLinkRetrain (l : Nat) (s : State) : Host.Outcome State Fault Refusal :=
  guarded (.hrdLinkRetrain l) (fun s => hrdLinkRetrain l s) s

/-- HERD_XFER (R386). -/
def execHerdXfer (run : RecRun) (s : State) : Host.Outcome State Fault Refusal :=
  guarded (.herdXfer run) (fun s => herdXfer run s) s

/-- SYNC_OUT_PULSE (R379). -/
def execSyncOutPulse (s : State) : Host.Outcome State Fault Refusal :=
  guarded (.syncOutPulse) (fun s => syncOutPulse s) s

/-- FLIT_RECEIVE (R371). -/
def execFlitReceive (l : Nat) (flit : Flit) (env : HostEnv) (s : State) : Host.Outcome State Fault Refusal :=
  guarded (.flitReceive l flit env) (fun s => flitReceive l flit env s) s

/-- FLIT_LOST (R374). -/
def execFlitLost (l : Nat) (slot : Nat) (s : State) : Host.Outcome State Fault Refusal :=
  guarded (.flitLost l slot) (fun s => flitLost l slot s) s

/-- RESULT_UNDELIVERED (R391). -/
def execResultUndelivered (id : Nat) (dev : Nat) (s : State) : Host.Outcome State Fault Refusal :=
  guarded (.resultUndelivered id dev) (fun s => resultUndelivered id dev s) s

/-- LANE_FAULT (R375). -/
def execLaneFault (l : Nat) (lane : Nat) (s : State) : Host.Outcome State Fault Refusal :=
  guarded (.laneFault l lane) (fun s => laneFault l lane s) s

/-- LINK_DOWN (R375). -/
def execLinkDown (l : Nat) (s : State) : Host.Outcome State Fault Refusal :=
  guarded (.linkDown l) (fun s => linkDown l s) s

/-- LINK_TRAINED (R375). -/
def execLinkTrained (l : Nat) (lanes : Nat) (peer : Nat) (peerLink : Nat) (s : State) : Host.Outcome State Fault Refusal :=
  guarded (.linkTrained l lanes peer peerLink) (fun s => linkTrained l lanes peer peerLink s) s

/-- HERD_LEAVE_DONE (R394). -/
def execHerdLeaveDone (s : State) : Host.Outcome State Fault Refusal :=
  guarded (.herdLeaveDone) (fun s => herdLeaveDone s) s

/-- LINK_TRAINING_TIMEOUT (R375). -/
def execLinkTrainingTimeout (l : Nat) (s : State) : Host.Outcome State Fault Refusal :=
  guarded (.linkTrainingTimeout l) (fun s => linkTrainingTimeout l s) s

/-- FLIT_REPLAY (R374). -/
def execFlitReplay (l : Nat) (id : Nat) (s : State) : Host.Outcome State Fault Refusal :=
  guarded (.flitReplay l id) (fun s => flitReplay l id s) s

end Sys2Proof.Machine
end

