-- ==== Sys2Proof/Machine/ExecLine.lean ====
section
/-! DEFINITION. The meanings of the commands of line I/O and event sensors: each is its operation on a well-formed command. -/

namespace Sys2Proof.Machine

/-- LIO_ENC_RELOCK (R103). -/
def execLioEncRelock (n : Nat) (s : State) : Host.Outcome State Fault Refusal :=
  guarded (.lioEncRelock n) (fun s => lioEncRelock n s) s

/-- LIO_LO_FORCE (R115). -/
def execLioLoForce (j : Nat) (len : Nat) (s : State) : Host.Outcome State Fault Refusal :=
  guarded (.lioLoForce j len) (fun s => loForce j len s) s

/-- ENC_COUNT (R101). -/
def execEncCount (n : Nat) (a : Bool) (b : Bool) (held : Nat) (s : State) : Host.Outcome State Fault Refusal :=
  guarded (.encCount n a b held) (fun s => encCount n a b held s) s

/-- ENC_Z_EDGE (R107). -/
def execEncZEdge (n : Nat) (z : Bool) (held : Nat) (s : State) : Host.Outcome State Fault Refusal :=
  guarded (.encZEdge n z held) (fun s => encZEdge n z held s) s

/-- WEB_STOPPED (R104). -/
def execWebStopped (n : Nat) (s : State) : Host.Outcome State Fault Refusal :=
  guarded (.webStopped n) (fun s => webStopped n s) s

/-- LI_EDGE (R108). -/
def execLiEdge (i : Nat) (level : Bool) (held : Nat) (phase : Nat) (s : State) : Host.Outcome State Fault Refusal :=
  guarded (.liEdge i level held phase) (fun s => liEdge i level held phase s) s

/-- LI_STUCK (R108). -/
def execLiStuck (i : Nat) (s : State) : Host.Outcome State Fault Refusal :=
  guarded (.liStuck i) (fun s => liStuck i s) s

/-- OUTPUT_FIRE (R111). -/
def execOutputFire (j : Nat) (s : State) : Host.Outcome State Fault Refusal :=
  guarded (.outputFire j) (fun s => outputFire j s) s

/-- OUTPUT_PULSE_END (R109). -/
def execOutputPulseEnd (j : Nat) (s : State) : Host.Outcome State Fault Refusal :=
  guarded (.outputPulseEnd j) (fun s => outputPulseEnd j s) s

/-- STROBE (R118). -/
def execStrobe (run : RecRun) (s : State) : Host.Outcome State Fault Refusal :=
  guarded (.strobe run) (fun s => strobe run s) s

/-- EVP_CONFIG_DISABLE (R147). -/
def execEvpConfigDisable (c : Nat) (q : Nat) (env : HostEnv) (s : State) : Host.Outcome State Fault Refusal :=
  guarded (.evpConfigDisable c q env) (fun s => State.settle (s.runNeeding c q 0x60 0 (fun k s => cmdEvpDisable k s))) s

/-- EVP_CONFIG_ENABLE (R147). -/
def execEvpConfigEnable (c : Nat) (q : Nat) (env : HostEnv) (s : State) : Host.Outcome State Fault Refusal :=
  guarded (.evpConfigEnable c q env) (fun s => State.settle (s.runNeeding c q 0x60 1 (fun k s => cmdEvpEnable c env k s))) s

/-- EVP_CONFIG_GROUPS (R147). -/
def execEvpConfigGroups (c : Nat) (q : Nat) (env : HostEnv) (s : State) : Host.Outcome State Fault Refusal :=
  guarded (.evpConfigGroups c q env) (fun s => State.settle (s.runNeeding c q 0x60 2 (fun k s => cmdEvpGroups c env k s))) s

/-- EVP_MASK_LOAD (R147). -/
def execEvpMaskLoad (c : Nat) (q : Nat) (env : HostEnv) (s : State) : Host.Outcome State Fault Refusal :=
  guarded (.evpMaskLoad c q env) (fun s => State.settle (s.runNeeding c q 0x61 0 (fun k s => cmdEvpMaskLoad c env k s))) s

/-- EVP_PATCH (R138). -/
def execEvpPatch (run : RecRun) (s : State) : Host.Outcome State Fault Refusal :=
  guarded (.evpPatch run) (fun s => evpPatch run s) s

/-- EVP_PREDICT (R143). -/
def execEvpPredict (run : RecRun) (s : State) : Host.Outcome State Fault Refusal :=
  guarded (.evpPredict run) (fun s => evpPredict run s) s

/-- CSI2_LONG_PACKET (R121). -/
def execCsi2LongPacket (p : Nat) (pkt : CsiPacket) (s : State) : Host.Outcome State Fault Refusal :=
  guarded (.csi2LongPacket p pkt) (fun s => csiLong p pkt s) s

/-- CSI2_SHORT_PACKET (R121). -/
def execCsi2ShortPacket (p : Nat) (pkt : CsiPacket) (s : State) : Host.Outcome State Fault Refusal :=
  guarded (.csi2ShortPacket p pkt) (fun s => csiShort p pkt s) s

/-- MAPPER_WINDOW_CLOSE (R40). -/
def execMapperWindowClose (p : Nat) (s : State) : Host.Outcome State Fault Refusal :=
  guarded (.mapperWindowClose p) (fun s => mapperWindowClose p s) s

/-- MAPPER_SILENT (R43). -/
def execMapperSilent (p : Nat) (s : State) : Host.Outcome State Fault Refusal :=
  guarded (.mapperSilent p) (fun s => mapperSilent p s) s

/-- EVENT_PROCESS (R128). -/
def execEventProcess (p : Nat) (s : State) : Host.Outcome State Fault Refusal :=
  guarded (.eventProcess p) (fun s => eventProcess p s) s

/-- TRACK_COAST_TIMEOUT (R134). -/
def execTrackCoastTimeout (p : Nat) (m : Nat) (s : State) : Host.Outcome State Fault Refusal :=
  guarded (.trackCoastTimeout p m) (fun s => trackCoast p m s) s

/-- TRACK_LEAVES_FRAME (R134). -/
def execTrackLeavesFrame (p : Nat) (m : Nat) (s : State) : Host.Outcome State Fault Refusal :=
  guarded (.trackLeavesFrame p m) (fun s => trackLeaves p m s) s

/-- SURFACE_SWEEP (R131). -/
def execSurfaceSweep (p : Nat) (x : Nat) (y : Nat) (s : State) : Host.Outcome State Fault Refusal :=
  guarded (.surfaceSweep p x y) (fun s => surfaceSweep p x y s) s

/-- FABRIC_FIRE (R144). -/
def execFabricFire (line : Nat) (s : State) : Host.Outcome State Fault Refusal :=
  guarded (.fabricFire line) (fun s => fabricFire line s) s

/-- FABRIC_ARM_CLOSE (R144). -/
def execFabricArmClose (line : Nat) (s : State) : Host.Outcome State Fault Refusal :=
  guarded (.fabricArmClose line) (fun s => fabricArmClose line s) s

/-- FABRIC_ARM_OPEN (R144). -/
def execFabricArmOpen (line : Nat) (s : State) : Host.Outcome State Fault Refusal :=
  guarded (.fabricArmOpen line) (fun s => fabricArmOpen line s) s

/-- DPHY_STATE_CHANGE (R120). -/
def execDphyStateChange (p : Nat) (st : Nat) (lanes : Nat) (deskew : Bool) (s : State) : Host.Outcome State Fault Refusal :=
  guarded (.dphyStateChange p st lanes deskew) (fun s => dphyState p st lanes deskew s) s

end Sys2Proof.Machine
end

