-- ==== Sys2Proof/Machine/ExecMemory.lean ====
section
/-! DEFINITION. The meanings of the commands of ranges, translation, DMA and SRAM: each is its operation on a well-formed command. -/

namespace Sys2Proof.Machine

/-- BUF_PIN (R280). -/
def execBufPin (c : Nat) (q : Nat) (env : HostEnv) (s : State) : Host.Outcome State Fault Refusal :=
  guarded (.bufPin c q env) (fun s => State.settle (s.runNeeding c q 0x30 0 (fun k s => cmdBufPin c env k s))) s

/-- BUF_UNPIN (R281). -/
def execBufUnpin (c : Nat) (q : Nat) (env : HostEnv) (s : State) : Host.Outcome State Fault Refusal :=
  guarded (.bufUnpin c q env) (fun s => State.settle (s.runNeeding c q 0x31 0 (fun k s => cmdBufUnpin c env k s))) s

/-- TLB_INVALIDATE (R282). -/
def execTlbInvalidate (c : Nat) (q : Nat) (env : HostEnv) (s : State) : Host.Outcome State Fault Refusal :=
  guarded (.tlbInvalidate c q env) (fun s => State.settle (s.runNeeding c q 0x32 0 (fun k s => cmdTlbInvalidate c env k s))) s

/-- PAGE_MIGRATE (R277). -/
def execPageMigrate (c : Nat) (q : Nat) (env : HostEnv) (s : State) : Host.Outcome State Fault Refusal :=
  guarded (.pageMigrate c q env) (fun s => State.settle (s.runNeeding c q 0x33 0 (fun k s => cmdPageMigrate c env k s))) s

/-- DMA_PROG_LOAD (R309). -/
def execDmaProgLoad (c : Nat) (q : Nat) (env : HostEnv) (s : State) : Host.Outcome State Fault Refusal :=
  guarded (.dmaProgLoad c q env) (fun s => State.settle (s.runNeeding c q 0x42 0 (fun k s => cmdDmaProgLoad c env k s))) s

/-- DMX_PAUSE_SET (R306). -/
def execDmxPauseSet (n : Nat) (s : State) : Host.Outcome State Fault Refusal :=
  guarded (.dmxPauseSet n) (fun s => dmxPauseSet n s) s

/-- DMX_PAUSE_CLEAR (R306). -/
def execDmxPauseClear (n : Nat) (s : State) : Host.Outcome State Fault Refusal :=
  guarded (.dmxPauseClear n) (fun s => dmxPauseClear n s) s

/-- ATU_TLB_FLUSH (R272). -/
def execAtuTlbFlush (env : HostEnv) (s : State) : Host.Outcome State Fault Refusal :=
  guarded (.atuTlbFlush env) (fun s => atuTlbFlush env s) s

/-- DMX_RUN (R300). -/
def execDmxRun (run : RecRun) (s : State) : Host.Outcome State Fault Refusal :=
  guarded (.dmxRun run) (fun s => dmxRun run s) s

/-- DMX_MOVE (R295). -/
def execDmxMove (n : Nat) (s : State) : Host.Outcome State Fault Refusal :=
  guarded (.dmxMove n) (fun s => dmxMove n s) s

/-- DMX_LOOP (R295). -/
def execDmxLoop (n : Nat) (s : State) : Host.Outcome State Fault Refusal :=
  guarded (.dmxLoop n) (fun s => dmxLoop n s) s

/-- DMX_WAIT_BEAT (R295). -/
def execDmxWaitBeat (n : Nat) (s : State) : Host.Outcome State Fault Refusal :=
  guarded (.dmxWaitBeat n) (fun s => dmxWaitBeat n s) s

/-- DMX_WAIT_TRIG (R295). -/
def execDmxWaitTrig (n : Nat) (s : State) : Host.Outcome State Fault Refusal :=
  guarded (.dmxWaitTrig n) (fun s => dmxWaitTrig n s) s

/-- DMX_WAIT_SEM (R295). -/
def execDmxWaitSem (n : Nat) (s : State) : Host.Outcome State Fault Refusal :=
  guarded (.dmxWaitSem n) (fun s => dmxWaitSem n s) s

/-- DMX_WAIT_RELEASE (R295). -/
def execDmxWaitRelease (n : Nat) (s : State) : Host.Outcome State Fault Refusal :=
  guarded (.dmxWaitRelease n) (fun s => dmxWaitRelease n s) s

/-- DMX_WAIT_TIMEOUT (R300). -/
def execDmxWaitTimeout (n : Nat) (s : State) : Host.Outcome State Fault Refusal :=
  guarded (.dmxWaitTimeout n) (fun s => dmxWaitTimeout n s) s

/-- DMX_SIGNAL (R295). -/
def execDmxSignal (n : Nat) (s : State) : Host.Outcome State Fault Refusal :=
  guarded (.dmxSignal n) (fun s => dmxSignal n s) s

/-- DMX_END (R295). -/
def execDmxEnd (n : Nat) (s : State) : Host.Outcome State Fault Refusal :=
  guarded (.dmxEnd n) (fun s => dmxEnd n s) s

/-- RECORD_LATE (R300). -/
def execRecordLate (n : Nat) (s : State) : Host.Outcome State Fault Refusal :=
  guarded (.recordLate n) (fun s => recordLate n s) s

/-- DESC_MOVE (R303). -/
def execDescMove (n : Nat) (env : HostEnv) (s : State) : Host.Outcome State Fault Refusal :=
  guarded (.descMove n env) (fun s => descMove n env s) s

/-- DESC_NOP (R303). -/
def execDescNop (n : Nat) (env : HostEnv) (s : State) : Host.Outcome State Fault Refusal :=
  guarded (.descNop n env) (fun s => descNop n env s) s

/-- DMX_PAUSED (R306). -/
def execDmxPaused (n : Nat) (s : State) : Host.Outcome State Fault Refusal :=
  guarded (.dmxPaused n) (fun s => dmxPaused n s) s

/-- RING_FAULT_SERVED (R274). -/
def execRingFaultServed (c : Nat) (q : Nat) (s : State) : Host.Outcome State Fault Refusal :=
  guarded (.ringFaultServed c q) (fun s => ringFaultServed c q s) s

/-- FAULT_TIMEOUT (R275). -/
def execFaultTimeout (c : Nat) (q : Nat) (s : State) : Host.Outcome State Fault Refusal :=
  guarded (.faultTimeout c q) (fun s => faultTimeout c q s) s

/-- PRG_RESPONSE (R264). -/
def execPrgResponse (c : Nat) (q : Nat) (code : Nat) (env : HostEnv) (s : State) : Host.Outcome State Fault Refusal :=
  guarded (.prgResponse c q code env) (fun s => prgResponse c q code env s) s

/-- ATS_INVALIDATION (R272). -/
def execAtsInvalidation (pasid : Option Nat) (hva : Nat) (len : Nat) (env : HostEnv) (s : State) : Host.Outcome State Fault Refusal :=
  guarded (.atsInvalidation pasid hva len env) (fun s => atsInvalidation pasid hva len env s) s

/-- INVALIDATE_STOP (R272). -/
def execInvalidateStop (n : Nat) (s : State) : Host.Outcome State Fault Refusal :=
  guarded (.invalidateStop n) (fun s => invalidateStop n s) s

/-- WALK_TIMEOUT (R260). -/
def execWalkTimeout (c : Nat) (q : Nat) (s : State) : Host.Outcome State Fault Refusal :=
  guarded (.walkTimeout c q) (fun s => walkTimeout c q s) s

/-- PRI_ENABLE (R264). -/
def execPriEnable (alloc : Nat) (ats : Bool) (s : State) : Host.Outcome State Fault Refusal :=
  guarded (.priEnable alloc ats) (fun s => priEnable alloc ats s) s

/-- BANK_ZERO_DONE (R243). -/
def execBankZeroDone (s : State) : Host.Outcome State Fault Refusal :=
  guarded (.bankZeroDone) (fun s => State.settle (bankZeroDone s)) s

/-- SRAM_SCRUB (R252). -/
def execSramScrub (la : Nat) (s : State) : Host.Outcome State Fault Refusal :=
  guarded (.sramScrub la) (fun s => sramScrub la s) s

end Sys2Proof.Machine
end

