-- ==== Sys2Proof/Machine/ExecPlans.lean ====
section
/-! DEFINITION. The meanings of the commands of plans, items and beats: each is its operation on a well-formed command. -/

namespace Sys2Proof.Machine

/-- PLAN_LOAD (R56). -/
def execPlanLoad (c : Nat) (q : Nat) (env : HostEnv) (s : State) : Host.Outcome State Fault Refusal :=
  guarded (.planLoad c q env) (fun s => State.settle (s.runNeeding c q 0x10 0 (fun k s => cmdPlanLoad c env k s))) s

/-- PLAN_ADMIT (R54). -/
def execPlanAdmit (c : Nat) (q : Nat) (env : HostEnv) (s : State) : Host.Outcome State Fault Refusal :=
  guarded (.planAdmit c q env) (fun s => State.settle (s.runNeeding c q 0x11 0 (fun k s => cmdPlanAdmit c env k s))) s

/-- PLAN_ARM (R58). -/
def execPlanArm (c : Nat) (q : Nat) (env : HostEnv) (s : State) : Host.Outcome State Fault Refusal :=
  guarded (.planArm c q env) (fun s => State.settle (s.runNeeding c q 0x12 0 (fun k s => cmdPlanArm c env k s))) s

/-- PLAN_STOP (R61). -/
def execPlanStop (c : Nat) (q : Nat) (env : HostEnv) (s : State) : Host.Outcome State Fault Refusal :=
  guarded (.planStop c q env) (fun s => State.settle (s.runNeeding c q 0x13 0 (fun k s => cmdPlanStop c k s))) s

/-- PLAN_UNLOAD (R56). -/
def execPlanUnload (c : Nat) (q : Nat) (env : HostEnv) (s : State) : Host.Outcome State Fault Refusal :=
  guarded (.planUnload c q env) (fun s => State.settle (s.runNeeding c q 0x14 0 (fun k s => cmdPlanUnload c k s))) s

/-- PLAN_STATUS (R67). -/
def execPlanStatus (c : Nat) (q : Nat) (env : HostEnv) (s : State) : Host.Outcome State Fault Refusal :=
  guarded (.planStatus c q env) (fun s => State.settle (s.runNeeding c q 0x15 0 (fun k s => cmdPlanStatus c env k s))) s

/-- BEAT_BOUNDARY (R35). -/
def execBeatBoundary (env : BeatEnv) (s : State) : Host.Outcome State Fault Refusal :=
  guarded (.beatBoundary env) (fun s => beatBoundary env s) s

/-- PLAN_DRAINED (R61). -/
def execPlanDrained (c : Nat) (h : Nat) (s : State) : Host.Outcome State Fault Refusal :=
  guarded (.planDrained c h) (fun s => planDrained c h s) s

/-- ITEM_CREATE (R16). -/
def execItemCreate (c : Nat) (s : State) : Host.Outcome State Fault Refusal :=
  guarded (.itemCreate c) (fun s => itemCreate c s) s

/-- VERDICT_COMPOSE (R51). -/
def execVerdictCompose (c : Nat) (id : Nat) (env : HostEnv) (s : State) : Host.Outcome State Fault Refusal :=
  guarded (.verdictCompose c id env) (fun s => verdictCompose c id env s) s

/-- ITEM_VERDICT (R18). -/
def execItemVerdict (c : Nat) (id : Nat) (env : HostEnv) (s : State) : Host.Outcome State Fault Refusal :=
  guarded (.itemVerdict c id env) (fun s => itemVerdict c id env s) s

/-- RECORD_SHED (R319). -/
def execRecordShed (run : RecRun) (s : State) : Host.Outcome State Fault Refusal :=
  guarded (.recordShed run) (fun s => recordShed run s) s

/-- RECORD_OVERRUN (R320). -/
def execRecordOverrun (run : RecRun) (s : State) : Host.Outcome State Fault Refusal :=
  guarded (.recordOverrun run) (fun s => recordOverrun run s) s

/-- ENERGY_BUDGET_SET (R325). -/
def execEnergyBudgetSet (c : Nat) (q : Nat) (env : HostEnv) (s : State) : Host.Outcome State Fault Refusal :=
  guarded (.energyBudgetSet c q env) (fun s => State.settle (s.runNeeding c q 0x71 0 (fun k s => cmdEnergyBudgetSet k s))) s

end Sys2Proof.Machine
end

