-- ==== Sys2Proof/Machine/ExecPower.lean ====
section
/-! DEFINITION. The meanings of the commands of power, clocks, energy, temperature and faults: each is its operation on a well-formed command. -/

namespace Sys2Proof.Machine

/-- PWR_POLICY_SET (R346). -/
def execPwrPolicySet (c : Nat) (q : Nat) (env : HostEnv) (s : State) : Host.Outcome State Fault Refusal :=
  guarded (.pwrPolicySet c q env) (fun s => State.settle (s.runNeeding c q 0x70 0 (fun k s => cmdPwrSet k s))) s

/-- PWR_POLICY_WAKE (R346). -/
def execPwrPolicyWake (c : Nat) (q : Nat) (env : HostEnv) (s : State) : Host.Outcome State Fault Refusal :=
  guarded (.pwrPolicyWake c q env) (fun s => State.settle (s.runNeeding c q 0x70 1 (fun k s => cmdPwrWake k s))) s

/-- PWR_POLICY_AON (R346). -/
def execPwrPolicyAon (c : Nat) (q : Nat) (env : HostEnv) (s : State) : Host.Outcome State Fault Refusal :=
  guarded (.pwrPolicyAon c q env) (fun s => State.settle (s.runNeeding c q 0x70 2 (fun k s => cmdPwrAon k s))) s

/-- PWR_GROUP_SLEEP (R344). -/
def execPwrGroupSleep (c : Nat) (q : Nat) (env : HostEnv) (s : State) : Host.Outcome State Fault Refusal :=
  guarded (.pwrGroupSleep c q env) (fun s => State.settle (s.runNeeding c q 0x72 0 (fun k s => cmdGroupSleep c q k s))) s

/-- FAULT_INJECT (R366). -/
def execFaultInject (c : Nat) (q : Nat) (env : HostEnv) (s : State) : Host.Outcome State Fault Refusal :=
  guarded (.faultInject c q env) (fun s => State.settle (s.runNeeding c q 0x80 0 (fun k s => cmdFaultInject k s))) s

/-- FAULT_INJECT_CLEAR (R365). -/
def execFaultInjectClear (c : Nat) (q : Nat) (env : HostEnv) (s : State) : Host.Outcome State Fault Refusal :=
  guarded (.faultInjectClear c q env) (fun s => State.settle (s.runNeeding c q 0x80 3 (fun k s => cmdFaultInjectClear k s))) s

/-- FAULT_LOG_READ (R367). -/
def execFaultLogRead (c : Nat) (q : Nat) (env : HostEnv) (s : State) : Host.Outcome State Fault Refusal :=
  guarded (.faultLogRead c q env) (fun s => State.settle (s.runNeeding c q 0x81 0 (fun k s => cmdFaultLogRead c env k s))) s

/-- GLB_DOMRST (R430). -/
def execGlbDomrst (domain : Nat) (key : Nat) (s : State) : Host.Outcome State Fault Refusal :=
  guarded (.glbDomrst domain key) (fun s => glbDomrst domain key s) s

/-- DROOP (R322). -/
def execDroop (d : Nat) (s : State) : Host.Outcome State Fault Refusal :=
  guarded (.droop d) (fun s => droopSeen d s) s

/-- THERMAL_SAMPLE (R323). -/
def execThermalSample (t : List Int) (s : State) : Host.Outcome State Fault Refusal :=
  guarded (.thermalSample t) (fun s => thermalSample t s) s

/-- THERM_HOLD_END (R324). -/
def execThermHoldEnd (s : State) : Host.Outcome State Fault Refusal :=
  guarded (.thermHoldEnd) (fun s => thermHoldEnd s) s

/-- DETECTOR_FIRE (R353). -/
def execDetectorFire (id : Nat) (site : Nat) (s : State) : Host.Outcome State Fault Refusal :=
  guarded (.detectorFire id site) (fun s => detectorFire id site s) s

/-- DOMAIN_IDLE_TIMEOUT (R332). -/
def execDomainIdleTimeout (d : Nat) (s : State) : Host.Outcome State Fault Refusal :=
  guarded (.domainIdleTimeout d) (fun s => domainIdleTimeout d s) s

/-- DOMAIN_ENTRY_DONE (R332). -/
def execDomainEntryDone (d : Nat) (s : State) : Host.Outcome State Fault Refusal :=
  guarded (.domainEntryDone d) (fun s => domainEntryDone d s) s

/-- DOMAIN_DEMAND (R340). -/
def execDomainDemand (d : Nat) (s : State) : Host.Outcome State Fault Refusal :=
  guarded (.domainDemand d) (fun s => demandServed d s) s

/-- DOMAIN_WAKE_DONE (R339). -/
def execDomainWakeDone (d : Nat) (s : State) : Host.Outcome State Fault Refusal :=
  guarded (.domainWakeDone d) (fun s => wakeDoneServed d s) s

/-- CLK_SWITCH_DONE (R29). -/
def execClkSwitchDone (d : Nat) (s : State) : Host.Outcome State Fault Refusal :=
  guarded (.clkSwitchDone d) (fun s => clkSwitchDone d s) s

/-- CLK_SWITCH_FAIL (R29). -/
def execClkSwitchFail (d : Nat) (s : State) : Host.Outcome State Fault Refusal :=
  guarded (.clkSwitchFail d) (fun s => clkSwitchFail d s) s

/-- DOMAIN_RESET_DONE (R430). -/
def execDomainResetDone (s : State) : Host.Outcome State Fault Refusal :=
  guarded (.domainResetDone) (fun s => domainResetDone s) s

end Sys2Proof.Machine
end

