-- ==== Sys2Proof/Machine/ExecQueues.lean ====
section
/-! DEFINITION. The meanings of the commands of queues, contexts and their commands: each is its operation on a well-formed command. -/

namespace Sys2Proof.Machine

/-- NOP (R95). -/
def execNop (c : Nat) (q : Nat) (env : HostEnv) (s : State) : Host.Outcome State Fault Refusal :=
  guarded (.nop c q env) (fun s => State.settle (s.runNeeding c q 0x01 0 (fun _ s => cmdNop s))) s

/-- ECHO (R95). -/
def execEcho (c : Nat) (q : Nat) (env : HostEnv) (s : State) : Host.Outcome State Fault Refusal :=
  guarded (.echo c q env) (fun s => State.settle (s.runNeeding c q 0x02 0 (fun k s => cmdEcho k s))) s

/-- QUERY_DEVICE (R95). -/
def execQueryDevice (c : Nat) (q : Nat) (env : HostEnv) (s : State) : Host.Outcome State Fault Refusal :=
  guarded (.queryDevice c q env) (fun s => State.settle (s.runNeeding c q 0x03 0 (fun k s => cmdQueryDevice c k s))) s

/-- RING_CREATE (R96). -/
def execRingCreate (c : Nat) (q : Nat) (env : HostEnv) (s : State) : Host.Outcome State Fault Refusal :=
  guarded (.ringCreate c q env) (fun s => State.settle (s.runNeeding c q 0x40 0 (fun k s => cmdRingCreate c k s))) s

/-- RING_DESTROY (R97). -/
def execRingDestroy (c : Nat) (q : Nat) (env : HostEnv) (s : State) : Host.Outcome State Fault Refusal :=
  guarded (.ringDestroy c q env) (fun s => State.settle (s.runNeeding c q 0x41 0 (fun k s => cmdRingDestroy c q k s))) s

/-- CTX_RESET (R88). -/
def execCtxReset (c : Nat) (q : Nat) (env : HostEnv) (s : State) : Host.Outcome State Fault Refusal :=
  guarded (.ctxReset c q env) (fun s => State.settle (s.runNeeding c q 0xB0 0 (fun k s => cmdCtxReset c q k s))) s

/-- ABORT (R83). -/
def execAbort (c : Nat) (q : Nat) (env : HostEnv) (s : State) : Host.Outcome State Fault Refusal :=
  guarded (.abort c q env) (fun s => State.settle (s.runNeeding c q 0xB1 0 (fun k s => cmdAbort c q k s))) s

/-- FN_SQDB (R74). -/
def execFnSqdb (c : Nat) (q : Nat) (tail : Nat) (env : HostEnv) (s : State) : Host.Outcome State Fault Refusal :=
  guarded (.fnSqdb c q tail env) (fun s => fnSqdb c q tail env s) s

/-- FN_CQDB (R75). -/
def execFnCqdb (c : Nat) (q : Nat) (head : Nat) (s : State) : Host.Outcome State Fault Refusal :=
  guarded (.fnCqdb c q head) (fun s => fnCqdb c q head s) s

/-- FN_Q0_CTRL (R98). -/
def execFnQ0Ctrl (c : Nat) (v : Nat) (s : State) : Host.Outcome State Fault Refusal :=
  guarded (.fnQ0Ctrl c v) (fun s => fnQ0Ctrl c v s) s

/-- REPLY_WRITE_RESPONSE (R81). -/
def execReplyWriteResponse (c : Nat) (q : Nat) (s : State) : Host.Outcome State Fault Refusal :=
  guarded (.replyWriteResponse c q) (fun s => replyWriteResponse c q s) s

/-- COMMAND_TIMEOUT (R82). -/
def execCommandTimeout (c : Nat) (q : Nat) (s : State) : Host.Outcome State Fault Refusal :=
  guarded (.commandTimeout c q) (fun s => commandTimeout c q s) s

/-- CQ_COALESCE_TIMEOUT (R95). -/
def execCqCoalesceTimeout (c : Nat) (q : Nat) (s : State) : Host.Outcome State Fault Refusal :=
  guarded (.cqCoalesceTimeout c q) (fun s => cqCoalesceTimeout c q s) s

/-- VF_FLR (R90). -/
def execVfFlr (n : Nat) (env : HostEnv) (s : State) : Host.Outcome State Fault Refusal :=
  guarded (.vfFlr n env) (fun s => vfFlr n env s) s

/-- PF_FLR (R426). -/
def execPfFlr (s : State) : Host.Outcome State Fault Refusal :=
  guarded (.pfFlr) (fun s => pfFlr s) s

/-- VF_ENABLE_SET (R69). -/
def execVfEnableSet (num : Nat) (s : State) : Host.Outcome State Fault Refusal :=
  guarded (.vfEnableSet num) (fun s => vfEnableSet num s) s

/-- VF_ENABLE_CLEAR (R90). -/
def execVfEnableClear (env : HostEnv) (s : State) : Host.Outcome State Fault Refusal :=
  guarded (.vfEnableClear env) (fun s => vfEnableClear env s) s

/-- CONTEXT_RECOVERY (R361). -/
def execContextRecovery (c : Nat) (det : Nat) (s : State) : Host.Outcome State Fault Refusal :=
  guarded (.contextRecovery c det) (fun s => contextRecovery c det s) s

end Sys2Proof.Machine
end

