-- ==== Sys2Proof/Machine/ExecTrust.lean ====
section
/-! DEFINITION. The meanings of the commands of firmware, keys, resets, boot and the host windows: each is its operation on a well-formed command. -/

namespace Sys2Proof.Machine

/-- FW_DOWNLOAD (R406). -/
def execFwDownload (c : Nat) (q : Nat) (env : HostEnv) (s : State) : Host.Outcome State Fault Refusal :=
  guarded (.fwDownload c q env) (fun s => State.settle (s.runNeeding c q 0xA0 0 (fun k s => cmdFwDownload c env k s))) s

/-- FW_VERIFY (R406). -/
def execFwVerify (c : Nat) (q : Nat) (env : HostEnv) (s : State) : Host.Outcome State Fault Refusal :=
  guarded (.fwVerify c q env) (fun s => State.settle (s.runNeeding c q 0xA1 0 (fun _ s => cmdFwVerify s))) s

/-- FW_ACTIVATE (R407). -/
def execFwActivate (c : Nat) (q : Nat) (env : HostEnv) (s : State) : Host.Outcome State Fault Refusal :=
  guarded (.fwActivate c q env) (fun s => State.settle (s.runNeeding c q 0xA2 0 (fun k s => cmdFwActivate k s))) s

/-- FW_CONFIRM (R408). -/
def execFwConfirm (c : Nat) (q : Nat) (env : HostEnv) (s : State) : Host.Outcome State Fault Refusal :=
  guarded (.fwConfirm c q env) (fun s => State.settle (s.runNeeding c q 0xA3 0 (fun _ s => cmdFwConfirm s))) s

/-- KSU_KEY_LOAD (R410). -/
def execKsuKeyLoad (slot : Nat) (s : State) : Host.Outcome State Fault Refusal :=
  guarded (.ksuKeyLoad slot) (fun s => ksuKeyLoad slot s) s

/-- KSU_KEY_CLEAR (R410). -/
def execKsuKeyClear (slot : Nat) (s : State) : Host.Outcome State Fault Refusal :=
  guarded (.ksuKeyClear slot) (fun s => ksuKeyClear slot s) s

/-- KSU_KEY_WRAP (R410). -/
def execKsuKeyWrap (slot : Nat) (s : State) : Host.Outcome State Fault Refusal :=
  guarded (.ksuKeyWrap slot) (fun s => ksuKeyWrap slot s) s

/-- KSU_DBG_UNLOCK (R415). -/
def execKsuDbgUnlock (keysel : Nat) (s : State) : Host.Outcome State Fault Refusal :=
  guarded (.ksuDbgUnlock keysel) (fun s => ksuDbgUnlock keysel s) s

/-- KSU_REVOKE (R419). -/
def execKsuRevoke (v : Nat) (s : State) : Host.Outcome State Fault Refusal :=
  guarded (.ksuRevoke v) (fun s => ksuRevoke v s) s

/-- KSU_PROV_LOCK (R397). -/
def execKsuProvLock (v : Nat) (s : State) : Host.Outcome State Fault Refusal :=
  guarded (.ksuProvLock v) (fun s => ksuProvLock v s) s

/-- REGISTER_WRITE (R8). -/
def execRegisterWrite (port : RegPort) (off : Nat) (size : Nat) (v : Nat) (s : State) : Host.Outcome State Fault Refusal :=
  guarded (.registerWrite port off size v) (fun s => registerWrite port off size v s) s

/-- REGISTER_READ (R8). -/
def execRegisterRead (port : RegPort) (off : Nat) (size : Nat) (s : State) : Host.Outcome State Fault Refusal :=
  guarded (.registerRead port off size) (fun s => registerRead port off size s) s

/-- BAR0_BAD_ACCESS (R22). -/
def execBar0BadAccess (off : Nat) (size : Nat) (write : Bool) (s : State) : Host.Outcome State Fault Refusal :=
  guarded (.bar0BadAccess off size write) (fun s => bar0BadAccess off write s) s

/-- BAR4_ACCESS (R25). -/
def execBar4Access (off : Nat) (size : Nat) (write : Bool) (v : Nat) (s : State) : Host.Outcome State Fault Refusal :=
  guarded (.bar4Access off size write v) (fun s => bar4Access off size write v s) s

/-- TAP_INSTRUCTION (R414). -/
def execTapInstruction (ir : Nat) (dr : Nat) (s : State) : Host.Outcome State Fault Refusal :=
  guarded (.tapInstruction ir dr) (fun s => tapInstruction ir dr s) s

/-- AON_BROWN_OUT (R342). -/
def execAonBrownOut (s : State) : Host.Outcome State Fault Refusal :=
  guarded (.aonBrownOut) (fun s => aonBrownOut s) s

/-- POWER_ON (R420). -/
def execPowerOn (s : State) : Host.Outcome State Fault Refusal :=
  guarded (.powerOn) (fun s => powerOn s) s

/-- PERST_ASSERT (R439). -/
def execPerstAssert (s : State) : Host.Outcome State Fault Refusal :=
  guarded (.perstAssert) (fun s => perstAssert s) s

/-- PERST_DEASSERT (R422). -/
def execPerstDeassert (s : State) : Host.Outcome State Fault Refusal :=
  guarded (.perstDeassert) (fun s => perstDeassert s) s

/-- WARM_DEVICE_RESET (R426). -/
def execWarmDeviceReset (cause : Nat) (det : Nat) (s : State) : Host.Outcome State Fault Refusal :=
  guarded (.warmDeviceReset cause det) (fun s => warmDeviceReset cause det s) s

/-- BOOT_STAGE_DONE (R423). -/
def execBootStageDone (env : BootEnv) (s : State) : Host.Outcome State Fault Refusal :=
  guarded (.bootStageDone env) (fun s => bootStageDone env s) s

/-- TAMPER (R417). -/
def execTamper (det : Nat) (s : State) : Host.Outcome State Fault Refusal :=
  guarded (.tamper det) (fun s => tamper det s) s

/-- RAIL_RETURN (R440). -/
def execRailReturn (rail : Nat) (s : State) : Host.Outcome State Fault Refusal :=
  guarded (.railReturn rail) (fun s => railReturn rail s) s

end Sys2Proof.Machine
end

