-- ==== Sys2Proof/Machine/Dispatch.lean ====
section
/-! DEFINITION. What each command does: one arm per constructor of Instr, each one direct call of its meaning. -/

namespace Sys2Proof.Machine

/-- The effect of a command on everything but the queue. -/
def exec (i : Instr) (s : State) : Host.Outcome State Fault Refusal :=
  match i with
  | .nop c q env => Sys2Proof.Machine.execNop c q env s
  | .echo c q env => Sys2Proof.Machine.execEcho c q env s
  | .queryDevice c q env => Sys2Proof.Machine.execQueryDevice c q env s
  | .planLoad c q env => Sys2Proof.Machine.execPlanLoad c q env s
  | .planAdmit c q env => Sys2Proof.Machine.execPlanAdmit c q env s
  | .planArm c q env => Sys2Proof.Machine.execPlanArm c q env s
  | .planStop c q env => Sys2Proof.Machine.execPlanStop c q env s
  | .planUnload c q env => Sys2Proof.Machine.execPlanUnload c q env s
  | .planStatus c q env => Sys2Proof.Machine.execPlanStatus c q env s
  | .modelLoad c q env => Sys2Proof.Machine.execModelLoad c q env s
  | .modelEvict c q env => Sys2Proof.Machine.execModelEvict c q env s
  | .modelList c q env => Sys2Proof.Machine.execModelList c q env s
  | .bufPin c q env => Sys2Proof.Machine.execBufPin c q env s
  | .bufUnpin c q env => Sys2Proof.Machine.execBufUnpin c q env s
  | .tlbInvalidate c q env => Sys2Proof.Machine.execTlbInvalidate c q env s
  | .pageMigrate c q env => Sys2Proof.Machine.execPageMigrate c q env s
  | .ringCreate c q env => Sys2Proof.Machine.execRingCreate c q env s
  | .ringDestroy c q env => Sys2Proof.Machine.execRingDestroy c q env s
  | .dmaProgLoad c q env => Sys2Proof.Machine.execDmaProgLoad c q env s
  | .acqConfigStop c q env => Sys2Proof.Machine.execAcqConfigStop c q env s
  | .acqConfigApply c q env => Sys2Proof.Machine.execAcqConfigApply c q env s
  | .acqConfigStart c q env => Sys2Proof.Machine.execAcqConfigStart c q env s
  | .acqConfigForce c q env => Sys2Proof.Machine.execAcqConfigForce c q env s
  | .acqConfigPair c q env => Sys2Proof.Machine.execAcqConfigPair c q env s
  | .dfcCoefLoadStop c q env => Sys2Proof.Machine.execDfcCoefLoadStop c q env s
  | .dfcCoefLoadLoad c q env => Sys2Proof.Machine.execDfcCoefLoadLoad c q env s
  | .dfcCoefLoadStart c q env => Sys2Proof.Machine.execDfcCoefLoadStart c q env s
  | .acqSync c q env => Sys2Proof.Machine.execAcqSync c q env s
  | .acqReadout c q env => Sys2Proof.Machine.execAcqReadout c q env s
  | .evpConfigDisable c q env => Sys2Proof.Machine.execEvpConfigDisable c q env s
  | .evpConfigEnable c q env => Sys2Proof.Machine.execEvpConfigEnable c q env s
  | .evpConfigGroups c q env => Sys2Proof.Machine.execEvpConfigGroups c q env s
  | .evpMaskLoad c q env => Sys2Proof.Machine.execEvpMaskLoad c q env s
  | .pwrPolicySet c q env => Sys2Proof.Machine.execPwrPolicySet c q env s
  | .pwrPolicyWake c q env => Sys2Proof.Machine.execPwrPolicyWake c q env s
  | .pwrPolicyAon c q env => Sys2Proof.Machine.execPwrPolicyAon c q env s
  | .energyBudgetSet c q env => Sys2Proof.Machine.execEnergyBudgetSet c q env s
  | .pwrGroupSleep c q env => Sys2Proof.Machine.execPwrGroupSleep c q env s
  | .faultInject c q env => Sys2Proof.Machine.execFaultInject c q env s
  | .faultInjectClear c q env => Sys2Proof.Machine.execFaultInjectClear c q env s
  | .faultLogRead c q env => Sys2Proof.Machine.execFaultLogRead c q env s
  | .selftestRun c q env => Sys2Proof.Machine.execSelftestRun c q env s
  | .herdJoinJoin c q env => Sys2Proof.Machine.execHerdJoinJoin c q env s
  | .herdJoinFound c q env => Sys2Proof.Machine.execHerdJoinFound c q env s
  | .herdJoinEpoch c q env => Sys2Proof.Machine.execHerdJoinEpoch c q env s
  | .herdLeave c q env => Sys2Proof.Machine.execHerdLeave c q env s
  | .herdStatus c q env => Sys2Proof.Machine.execHerdStatus c q env s
  | .windowExport c q env => Sys2Proof.Machine.execWindowExport c q env s
  | .windowWithdraw c q env => Sys2Proof.Machine.execWindowWithdraw c q env s
  | .fwDownload c q env => Sys2Proof.Machine.execFwDownload c q env s
  | .fwVerify c q env => Sys2Proof.Machine.execFwVerify c q env s
  | .fwActivate c q env => Sys2Proof.Machine.execFwActivate c q env s
  | .fwConfirm c q env => Sys2Proof.Machine.execFwConfirm c q env s
  | .ctxReset c q env => Sys2Proof.Machine.execCtxReset c q env s
  | .abort c q env => Sys2Proof.Machine.execAbort c q env s
  | .fnSqdb c q tail env => Sys2Proof.Machine.execFnSqdb c q tail env s
  | .fnCqdb c q head => Sys2Proof.Machine.execFnCqdb c q head s
  | .fnQ0Ctrl c v => Sys2Proof.Machine.execFnQ0Ctrl c v s
  | .lioEncRelock n => Sys2Proof.Machine.execLioEncRelock n s
  | .lioLoForce j len => Sys2Proof.Machine.execLioLoForce j len s
  | .acqSpiTx v => Sys2Proof.Machine.execAcqSpiTx v s
  | .dmxPauseSet n => Sys2Proof.Machine.execDmxPauseSet n s
  | .dmxPauseClear n => Sys2Proof.Machine.execDmxPauseClear n s
  | .atuTlbFlush env => Sys2Proof.Machine.execAtuTlbFlush env s
  | .ksuKeyLoad slot => Sys2Proof.Machine.execKsuKeyLoad slot s
  | .ksuKeyClear slot => Sys2Proof.Machine.execKsuKeyClear slot s
  | .ksuKeyWrap slot => Sys2Proof.Machine.execKsuKeyWrap slot s
  | .ksuDbgUnlock keysel => Sys2Proof.Machine.execKsuDbgUnlock keysel s
  | .ksuRevoke v => Sys2Proof.Machine.execKsuRevoke v s
  | .ksuProvLock v => Sys2Proof.Machine.execKsuProvLock v s
  | .glbDomrst domain key => Sys2Proof.Machine.execGlbDomrst domain key s
  | .hrdLinkRetrain l => Sys2Proof.Machine.execHrdLinkRetrain l s
  | .registerWrite port off size v => Sys2Proof.Machine.execRegisterWrite port off size v s
  | .bar0BadAccess off size write => Sys2Proof.Machine.execBar0BadAccess off size write s
  | .bar4Access off size write v => Sys2Proof.Machine.execBar4Access off size write v s
  | .tapInstruction ir dr => Sys2Proof.Machine.execTapInstruction ir dr s
  | .replyWriteResponse c q => Sys2Proof.Machine.execReplyWriteResponse c q s
  | .commandTimeout c q => Sys2Proof.Machine.execCommandTimeout c q s
  | .cqCoalesceTimeout c q => Sys2Proof.Machine.execCqCoalesceTimeout c q s
  | .beatBoundary env => Sys2Proof.Machine.execBeatBoundary env s
  | .planDrained c h => Sys2Proof.Machine.execPlanDrained c h s
  | .itemCreate c => Sys2Proof.Machine.execItemCreate c s
  | .verdictCompose c id env => Sys2Proof.Machine.execVerdictCompose c id env s
  | .itemVerdict c id env => Sys2Proof.Machine.execItemVerdict c id env s
  | .tineRun run => Sys2Proof.Machine.execTineRun run s
  | .chainOp run => Sys2Proof.Machine.execChainOp run s
  | .ppuSort run => Sys2Proof.Machine.execPpuSort run s
  | .ppuDetect run => Sys2Proof.Machine.execPpuDetect run s
  | .dmxRun run => Sys2Proof.Machine.execDmxRun run s
  | .evpPatch run => Sys2Proof.Machine.execEvpPatch run s
  | .evpPredict run => Sys2Proof.Machine.execEvpPredict run s
  | .acqArm run => Sys2Proof.Machine.execAcqArm run s
  | .strobe run => Sys2Proof.Machine.execStrobe run s
  | .herdXfer run => Sys2Proof.Machine.execHerdXfer run s
  | .dmxMove n => Sys2Proof.Machine.execDmxMove n s
  | .dmxLoop n => Sys2Proof.Machine.execDmxLoop n s
  | .dmxWaitBeat n => Sys2Proof.Machine.execDmxWaitBeat n s
  | .dmxWaitTrig n => Sys2Proof.Machine.execDmxWaitTrig n s
  | .dmxWaitSem n => Sys2Proof.Machine.execDmxWaitSem n s
  | .dmxWaitRelease n => Sys2Proof.Machine.execDmxWaitRelease n s
  | .dmxWaitTimeout n => Sys2Proof.Machine.execDmxWaitTimeout n s
  | .dmxSignal n => Sys2Proof.Machine.execDmxSignal n s
  | .dmxEnd n => Sys2Proof.Machine.execDmxEnd n s
  | .recordLate n => Sys2Proof.Machine.execRecordLate n s
  | .descMove n env => Sys2Proof.Machine.execDescMove n env s
  | .descNop n env => Sys2Proof.Machine.execDescNop n env s
  | .dmxPaused n => Sys2Proof.Machine.execDmxPaused n s
  | .ringFaultServed c q => Sys2Proof.Machine.execRingFaultServed c q s
  | .faultTimeout c q => Sys2Proof.Machine.execFaultTimeout c q s
  | .prgResponse c q code env => Sys2Proof.Machine.execPrgResponse c q code env s
  | .atsInvalidation pasid hva len env => Sys2Proof.Machine.execAtsInvalidation pasid hva len env s
  | .invalidateStop n => Sys2Proof.Machine.execInvalidateStop n s
  | .walkTimeout c q => Sys2Proof.Machine.execWalkTimeout c q s
  | .encCount n a b held => Sys2Proof.Machine.execEncCount n a b held s
  | .encZEdge n z held => Sys2Proof.Machine.execEncZEdge n z held s
  | .webStopped n => Sys2Proof.Machine.execWebStopped n s
  | .liEdge line level held phase => Sys2Proof.Machine.execLiEdge line level held phase s
  | .liStuck line => Sys2Proof.Machine.execLiStuck line s
  | .outputFire j => Sys2Proof.Machine.execOutputFire j s
  | .outputPulseEnd j => Sys2Proof.Machine.execOutputPulseEnd j s
  | .csi2LongPacket p pkt => Sys2Proof.Machine.execCsi2LongPacket p pkt s
  | .csi2ShortPacket p pkt => Sys2Proof.Machine.execCsi2ShortPacket p pkt s
  | .mapperWindowClose p => Sys2Proof.Machine.execMapperWindowClose p s
  | .mapperSilent p => Sys2Proof.Machine.execMapperSilent p s
  | .eventProcess p => Sys2Proof.Machine.execEventProcess p s
  | .trackCoastTimeout p m => Sys2Proof.Machine.execTrackCoastTimeout p m s
  | .surfaceSweep p x y => Sys2Proof.Machine.execSurfaceSweep p x y s
  | .fabricFire line => Sys2Proof.Machine.execFabricFire line s
  | .fabricArmClose line => Sys2Proof.Machine.execFabricArmClose line s
  | .acqTrigger ch src k samples => Sys2Proof.Machine.execAcqTrigger ch src k samples s
  | .acqFillDone ch => Sys2Proof.Machine.execAcqFillDone ch s
  | .acqSegmentDone ch rec samples => Sys2Proof.Machine.execAcqSegmentDone ch rec samples s
  | .acqRearmDone ch => Sys2Proof.Machine.execAcqRearmDone ch s
  | .acqCalTracking ch => Sys2Proof.Machine.execAcqCalTracking ch s
  | .spiTransferDone rx => Sys2Proof.Machine.execSpiTransferDone rx s
  | .dfcSync cut => Sys2Proof.Machine.execDfcSync cut s
  | .dfcStreamBlock ch samples => Sys2Proof.Machine.execDfcStreamBlock ch samples s
  | .syncInEdge rising => Sys2Proof.Machine.execSyncInEdge rising s
  | .syncOutPulse => Sys2Proof.Machine.execSyncOutPulse s
  | .recordShed run => Sys2Proof.Machine.execRecordShed run s
  | .recordOverrun run => Sys2Proof.Machine.execRecordOverrun run s
  | .droop d => Sys2Proof.Machine.execDroop d s
  | .thermalSample t => Sys2Proof.Machine.execThermalSample t s
  | .thermHoldEnd => Sys2Proof.Machine.execThermHoldEnd s
  | .detectorFire id site => Sys2Proof.Machine.execDetectorFire id site s
  | .contextRecovery c det => Sys2Proof.Machine.execContextRecovery c det s
  | .replacementBegin e n => Sys2Proof.Machine.execReplacementBegin e n s
  | .replacementSwap e => Sys2Proof.Machine.execReplacementSwap e s
  | .rotationStepBegin e => Sys2Proof.Machine.execRotationStepBegin e s
  | .shadowCopyDone e => Sys2Proof.Machine.execShadowCopyDone e s
  | .spareSwap e => Sys2Proof.Machine.execSpareSwap e s
  | .engineSelftestDone e n pass => Sys2Proof.Machine.execEngineSelftestDone e n pass s
  | .bankZeroDone => Sys2Proof.Machine.execBankZeroDone s
  | .sramScrub la => Sys2Proof.Machine.execSramScrub la s
  | .domainIdleTimeout d => Sys2Proof.Machine.execDomainIdleTimeout d s
  | .domainEntryDone d => Sys2Proof.Machine.execDomainEntryDone d s
  | .domainDemand d => Sys2Proof.Machine.execDomainDemand d s
  | .domainWakeDone d => Sys2Proof.Machine.execDomainWakeDone d s
  | .clkSwitchDone d => Sys2Proof.Machine.execClkSwitchDone d s
  | .clkSwitchFail d => Sys2Proof.Machine.execClkSwitchFail d s
  | .domainResetDone => Sys2Proof.Machine.execDomainResetDone s
  | .aonBrownOut => Sys2Proof.Machine.execAonBrownOut s
  | .powerOn => Sys2Proof.Machine.execPowerOn s
  | .perstAssert => Sys2Proof.Machine.execPerstAssert s
  | .perstDeassert => Sys2Proof.Machine.execPerstDeassert s
  | .warmDeviceReset cause det => Sys2Proof.Machine.execWarmDeviceReset cause det s
  | .bootStageDone env => Sys2Proof.Machine.execBootStageDone env s
  | .tamper det => Sys2Proof.Machine.execTamper det s
  | .vfFlr n env => Sys2Proof.Machine.execVfFlr n env s
  | .pfFlr => Sys2Proof.Machine.execPfFlr s
  | .vfEnableSet num => Sys2Proof.Machine.execVfEnableSet num s
  | .vfEnableClear env => Sys2Proof.Machine.execVfEnableClear env s
  | .flitReceive l flit env => Sys2Proof.Machine.execFlitReceive l flit env s
  | .flitLost l slot => Sys2Proof.Machine.execFlitLost l slot s
  | .resultUndelivered id dev => Sys2Proof.Machine.execResultUndelivered id dev s
  | .laneFault l lane => Sys2Proof.Machine.execLaneFault l lane s
  | .linkDown l => Sys2Proof.Machine.execLinkDown l s
  | .linkTrained l lanes peer peerLink => Sys2Proof.Machine.execLinkTrained l lanes peer peerLink s
  | .herdLeaveDone => Sys2Proof.Machine.execHerdLeaveDone s
  | .registerRead port off size => Sys2Proof.Machine.execRegisterRead port off size s
  | .fabricArmOpen line => Sys2Proof.Machine.execFabricArmOpen line s
  | .trackLeavesFrame p m => Sys2Proof.Machine.execTrackLeavesFrame p m s
  | .linkTrainingTimeout l => Sys2Proof.Machine.execLinkTrainingTimeout l s
  | .flitReplay l id => Sys2Proof.Machine.execFlitReplay l id s
  | .priEnable alloc ats => Sys2Proof.Machine.execPriEnable alloc ats s
  | .railReturn rail => Sys2Proof.Machine.execRailReturn rail s
  | .dphyStateChange p st lanes deskew => Sys2Proof.Machine.execDphyStateChange p st lanes deskew s

end Sys2Proof.Machine
end

