-- ==== Sys2Proof/Laws/State.lean ====
section
/-! SUPPORT. What each named update of the state leaves in each field: one lemma a field, true by definition. A lemma
`op_field` says that the operation leaves the field as it was; where it writes the field, what it puts there. -/

namespace Sys2Proof.Machine

variable (s : State)

/-! ### `wr` -/

section
variable (r : Reg) (v : Nat)

@[simp] theorem State.wr_time : (s.wr r v).time = s.time := (rfl)
@[simp] theorem State.wr_pending : (s.wr r v).pending = s.pending := (rfl)
@[simp] theorem State.wr_out : (s.wr r v).out = s.out := (rfl)
@[simp] theorem State.wr_fresh : (s.wr r v).fresh = s.fresh := (rfl)
@[simp] theorem State.wr_latches : (s.wr r v).latches = s.latches := (rfl)
@[simp] theorem State.wr_holds : (s.wr r v).holds = s.holds := (rfl)
@[simp] theorem State.wr_mem : (s.wr r v).mem = s.mem := (rfl)
@[simp] theorem State.wr_ecc : (s.wr r v).ecc = s.ecc := (rfl)
@[simp] theorem State.wr_ctxs : (s.wr r v).ctxs = s.ctxs := (rfl)
@[simp] theorem State.wr_queues : (s.wr r v).queues = s.queues := (rfl)
@[simp] theorem State.wr_cmdSeq : (s.wr r v).cmdSeq = s.cmdSeq := (rfl)
@[simp] theorem State.wr_plans : (s.wr r v).plans = s.plans := (rfl)
@[simp] theorem State.wr_items : (s.wr r v).items = s.items := (rfl)
@[simp] theorem State.wr_ranges : (s.wr r v).ranges = s.ranges := (rfl)
@[simp] theorem State.wr_gens : (s.wr r v).gens = s.gens := (rfl)
@[simp] theorem State.wr_tlb : (s.wr r v).tlb = s.tlb := (rfl)
@[simp] theorem State.wr_walkCache : (s.wr r v).walkCache = s.walkCache := (rfl)
@[simp] theorem State.wr_imports : (s.wr r v).imports = s.imports := (rfl)
@[simp] theorem State.wr_progs : (s.wr r v).progs = s.progs := (rfl)
@[simp] theorem State.wr_chans : (s.wr r v).chans = s.chans := (rfl)
@[simp] theorem State.wr_encs : (s.wr r v).encs = s.encs := (rfl)
@[simp] theorem State.wr_lineIns : (s.wr r v).lineIns = s.lineIns := (rfl)
@[simp] theorem State.wr_unread : (s.wr r v).unread = s.unread := (rfl)
@[simp] theorem State.wr_ceSeen : (s.wr r v).ceSeen = s.ceSeen := (rfl)
@[simp] theorem State.wr_zeroing : (s.wr r v).zeroing = s.zeroing := (rfl)
@[simp] theorem State.wr_ports : (s.wr r v).ports = s.ports := (rfl)
@[simp] theorem State.wr_surface : (s.wr r v).surface = s.surface := (rfl)
@[simp] theorem State.wr_builders : (s.wr r v).builders = s.builders := (rfl)
@[simp] theorem State.wr_windows : (s.wr r v).windows = s.windows := (rfl)
@[simp] theorem State.wr_acqs : (s.wr r v).acqs = s.acqs := (rfl)
@[simp] theorem State.wr_acqRuns : (s.wr r v).acqRuns = s.acqRuns := (rfl)
@[simp] theorem State.wr_fabric : (s.wr r v).fabric = s.fabric := (rfl)
@[simp] theorem State.wr_strobes : (s.wr r v).strobes = s.strobes := (rfl)
@[simp] theorem State.wr_dfcs : (s.wr r v).dfcs = s.dfcs := (rfl)
@[simp] theorem State.wr_syncIn : (s.wr r v).syncIn = s.syncIn := (rfl)
@[simp] theorem State.wr_energies : (s.wr r v).energies = s.energies := (rfl)
@[simp] theorem State.wr_energyNext : (s.wr r v).energyNext = s.energyNext := (rfl)
@[simp] theorem State.wr_betas : (s.wr r v).betas = s.betas := (rfl)
@[simp] theorem State.wr_droops : (s.wr r v).droops = s.droops := (rfl)
@[simp] theorem State.wr_models : (s.wr r v).models = s.models := (rfl)
@[simp] theorem State.wr_engDies : (s.wr r v).engDies = s.engDies := (rfl)
@[simp] theorem State.wr_copies : (s.wr r v).copies = s.copies := (rfl)
@[simp] theorem State.wr_lastRun : (s.wr r v).lastRun = s.lastRun := (rfl)
@[simp] theorem State.wr_unitFires : (s.wr r v).unitFires = s.unitFires := (rfl)
@[simp] theorem State.wr_recovers : (s.wr r v).recovers = s.recovers := (rfl)
@[simp] theorem State.wr_failFrom : (s.wr r v).failFrom = s.failFrom := (rfl)
@[simp] theorem State.wr_chanProgs : (s.wr r v).chanProgs = s.chanProgs := (rfl)
@[simp] theorem State.wr_chanLast : (s.wr r v).chanLast = s.chanLast := (rfl)
@[simp] theorem State.wr_atsPend : (s.wr r v).atsPend = s.atsPend := (rfl)
@[simp] theorem State.wr_revoking : (s.wr r v).revoking = s.revoking := (rfl)
@[simp] theorem State.wr_atsOn : (s.wr r v).atsOn = s.atsOn := (rfl)
@[simp] theorem State.wr_herd : (s.wr r v).herd = s.herd := (rfl)
@[simp] theorem State.wr_doms : (s.wr r v).doms = s.doms := (rfl)
@[simp] theorem State.wr_group : (s.wr r v).group = s.group := (rfl)
@[simp] theorem State.wr_resetT : (s.wr r v).resetT = s.resetT := (rfl)
@[simp] theorem State.wr_faultLog : (s.wr r v).faultLog = s.faultLog := (rfl)
@[simp] theorem State.wr_devHead : (s.wr r v).devHead = s.devHead := (rfl)
@[simp] theorem State.wr_injSite : (s.wr r v).injSite = s.injSite := (rfl)
@[simp] theorem State.wr_lanesBad : (s.wr r v).lanesBad = s.lanesBad := (rfl)
@[simp] theorem State.wr_flash : (s.wr r v).flash = s.flash := (rfl)
@[simp] theorem State.wr_svn : (s.wr r v).svn = s.svn := (rfl)
@[simp] theorem State.wr_rootRev : (s.wr r v).rootRev = s.rootRev := (rfl)
@[simp] theorem State.wr_provLock : (s.wr r v).provLock = s.provLock := (rfl)
@[simp] theorem State.wr_keys : (s.wr r v).keys = s.keys := (rfl)
@[simp] theorem State.wr_fw : (s.wr r v).fw = s.fw := (rfl)
@[simp] theorem State.wr_cool : (s.wr r v).cool = s.cool := (rfl)
@[simp] theorem State.wr_railsBad : (s.wr r v).railsBad = s.railsBad := (rfl)
@[simp] theorem State.wr_tapIr : (s.wr r v).tapIr = s.tapIr := (rfl)
@[simp] theorem State.wr_tapHigh : (s.wr r v).tapHigh = s.tapHigh := (rfl)
@[simp] theorem State.wr_resetAfter : (s.wr r v).resetAfter = s.resetAfter := (rfl)
@[simp] theorem State.wr_perst : (s.wr r v).perst = s.perst := (rfl)
@[simp] theorem State.wr_numVfs : (s.wr r v).numVfs = s.numVfs := (rfl)
@[simp] theorem State.wr_lineOuts : (s.wr r v).lineOuts = s.lineOuts := (rfl)
@[simp] theorem State.wr_parked : (s.wr r v).parked = s.parked := (rfl)

end

/-! ### `setCtx` -/

section
variable (c : Nat) (x : Ctx)

@[simp] theorem State.setCtx_time : (s.setCtx c x).time = s.time := (rfl)
@[simp] theorem State.setCtx_pending : (s.setCtx c x).pending = s.pending := (rfl)
@[simp] theorem State.setCtx_out : (s.setCtx c x).out = s.out := (rfl)
@[simp] theorem State.setCtx_fresh : (s.setCtx c x).fresh = s.fresh := (rfl)
@[simp] theorem State.setCtx_regs : (s.setCtx c x).regs = s.regs := (rfl)
@[simp] theorem State.setCtx_latches : (s.setCtx c x).latches = s.latches := (rfl)
@[simp] theorem State.setCtx_holds : (s.setCtx c x).holds = s.holds := (rfl)
@[simp] theorem State.setCtx_mem : (s.setCtx c x).mem = s.mem := (rfl)
@[simp] theorem State.setCtx_ecc : (s.setCtx c x).ecc = s.ecc := (rfl)
@[simp] theorem State.setCtx_queues : (s.setCtx c x).queues = s.queues := (rfl)
@[simp] theorem State.setCtx_cmdSeq : (s.setCtx c x).cmdSeq = s.cmdSeq := (rfl)
@[simp] theorem State.setCtx_plans : (s.setCtx c x).plans = s.plans := (rfl)
@[simp] theorem State.setCtx_items : (s.setCtx c x).items = s.items := (rfl)
@[simp] theorem State.setCtx_ranges : (s.setCtx c x).ranges = s.ranges := (rfl)
@[simp] theorem State.setCtx_gens : (s.setCtx c x).gens = s.gens := (rfl)
@[simp] theorem State.setCtx_tlb : (s.setCtx c x).tlb = s.tlb := (rfl)
@[simp] theorem State.setCtx_walkCache : (s.setCtx c x).walkCache = s.walkCache := (rfl)
@[simp] theorem State.setCtx_imports : (s.setCtx c x).imports = s.imports := (rfl)
@[simp] theorem State.setCtx_progs : (s.setCtx c x).progs = s.progs := (rfl)
@[simp] theorem State.setCtx_chans : (s.setCtx c x).chans = s.chans := (rfl)
@[simp] theorem State.setCtx_encs : (s.setCtx c x).encs = s.encs := (rfl)
@[simp] theorem State.setCtx_lineIns : (s.setCtx c x).lineIns = s.lineIns := (rfl)
@[simp] theorem State.setCtx_unread : (s.setCtx c x).unread = s.unread := (rfl)
@[simp] theorem State.setCtx_ceSeen : (s.setCtx c x).ceSeen = s.ceSeen := (rfl)
@[simp] theorem State.setCtx_zeroing : (s.setCtx c x).zeroing = s.zeroing := (rfl)
@[simp] theorem State.setCtx_ports : (s.setCtx c x).ports = s.ports := (rfl)
@[simp] theorem State.setCtx_surface : (s.setCtx c x).surface = s.surface := (rfl)
@[simp] theorem State.setCtx_builders : (s.setCtx c x).builders = s.builders := (rfl)
@[simp] theorem State.setCtx_windows : (s.setCtx c x).windows = s.windows := (rfl)
@[simp] theorem State.setCtx_acqs : (s.setCtx c x).acqs = s.acqs := (rfl)
@[simp] theorem State.setCtx_acqRuns : (s.setCtx c x).acqRuns = s.acqRuns := (rfl)
@[simp] theorem State.setCtx_fabric : (s.setCtx c x).fabric = s.fabric := (rfl)
@[simp] theorem State.setCtx_strobes : (s.setCtx c x).strobes = s.strobes := (rfl)
@[simp] theorem State.setCtx_dfcs : (s.setCtx c x).dfcs = s.dfcs := (rfl)
@[simp] theorem State.setCtx_syncIn : (s.setCtx c x).syncIn = s.syncIn := (rfl)
@[simp] theorem State.setCtx_energies : (s.setCtx c x).energies = s.energies := (rfl)
@[simp] theorem State.setCtx_energyNext : (s.setCtx c x).energyNext = s.energyNext := (rfl)
@[simp] theorem State.setCtx_betas : (s.setCtx c x).betas = s.betas := (rfl)
@[simp] theorem State.setCtx_droops : (s.setCtx c x).droops = s.droops := (rfl)
@[simp] theorem State.setCtx_models : (s.setCtx c x).models = s.models := (rfl)
@[simp] theorem State.setCtx_engDies : (s.setCtx c x).engDies = s.engDies := (rfl)
@[simp] theorem State.setCtx_copies : (s.setCtx c x).copies = s.copies := (rfl)
@[simp] theorem State.setCtx_lastRun : (s.setCtx c x).lastRun = s.lastRun := (rfl)
@[simp] theorem State.setCtx_unitFires : (s.setCtx c x).unitFires = s.unitFires := (rfl)
@[simp] theorem State.setCtx_recovers : (s.setCtx c x).recovers = s.recovers := (rfl)
@[simp] theorem State.setCtx_failFrom : (s.setCtx c x).failFrom = s.failFrom := (rfl)
@[simp] theorem State.setCtx_chanProgs : (s.setCtx c x).chanProgs = s.chanProgs := (rfl)
@[simp] theorem State.setCtx_chanLast : (s.setCtx c x).chanLast = s.chanLast := (rfl)
@[simp] theorem State.setCtx_atsPend : (s.setCtx c x).atsPend = s.atsPend := (rfl)
@[simp] theorem State.setCtx_revoking : (s.setCtx c x).revoking = s.revoking := (rfl)
@[simp] theorem State.setCtx_atsOn : (s.setCtx c x).atsOn = s.atsOn := (rfl)
@[simp] theorem State.setCtx_herd : (s.setCtx c x).herd = s.herd := (rfl)
@[simp] theorem State.setCtx_doms : (s.setCtx c x).doms = s.doms := (rfl)
@[simp] theorem State.setCtx_group : (s.setCtx c x).group = s.group := (rfl)
@[simp] theorem State.setCtx_resetT : (s.setCtx c x).resetT = s.resetT := (rfl)
@[simp] theorem State.setCtx_faultLog : (s.setCtx c x).faultLog = s.faultLog := (rfl)
@[simp] theorem State.setCtx_devHead : (s.setCtx c x).devHead = s.devHead := (rfl)
@[simp] theorem State.setCtx_injSite : (s.setCtx c x).injSite = s.injSite := (rfl)
@[simp] theorem State.setCtx_lanesBad : (s.setCtx c x).lanesBad = s.lanesBad := (rfl)
@[simp] theorem State.setCtx_flash : (s.setCtx c x).flash = s.flash := (rfl)
@[simp] theorem State.setCtx_svn : (s.setCtx c x).svn = s.svn := (rfl)
@[simp] theorem State.setCtx_rootRev : (s.setCtx c x).rootRev = s.rootRev := (rfl)
@[simp] theorem State.setCtx_provLock : (s.setCtx c x).provLock = s.provLock := (rfl)
@[simp] theorem State.setCtx_keys : (s.setCtx c x).keys = s.keys := (rfl)
@[simp] theorem State.setCtx_fw : (s.setCtx c x).fw = s.fw := (rfl)
@[simp] theorem State.setCtx_cool : (s.setCtx c x).cool = s.cool := (rfl)
@[simp] theorem State.setCtx_railsBad : (s.setCtx c x).railsBad = s.railsBad := (rfl)
@[simp] theorem State.setCtx_tapIr : (s.setCtx c x).tapIr = s.tapIr := (rfl)
@[simp] theorem State.setCtx_tapHigh : (s.setCtx c x).tapHigh = s.tapHigh := (rfl)
@[simp] theorem State.setCtx_resetAfter : (s.setCtx c x).resetAfter = s.resetAfter := (rfl)
@[simp] theorem State.setCtx_perst : (s.setCtx c x).perst = s.perst := (rfl)
@[simp] theorem State.setCtx_numVfs : (s.setCtx c x).numVfs = s.numVfs := (rfl)
@[simp] theorem State.setCtx_lineOuts : (s.setCtx c x).lineOuts = s.lineOuts := (rfl)
@[simp] theorem State.setCtx_parked : (s.setCtx c x).parked = s.parked := (rfl)

end

/-! ### `setQueue` -/

section
variable (c q : Nat) (x : Queue)

@[simp] theorem State.setQueue_time : (s.setQueue c q x).time = s.time := (rfl)
@[simp] theorem State.setQueue_pending : (s.setQueue c q x).pending = s.pending := (rfl)
@[simp] theorem State.setQueue_out : (s.setQueue c q x).out = s.out := (rfl)
@[simp] theorem State.setQueue_fresh : (s.setQueue c q x).fresh = s.fresh := (rfl)
@[simp] theorem State.setQueue_regs : (s.setQueue c q x).regs = s.regs := (rfl)
@[simp] theorem State.setQueue_latches : (s.setQueue c q x).latches = s.latches := (rfl)
@[simp] theorem State.setQueue_holds : (s.setQueue c q x).holds = s.holds := (rfl)
@[simp] theorem State.setQueue_mem : (s.setQueue c q x).mem = s.mem := (rfl)
@[simp] theorem State.setQueue_ecc : (s.setQueue c q x).ecc = s.ecc := (rfl)
@[simp] theorem State.setQueue_ctxs : (s.setQueue c q x).ctxs = s.ctxs := (rfl)
@[simp] theorem State.setQueue_cmdSeq : (s.setQueue c q x).cmdSeq = s.cmdSeq := (rfl)
@[simp] theorem State.setQueue_plans : (s.setQueue c q x).plans = s.plans := (rfl)
@[simp] theorem State.setQueue_items : (s.setQueue c q x).items = s.items := (rfl)
@[simp] theorem State.setQueue_ranges : (s.setQueue c q x).ranges = s.ranges := (rfl)
@[simp] theorem State.setQueue_gens : (s.setQueue c q x).gens = s.gens := (rfl)
@[simp] theorem State.setQueue_tlb : (s.setQueue c q x).tlb = s.tlb := (rfl)
@[simp] theorem State.setQueue_walkCache : (s.setQueue c q x).walkCache = s.walkCache := (rfl)
@[simp] theorem State.setQueue_imports : (s.setQueue c q x).imports = s.imports := (rfl)
@[simp] theorem State.setQueue_progs : (s.setQueue c q x).progs = s.progs := (rfl)
@[simp] theorem State.setQueue_chans : (s.setQueue c q x).chans = s.chans := (rfl)
@[simp] theorem State.setQueue_encs : (s.setQueue c q x).encs = s.encs := (rfl)
@[simp] theorem State.setQueue_lineIns : (s.setQueue c q x).lineIns = s.lineIns := (rfl)
@[simp] theorem State.setQueue_unread : (s.setQueue c q x).unread = s.unread := (rfl)
@[simp] theorem State.setQueue_ceSeen : (s.setQueue c q x).ceSeen = s.ceSeen := (rfl)
@[simp] theorem State.setQueue_zeroing : (s.setQueue c q x).zeroing = s.zeroing := (rfl)
@[simp] theorem State.setQueue_ports : (s.setQueue c q x).ports = s.ports := (rfl)
@[simp] theorem State.setQueue_surface : (s.setQueue c q x).surface = s.surface := (rfl)
@[simp] theorem State.setQueue_builders : (s.setQueue c q x).builders = s.builders := (rfl)
@[simp] theorem State.setQueue_windows : (s.setQueue c q x).windows = s.windows := (rfl)
@[simp] theorem State.setQueue_acqs : (s.setQueue c q x).acqs = s.acqs := (rfl)
@[simp] theorem State.setQueue_acqRuns : (s.setQueue c q x).acqRuns = s.acqRuns := (rfl)
@[simp] theorem State.setQueue_fabric : (s.setQueue c q x).fabric = s.fabric := (rfl)
@[simp] theorem State.setQueue_strobes : (s.setQueue c q x).strobes = s.strobes := (rfl)
@[simp] theorem State.setQueue_dfcs : (s.setQueue c q x).dfcs = s.dfcs := (rfl)
@[simp] theorem State.setQueue_syncIn : (s.setQueue c q x).syncIn = s.syncIn := (rfl)
@[simp] theorem State.setQueue_energies : (s.setQueue c q x).energies = s.energies := (rfl)
@[simp] theorem State.setQueue_energyNext : (s.setQueue c q x).energyNext = s.energyNext := (rfl)
@[simp] theorem State.setQueue_betas : (s.setQueue c q x).betas = s.betas := (rfl)
@[simp] theorem State.setQueue_droops : (s.setQueue c q x).droops = s.droops := (rfl)
@[simp] theorem State.setQueue_models : (s.setQueue c q x).models = s.models := (rfl)
@[simp] theorem State.setQueue_engDies : (s.setQueue c q x).engDies = s.engDies := (rfl)
@[simp] theorem State.setQueue_copies : (s.setQueue c q x).copies = s.copies := (rfl)
@[simp] theorem State.setQueue_lastRun : (s.setQueue c q x).lastRun = s.lastRun := (rfl)
@[simp] theorem State.setQueue_unitFires : (s.setQueue c q x).unitFires = s.unitFires := (rfl)
@[simp] theorem State.setQueue_recovers : (s.setQueue c q x).recovers = s.recovers := (rfl)
@[simp] theorem State.setQueue_failFrom : (s.setQueue c q x).failFrom = s.failFrom := (rfl)
@[simp] theorem State.setQueue_chanProgs : (s.setQueue c q x).chanProgs = s.chanProgs := (rfl)
@[simp] theorem State.setQueue_chanLast : (s.setQueue c q x).chanLast = s.chanLast := (rfl)
@[simp] theorem State.setQueue_atsPend : (s.setQueue c q x).atsPend = s.atsPend := (rfl)
@[simp] theorem State.setQueue_revoking : (s.setQueue c q x).revoking = s.revoking := (rfl)
@[simp] theorem State.setQueue_atsOn : (s.setQueue c q x).atsOn = s.atsOn := (rfl)
@[simp] theorem State.setQueue_herd : (s.setQueue c q x).herd = s.herd := (rfl)
@[simp] theorem State.setQueue_doms : (s.setQueue c q x).doms = s.doms := (rfl)
@[simp] theorem State.setQueue_group : (s.setQueue c q x).group = s.group := (rfl)
@[simp] theorem State.setQueue_resetT : (s.setQueue c q x).resetT = s.resetT := (rfl)
@[simp] theorem State.setQueue_faultLog : (s.setQueue c q x).faultLog = s.faultLog := (rfl)
@[simp] theorem State.setQueue_devHead : (s.setQueue c q x).devHead = s.devHead := (rfl)
@[simp] theorem State.setQueue_injSite : (s.setQueue c q x).injSite = s.injSite := (rfl)
@[simp] theorem State.setQueue_lanesBad : (s.setQueue c q x).lanesBad = s.lanesBad := (rfl)
@[simp] theorem State.setQueue_flash : (s.setQueue c q x).flash = s.flash := (rfl)
@[simp] theorem State.setQueue_svn : (s.setQueue c q x).svn = s.svn := (rfl)
@[simp] theorem State.setQueue_rootRev : (s.setQueue c q x).rootRev = s.rootRev := (rfl)
@[simp] theorem State.setQueue_provLock : (s.setQueue c q x).provLock = s.provLock := (rfl)
@[simp] theorem State.setQueue_keys : (s.setQueue c q x).keys = s.keys := (rfl)
@[simp] theorem State.setQueue_fw : (s.setQueue c q x).fw = s.fw := (rfl)
@[simp] theorem State.setQueue_cool : (s.setQueue c q x).cool = s.cool := (rfl)
@[simp] theorem State.setQueue_railsBad : (s.setQueue c q x).railsBad = s.railsBad := (rfl)
@[simp] theorem State.setQueue_tapIr : (s.setQueue c q x).tapIr = s.tapIr := (rfl)
@[simp] theorem State.setQueue_tapHigh : (s.setQueue c q x).tapHigh = s.tapHigh := (rfl)
@[simp] theorem State.setQueue_resetAfter : (s.setQueue c q x).resetAfter = s.resetAfter := (rfl)
@[simp] theorem State.setQueue_perst : (s.setQueue c q x).perst = s.perst := (rfl)
@[simp] theorem State.setQueue_numVfs : (s.setQueue c q x).numVfs = s.numVfs := (rfl)
@[simp] theorem State.setQueue_lineOuts : (s.setQueue c q x).lineOuts = s.lineOuts := (rfl)
@[simp] theorem State.setQueue_parked : (s.setQueue c q x).parked = s.parked := (rfl)

end

/-! ### `delQueue` -/

section
variable (c q : Nat)

@[simp] theorem State.delQueue_time : (s.delQueue c q).time = s.time := (rfl)
@[simp] theorem State.delQueue_pending : (s.delQueue c q).pending = s.pending := (rfl)
@[simp] theorem State.delQueue_out : (s.delQueue c q).out = s.out := (rfl)
@[simp] theorem State.delQueue_fresh : (s.delQueue c q).fresh = s.fresh := (rfl)
@[simp] theorem State.delQueue_regs : (s.delQueue c q).regs = s.regs := (rfl)
@[simp] theorem State.delQueue_latches : (s.delQueue c q).latches = s.latches := (rfl)
@[simp] theorem State.delQueue_holds : (s.delQueue c q).holds = s.holds := (rfl)
@[simp] theorem State.delQueue_mem : (s.delQueue c q).mem = s.mem := (rfl)
@[simp] theorem State.delQueue_ecc : (s.delQueue c q).ecc = s.ecc := (rfl)
@[simp] theorem State.delQueue_ctxs : (s.delQueue c q).ctxs = s.ctxs := (rfl)
@[simp] theorem State.delQueue_cmdSeq : (s.delQueue c q).cmdSeq = s.cmdSeq := (rfl)
@[simp] theorem State.delQueue_plans : (s.delQueue c q).plans = s.plans := (rfl)
@[simp] theorem State.delQueue_items : (s.delQueue c q).items = s.items := (rfl)
@[simp] theorem State.delQueue_ranges : (s.delQueue c q).ranges = s.ranges := (rfl)
@[simp] theorem State.delQueue_gens : (s.delQueue c q).gens = s.gens := (rfl)
@[simp] theorem State.delQueue_tlb : (s.delQueue c q).tlb = s.tlb := (rfl)
@[simp] theorem State.delQueue_walkCache : (s.delQueue c q).walkCache = s.walkCache := (rfl)
@[simp] theorem State.delQueue_imports : (s.delQueue c q).imports = s.imports := (rfl)
@[simp] theorem State.delQueue_progs : (s.delQueue c q).progs = s.progs := (rfl)
@[simp] theorem State.delQueue_chans : (s.delQueue c q).chans = s.chans := (rfl)
@[simp] theorem State.delQueue_encs : (s.delQueue c q).encs = s.encs := (rfl)
@[simp] theorem State.delQueue_lineIns : (s.delQueue c q).lineIns = s.lineIns := (rfl)
@[simp] theorem State.delQueue_unread : (s.delQueue c q).unread = s.unread := (rfl)
@[simp] theorem State.delQueue_ceSeen : (s.delQueue c q).ceSeen = s.ceSeen := (rfl)
@[simp] theorem State.delQueue_zeroing : (s.delQueue c q).zeroing = s.zeroing := (rfl)
@[simp] theorem State.delQueue_ports : (s.delQueue c q).ports = s.ports := (rfl)
@[simp] theorem State.delQueue_surface : (s.delQueue c q).surface = s.surface := (rfl)
@[simp] theorem State.delQueue_builders : (s.delQueue c q).builders = s.builders := (rfl)
@[simp] theorem State.delQueue_windows : (s.delQueue c q).windows = s.windows := (rfl)
@[simp] theorem State.delQueue_acqs : (s.delQueue c q).acqs = s.acqs := (rfl)
@[simp] theorem State.delQueue_acqRuns : (s.delQueue c q).acqRuns = s.acqRuns := (rfl)
@[simp] theorem State.delQueue_fabric : (s.delQueue c q).fabric = s.fabric := (rfl)
@[simp] theorem State.delQueue_strobes : (s.delQueue c q).strobes = s.strobes := (rfl)
@[simp] theorem State.delQueue_dfcs : (s.delQueue c q).dfcs = s.dfcs := (rfl)
@[simp] theorem State.delQueue_syncIn : (s.delQueue c q).syncIn = s.syncIn := (rfl)
@[simp] theorem State.delQueue_energies : (s.delQueue c q).energies = s.energies := (rfl)
@[simp] theorem State.delQueue_energyNext : (s.delQueue c q).energyNext = s.energyNext := (rfl)
@[simp] theorem State.delQueue_betas : (s.delQueue c q).betas = s.betas := (rfl)
@[simp] theorem State.delQueue_droops : (s.delQueue c q).droops = s.droops := (rfl)
@[simp] theorem State.delQueue_models : (s.delQueue c q).models = s.models := (rfl)
@[simp] theorem State.delQueue_engDies : (s.delQueue c q).engDies = s.engDies := (rfl)
@[simp] theorem State.delQueue_copies : (s.delQueue c q).copies = s.copies := (rfl)
@[simp] theorem State.delQueue_lastRun : (s.delQueue c q).lastRun = s.lastRun := (rfl)
@[simp] theorem State.delQueue_unitFires : (s.delQueue c q).unitFires = s.unitFires := (rfl)
@[simp] theorem State.delQueue_recovers : (s.delQueue c q).recovers = s.recovers := (rfl)
@[simp] theorem State.delQueue_failFrom : (s.delQueue c q).failFrom = s.failFrom := (rfl)
@[simp] theorem State.delQueue_chanProgs : (s.delQueue c q).chanProgs = s.chanProgs := (rfl)
@[simp] theorem State.delQueue_chanLast : (s.delQueue c q).chanLast = s.chanLast := (rfl)
@[simp] theorem State.delQueue_atsPend : (s.delQueue c q).atsPend = s.atsPend := (rfl)
@[simp] theorem State.delQueue_revoking : (s.delQueue c q).revoking = s.revoking := (rfl)
@[simp] theorem State.delQueue_atsOn : (s.delQueue c q).atsOn = s.atsOn := (rfl)
@[simp] theorem State.delQueue_herd : (s.delQueue c q).herd = s.herd := (rfl)
@[simp] theorem State.delQueue_doms : (s.delQueue c q).doms = s.doms := (rfl)
@[simp] theorem State.delQueue_group : (s.delQueue c q).group = s.group := (rfl)
@[simp] theorem State.delQueue_resetT : (s.delQueue c q).resetT = s.resetT := (rfl)
@[simp] theorem State.delQueue_faultLog : (s.delQueue c q).faultLog = s.faultLog := (rfl)
@[simp] theorem State.delQueue_devHead : (s.delQueue c q).devHead = s.devHead := (rfl)
@[simp] theorem State.delQueue_injSite : (s.delQueue c q).injSite = s.injSite := (rfl)
@[simp] theorem State.delQueue_lanesBad : (s.delQueue c q).lanesBad = s.lanesBad := (rfl)
@[simp] theorem State.delQueue_flash : (s.delQueue c q).flash = s.flash := (rfl)
@[simp] theorem State.delQueue_svn : (s.delQueue c q).svn = s.svn := (rfl)
@[simp] theorem State.delQueue_rootRev : (s.delQueue c q).rootRev = s.rootRev := (rfl)
@[simp] theorem State.delQueue_provLock : (s.delQueue c q).provLock = s.provLock := (rfl)
@[simp] theorem State.delQueue_keys : (s.delQueue c q).keys = s.keys := (rfl)
@[simp] theorem State.delQueue_fw : (s.delQueue c q).fw = s.fw := (rfl)
@[simp] theorem State.delQueue_cool : (s.delQueue c q).cool = s.cool := (rfl)
@[simp] theorem State.delQueue_railsBad : (s.delQueue c q).railsBad = s.railsBad := (rfl)
@[simp] theorem State.delQueue_tapIr : (s.delQueue c q).tapIr = s.tapIr := (rfl)
@[simp] theorem State.delQueue_tapHigh : (s.delQueue c q).tapHigh = s.tapHigh := (rfl)
@[simp] theorem State.delQueue_resetAfter : (s.delQueue c q).resetAfter = s.resetAfter := (rfl)
@[simp] theorem State.delQueue_perst : (s.delQueue c q).perst = s.perst := (rfl)
@[simp] theorem State.delQueue_numVfs : (s.delQueue c q).numVfs = s.numVfs := (rfl)
@[simp] theorem State.delQueue_lineOuts : (s.delQueue c q).lineOuts = s.lineOuts := (rfl)
@[simp] theorem State.delQueue_parked : (s.delQueue c q).parked = s.parked := (rfl)

end

/-! ### `setPlan` -/

section
variable (c h : Nat) (p : Plan)

@[simp] theorem State.setPlan_time : (s.setPlan c h p).time = s.time := (rfl)
@[simp] theorem State.setPlan_pending : (s.setPlan c h p).pending = s.pending := (rfl)
@[simp] theorem State.setPlan_out : (s.setPlan c h p).out = s.out := (rfl)
@[simp] theorem State.setPlan_fresh : (s.setPlan c h p).fresh = s.fresh := (rfl)
@[simp] theorem State.setPlan_regs : (s.setPlan c h p).regs = s.regs := (rfl)
@[simp] theorem State.setPlan_latches : (s.setPlan c h p).latches = s.latches := (rfl)
@[simp] theorem State.setPlan_holds : (s.setPlan c h p).holds = s.holds := (rfl)
@[simp] theorem State.setPlan_mem : (s.setPlan c h p).mem = s.mem := (rfl)
@[simp] theorem State.setPlan_ecc : (s.setPlan c h p).ecc = s.ecc := (rfl)
@[simp] theorem State.setPlan_ctxs : (s.setPlan c h p).ctxs = s.ctxs := (rfl)
@[simp] theorem State.setPlan_queues : (s.setPlan c h p).queues = s.queues := (rfl)
@[simp] theorem State.setPlan_cmdSeq : (s.setPlan c h p).cmdSeq = s.cmdSeq := (rfl)
@[simp] theorem State.setPlan_items : (s.setPlan c h p).items = s.items := (rfl)
@[simp] theorem State.setPlan_ranges : (s.setPlan c h p).ranges = s.ranges := (rfl)
@[simp] theorem State.setPlan_gens : (s.setPlan c h p).gens = s.gens := (rfl)
@[simp] theorem State.setPlan_tlb : (s.setPlan c h p).tlb = s.tlb := (rfl)
@[simp] theorem State.setPlan_walkCache : (s.setPlan c h p).walkCache = s.walkCache := (rfl)
@[simp] theorem State.setPlan_imports : (s.setPlan c h p).imports = s.imports := (rfl)
@[simp] theorem State.setPlan_progs : (s.setPlan c h p).progs = s.progs := (rfl)
@[simp] theorem State.setPlan_chans : (s.setPlan c h p).chans = s.chans := (rfl)
@[simp] theorem State.setPlan_encs : (s.setPlan c h p).encs = s.encs := (rfl)
@[simp] theorem State.setPlan_lineIns : (s.setPlan c h p).lineIns = s.lineIns := (rfl)
@[simp] theorem State.setPlan_unread : (s.setPlan c h p).unread = s.unread := (rfl)
@[simp] theorem State.setPlan_ceSeen : (s.setPlan c h p).ceSeen = s.ceSeen := (rfl)
@[simp] theorem State.setPlan_zeroing : (s.setPlan c h p).zeroing = s.zeroing := (rfl)
@[simp] theorem State.setPlan_ports : (s.setPlan c h p).ports = s.ports := (rfl)
@[simp] theorem State.setPlan_surface : (s.setPlan c h p).surface = s.surface := (rfl)
@[simp] theorem State.setPlan_builders : (s.setPlan c h p).builders = s.builders := (rfl)
@[simp] theorem State.setPlan_windows : (s.setPlan c h p).windows = s.windows := (rfl)
@[simp] theorem State.setPlan_acqs : (s.setPlan c h p).acqs = s.acqs := (rfl)
@[simp] theorem State.setPlan_acqRuns : (s.setPlan c h p).acqRuns = s.acqRuns := (rfl)
@[simp] theorem State.setPlan_fabric : (s.setPlan c h p).fabric = s.fabric := (rfl)
@[simp] theorem State.setPlan_strobes : (s.setPlan c h p).strobes = s.strobes := (rfl)
@[simp] theorem State.setPlan_dfcs : (s.setPlan c h p).dfcs = s.dfcs := (rfl)
@[simp] theorem State.setPlan_syncIn : (s.setPlan c h p).syncIn = s.syncIn := (rfl)
@[simp] theorem State.setPlan_energies : (s.setPlan c h p).energies = s.energies := (rfl)
@[simp] theorem State.setPlan_energyNext : (s.setPlan c h p).energyNext = s.energyNext := (rfl)
@[simp] theorem State.setPlan_betas : (s.setPlan c h p).betas = s.betas := (rfl)
@[simp] theorem State.setPlan_droops : (s.setPlan c h p).droops = s.droops := (rfl)
@[simp] theorem State.setPlan_models : (s.setPlan c h p).models = s.models := (rfl)
@[simp] theorem State.setPlan_engDies : (s.setPlan c h p).engDies = s.engDies := (rfl)
@[simp] theorem State.setPlan_copies : (s.setPlan c h p).copies = s.copies := (rfl)
@[simp] theorem State.setPlan_lastRun : (s.setPlan c h p).lastRun = s.lastRun := (rfl)
@[simp] theorem State.setPlan_unitFires : (s.setPlan c h p).unitFires = s.unitFires := (rfl)
@[simp] theorem State.setPlan_recovers : (s.setPlan c h p).recovers = s.recovers := (rfl)
@[simp] theorem State.setPlan_failFrom : (s.setPlan c h p).failFrom = s.failFrom := (rfl)
@[simp] theorem State.setPlan_chanProgs : (s.setPlan c h p).chanProgs = s.chanProgs := (rfl)
@[simp] theorem State.setPlan_chanLast : (s.setPlan c h p).chanLast = s.chanLast := (rfl)
@[simp] theorem State.setPlan_atsPend : (s.setPlan c h p).atsPend = s.atsPend := (rfl)
@[simp] theorem State.setPlan_revoking : (s.setPlan c h p).revoking = s.revoking := (rfl)
@[simp] theorem State.setPlan_atsOn : (s.setPlan c h p).atsOn = s.atsOn := (rfl)
@[simp] theorem State.setPlan_herd : (s.setPlan c h p).herd = s.herd := (rfl)
@[simp] theorem State.setPlan_doms : (s.setPlan c h p).doms = s.doms := (rfl)
@[simp] theorem State.setPlan_group : (s.setPlan c h p).group = s.group := (rfl)
@[simp] theorem State.setPlan_resetT : (s.setPlan c h p).resetT = s.resetT := (rfl)
@[simp] theorem State.setPlan_faultLog : (s.setPlan c h p).faultLog = s.faultLog := (rfl)
@[simp] theorem State.setPlan_devHead : (s.setPlan c h p).devHead = s.devHead := (rfl)
@[simp] theorem State.setPlan_injSite : (s.setPlan c h p).injSite = s.injSite := (rfl)
@[simp] theorem State.setPlan_lanesBad : (s.setPlan c h p).lanesBad = s.lanesBad := (rfl)
@[simp] theorem State.setPlan_flash : (s.setPlan c h p).flash = s.flash := (rfl)
@[simp] theorem State.setPlan_svn : (s.setPlan c h p).svn = s.svn := (rfl)
@[simp] theorem State.setPlan_rootRev : (s.setPlan c h p).rootRev = s.rootRev := (rfl)
@[simp] theorem State.setPlan_provLock : (s.setPlan c h p).provLock = s.provLock := (rfl)
@[simp] theorem State.setPlan_keys : (s.setPlan c h p).keys = s.keys := (rfl)
@[simp] theorem State.setPlan_fw : (s.setPlan c h p).fw = s.fw := (rfl)
@[simp] theorem State.setPlan_cool : (s.setPlan c h p).cool = s.cool := (rfl)
@[simp] theorem State.setPlan_railsBad : (s.setPlan c h p).railsBad = s.railsBad := (rfl)
@[simp] theorem State.setPlan_tapIr : (s.setPlan c h p).tapIr = s.tapIr := (rfl)
@[simp] theorem State.setPlan_tapHigh : (s.setPlan c h p).tapHigh = s.tapHigh := (rfl)
@[simp] theorem State.setPlan_resetAfter : (s.setPlan c h p).resetAfter = s.resetAfter := (rfl)
@[simp] theorem State.setPlan_perst : (s.setPlan c h p).perst = s.perst := (rfl)
@[simp] theorem State.setPlan_numVfs : (s.setPlan c h p).numVfs = s.numVfs := (rfl)
@[simp] theorem State.setPlan_lineOuts : (s.setPlan c h p).lineOuts = s.lineOuts := (rfl)
@[simp] theorem State.setPlan_parked : (s.setPlan c h p).parked = s.parked := (rfl)

end

/-! ### `delPlan` -/

section
variable (c h : Nat)

@[simp] theorem State.delPlan_time : (s.delPlan c h).time = s.time := (rfl)
@[simp] theorem State.delPlan_pending : (s.delPlan c h).pending = s.pending := (rfl)
@[simp] theorem State.delPlan_out : (s.delPlan c h).out = s.out := (rfl)
@[simp] theorem State.delPlan_fresh : (s.delPlan c h).fresh = s.fresh := (rfl)
@[simp] theorem State.delPlan_regs : (s.delPlan c h).regs = s.regs := (rfl)
@[simp] theorem State.delPlan_latches : (s.delPlan c h).latches = s.latches := (rfl)
@[simp] theorem State.delPlan_holds : (s.delPlan c h).holds = s.holds := (rfl)
@[simp] theorem State.delPlan_mem : (s.delPlan c h).mem = s.mem := (rfl)
@[simp] theorem State.delPlan_ecc : (s.delPlan c h).ecc = s.ecc := (rfl)
@[simp] theorem State.delPlan_ctxs : (s.delPlan c h).ctxs = s.ctxs := (rfl)
@[simp] theorem State.delPlan_queues : (s.delPlan c h).queues = s.queues := (rfl)
@[simp] theorem State.delPlan_cmdSeq : (s.delPlan c h).cmdSeq = s.cmdSeq := (rfl)
@[simp] theorem State.delPlan_items : (s.delPlan c h).items = s.items := (rfl)
@[simp] theorem State.delPlan_ranges : (s.delPlan c h).ranges = s.ranges := (rfl)
@[simp] theorem State.delPlan_gens : (s.delPlan c h).gens = s.gens := (rfl)
@[simp] theorem State.delPlan_tlb : (s.delPlan c h).tlb = s.tlb := (rfl)
@[simp] theorem State.delPlan_walkCache : (s.delPlan c h).walkCache = s.walkCache := (rfl)
@[simp] theorem State.delPlan_imports : (s.delPlan c h).imports = s.imports := (rfl)
@[simp] theorem State.delPlan_progs : (s.delPlan c h).progs = s.progs := (rfl)
@[simp] theorem State.delPlan_chans : (s.delPlan c h).chans = s.chans := (rfl)
@[simp] theorem State.delPlan_encs : (s.delPlan c h).encs = s.encs := (rfl)
@[simp] theorem State.delPlan_lineIns : (s.delPlan c h).lineIns = s.lineIns := (rfl)
@[simp] theorem State.delPlan_unread : (s.delPlan c h).unread = s.unread := (rfl)
@[simp] theorem State.delPlan_ceSeen : (s.delPlan c h).ceSeen = s.ceSeen := (rfl)
@[simp] theorem State.delPlan_zeroing : (s.delPlan c h).zeroing = s.zeroing := (rfl)
@[simp] theorem State.delPlan_ports : (s.delPlan c h).ports = s.ports := (rfl)
@[simp] theorem State.delPlan_surface : (s.delPlan c h).surface = s.surface := (rfl)
@[simp] theorem State.delPlan_builders : (s.delPlan c h).builders = s.builders := (rfl)
@[simp] theorem State.delPlan_windows : (s.delPlan c h).windows = s.windows := (rfl)
@[simp] theorem State.delPlan_acqs : (s.delPlan c h).acqs = s.acqs := (rfl)
@[simp] theorem State.delPlan_acqRuns : (s.delPlan c h).acqRuns = s.acqRuns := (rfl)
@[simp] theorem State.delPlan_fabric : (s.delPlan c h).fabric = s.fabric := (rfl)
@[simp] theorem State.delPlan_strobes : (s.delPlan c h).strobes = s.strobes := (rfl)
@[simp] theorem State.delPlan_dfcs : (s.delPlan c h).dfcs = s.dfcs := (rfl)
@[simp] theorem State.delPlan_syncIn : (s.delPlan c h).syncIn = s.syncIn := (rfl)
@[simp] theorem State.delPlan_energies : (s.delPlan c h).energies = s.energies := (rfl)
@[simp] theorem State.delPlan_energyNext : (s.delPlan c h).energyNext = s.energyNext := (rfl)
@[simp] theorem State.delPlan_betas : (s.delPlan c h).betas = s.betas := (rfl)
@[simp] theorem State.delPlan_droops : (s.delPlan c h).droops = s.droops := (rfl)
@[simp] theorem State.delPlan_models : (s.delPlan c h).models = s.models := (rfl)
@[simp] theorem State.delPlan_engDies : (s.delPlan c h).engDies = s.engDies := (rfl)
@[simp] theorem State.delPlan_copies : (s.delPlan c h).copies = s.copies := (rfl)
@[simp] theorem State.delPlan_lastRun : (s.delPlan c h).lastRun = s.lastRun := (rfl)
@[simp] theorem State.delPlan_unitFires : (s.delPlan c h).unitFires = s.unitFires := (rfl)
@[simp] theorem State.delPlan_recovers : (s.delPlan c h).recovers = s.recovers := (rfl)
@[simp] theorem State.delPlan_failFrom : (s.delPlan c h).failFrom = s.failFrom := (rfl)
@[simp] theorem State.delPlan_chanProgs : (s.delPlan c h).chanProgs = s.chanProgs := (rfl)
@[simp] theorem State.delPlan_chanLast : (s.delPlan c h).chanLast = s.chanLast := (rfl)
@[simp] theorem State.delPlan_atsPend : (s.delPlan c h).atsPend = s.atsPend := (rfl)
@[simp] theorem State.delPlan_revoking : (s.delPlan c h).revoking = s.revoking := (rfl)
@[simp] theorem State.delPlan_atsOn : (s.delPlan c h).atsOn = s.atsOn := (rfl)
@[simp] theorem State.delPlan_herd : (s.delPlan c h).herd = s.herd := (rfl)
@[simp] theorem State.delPlan_doms : (s.delPlan c h).doms = s.doms := (rfl)
@[simp] theorem State.delPlan_group : (s.delPlan c h).group = s.group := (rfl)
@[simp] theorem State.delPlan_resetT : (s.delPlan c h).resetT = s.resetT := (rfl)
@[simp] theorem State.delPlan_faultLog : (s.delPlan c h).faultLog = s.faultLog := (rfl)
@[simp] theorem State.delPlan_devHead : (s.delPlan c h).devHead = s.devHead := (rfl)
@[simp] theorem State.delPlan_injSite : (s.delPlan c h).injSite = s.injSite := (rfl)
@[simp] theorem State.delPlan_lanesBad : (s.delPlan c h).lanesBad = s.lanesBad := (rfl)
@[simp] theorem State.delPlan_flash : (s.delPlan c h).flash = s.flash := (rfl)
@[simp] theorem State.delPlan_svn : (s.delPlan c h).svn = s.svn := (rfl)
@[simp] theorem State.delPlan_rootRev : (s.delPlan c h).rootRev = s.rootRev := (rfl)
@[simp] theorem State.delPlan_provLock : (s.delPlan c h).provLock = s.provLock := (rfl)
@[simp] theorem State.delPlan_keys : (s.delPlan c h).keys = s.keys := (rfl)
@[simp] theorem State.delPlan_fw : (s.delPlan c h).fw = s.fw := (rfl)
@[simp] theorem State.delPlan_cool : (s.delPlan c h).cool = s.cool := (rfl)
@[simp] theorem State.delPlan_railsBad : (s.delPlan c h).railsBad = s.railsBad := (rfl)
@[simp] theorem State.delPlan_tapIr : (s.delPlan c h).tapIr = s.tapIr := (rfl)
@[simp] theorem State.delPlan_tapHigh : (s.delPlan c h).tapHigh = s.tapHigh := (rfl)
@[simp] theorem State.delPlan_resetAfter : (s.delPlan c h).resetAfter = s.resetAfter := (rfl)
@[simp] theorem State.delPlan_perst : (s.delPlan c h).perst = s.perst := (rfl)
@[simp] theorem State.delPlan_numVfs : (s.delPlan c h).numVfs = s.numVfs := (rfl)
@[simp] theorem State.delPlan_lineOuts : (s.delPlan c h).lineOuts = s.lineOuts := (rfl)
@[simp] theorem State.delPlan_parked : (s.delPlan c h).parked = s.parked := (rfl)

end

/-! ### `mapItems` -/

section
variable (p : Item → Bool) (f : Item → Item)

@[simp] theorem State.mapItems_time : (s.mapItems p f).time = s.time := (rfl)
@[simp] theorem State.mapItems_pending : (s.mapItems p f).pending = s.pending := (rfl)
@[simp] theorem State.mapItems_out : (s.mapItems p f).out = s.out := (rfl)
@[simp] theorem State.mapItems_fresh : (s.mapItems p f).fresh = s.fresh := (rfl)
@[simp] theorem State.mapItems_regs : (s.mapItems p f).regs = s.regs := (rfl)
@[simp] theorem State.mapItems_latches : (s.mapItems p f).latches = s.latches := (rfl)
@[simp] theorem State.mapItems_holds : (s.mapItems p f).holds = s.holds := (rfl)
@[simp] theorem State.mapItems_mem : (s.mapItems p f).mem = s.mem := (rfl)
@[simp] theorem State.mapItems_ecc : (s.mapItems p f).ecc = s.ecc := (rfl)
@[simp] theorem State.mapItems_ctxs : (s.mapItems p f).ctxs = s.ctxs := (rfl)
@[simp] theorem State.mapItems_queues : (s.mapItems p f).queues = s.queues := (rfl)
@[simp] theorem State.mapItems_cmdSeq : (s.mapItems p f).cmdSeq = s.cmdSeq := (rfl)
@[simp] theorem State.mapItems_plans : (s.mapItems p f).plans = s.plans := (rfl)
@[simp] theorem State.mapItems_ranges : (s.mapItems p f).ranges = s.ranges := (rfl)
@[simp] theorem State.mapItems_gens : (s.mapItems p f).gens = s.gens := (rfl)
@[simp] theorem State.mapItems_tlb : (s.mapItems p f).tlb = s.tlb := (rfl)
@[simp] theorem State.mapItems_walkCache : (s.mapItems p f).walkCache = s.walkCache := (rfl)
@[simp] theorem State.mapItems_imports : (s.mapItems p f).imports = s.imports := (rfl)
@[simp] theorem State.mapItems_progs : (s.mapItems p f).progs = s.progs := (rfl)
@[simp] theorem State.mapItems_chans : (s.mapItems p f).chans = s.chans := (rfl)
@[simp] theorem State.mapItems_encs : (s.mapItems p f).encs = s.encs := (rfl)
@[simp] theorem State.mapItems_lineIns : (s.mapItems p f).lineIns = s.lineIns := (rfl)
@[simp] theorem State.mapItems_unread : (s.mapItems p f).unread = s.unread := (rfl)
@[simp] theorem State.mapItems_ceSeen : (s.mapItems p f).ceSeen = s.ceSeen := (rfl)
@[simp] theorem State.mapItems_zeroing : (s.mapItems p f).zeroing = s.zeroing := (rfl)
@[simp] theorem State.mapItems_ports : (s.mapItems p f).ports = s.ports := (rfl)
@[simp] theorem State.mapItems_surface : (s.mapItems p f).surface = s.surface := (rfl)
@[simp] theorem State.mapItems_builders : (s.mapItems p f).builders = s.builders := (rfl)
@[simp] theorem State.mapItems_windows : (s.mapItems p f).windows = s.windows := (rfl)
@[simp] theorem State.mapItems_acqs : (s.mapItems p f).acqs = s.acqs := (rfl)
@[simp] theorem State.mapItems_acqRuns : (s.mapItems p f).acqRuns = s.acqRuns := (rfl)
@[simp] theorem State.mapItems_fabric : (s.mapItems p f).fabric = s.fabric := (rfl)
@[simp] theorem State.mapItems_strobes : (s.mapItems p f).strobes = s.strobes := (rfl)
@[simp] theorem State.mapItems_dfcs : (s.mapItems p f).dfcs = s.dfcs := (rfl)
@[simp] theorem State.mapItems_syncIn : (s.mapItems p f).syncIn = s.syncIn := (rfl)
@[simp] theorem State.mapItems_energies : (s.mapItems p f).energies = s.energies := (rfl)
@[simp] theorem State.mapItems_energyNext : (s.mapItems p f).energyNext = s.energyNext := (rfl)
@[simp] theorem State.mapItems_betas : (s.mapItems p f).betas = s.betas := (rfl)
@[simp] theorem State.mapItems_droops : (s.mapItems p f).droops = s.droops := (rfl)
@[simp] theorem State.mapItems_models : (s.mapItems p f).models = s.models := (rfl)
@[simp] theorem State.mapItems_engDies : (s.mapItems p f).engDies = s.engDies := (rfl)
@[simp] theorem State.mapItems_copies : (s.mapItems p f).copies = s.copies := (rfl)
@[simp] theorem State.mapItems_lastRun : (s.mapItems p f).lastRun = s.lastRun := (rfl)
@[simp] theorem State.mapItems_unitFires : (s.mapItems p f).unitFires = s.unitFires := (rfl)
@[simp] theorem State.mapItems_recovers : (s.mapItems p f).recovers = s.recovers := (rfl)
@[simp] theorem State.mapItems_failFrom : (s.mapItems p f).failFrom = s.failFrom := (rfl)
@[simp] theorem State.mapItems_chanProgs : (s.mapItems p f).chanProgs = s.chanProgs := (rfl)
@[simp] theorem State.mapItems_chanLast : (s.mapItems p f).chanLast = s.chanLast := (rfl)
@[simp] theorem State.mapItems_atsPend : (s.mapItems p f).atsPend = s.atsPend := (rfl)
@[simp] theorem State.mapItems_revoking : (s.mapItems p f).revoking = s.revoking := (rfl)
@[simp] theorem State.mapItems_atsOn : (s.mapItems p f).atsOn = s.atsOn := (rfl)
@[simp] theorem State.mapItems_herd : (s.mapItems p f).herd = s.herd := (rfl)
@[simp] theorem State.mapItems_doms : (s.mapItems p f).doms = s.doms := (rfl)
@[simp] theorem State.mapItems_group : (s.mapItems p f).group = s.group := (rfl)
@[simp] theorem State.mapItems_resetT : (s.mapItems p f).resetT = s.resetT := (rfl)
@[simp] theorem State.mapItems_faultLog : (s.mapItems p f).faultLog = s.faultLog := (rfl)
@[simp] theorem State.mapItems_devHead : (s.mapItems p f).devHead = s.devHead := (rfl)
@[simp] theorem State.mapItems_injSite : (s.mapItems p f).injSite = s.injSite := (rfl)
@[simp] theorem State.mapItems_lanesBad : (s.mapItems p f).lanesBad = s.lanesBad := (rfl)
@[simp] theorem State.mapItems_flash : (s.mapItems p f).flash = s.flash := (rfl)
@[simp] theorem State.mapItems_svn : (s.mapItems p f).svn = s.svn := (rfl)
@[simp] theorem State.mapItems_rootRev : (s.mapItems p f).rootRev = s.rootRev := (rfl)
@[simp] theorem State.mapItems_provLock : (s.mapItems p f).provLock = s.provLock := (rfl)
@[simp] theorem State.mapItems_keys : (s.mapItems p f).keys = s.keys := (rfl)
@[simp] theorem State.mapItems_fw : (s.mapItems p f).fw = s.fw := (rfl)
@[simp] theorem State.mapItems_cool : (s.mapItems p f).cool = s.cool := (rfl)
@[simp] theorem State.mapItems_railsBad : (s.mapItems p f).railsBad = s.railsBad := (rfl)
@[simp] theorem State.mapItems_tapIr : (s.mapItems p f).tapIr = s.tapIr := (rfl)
@[simp] theorem State.mapItems_tapHigh : (s.mapItems p f).tapHigh = s.tapHigh := (rfl)
@[simp] theorem State.mapItems_resetAfter : (s.mapItems p f).resetAfter = s.resetAfter := (rfl)
@[simp] theorem State.mapItems_perst : (s.mapItems p f).perst = s.perst := (rfl)
@[simp] theorem State.mapItems_numVfs : (s.mapItems p f).numVfs = s.numVfs := (rfl)
@[simp] theorem State.mapItems_lineOuts : (s.mapItems p f).lineOuts = s.lineOuts := (rfl)
@[simp] theorem State.mapItems_parked : (s.mapItems p f).parked = s.parked := (rfl)

end

/-! ### `put` -/

section
variable (f : Fld) (v : Nat)

@[simp] theorem State.put_time : (s.put f v).time = s.time := (rfl)
@[simp] theorem State.put_pending : (s.put f v).pending = s.pending := (rfl)
@[simp] theorem State.put_out : (s.put f v).out = s.out := (rfl)
@[simp] theorem State.put_fresh : (s.put f v).fresh = s.fresh := (rfl)
@[simp] theorem State.put_latches : (s.put f v).latches = s.latches := (rfl)
@[simp] theorem State.put_holds : (s.put f v).holds = s.holds := (rfl)
@[simp] theorem State.put_mem : (s.put f v).mem = s.mem := (rfl)
@[simp] theorem State.put_ecc : (s.put f v).ecc = s.ecc := (rfl)
@[simp] theorem State.put_ctxs : (s.put f v).ctxs = s.ctxs := (rfl)
@[simp] theorem State.put_queues : (s.put f v).queues = s.queues := (rfl)
@[simp] theorem State.put_cmdSeq : (s.put f v).cmdSeq = s.cmdSeq := (rfl)
@[simp] theorem State.put_plans : (s.put f v).plans = s.plans := (rfl)
@[simp] theorem State.put_items : (s.put f v).items = s.items := (rfl)
@[simp] theorem State.put_ranges : (s.put f v).ranges = s.ranges := (rfl)
@[simp] theorem State.put_gens : (s.put f v).gens = s.gens := (rfl)
@[simp] theorem State.put_tlb : (s.put f v).tlb = s.tlb := (rfl)
@[simp] theorem State.put_walkCache : (s.put f v).walkCache = s.walkCache := (rfl)
@[simp] theorem State.put_imports : (s.put f v).imports = s.imports := (rfl)
@[simp] theorem State.put_progs : (s.put f v).progs = s.progs := (rfl)
@[simp] theorem State.put_chans : (s.put f v).chans = s.chans := (rfl)
@[simp] theorem State.put_encs : (s.put f v).encs = s.encs := (rfl)
@[simp] theorem State.put_lineIns : (s.put f v).lineIns = s.lineIns := (rfl)
@[simp] theorem State.put_unread : (s.put f v).unread = s.unread := (rfl)
@[simp] theorem State.put_ceSeen : (s.put f v).ceSeen = s.ceSeen := (rfl)
@[simp] theorem State.put_zeroing : (s.put f v).zeroing = s.zeroing := (rfl)
@[simp] theorem State.put_ports : (s.put f v).ports = s.ports := (rfl)
@[simp] theorem State.put_surface : (s.put f v).surface = s.surface := (rfl)
@[simp] theorem State.put_builders : (s.put f v).builders = s.builders := (rfl)
@[simp] theorem State.put_windows : (s.put f v).windows = s.windows := (rfl)
@[simp] theorem State.put_acqs : (s.put f v).acqs = s.acqs := (rfl)
@[simp] theorem State.put_acqRuns : (s.put f v).acqRuns = s.acqRuns := (rfl)
@[simp] theorem State.put_fabric : (s.put f v).fabric = s.fabric := (rfl)
@[simp] theorem State.put_strobes : (s.put f v).strobes = s.strobes := (rfl)
@[simp] theorem State.put_dfcs : (s.put f v).dfcs = s.dfcs := (rfl)
@[simp] theorem State.put_syncIn : (s.put f v).syncIn = s.syncIn := (rfl)
@[simp] theorem State.put_energies : (s.put f v).energies = s.energies := (rfl)
@[simp] theorem State.put_energyNext : (s.put f v).energyNext = s.energyNext := (rfl)
@[simp] theorem State.put_betas : (s.put f v).betas = s.betas := (rfl)
@[simp] theorem State.put_droops : (s.put f v).droops = s.droops := (rfl)
@[simp] theorem State.put_models : (s.put f v).models = s.models := (rfl)
@[simp] theorem State.put_engDies : (s.put f v).engDies = s.engDies := (rfl)
@[simp] theorem State.put_copies : (s.put f v).copies = s.copies := (rfl)
@[simp] theorem State.put_lastRun : (s.put f v).lastRun = s.lastRun := (rfl)
@[simp] theorem State.put_unitFires : (s.put f v).unitFires = s.unitFires := (rfl)
@[simp] theorem State.put_recovers : (s.put f v).recovers = s.recovers := (rfl)
@[simp] theorem State.put_failFrom : (s.put f v).failFrom = s.failFrom := (rfl)
@[simp] theorem State.put_chanProgs : (s.put f v).chanProgs = s.chanProgs := (rfl)
@[simp] theorem State.put_chanLast : (s.put f v).chanLast = s.chanLast := (rfl)
@[simp] theorem State.put_atsPend : (s.put f v).atsPend = s.atsPend := (rfl)
@[simp] theorem State.put_revoking : (s.put f v).revoking = s.revoking := (rfl)
@[simp] theorem State.put_atsOn : (s.put f v).atsOn = s.atsOn := (rfl)
@[simp] theorem State.put_herd : (s.put f v).herd = s.herd := (rfl)
@[simp] theorem State.put_doms : (s.put f v).doms = s.doms := (rfl)
@[simp] theorem State.put_group : (s.put f v).group = s.group := (rfl)
@[simp] theorem State.put_resetT : (s.put f v).resetT = s.resetT := (rfl)
@[simp] theorem State.put_faultLog : (s.put f v).faultLog = s.faultLog := (rfl)
@[simp] theorem State.put_devHead : (s.put f v).devHead = s.devHead := (rfl)
@[simp] theorem State.put_injSite : (s.put f v).injSite = s.injSite := (rfl)
@[simp] theorem State.put_lanesBad : (s.put f v).lanesBad = s.lanesBad := (rfl)
@[simp] theorem State.put_flash : (s.put f v).flash = s.flash := (rfl)
@[simp] theorem State.put_svn : (s.put f v).svn = s.svn := (rfl)
@[simp] theorem State.put_rootRev : (s.put f v).rootRev = s.rootRev := (rfl)
@[simp] theorem State.put_provLock : (s.put f v).provLock = s.provLock := (rfl)
@[simp] theorem State.put_keys : (s.put f v).keys = s.keys := (rfl)
@[simp] theorem State.put_fw : (s.put f v).fw = s.fw := (rfl)
@[simp] theorem State.put_cool : (s.put f v).cool = s.cool := (rfl)
@[simp] theorem State.put_railsBad : (s.put f v).railsBad = s.railsBad := (rfl)
@[simp] theorem State.put_tapIr : (s.put f v).tapIr = s.tapIr := (rfl)
@[simp] theorem State.put_tapHigh : (s.put f v).tapHigh = s.tapHigh := (rfl)
@[simp] theorem State.put_resetAfter : (s.put f v).resetAfter = s.resetAfter := (rfl)
@[simp] theorem State.put_perst : (s.put f v).perst = s.perst := (rfl)
@[simp] theorem State.put_numVfs : (s.put f v).numVfs = s.numVfs := (rfl)
@[simp] theorem State.put_lineOuts : (s.put f v).lineOuts = s.lineOuts := (rfl)
@[simp] theorem State.put_parked : (s.put f v).parked = s.parked := (rfl)

end

/-! ### `putBit` -/

section
variable (f : Fld) (n : Nat) (b : Bool)

@[simp] theorem State.putBit_time : (s.putBit f n b).time = s.time := (rfl)
@[simp] theorem State.putBit_pending : (s.putBit f n b).pending = s.pending := (rfl)
@[simp] theorem State.putBit_out : (s.putBit f n b).out = s.out := (rfl)
@[simp] theorem State.putBit_fresh : (s.putBit f n b).fresh = s.fresh := (rfl)
@[simp] theorem State.putBit_latches : (s.putBit f n b).latches = s.latches := (rfl)
@[simp] theorem State.putBit_holds : (s.putBit f n b).holds = s.holds := (rfl)
@[simp] theorem State.putBit_mem : (s.putBit f n b).mem = s.mem := (rfl)
@[simp] theorem State.putBit_ecc : (s.putBit f n b).ecc = s.ecc := (rfl)
@[simp] theorem State.putBit_ctxs : (s.putBit f n b).ctxs = s.ctxs := (rfl)
@[simp] theorem State.putBit_queues : (s.putBit f n b).queues = s.queues := (rfl)
@[simp] theorem State.putBit_cmdSeq : (s.putBit f n b).cmdSeq = s.cmdSeq := (rfl)
@[simp] theorem State.putBit_plans : (s.putBit f n b).plans = s.plans := (rfl)
@[simp] theorem State.putBit_items : (s.putBit f n b).items = s.items := (rfl)
@[simp] theorem State.putBit_ranges : (s.putBit f n b).ranges = s.ranges := (rfl)
@[simp] theorem State.putBit_gens : (s.putBit f n b).gens = s.gens := (rfl)
@[simp] theorem State.putBit_tlb : (s.putBit f n b).tlb = s.tlb := (rfl)
@[simp] theorem State.putBit_walkCache : (s.putBit f n b).walkCache = s.walkCache := (rfl)
@[simp] theorem State.putBit_imports : (s.putBit f n b).imports = s.imports := (rfl)
@[simp] theorem State.putBit_progs : (s.putBit f n b).progs = s.progs := (rfl)
@[simp] theorem State.putBit_chans : (s.putBit f n b).chans = s.chans := (rfl)
@[simp] theorem State.putBit_encs : (s.putBit f n b).encs = s.encs := (rfl)
@[simp] theorem State.putBit_lineIns : (s.putBit f n b).lineIns = s.lineIns := (rfl)
@[simp] theorem State.putBit_unread : (s.putBit f n b).unread = s.unread := (rfl)
@[simp] theorem State.putBit_ceSeen : (s.putBit f n b).ceSeen = s.ceSeen := (rfl)
@[simp] theorem State.putBit_zeroing : (s.putBit f n b).zeroing = s.zeroing := (rfl)
@[simp] theorem State.putBit_ports : (s.putBit f n b).ports = s.ports := (rfl)
@[simp] theorem State.putBit_surface : (s.putBit f n b).surface = s.surface := (rfl)
@[simp] theorem State.putBit_builders : (s.putBit f n b).builders = s.builders := (rfl)
@[simp] theorem State.putBit_windows : (s.putBit f n b).windows = s.windows := (rfl)
@[simp] theorem State.putBit_acqs : (s.putBit f n b).acqs = s.acqs := (rfl)
@[simp] theorem State.putBit_acqRuns : (s.putBit f n b).acqRuns = s.acqRuns := (rfl)
@[simp] theorem State.putBit_fabric : (s.putBit f n b).fabric = s.fabric := (rfl)
@[simp] theorem State.putBit_strobes : (s.putBit f n b).strobes = s.strobes := (rfl)
@[simp] theorem State.putBit_dfcs : (s.putBit f n b).dfcs = s.dfcs := (rfl)
@[simp] theorem State.putBit_syncIn : (s.putBit f n b).syncIn = s.syncIn := (rfl)
@[simp] theorem State.putBit_energies : (s.putBit f n b).energies = s.energies := (rfl)
@[simp] theorem State.putBit_energyNext : (s.putBit f n b).energyNext = s.energyNext := (rfl)
@[simp] theorem State.putBit_betas : (s.putBit f n b).betas = s.betas := (rfl)
@[simp] theorem State.putBit_droops : (s.putBit f n b).droops = s.droops := (rfl)
@[simp] theorem State.putBit_models : (s.putBit f n b).models = s.models := (rfl)
@[simp] theorem State.putBit_engDies : (s.putBit f n b).engDies = s.engDies := (rfl)
@[simp] theorem State.putBit_copies : (s.putBit f n b).copies = s.copies := (rfl)
@[simp] theorem State.putBit_lastRun : (s.putBit f n b).lastRun = s.lastRun := (rfl)
@[simp] theorem State.putBit_unitFires : (s.putBit f n b).unitFires = s.unitFires := (rfl)
@[simp] theorem State.putBit_recovers : (s.putBit f n b).recovers = s.recovers := (rfl)
@[simp] theorem State.putBit_failFrom : (s.putBit f n b).failFrom = s.failFrom := (rfl)
@[simp] theorem State.putBit_chanProgs : (s.putBit f n b).chanProgs = s.chanProgs := (rfl)
@[simp] theorem State.putBit_chanLast : (s.putBit f n b).chanLast = s.chanLast := (rfl)
@[simp] theorem State.putBit_atsPend : (s.putBit f n b).atsPend = s.atsPend := (rfl)
@[simp] theorem State.putBit_revoking : (s.putBit f n b).revoking = s.revoking := (rfl)
@[simp] theorem State.putBit_atsOn : (s.putBit f n b).atsOn = s.atsOn := (rfl)
@[simp] theorem State.putBit_herd : (s.putBit f n b).herd = s.herd := (rfl)
@[simp] theorem State.putBit_doms : (s.putBit f n b).doms = s.doms := (rfl)
@[simp] theorem State.putBit_group : (s.putBit f n b).group = s.group := (rfl)
@[simp] theorem State.putBit_resetT : (s.putBit f n b).resetT = s.resetT := (rfl)
@[simp] theorem State.putBit_faultLog : (s.putBit f n b).faultLog = s.faultLog := (rfl)
@[simp] theorem State.putBit_devHead : (s.putBit f n b).devHead = s.devHead := (rfl)
@[simp] theorem State.putBit_injSite : (s.putBit f n b).injSite = s.injSite := (rfl)
@[simp] theorem State.putBit_lanesBad : (s.putBit f n b).lanesBad = s.lanesBad := (rfl)
@[simp] theorem State.putBit_flash : (s.putBit f n b).flash = s.flash := (rfl)
@[simp] theorem State.putBit_svn : (s.putBit f n b).svn = s.svn := (rfl)
@[simp] theorem State.putBit_rootRev : (s.putBit f n b).rootRev = s.rootRev := (rfl)
@[simp] theorem State.putBit_provLock : (s.putBit f n b).provLock = s.provLock := (rfl)
@[simp] theorem State.putBit_keys : (s.putBit f n b).keys = s.keys := (rfl)
@[simp] theorem State.putBit_fw : (s.putBit f n b).fw = s.fw := (rfl)
@[simp] theorem State.putBit_cool : (s.putBit f n b).cool = s.cool := (rfl)
@[simp] theorem State.putBit_railsBad : (s.putBit f n b).railsBad = s.railsBad := (rfl)
@[simp] theorem State.putBit_tapIr : (s.putBit f n b).tapIr = s.tapIr := (rfl)
@[simp] theorem State.putBit_tapHigh : (s.putBit f n b).tapHigh = s.tapHigh := (rfl)
@[simp] theorem State.putBit_resetAfter : (s.putBit f n b).resetAfter = s.resetAfter := (rfl)
@[simp] theorem State.putBit_perst : (s.putBit f n b).perst = s.perst := (rfl)
@[simp] theorem State.putBit_numVfs : (s.putBit f n b).numVfs = s.numVfs := (rfl)
@[simp] theorem State.putBit_lineOuts : (s.putBit f n b).lineOuts = s.lineOuts := (rfl)
@[simp] theorem State.putBit_parked : (s.putBit f n b).parked = s.parked := (rfl)

end

/-! ### `incSat` -/

section
variable (f : Fld) (n : Nat)

@[simp] theorem State.incSat_time : (s.incSat f n).time = s.time := (rfl)
@[simp] theorem State.incSat_pending : (s.incSat f n).pending = s.pending := (rfl)
@[simp] theorem State.incSat_out : (s.incSat f n).out = s.out := (rfl)
@[simp] theorem State.incSat_fresh : (s.incSat f n).fresh = s.fresh := (rfl)
@[simp] theorem State.incSat_latches : (s.incSat f n).latches = s.latches := (rfl)
@[simp] theorem State.incSat_holds : (s.incSat f n).holds = s.holds := (rfl)
@[simp] theorem State.incSat_mem : (s.incSat f n).mem = s.mem := (rfl)
@[simp] theorem State.incSat_ecc : (s.incSat f n).ecc = s.ecc := (rfl)
@[simp] theorem State.incSat_ctxs : (s.incSat f n).ctxs = s.ctxs := (rfl)
@[simp] theorem State.incSat_queues : (s.incSat f n).queues = s.queues := (rfl)
@[simp] theorem State.incSat_cmdSeq : (s.incSat f n).cmdSeq = s.cmdSeq := (rfl)
@[simp] theorem State.incSat_plans : (s.incSat f n).plans = s.plans := (rfl)
@[simp] theorem State.incSat_items : (s.incSat f n).items = s.items := (rfl)
@[simp] theorem State.incSat_ranges : (s.incSat f n).ranges = s.ranges := (rfl)
@[simp] theorem State.incSat_gens : (s.incSat f n).gens = s.gens := (rfl)
@[simp] theorem State.incSat_tlb : (s.incSat f n).tlb = s.tlb := (rfl)
@[simp] theorem State.incSat_walkCache : (s.incSat f n).walkCache = s.walkCache := (rfl)
@[simp] theorem State.incSat_imports : (s.incSat f n).imports = s.imports := (rfl)
@[simp] theorem State.incSat_progs : (s.incSat f n).progs = s.progs := (rfl)
@[simp] theorem State.incSat_chans : (s.incSat f n).chans = s.chans := (rfl)
@[simp] theorem State.incSat_encs : (s.incSat f n).encs = s.encs := (rfl)
@[simp] theorem State.incSat_lineIns : (s.incSat f n).lineIns = s.lineIns := (rfl)
@[simp] theorem State.incSat_unread : (s.incSat f n).unread = s.unread := (rfl)
@[simp] theorem State.incSat_ceSeen : (s.incSat f n).ceSeen = s.ceSeen := (rfl)
@[simp] theorem State.incSat_zeroing : (s.incSat f n).zeroing = s.zeroing := (rfl)
@[simp] theorem State.incSat_ports : (s.incSat f n).ports = s.ports := (rfl)
@[simp] theorem State.incSat_surface : (s.incSat f n).surface = s.surface := (rfl)
@[simp] theorem State.incSat_builders : (s.incSat f n).builders = s.builders := (rfl)
@[simp] theorem State.incSat_windows : (s.incSat f n).windows = s.windows := (rfl)
@[simp] theorem State.incSat_acqs : (s.incSat f n).acqs = s.acqs := (rfl)
@[simp] theorem State.incSat_acqRuns : (s.incSat f n).acqRuns = s.acqRuns := (rfl)
@[simp] theorem State.incSat_fabric : (s.incSat f n).fabric = s.fabric := (rfl)
@[simp] theorem State.incSat_strobes : (s.incSat f n).strobes = s.strobes := (rfl)
@[simp] theorem State.incSat_dfcs : (s.incSat f n).dfcs = s.dfcs := (rfl)
@[simp] theorem State.incSat_syncIn : (s.incSat f n).syncIn = s.syncIn := (rfl)
@[simp] theorem State.incSat_energies : (s.incSat f n).energies = s.energies := (rfl)
@[simp] theorem State.incSat_energyNext : (s.incSat f n).energyNext = s.energyNext := (rfl)
@[simp] theorem State.incSat_betas : (s.incSat f n).betas = s.betas := (rfl)
@[simp] theorem State.incSat_droops : (s.incSat f n).droops = s.droops := (rfl)
@[simp] theorem State.incSat_models : (s.incSat f n).models = s.models := (rfl)
@[simp] theorem State.incSat_engDies : (s.incSat f n).engDies = s.engDies := (rfl)
@[simp] theorem State.incSat_copies : (s.incSat f n).copies = s.copies := (rfl)
@[simp] theorem State.incSat_lastRun : (s.incSat f n).lastRun = s.lastRun := (rfl)
@[simp] theorem State.incSat_unitFires : (s.incSat f n).unitFires = s.unitFires := (rfl)
@[simp] theorem State.incSat_recovers : (s.incSat f n).recovers = s.recovers := (rfl)
@[simp] theorem State.incSat_failFrom : (s.incSat f n).failFrom = s.failFrom := (rfl)
@[simp] theorem State.incSat_chanProgs : (s.incSat f n).chanProgs = s.chanProgs := (rfl)
@[simp] theorem State.incSat_chanLast : (s.incSat f n).chanLast = s.chanLast := (rfl)
@[simp] theorem State.incSat_atsPend : (s.incSat f n).atsPend = s.atsPend := (rfl)
@[simp] theorem State.incSat_revoking : (s.incSat f n).revoking = s.revoking := (rfl)
@[simp] theorem State.incSat_atsOn : (s.incSat f n).atsOn = s.atsOn := (rfl)
@[simp] theorem State.incSat_herd : (s.incSat f n).herd = s.herd := (rfl)
@[simp] theorem State.incSat_doms : (s.incSat f n).doms = s.doms := (rfl)
@[simp] theorem State.incSat_group : (s.incSat f n).group = s.group := (rfl)
@[simp] theorem State.incSat_resetT : (s.incSat f n).resetT = s.resetT := (rfl)
@[simp] theorem State.incSat_faultLog : (s.incSat f n).faultLog = s.faultLog := (rfl)
@[simp] theorem State.incSat_devHead : (s.incSat f n).devHead = s.devHead := (rfl)
@[simp] theorem State.incSat_injSite : (s.incSat f n).injSite = s.injSite := (rfl)
@[simp] theorem State.incSat_lanesBad : (s.incSat f n).lanesBad = s.lanesBad := (rfl)
@[simp] theorem State.incSat_flash : (s.incSat f n).flash = s.flash := (rfl)
@[simp] theorem State.incSat_svn : (s.incSat f n).svn = s.svn := (rfl)
@[simp] theorem State.incSat_rootRev : (s.incSat f n).rootRev = s.rootRev := (rfl)
@[simp] theorem State.incSat_provLock : (s.incSat f n).provLock = s.provLock := (rfl)
@[simp] theorem State.incSat_keys : (s.incSat f n).keys = s.keys := (rfl)
@[simp] theorem State.incSat_fw : (s.incSat f n).fw = s.fw := (rfl)
@[simp] theorem State.incSat_cool : (s.incSat f n).cool = s.cool := (rfl)
@[simp] theorem State.incSat_railsBad : (s.incSat f n).railsBad = s.railsBad := (rfl)
@[simp] theorem State.incSat_tapIr : (s.incSat f n).tapIr = s.tapIr := (rfl)
@[simp] theorem State.incSat_tapHigh : (s.incSat f n).tapHigh = s.tapHigh := (rfl)
@[simp] theorem State.incSat_resetAfter : (s.incSat f n).resetAfter = s.resetAfter := (rfl)
@[simp] theorem State.incSat_perst : (s.incSat f n).perst = s.perst := (rfl)
@[simp] theorem State.incSat_numVfs : (s.incSat f n).numVfs = s.numVfs := (rfl)
@[simp] theorem State.incSat_lineOuts : (s.incSat f n).lineOuts = s.lineOuts := (rfl)
@[simp] theorem State.incSat_parked : (s.incSat f n).parked = s.parked := (rfl)

end

/-! ### `incWrap` -/

section
variable (f : Fld) (n : Nat)

@[simp] theorem State.incWrap_time : (s.incWrap f n).time = s.time := (rfl)
@[simp] theorem State.incWrap_pending : (s.incWrap f n).pending = s.pending := (rfl)
@[simp] theorem State.incWrap_out : (s.incWrap f n).out = s.out := (rfl)
@[simp] theorem State.incWrap_fresh : (s.incWrap f n).fresh = s.fresh := (rfl)
@[simp] theorem State.incWrap_latches : (s.incWrap f n).latches = s.latches := (rfl)
@[simp] theorem State.incWrap_holds : (s.incWrap f n).holds = s.holds := (rfl)
@[simp] theorem State.incWrap_mem : (s.incWrap f n).mem = s.mem := (rfl)
@[simp] theorem State.incWrap_ecc : (s.incWrap f n).ecc = s.ecc := (rfl)
@[simp] theorem State.incWrap_ctxs : (s.incWrap f n).ctxs = s.ctxs := (rfl)
@[simp] theorem State.incWrap_queues : (s.incWrap f n).queues = s.queues := (rfl)
@[simp] theorem State.incWrap_cmdSeq : (s.incWrap f n).cmdSeq = s.cmdSeq := (rfl)
@[simp] theorem State.incWrap_plans : (s.incWrap f n).plans = s.plans := (rfl)
@[simp] theorem State.incWrap_items : (s.incWrap f n).items = s.items := (rfl)
@[simp] theorem State.incWrap_ranges : (s.incWrap f n).ranges = s.ranges := (rfl)
@[simp] theorem State.incWrap_gens : (s.incWrap f n).gens = s.gens := (rfl)
@[simp] theorem State.incWrap_tlb : (s.incWrap f n).tlb = s.tlb := (rfl)
@[simp] theorem State.incWrap_walkCache : (s.incWrap f n).walkCache = s.walkCache := (rfl)
@[simp] theorem State.incWrap_imports : (s.incWrap f n).imports = s.imports := (rfl)
@[simp] theorem State.incWrap_progs : (s.incWrap f n).progs = s.progs := (rfl)
@[simp] theorem State.incWrap_chans : (s.incWrap f n).chans = s.chans := (rfl)
@[simp] theorem State.incWrap_encs : (s.incWrap f n).encs = s.encs := (rfl)
@[simp] theorem State.incWrap_lineIns : (s.incWrap f n).lineIns = s.lineIns := (rfl)
@[simp] theorem State.incWrap_unread : (s.incWrap f n).unread = s.unread := (rfl)
@[simp] theorem State.incWrap_ceSeen : (s.incWrap f n).ceSeen = s.ceSeen := (rfl)
@[simp] theorem State.incWrap_zeroing : (s.incWrap f n).zeroing = s.zeroing := (rfl)
@[simp] theorem State.incWrap_ports : (s.incWrap f n).ports = s.ports := (rfl)
@[simp] theorem State.incWrap_surface : (s.incWrap f n).surface = s.surface := (rfl)
@[simp] theorem State.incWrap_builders : (s.incWrap f n).builders = s.builders := (rfl)
@[simp] theorem State.incWrap_windows : (s.incWrap f n).windows = s.windows := (rfl)
@[simp] theorem State.incWrap_acqs : (s.incWrap f n).acqs = s.acqs := (rfl)
@[simp] theorem State.incWrap_acqRuns : (s.incWrap f n).acqRuns = s.acqRuns := (rfl)
@[simp] theorem State.incWrap_fabric : (s.incWrap f n).fabric = s.fabric := (rfl)
@[simp] theorem State.incWrap_strobes : (s.incWrap f n).strobes = s.strobes := (rfl)
@[simp] theorem State.incWrap_dfcs : (s.incWrap f n).dfcs = s.dfcs := (rfl)
@[simp] theorem State.incWrap_syncIn : (s.incWrap f n).syncIn = s.syncIn := (rfl)
@[simp] theorem State.incWrap_energies : (s.incWrap f n).energies = s.energies := (rfl)
@[simp] theorem State.incWrap_energyNext : (s.incWrap f n).energyNext = s.energyNext := (rfl)
@[simp] theorem State.incWrap_betas : (s.incWrap f n).betas = s.betas := (rfl)
@[simp] theorem State.incWrap_droops : (s.incWrap f n).droops = s.droops := (rfl)
@[simp] theorem State.incWrap_models : (s.incWrap f n).models = s.models := (rfl)
@[simp] theorem State.incWrap_engDies : (s.incWrap f n).engDies = s.engDies := (rfl)
@[simp] theorem State.incWrap_copies : (s.incWrap f n).copies = s.copies := (rfl)
@[simp] theorem State.incWrap_lastRun : (s.incWrap f n).lastRun = s.lastRun := (rfl)
@[simp] theorem State.incWrap_unitFires : (s.incWrap f n).unitFires = s.unitFires := (rfl)
@[simp] theorem State.incWrap_recovers : (s.incWrap f n).recovers = s.recovers := (rfl)
@[simp] theorem State.incWrap_failFrom : (s.incWrap f n).failFrom = s.failFrom := (rfl)
@[simp] theorem State.incWrap_chanProgs : (s.incWrap f n).chanProgs = s.chanProgs := (rfl)
@[simp] theorem State.incWrap_chanLast : (s.incWrap f n).chanLast = s.chanLast := (rfl)
@[simp] theorem State.incWrap_atsPend : (s.incWrap f n).atsPend = s.atsPend := (rfl)
@[simp] theorem State.incWrap_revoking : (s.incWrap f n).revoking = s.revoking := (rfl)
@[simp] theorem State.incWrap_atsOn : (s.incWrap f n).atsOn = s.atsOn := (rfl)
@[simp] theorem State.incWrap_herd : (s.incWrap f n).herd = s.herd := (rfl)
@[simp] theorem State.incWrap_doms : (s.incWrap f n).doms = s.doms := (rfl)
@[simp] theorem State.incWrap_group : (s.incWrap f n).group = s.group := (rfl)
@[simp] theorem State.incWrap_resetT : (s.incWrap f n).resetT = s.resetT := (rfl)
@[simp] theorem State.incWrap_faultLog : (s.incWrap f n).faultLog = s.faultLog := (rfl)
@[simp] theorem State.incWrap_devHead : (s.incWrap f n).devHead = s.devHead := (rfl)
@[simp] theorem State.incWrap_injSite : (s.incWrap f n).injSite = s.injSite := (rfl)
@[simp] theorem State.incWrap_lanesBad : (s.incWrap f n).lanesBad = s.lanesBad := (rfl)
@[simp] theorem State.incWrap_flash : (s.incWrap f n).flash = s.flash := (rfl)
@[simp] theorem State.incWrap_svn : (s.incWrap f n).svn = s.svn := (rfl)
@[simp] theorem State.incWrap_rootRev : (s.incWrap f n).rootRev = s.rootRev := (rfl)
@[simp] theorem State.incWrap_provLock : (s.incWrap f n).provLock = s.provLock := (rfl)
@[simp] theorem State.incWrap_keys : (s.incWrap f n).keys = s.keys := (rfl)
@[simp] theorem State.incWrap_fw : (s.incWrap f n).fw = s.fw := (rfl)
@[simp] theorem State.incWrap_cool : (s.incWrap f n).cool = s.cool := (rfl)
@[simp] theorem State.incWrap_railsBad : (s.incWrap f n).railsBad = s.railsBad := (rfl)
@[simp] theorem State.incWrap_tapIr : (s.incWrap f n).tapIr = s.tapIr := (rfl)
@[simp] theorem State.incWrap_tapHigh : (s.incWrap f n).tapHigh = s.tapHigh := (rfl)
@[simp] theorem State.incWrap_resetAfter : (s.incWrap f n).resetAfter = s.resetAfter := (rfl)
@[simp] theorem State.incWrap_perst : (s.incWrap f n).perst = s.perst := (rfl)
@[simp] theorem State.incWrap_numVfs : (s.incWrap f n).numVfs = s.numVfs := (rfl)
@[simp] theorem State.incWrap_lineOuts : (s.incWrap f n).lineOuts = s.lineOuts := (rfl)
@[simp] theorem State.incWrap_parked : (s.incWrap f n).parked = s.parked := (rfl)

end

/-! ### `faultItems` -/

section
variable (p : Item → Bool)

@[simp] theorem State.faultItems_time : (s.faultItems p).time = s.time := (rfl)
@[simp] theorem State.faultItems_pending : (s.faultItems p).pending = s.pending := (rfl)
@[simp] theorem State.faultItems_out : (s.faultItems p).out = s.out := (rfl)
@[simp] theorem State.faultItems_fresh : (s.faultItems p).fresh = s.fresh := (rfl)
@[simp] theorem State.faultItems_regs : (s.faultItems p).regs = s.regs := (rfl)
@[simp] theorem State.faultItems_mem : (s.faultItems p).mem = s.mem := (rfl)
@[simp] theorem State.faultItems_ecc : (s.faultItems p).ecc = s.ecc := (rfl)
@[simp] theorem State.faultItems_ctxs : (s.faultItems p).ctxs = s.ctxs := (rfl)
@[simp] theorem State.faultItems_queues : (s.faultItems p).queues = s.queues := (rfl)
@[simp] theorem State.faultItems_cmdSeq : (s.faultItems p).cmdSeq = s.cmdSeq := (rfl)
@[simp] theorem State.faultItems_plans : (s.faultItems p).plans = s.plans := (rfl)
@[simp] theorem State.faultItems_ranges : (s.faultItems p).ranges = s.ranges := (rfl)
@[simp] theorem State.faultItems_tlb : (s.faultItems p).tlb = s.tlb := (rfl)
@[simp] theorem State.faultItems_chans : (s.faultItems p).chans = s.chans := (rfl)
@[simp] theorem State.faultItems_encs : (s.faultItems p).encs = s.encs := (rfl)
@[simp] theorem State.faultItems_lineIns : (s.faultItems p).lineIns = s.lineIns := (rfl)
@[simp] theorem State.faultItems_lineOuts : (s.faultItems p).lineOuts = s.lineOuts := (rfl)
@[simp] theorem State.faultItems_ports : (s.faultItems p).ports = s.ports := (rfl)
@[simp] theorem State.faultItems_acqs : (s.faultItems p).acqs = s.acqs := (rfl)
@[simp] theorem State.faultItems_dfcs : (s.faultItems p).dfcs = s.dfcs := (rfl)
@[simp] theorem State.faultItems_models : (s.faultItems p).models = s.models := (rfl)
@[simp] theorem State.faultItems_engDies : (s.faultItems p).engDies = s.engDies := (rfl)
@[simp] theorem State.faultItems_herd : (s.faultItems p).herd = s.herd := (rfl)
@[simp] theorem State.faultItems_doms : (s.faultItems p).doms = s.doms := (rfl)
@[simp] theorem State.faultItems_group : (s.faultItems p).group = s.group := (rfl)
@[simp] theorem State.faultItems_faultLog : (s.faultItems p).faultLog = s.faultLog := (rfl)
@[simp] theorem State.faultItems_flash : (s.faultItems p).flash = s.flash := (rfl)
@[simp] theorem State.faultItems_keys : (s.faultItems p).keys = s.keys := (rfl)
@[simp] theorem State.faultItems_provLock : (s.faultItems p).provLock = s.provLock := (rfl)
@[simp] theorem State.faultItems_svn : (s.faultItems p).svn = s.svn := (rfl)
@[simp] theorem State.faultItems_rootRev : (s.faultItems p).rootRev = s.rootRev := (rfl)

end

/-! ### `incompleteItems` -/

section
variable (p : Item → Bool)

@[simp] theorem State.incompleteItems_time : (s.incompleteItems p).time = s.time := (rfl)
@[simp] theorem State.incompleteItems_pending : (s.incompleteItems p).pending = s.pending := (rfl)
@[simp] theorem State.incompleteItems_out : (s.incompleteItems p).out = s.out := (rfl)
@[simp] theorem State.incompleteItems_fresh : (s.incompleteItems p).fresh = s.fresh := (rfl)
@[simp] theorem State.incompleteItems_regs : (s.incompleteItems p).regs = s.regs := (rfl)
@[simp] theorem State.incompleteItems_mem : (s.incompleteItems p).mem = s.mem := (rfl)
@[simp] theorem State.incompleteItems_ecc : (s.incompleteItems p).ecc = s.ecc := (rfl)
@[simp] theorem State.incompleteItems_ctxs : (s.incompleteItems p).ctxs = s.ctxs := (rfl)
@[simp] theorem State.incompleteItems_queues : (s.incompleteItems p).queues = s.queues := (rfl)
@[simp] theorem State.incompleteItems_cmdSeq : (s.incompleteItems p).cmdSeq = s.cmdSeq := (rfl)
@[simp] theorem State.incompleteItems_plans : (s.incompleteItems p).plans = s.plans := (rfl)
@[simp] theorem State.incompleteItems_ranges : (s.incompleteItems p).ranges = s.ranges := (rfl)
@[simp] theorem State.incompleteItems_tlb : (s.incompleteItems p).tlb = s.tlb := (rfl)
@[simp] theorem State.incompleteItems_chans : (s.incompleteItems p).chans = s.chans := (rfl)
@[simp] theorem State.incompleteItems_encs : (s.incompleteItems p).encs = s.encs := (rfl)
@[simp] theorem State.incompleteItems_lineIns : (s.incompleteItems p).lineIns = s.lineIns := (rfl)
@[simp] theorem State.incompleteItems_lineOuts : (s.incompleteItems p).lineOuts = s.lineOuts := (rfl)
@[simp] theorem State.incompleteItems_ports : (s.incompleteItems p).ports = s.ports := (rfl)
@[simp] theorem State.incompleteItems_acqs : (s.incompleteItems p).acqs = s.acqs := (rfl)
@[simp] theorem State.incompleteItems_dfcs : (s.incompleteItems p).dfcs = s.dfcs := (rfl)
@[simp] theorem State.incompleteItems_models : (s.incompleteItems p).models = s.models := (rfl)
@[simp] theorem State.incompleteItems_engDies : (s.incompleteItems p).engDies = s.engDies := (rfl)
@[simp] theorem State.incompleteItems_herd : (s.incompleteItems p).herd = s.herd := (rfl)
@[simp] theorem State.incompleteItems_doms : (s.incompleteItems p).doms = s.doms := (rfl)
@[simp] theorem State.incompleteItems_group : (s.incompleteItems p).group = s.group := (rfl)
@[simp] theorem State.incompleteItems_faultLog : (s.incompleteItems p).faultLog = s.faultLog := (rfl)
@[simp] theorem State.incompleteItems_flash : (s.incompleteItems p).flash = s.flash := (rfl)
@[simp] theorem State.incompleteItems_keys : (s.incompleteItems p).keys = s.keys := (rfl)
@[simp] theorem State.incompleteItems_provLock : (s.incompleteItems p).provLock = s.provLock := (rfl)
@[simp] theorem State.incompleteItems_svn : (s.incompleteItems p).svn = s.svn := (rfl)
@[simp] theorem State.incompleteItems_rootRev : (s.incompleteItems p).rootRev = s.rootRev := (rfl)

end

/-! ### `setPort` -/

section
variable (p : Nat) (x : EvpPort)

@[simp] theorem State.setPort_time : (s.setPort p x).time = s.time := (rfl)
@[simp] theorem State.setPort_pending : (s.setPort p x).pending = s.pending := (rfl)
@[simp] theorem State.setPort_out : (s.setPort p x).out = s.out := (rfl)
@[simp] theorem State.setPort_fresh : (s.setPort p x).fresh = s.fresh := (rfl)
@[simp] theorem State.setPort_regs : (s.setPort p x).regs = s.regs := (rfl)
@[simp] theorem State.setPort_mem : (s.setPort p x).mem = s.mem := (rfl)
@[simp] theorem State.setPort_ecc : (s.setPort p x).ecc = s.ecc := (rfl)
@[simp] theorem State.setPort_ctxs : (s.setPort p x).ctxs = s.ctxs := (rfl)
@[simp] theorem State.setPort_queues : (s.setPort p x).queues = s.queues := (rfl)
@[simp] theorem State.setPort_cmdSeq : (s.setPort p x).cmdSeq = s.cmdSeq := (rfl)
@[simp] theorem State.setPort_plans : (s.setPort p x).plans = s.plans := (rfl)
@[simp] theorem State.setPort_items : (s.setPort p x).items = s.items := (rfl)
@[simp] theorem State.setPort_ranges : (s.setPort p x).ranges = s.ranges := (rfl)
@[simp] theorem State.setPort_tlb : (s.setPort p x).tlb = s.tlb := (rfl)
@[simp] theorem State.setPort_chans : (s.setPort p x).chans = s.chans := (rfl)
@[simp] theorem State.setPort_encs : (s.setPort p x).encs = s.encs := (rfl)
@[simp] theorem State.setPort_lineIns : (s.setPort p x).lineIns = s.lineIns := (rfl)
@[simp] theorem State.setPort_lineOuts : (s.setPort p x).lineOuts = s.lineOuts := (rfl)
@[simp] theorem State.setPort_acqs : (s.setPort p x).acqs = s.acqs := (rfl)
@[simp] theorem State.setPort_dfcs : (s.setPort p x).dfcs = s.dfcs := (rfl)
@[simp] theorem State.setPort_models : (s.setPort p x).models = s.models := (rfl)
@[simp] theorem State.setPort_engDies : (s.setPort p x).engDies = s.engDies := (rfl)
@[simp] theorem State.setPort_herd : (s.setPort p x).herd = s.herd := (rfl)
@[simp] theorem State.setPort_doms : (s.setPort p x).doms = s.doms := (rfl)
@[simp] theorem State.setPort_group : (s.setPort p x).group = s.group := (rfl)
@[simp] theorem State.setPort_faultLog : (s.setPort p x).faultLog = s.faultLog := (rfl)
@[simp] theorem State.setPort_flash : (s.setPort p x).flash = s.flash := (rfl)
@[simp] theorem State.setPort_keys : (s.setPort p x).keys = s.keys := (rfl)
@[simp] theorem State.setPort_provLock : (s.setPort p x).provLock = s.provLock := (rfl)
@[simp] theorem State.setPort_svn : (s.setPort p x).svn = s.svn := (rfl)
@[simp] theorem State.setPort_rootRev : (s.setPort p x).rootRev = s.rootRev := (rfl)

end

/-! ### `setAcq` -/

section
variable (n : Nat) (x : AcqChan)

@[simp] theorem State.setAcq_time : (s.setAcq n x).time = s.time := (rfl)
@[simp] theorem State.setAcq_pending : (s.setAcq n x).pending = s.pending := (rfl)
@[simp] theorem State.setAcq_out : (s.setAcq n x).out = s.out := (rfl)
@[simp] theorem State.setAcq_fresh : (s.setAcq n x).fresh = s.fresh := (rfl)
@[simp] theorem State.setAcq_regs : (s.setAcq n x).regs = s.regs := (rfl)
@[simp] theorem State.setAcq_mem : (s.setAcq n x).mem = s.mem := (rfl)
@[simp] theorem State.setAcq_ecc : (s.setAcq n x).ecc = s.ecc := (rfl)
@[simp] theorem State.setAcq_ctxs : (s.setAcq n x).ctxs = s.ctxs := (rfl)
@[simp] theorem State.setAcq_queues : (s.setAcq n x).queues = s.queues := (rfl)
@[simp] theorem State.setAcq_cmdSeq : (s.setAcq n x).cmdSeq = s.cmdSeq := (rfl)
@[simp] theorem State.setAcq_plans : (s.setAcq n x).plans = s.plans := (rfl)
@[simp] theorem State.setAcq_items : (s.setAcq n x).items = s.items := (rfl)
@[simp] theorem State.setAcq_ranges : (s.setAcq n x).ranges = s.ranges := (rfl)
@[simp] theorem State.setAcq_tlb : (s.setAcq n x).tlb = s.tlb := (rfl)
@[simp] theorem State.setAcq_chans : (s.setAcq n x).chans = s.chans := (rfl)
@[simp] theorem State.setAcq_encs : (s.setAcq n x).encs = s.encs := (rfl)
@[simp] theorem State.setAcq_lineIns : (s.setAcq n x).lineIns = s.lineIns := (rfl)
@[simp] theorem State.setAcq_lineOuts : (s.setAcq n x).lineOuts = s.lineOuts := (rfl)
@[simp] theorem State.setAcq_ports : (s.setAcq n x).ports = s.ports := (rfl)
@[simp] theorem State.setAcq_dfcs : (s.setAcq n x).dfcs = s.dfcs := (rfl)
@[simp] theorem State.setAcq_models : (s.setAcq n x).models = s.models := (rfl)
@[simp] theorem State.setAcq_engDies : (s.setAcq n x).engDies = s.engDies := (rfl)
@[simp] theorem State.setAcq_herd : (s.setAcq n x).herd = s.herd := (rfl)
@[simp] theorem State.setAcq_doms : (s.setAcq n x).doms = s.doms := (rfl)
@[simp] theorem State.setAcq_group : (s.setAcq n x).group = s.group := (rfl)
@[simp] theorem State.setAcq_faultLog : (s.setAcq n x).faultLog = s.faultLog := (rfl)
@[simp] theorem State.setAcq_flash : (s.setAcq n x).flash = s.flash := (rfl)
@[simp] theorem State.setAcq_keys : (s.setAcq n x).keys = s.keys := (rfl)
@[simp] theorem State.setAcq_provLock : (s.setAcq n x).provLock = s.provLock := (rfl)
@[simp] theorem State.setAcq_svn : (s.setAcq n x).svn = s.svn := (rfl)
@[simp] theorem State.setAcq_rootRev : (s.setAcq n x).rootRev = s.rootRev := (rfl)

end

/-! ### `setDfc` -/

section
variable (n : Nat) (x : DfcChan)

@[simp] theorem State.setDfc_time : (s.setDfc n x).time = s.time := (rfl)
@[simp] theorem State.setDfc_pending : (s.setDfc n x).pending = s.pending := (rfl)
@[simp] theorem State.setDfc_out : (s.setDfc n x).out = s.out := (rfl)
@[simp] theorem State.setDfc_fresh : (s.setDfc n x).fresh = s.fresh := (rfl)
@[simp] theorem State.setDfc_regs : (s.setDfc n x).regs = s.regs := (rfl)
@[simp] theorem State.setDfc_mem : (s.setDfc n x).mem = s.mem := (rfl)
@[simp] theorem State.setDfc_ecc : (s.setDfc n x).ecc = s.ecc := (rfl)
@[simp] theorem State.setDfc_ctxs : (s.setDfc n x).ctxs = s.ctxs := (rfl)
@[simp] theorem State.setDfc_queues : (s.setDfc n x).queues = s.queues := (rfl)
@[simp] theorem State.setDfc_cmdSeq : (s.setDfc n x).cmdSeq = s.cmdSeq := (rfl)
@[simp] theorem State.setDfc_plans : (s.setDfc n x).plans = s.plans := (rfl)
@[simp] theorem State.setDfc_items : (s.setDfc n x).items = s.items := (rfl)
@[simp] theorem State.setDfc_ranges : (s.setDfc n x).ranges = s.ranges := (rfl)
@[simp] theorem State.setDfc_tlb : (s.setDfc n x).tlb = s.tlb := (rfl)
@[simp] theorem State.setDfc_chans : (s.setDfc n x).chans = s.chans := (rfl)
@[simp] theorem State.setDfc_encs : (s.setDfc n x).encs = s.encs := (rfl)
@[simp] theorem State.setDfc_lineIns : (s.setDfc n x).lineIns = s.lineIns := (rfl)
@[simp] theorem State.setDfc_lineOuts : (s.setDfc n x).lineOuts = s.lineOuts := (rfl)
@[simp] theorem State.setDfc_ports : (s.setDfc n x).ports = s.ports := (rfl)
@[simp] theorem State.setDfc_acqs : (s.setDfc n x).acqs = s.acqs := (rfl)
@[simp] theorem State.setDfc_models : (s.setDfc n x).models = s.models := (rfl)
@[simp] theorem State.setDfc_engDies : (s.setDfc n x).engDies = s.engDies := (rfl)
@[simp] theorem State.setDfc_herd : (s.setDfc n x).herd = s.herd := (rfl)
@[simp] theorem State.setDfc_doms : (s.setDfc n x).doms = s.doms := (rfl)
@[simp] theorem State.setDfc_group : (s.setDfc n x).group = s.group := (rfl)
@[simp] theorem State.setDfc_faultLog : (s.setDfc n x).faultLog = s.faultLog := (rfl)
@[simp] theorem State.setDfc_flash : (s.setDfc n x).flash = s.flash := (rfl)
@[simp] theorem State.setDfc_keys : (s.setDfc n x).keys = s.keys := (rfl)
@[simp] theorem State.setDfc_provLock : (s.setDfc n x).provLock = s.provLock := (rfl)
@[simp] theorem State.setDfc_svn : (s.setDfc n x).svn = s.svn := (rfl)
@[simp] theorem State.setDfc_rootRev : (s.setDfc n x).rootRev = s.rootRev := (rfl)

end

/-! ### `setEnc` -/

section
variable (n : Nat) (e : Enc)

@[simp] theorem State.setEnc_time : (s.setEnc n e).time = s.time := (rfl)
@[simp] theorem State.setEnc_pending : (s.setEnc n e).pending = s.pending := (rfl)
@[simp] theorem State.setEnc_out : (s.setEnc n e).out = s.out := (rfl)
@[simp] theorem State.setEnc_fresh : (s.setEnc n e).fresh = s.fresh := (rfl)
@[simp] theorem State.setEnc_regs : (s.setEnc n e).regs = s.regs := (rfl)
@[simp] theorem State.setEnc_mem : (s.setEnc n e).mem = s.mem := (rfl)
@[simp] theorem State.setEnc_ecc : (s.setEnc n e).ecc = s.ecc := (rfl)
@[simp] theorem State.setEnc_ctxs : (s.setEnc n e).ctxs = s.ctxs := (rfl)
@[simp] theorem State.setEnc_queues : (s.setEnc n e).queues = s.queues := (rfl)
@[simp] theorem State.setEnc_cmdSeq : (s.setEnc n e).cmdSeq = s.cmdSeq := (rfl)
@[simp] theorem State.setEnc_plans : (s.setEnc n e).plans = s.plans := (rfl)
@[simp] theorem State.setEnc_items : (s.setEnc n e).items = s.items := (rfl)
@[simp] theorem State.setEnc_ranges : (s.setEnc n e).ranges = s.ranges := (rfl)
@[simp] theorem State.setEnc_tlb : (s.setEnc n e).tlb = s.tlb := (rfl)
@[simp] theorem State.setEnc_chans : (s.setEnc n e).chans = s.chans := (rfl)
@[simp] theorem State.setEnc_lineIns : (s.setEnc n e).lineIns = s.lineIns := (rfl)
@[simp] theorem State.setEnc_lineOuts : (s.setEnc n e).lineOuts = s.lineOuts := (rfl)
@[simp] theorem State.setEnc_ports : (s.setEnc n e).ports = s.ports := (rfl)
@[simp] theorem State.setEnc_acqs : (s.setEnc n e).acqs = s.acqs := (rfl)
@[simp] theorem State.setEnc_dfcs : (s.setEnc n e).dfcs = s.dfcs := (rfl)
@[simp] theorem State.setEnc_models : (s.setEnc n e).models = s.models := (rfl)
@[simp] theorem State.setEnc_engDies : (s.setEnc n e).engDies = s.engDies := (rfl)
@[simp] theorem State.setEnc_herd : (s.setEnc n e).herd = s.herd := (rfl)
@[simp] theorem State.setEnc_doms : (s.setEnc n e).doms = s.doms := (rfl)
@[simp] theorem State.setEnc_group : (s.setEnc n e).group = s.group := (rfl)
@[simp] theorem State.setEnc_faultLog : (s.setEnc n e).faultLog = s.faultLog := (rfl)
@[simp] theorem State.setEnc_flash : (s.setEnc n e).flash = s.flash := (rfl)
@[simp] theorem State.setEnc_keys : (s.setEnc n e).keys = s.keys := (rfl)
@[simp] theorem State.setEnc_provLock : (s.setEnc n e).provLock = s.provLock := (rfl)
@[simp] theorem State.setEnc_svn : (s.setEnc n e).svn = s.svn := (rfl)
@[simp] theorem State.setEnc_rootRev : (s.setEnc n e).rootRev = s.rootRev := (rfl)

end

/-! ### `setLineIn` -/

section
variable (i : Nat) (l : LineIn)

@[simp] theorem State.setLineIn_time : (s.setLineIn i l).time = s.time := (rfl)
@[simp] theorem State.setLineIn_pending : (s.setLineIn i l).pending = s.pending := (rfl)
@[simp] theorem State.setLineIn_out : (s.setLineIn i l).out = s.out := (rfl)
@[simp] theorem State.setLineIn_fresh : (s.setLineIn i l).fresh = s.fresh := (rfl)
@[simp] theorem State.setLineIn_regs : (s.setLineIn i l).regs = s.regs := (rfl)
@[simp] theorem State.setLineIn_mem : (s.setLineIn i l).mem = s.mem := (rfl)
@[simp] theorem State.setLineIn_ecc : (s.setLineIn i l).ecc = s.ecc := (rfl)
@[simp] theorem State.setLineIn_ctxs : (s.setLineIn i l).ctxs = s.ctxs := (rfl)
@[simp] theorem State.setLineIn_queues : (s.setLineIn i l).queues = s.queues := (rfl)
@[simp] theorem State.setLineIn_cmdSeq : (s.setLineIn i l).cmdSeq = s.cmdSeq := (rfl)
@[simp] theorem State.setLineIn_plans : (s.setLineIn i l).plans = s.plans := (rfl)
@[simp] theorem State.setLineIn_items : (s.setLineIn i l).items = s.items := (rfl)
@[simp] theorem State.setLineIn_ranges : (s.setLineIn i l).ranges = s.ranges := (rfl)
@[simp] theorem State.setLineIn_tlb : (s.setLineIn i l).tlb = s.tlb := (rfl)
@[simp] theorem State.setLineIn_chans : (s.setLineIn i l).chans = s.chans := (rfl)
@[simp] theorem State.setLineIn_encs : (s.setLineIn i l).encs = s.encs := (rfl)
@[simp] theorem State.setLineIn_lineOuts : (s.setLineIn i l).lineOuts = s.lineOuts := (rfl)
@[simp] theorem State.setLineIn_ports : (s.setLineIn i l).ports = s.ports := (rfl)
@[simp] theorem State.setLineIn_acqs : (s.setLineIn i l).acqs = s.acqs := (rfl)
@[simp] theorem State.setLineIn_dfcs : (s.setLineIn i l).dfcs = s.dfcs := (rfl)
@[simp] theorem State.setLineIn_models : (s.setLineIn i l).models = s.models := (rfl)
@[simp] theorem State.setLineIn_engDies : (s.setLineIn i l).engDies = s.engDies := (rfl)
@[simp] theorem State.setLineIn_herd : (s.setLineIn i l).herd = s.herd := (rfl)
@[simp] theorem State.setLineIn_doms : (s.setLineIn i l).doms = s.doms := (rfl)
@[simp] theorem State.setLineIn_group : (s.setLineIn i l).group = s.group := (rfl)
@[simp] theorem State.setLineIn_faultLog : (s.setLineIn i l).faultLog = s.faultLog := (rfl)
@[simp] theorem State.setLineIn_flash : (s.setLineIn i l).flash = s.flash := (rfl)
@[simp] theorem State.setLineIn_keys : (s.setLineIn i l).keys = s.keys := (rfl)
@[simp] theorem State.setLineIn_provLock : (s.setLineIn i l).provLock = s.provLock := (rfl)
@[simp] theorem State.setLineIn_svn : (s.setLineIn i l).svn = s.svn := (rfl)
@[simp] theorem State.setLineIn_rootRev : (s.setLineIn i l).rootRev = s.rootRev := (rfl)

end

/-! ### `setLineOut` -/

section
variable (j : Nat) (l : LineOut)

@[simp] theorem State.setLineOut_time : (s.setLineOut j l).time = s.time := (rfl)
@[simp] theorem State.setLineOut_pending : (s.setLineOut j l).pending = s.pending := (rfl)
@[simp] theorem State.setLineOut_out : (s.setLineOut j l).out = s.out := (rfl)
@[simp] theorem State.setLineOut_fresh : (s.setLineOut j l).fresh = s.fresh := (rfl)
@[simp] theorem State.setLineOut_regs : (s.setLineOut j l).regs = s.regs := (rfl)
@[simp] theorem State.setLineOut_mem : (s.setLineOut j l).mem = s.mem := (rfl)
@[simp] theorem State.setLineOut_ecc : (s.setLineOut j l).ecc = s.ecc := (rfl)
@[simp] theorem State.setLineOut_ctxs : (s.setLineOut j l).ctxs = s.ctxs := (rfl)
@[simp] theorem State.setLineOut_queues : (s.setLineOut j l).queues = s.queues := (rfl)
@[simp] theorem State.setLineOut_cmdSeq : (s.setLineOut j l).cmdSeq = s.cmdSeq := (rfl)
@[simp] theorem State.setLineOut_plans : (s.setLineOut j l).plans = s.plans := (rfl)
@[simp] theorem State.setLineOut_items : (s.setLineOut j l).items = s.items := (rfl)
@[simp] theorem State.setLineOut_ranges : (s.setLineOut j l).ranges = s.ranges := (rfl)
@[simp] theorem State.setLineOut_tlb : (s.setLineOut j l).tlb = s.tlb := (rfl)
@[simp] theorem State.setLineOut_chans : (s.setLineOut j l).chans = s.chans := (rfl)
@[simp] theorem State.setLineOut_encs : (s.setLineOut j l).encs = s.encs := (rfl)
@[simp] theorem State.setLineOut_lineIns : (s.setLineOut j l).lineIns = s.lineIns := (rfl)
@[simp] theorem State.setLineOut_ports : (s.setLineOut j l).ports = s.ports := (rfl)
@[simp] theorem State.setLineOut_acqs : (s.setLineOut j l).acqs = s.acqs := (rfl)
@[simp] theorem State.setLineOut_dfcs : (s.setLineOut j l).dfcs = s.dfcs := (rfl)
@[simp] theorem State.setLineOut_models : (s.setLineOut j l).models = s.models := (rfl)
@[simp] theorem State.setLineOut_engDies : (s.setLineOut j l).engDies = s.engDies := (rfl)
@[simp] theorem State.setLineOut_herd : (s.setLineOut j l).herd = s.herd := (rfl)
@[simp] theorem State.setLineOut_doms : (s.setLineOut j l).doms = s.doms := (rfl)
@[simp] theorem State.setLineOut_group : (s.setLineOut j l).group = s.group := (rfl)
@[simp] theorem State.setLineOut_faultLog : (s.setLineOut j l).faultLog = s.faultLog := (rfl)
@[simp] theorem State.setLineOut_flash : (s.setLineOut j l).flash = s.flash := (rfl)
@[simp] theorem State.setLineOut_keys : (s.setLineOut j l).keys = s.keys := (rfl)
@[simp] theorem State.setLineOut_provLock : (s.setLineOut j l).provLock = s.provLock := (rfl)
@[simp] theorem State.setLineOut_svn : (s.setLineOut j l).svn = s.svn := (rfl)
@[simp] theorem State.setLineOut_rootRev : (s.setLineOut j l).rootRev = s.rootRev := (rfl)

end

/-! ### `setChan` -/

section
variable (n : Nat) (x : ChanRun)

@[simp] theorem State.setChan_time : (s.setChan n x).time = s.time := (rfl)
@[simp] theorem State.setChan_pending : (s.setChan n x).pending = s.pending := (rfl)
@[simp] theorem State.setChan_out : (s.setChan n x).out = s.out := (rfl)
@[simp] theorem State.setChan_fresh : (s.setChan n x).fresh = s.fresh := (rfl)
@[simp] theorem State.setChan_regs : (s.setChan n x).regs = s.regs := (rfl)
@[simp] theorem State.setChan_mem : (s.setChan n x).mem = s.mem := (rfl)
@[simp] theorem State.setChan_ecc : (s.setChan n x).ecc = s.ecc := (rfl)
@[simp] theorem State.setChan_ctxs : (s.setChan n x).ctxs = s.ctxs := (rfl)
@[simp] theorem State.setChan_queues : (s.setChan n x).queues = s.queues := (rfl)
@[simp] theorem State.setChan_cmdSeq : (s.setChan n x).cmdSeq = s.cmdSeq := (rfl)
@[simp] theorem State.setChan_plans : (s.setChan n x).plans = s.plans := (rfl)
@[simp] theorem State.setChan_items : (s.setChan n x).items = s.items := (rfl)
@[simp] theorem State.setChan_ranges : (s.setChan n x).ranges = s.ranges := (rfl)
@[simp] theorem State.setChan_tlb : (s.setChan n x).tlb = s.tlb := (rfl)
@[simp] theorem State.setChan_encs : (s.setChan n x).encs = s.encs := (rfl)
@[simp] theorem State.setChan_lineIns : (s.setChan n x).lineIns = s.lineIns := (rfl)
@[simp] theorem State.setChan_lineOuts : (s.setChan n x).lineOuts = s.lineOuts := (rfl)
@[simp] theorem State.setChan_ports : (s.setChan n x).ports = s.ports := (rfl)
@[simp] theorem State.setChan_acqs : (s.setChan n x).acqs = s.acqs := (rfl)
@[simp] theorem State.setChan_dfcs : (s.setChan n x).dfcs = s.dfcs := (rfl)
@[simp] theorem State.setChan_models : (s.setChan n x).models = s.models := (rfl)
@[simp] theorem State.setChan_engDies : (s.setChan n x).engDies = s.engDies := (rfl)
@[simp] theorem State.setChan_herd : (s.setChan n x).herd = s.herd := (rfl)
@[simp] theorem State.setChan_doms : (s.setChan n x).doms = s.doms := (rfl)
@[simp] theorem State.setChan_group : (s.setChan n x).group = s.group := (rfl)
@[simp] theorem State.setChan_faultLog : (s.setChan n x).faultLog = s.faultLog := (rfl)
@[simp] theorem State.setChan_flash : (s.setChan n x).flash = s.flash := (rfl)
@[simp] theorem State.setChan_keys : (s.setChan n x).keys = s.keys := (rfl)
@[simp] theorem State.setChan_provLock : (s.setChan n x).provLock = s.provLock := (rfl)
@[simp] theorem State.setChan_svn : (s.setChan n x).svn = s.svn := (rfl)
@[simp] theorem State.setChan_rootRev : (s.setChan n x).rootRev = s.rootRev := (rfl)

end

/-! ### `delChan` -/

section
variable (n : Nat)

@[simp] theorem State.delChan_time : (s.delChan n).time = s.time := (rfl)
@[simp] theorem State.delChan_pending : (s.delChan n).pending = s.pending := (rfl)
@[simp] theorem State.delChan_out : (s.delChan n).out = s.out := (rfl)
@[simp] theorem State.delChan_fresh : (s.delChan n).fresh = s.fresh := (rfl)
@[simp] theorem State.delChan_regs : (s.delChan n).regs = s.regs := (rfl)
@[simp] theorem State.delChan_mem : (s.delChan n).mem = s.mem := (rfl)
@[simp] theorem State.delChan_ecc : (s.delChan n).ecc = s.ecc := (rfl)
@[simp] theorem State.delChan_ctxs : (s.delChan n).ctxs = s.ctxs := (rfl)
@[simp] theorem State.delChan_queues : (s.delChan n).queues = s.queues := (rfl)
@[simp] theorem State.delChan_cmdSeq : (s.delChan n).cmdSeq = s.cmdSeq := (rfl)
@[simp] theorem State.delChan_plans : (s.delChan n).plans = s.plans := (rfl)
@[simp] theorem State.delChan_items : (s.delChan n).items = s.items := (rfl)
@[simp] theorem State.delChan_ranges : (s.delChan n).ranges = s.ranges := (rfl)
@[simp] theorem State.delChan_tlb : (s.delChan n).tlb = s.tlb := (rfl)
@[simp] theorem State.delChan_encs : (s.delChan n).encs = s.encs := (rfl)
@[simp] theorem State.delChan_lineIns : (s.delChan n).lineIns = s.lineIns := (rfl)
@[simp] theorem State.delChan_lineOuts : (s.delChan n).lineOuts = s.lineOuts := (rfl)
@[simp] theorem State.delChan_ports : (s.delChan n).ports = s.ports := (rfl)
@[simp] theorem State.delChan_acqs : (s.delChan n).acqs = s.acqs := (rfl)
@[simp] theorem State.delChan_dfcs : (s.delChan n).dfcs = s.dfcs := (rfl)
@[simp] theorem State.delChan_models : (s.delChan n).models = s.models := (rfl)
@[simp] theorem State.delChan_engDies : (s.delChan n).engDies = s.engDies := (rfl)
@[simp] theorem State.delChan_herd : (s.delChan n).herd = s.herd := (rfl)
@[simp] theorem State.delChan_doms : (s.delChan n).doms = s.doms := (rfl)
@[simp] theorem State.delChan_group : (s.delChan n).group = s.group := (rfl)
@[simp] theorem State.delChan_faultLog : (s.delChan n).faultLog = s.faultLog := (rfl)
@[simp] theorem State.delChan_flash : (s.delChan n).flash = s.flash := (rfl)
@[simp] theorem State.delChan_keys : (s.delChan n).keys = s.keys := (rfl)
@[simp] theorem State.delChan_provLock : (s.delChan n).provLock = s.provLock := (rfl)
@[simp] theorem State.delChan_svn : (s.delChan n).svn = s.svn := (rfl)
@[simp] theorem State.delChan_rootRev : (s.delChan n).rootRev = s.rootRev := (rfl)

end

/-! ### `setRange` -/

section
variable (k : Nat) (r : Range)

@[simp] theorem State.setRange_time : (s.setRange k r).time = s.time := (rfl)
@[simp] theorem State.setRange_pending : (s.setRange k r).pending = s.pending := (rfl)
@[simp] theorem State.setRange_out : (s.setRange k r).out = s.out := (rfl)
@[simp] theorem State.setRange_fresh : (s.setRange k r).fresh = s.fresh := (rfl)
@[simp] theorem State.setRange_regs : (s.setRange k r).regs = s.regs := (rfl)
@[simp] theorem State.setRange_mem : (s.setRange k r).mem = s.mem := (rfl)
@[simp] theorem State.setRange_ecc : (s.setRange k r).ecc = s.ecc := (rfl)
@[simp] theorem State.setRange_ctxs : (s.setRange k r).ctxs = s.ctxs := (rfl)
@[simp] theorem State.setRange_queues : (s.setRange k r).queues = s.queues := (rfl)
@[simp] theorem State.setRange_cmdSeq : (s.setRange k r).cmdSeq = s.cmdSeq := (rfl)
@[simp] theorem State.setRange_plans : (s.setRange k r).plans = s.plans := (rfl)
@[simp] theorem State.setRange_items : (s.setRange k r).items = s.items := (rfl)
@[simp] theorem State.setRange_tlb : (s.setRange k r).tlb = s.tlb := (rfl)
@[simp] theorem State.setRange_chans : (s.setRange k r).chans = s.chans := (rfl)
@[simp] theorem State.setRange_encs : (s.setRange k r).encs = s.encs := (rfl)
@[simp] theorem State.setRange_lineIns : (s.setRange k r).lineIns = s.lineIns := (rfl)
@[simp] theorem State.setRange_lineOuts : (s.setRange k r).lineOuts = s.lineOuts := (rfl)
@[simp] theorem State.setRange_ports : (s.setRange k r).ports = s.ports := (rfl)
@[simp] theorem State.setRange_acqs : (s.setRange k r).acqs = s.acqs := (rfl)
@[simp] theorem State.setRange_dfcs : (s.setRange k r).dfcs = s.dfcs := (rfl)
@[simp] theorem State.setRange_models : (s.setRange k r).models = s.models := (rfl)
@[simp] theorem State.setRange_engDies : (s.setRange k r).engDies = s.engDies := (rfl)
@[simp] theorem State.setRange_herd : (s.setRange k r).herd = s.herd := (rfl)
@[simp] theorem State.setRange_doms : (s.setRange k r).doms = s.doms := (rfl)
@[simp] theorem State.setRange_group : (s.setRange k r).group = s.group := (rfl)
@[simp] theorem State.setRange_faultLog : (s.setRange k r).faultLog = s.faultLog := (rfl)
@[simp] theorem State.setRange_flash : (s.setRange k r).flash = s.flash := (rfl)
@[simp] theorem State.setRange_keys : (s.setRange k r).keys = s.keys := (rfl)
@[simp] theorem State.setRange_provLock : (s.setRange k r).provLock = s.provLock := (rfl)
@[simp] theorem State.setRange_svn : (s.setRange k r).svn = s.svn := (rfl)
@[simp] theorem State.setRange_rootRev : (s.setRange k r).rootRev = s.rootRev := (rfl)

end

/-! ### `setDom` -/

section
variable (d : Nat) (x : Dom)

@[simp] theorem State.setDom_time : (s.setDom d x).time = s.time := (rfl)
@[simp] theorem State.setDom_pending : (s.setDom d x).pending = s.pending := (rfl)
@[simp] theorem State.setDom_out : (s.setDom d x).out = s.out := (rfl)
@[simp] theorem State.setDom_fresh : (s.setDom d x).fresh = s.fresh := (rfl)
@[simp] theorem State.setDom_regs : (s.setDom d x).regs = s.regs := (rfl)
@[simp] theorem State.setDom_mem : (s.setDom d x).mem = s.mem := (rfl)
@[simp] theorem State.setDom_ecc : (s.setDom d x).ecc = s.ecc := (rfl)
@[simp] theorem State.setDom_ctxs : (s.setDom d x).ctxs = s.ctxs := (rfl)
@[simp] theorem State.setDom_queues : (s.setDom d x).queues = s.queues := (rfl)
@[simp] theorem State.setDom_cmdSeq : (s.setDom d x).cmdSeq = s.cmdSeq := (rfl)
@[simp] theorem State.setDom_plans : (s.setDom d x).plans = s.plans := (rfl)
@[simp] theorem State.setDom_items : (s.setDom d x).items = s.items := (rfl)
@[simp] theorem State.setDom_ranges : (s.setDom d x).ranges = s.ranges := (rfl)
@[simp] theorem State.setDom_tlb : (s.setDom d x).tlb = s.tlb := (rfl)
@[simp] theorem State.setDom_chans : (s.setDom d x).chans = s.chans := (rfl)
@[simp] theorem State.setDom_encs : (s.setDom d x).encs = s.encs := (rfl)
@[simp] theorem State.setDom_lineIns : (s.setDom d x).lineIns = s.lineIns := (rfl)
@[simp] theorem State.setDom_lineOuts : (s.setDom d x).lineOuts = s.lineOuts := (rfl)
@[simp] theorem State.setDom_ports : (s.setDom d x).ports = s.ports := (rfl)
@[simp] theorem State.setDom_acqs : (s.setDom d x).acqs = s.acqs := (rfl)
@[simp] theorem State.setDom_dfcs : (s.setDom d x).dfcs = s.dfcs := (rfl)
@[simp] theorem State.setDom_models : (s.setDom d x).models = s.models := (rfl)
@[simp] theorem State.setDom_engDies : (s.setDom d x).engDies = s.engDies := (rfl)
@[simp] theorem State.setDom_herd : (s.setDom d x).herd = s.herd := (rfl)
@[simp] theorem State.setDom_group : (s.setDom d x).group = s.group := (rfl)
@[simp] theorem State.setDom_faultLog : (s.setDom d x).faultLog = s.faultLog := (rfl)
@[simp] theorem State.setDom_flash : (s.setDom d x).flash = s.flash := (rfl)
@[simp] theorem State.setDom_keys : (s.setDom d x).keys = s.keys := (rfl)
@[simp] theorem State.setDom_provLock : (s.setDom d x).provLock = s.provLock := (rfl)
@[simp] theorem State.setDom_svn : (s.setDom d x).svn = s.svn := (rfl)
@[simp] theorem State.setDom_rootRev : (s.setDom d x).rootRev = s.rootRev := (rfl)

end

/-! ### `setEngDie` -/

section
variable (d : Nat) (x : EngDie)

@[simp] theorem State.setEngDie_time : (s.setEngDie d x).time = s.time := (rfl)
@[simp] theorem State.setEngDie_pending : (s.setEngDie d x).pending = s.pending := (rfl)
@[simp] theorem State.setEngDie_out : (s.setEngDie d x).out = s.out := (rfl)
@[simp] theorem State.setEngDie_fresh : (s.setEngDie d x).fresh = s.fresh := (rfl)
@[simp] theorem State.setEngDie_regs : (s.setEngDie d x).regs = s.regs := (rfl)
@[simp] theorem State.setEngDie_mem : (s.setEngDie d x).mem = s.mem := (rfl)
@[simp] theorem State.setEngDie_ecc : (s.setEngDie d x).ecc = s.ecc := (rfl)
@[simp] theorem State.setEngDie_ctxs : (s.setEngDie d x).ctxs = s.ctxs := (rfl)
@[simp] theorem State.setEngDie_queues : (s.setEngDie d x).queues = s.queues := (rfl)
@[simp] theorem State.setEngDie_cmdSeq : (s.setEngDie d x).cmdSeq = s.cmdSeq := (rfl)
@[simp] theorem State.setEngDie_plans : (s.setEngDie d x).plans = s.plans := (rfl)
@[simp] theorem State.setEngDie_items : (s.setEngDie d x).items = s.items := (rfl)
@[simp] theorem State.setEngDie_ranges : (s.setEngDie d x).ranges = s.ranges := (rfl)
@[simp] theorem State.setEngDie_tlb : (s.setEngDie d x).tlb = s.tlb := (rfl)
@[simp] theorem State.setEngDie_chans : (s.setEngDie d x).chans = s.chans := (rfl)
@[simp] theorem State.setEngDie_encs : (s.setEngDie d x).encs = s.encs := (rfl)
@[simp] theorem State.setEngDie_lineIns : (s.setEngDie d x).lineIns = s.lineIns := (rfl)
@[simp] theorem State.setEngDie_lineOuts : (s.setEngDie d x).lineOuts = s.lineOuts := (rfl)
@[simp] theorem State.setEngDie_ports : (s.setEngDie d x).ports = s.ports := (rfl)
@[simp] theorem State.setEngDie_acqs : (s.setEngDie d x).acqs = s.acqs := (rfl)
@[simp] theorem State.setEngDie_dfcs : (s.setEngDie d x).dfcs = s.dfcs := (rfl)
@[simp] theorem State.setEngDie_models : (s.setEngDie d x).models = s.models := (rfl)
@[simp] theorem State.setEngDie_herd : (s.setEngDie d x).herd = s.herd := (rfl)
@[simp] theorem State.setEngDie_doms : (s.setEngDie d x).doms = s.doms := (rfl)
@[simp] theorem State.setEngDie_group : (s.setEngDie d x).group = s.group := (rfl)
@[simp] theorem State.setEngDie_faultLog : (s.setEngDie d x).faultLog = s.faultLog := (rfl)
@[simp] theorem State.setEngDie_flash : (s.setEngDie d x).flash = s.flash := (rfl)
@[simp] theorem State.setEngDie_keys : (s.setEngDie d x).keys = s.keys := (rfl)
@[simp] theorem State.setEngDie_provLock : (s.setEngDie d x).provLock = s.provLock := (rfl)
@[simp] theorem State.setEngDie_svn : (s.setEngDie d x).svn = s.svn := (rfl)
@[simp] theorem State.setEngDie_rootRev : (s.setEngDie d x).rootRev = s.rootRev := (rfl)

end

/-! ### `onHerd` -/

section
variable (f : Herd → Herd)

@[simp] theorem State.onHerd_time : (s.onHerd f).time = s.time := (rfl)
@[simp] theorem State.onHerd_pending : (s.onHerd f).pending = s.pending := (rfl)
@[simp] theorem State.onHerd_out : (s.onHerd f).out = s.out := (rfl)
@[simp] theorem State.onHerd_fresh : (s.onHerd f).fresh = s.fresh := (rfl)
@[simp] theorem State.onHerd_regs : (s.onHerd f).regs = s.regs := (rfl)
@[simp] theorem State.onHerd_mem : (s.onHerd f).mem = s.mem := (rfl)
@[simp] theorem State.onHerd_ecc : (s.onHerd f).ecc = s.ecc := (rfl)
@[simp] theorem State.onHerd_ctxs : (s.onHerd f).ctxs = s.ctxs := (rfl)
@[simp] theorem State.onHerd_queues : (s.onHerd f).queues = s.queues := (rfl)
@[simp] theorem State.onHerd_cmdSeq : (s.onHerd f).cmdSeq = s.cmdSeq := (rfl)
@[simp] theorem State.onHerd_plans : (s.onHerd f).plans = s.plans := (rfl)
@[simp] theorem State.onHerd_items : (s.onHerd f).items = s.items := (rfl)
@[simp] theorem State.onHerd_ranges : (s.onHerd f).ranges = s.ranges := (rfl)
@[simp] theorem State.onHerd_tlb : (s.onHerd f).tlb = s.tlb := (rfl)
@[simp] theorem State.onHerd_chans : (s.onHerd f).chans = s.chans := (rfl)
@[simp] theorem State.onHerd_encs : (s.onHerd f).encs = s.encs := (rfl)
@[simp] theorem State.onHerd_lineIns : (s.onHerd f).lineIns = s.lineIns := (rfl)
@[simp] theorem State.onHerd_lineOuts : (s.onHerd f).lineOuts = s.lineOuts := (rfl)
@[simp] theorem State.onHerd_ports : (s.onHerd f).ports = s.ports := (rfl)
@[simp] theorem State.onHerd_acqs : (s.onHerd f).acqs = s.acqs := (rfl)
@[simp] theorem State.onHerd_dfcs : (s.onHerd f).dfcs = s.dfcs := (rfl)
@[simp] theorem State.onHerd_models : (s.onHerd f).models = s.models := (rfl)
@[simp] theorem State.onHerd_engDies : (s.onHerd f).engDies = s.engDies := (rfl)
@[simp] theorem State.onHerd_doms : (s.onHerd f).doms = s.doms := (rfl)
@[simp] theorem State.onHerd_group : (s.onHerd f).group = s.group := (rfl)
@[simp] theorem State.onHerd_faultLog : (s.onHerd f).faultLog = s.faultLog := (rfl)
@[simp] theorem State.onHerd_flash : (s.onHerd f).flash = s.flash := (rfl)
@[simp] theorem State.onHerd_keys : (s.onHerd f).keys = s.keys := (rfl)
@[simp] theorem State.onHerd_provLock : (s.onHerd f).provLock = s.provLock := (rfl)
@[simp] theorem State.onHerd_svn : (s.onHerd f).svn = s.svn := (rfl)
@[simp] theorem State.onHerd_rootRev : (s.onHerd f).rootRev = s.rootRev := (rfl)

end

/-! ### What an update writes -/

@[simp] theorem State.setCtx_ctxs (c : Nat) (x : Ctx) : (s.setCtx c x).ctxs = tput s.ctxs c x := (rfl)
@[simp] theorem State.setQueue_queues (c q : Nat) (x : Queue) : (s.setQueue c q x).queues = tput s.queues (gq c q) x := (rfl)
@[simp] theorem State.delQueue_queues (c q : Nat) : (s.delQueue c q).queues = tdel s.queues (gq c q) := (rfl)
@[simp] theorem State.setPlan_plans (c h : Nat) (p : Plan) : (s.setPlan c h p).plans = tput s.plans (4 * c + h) p := (rfl)
@[simp] theorem State.delPlan_plans (c h : Nat) : (s.delPlan c h).plans = tdel s.plans (4 * c + h) := (rfl)
@[simp] theorem State.mapItems_items (p : Item → Bool) (f : Item → Item) : (s.mapItems p f).items = s.items.map (fun i => if p i then f i else i) := (rfl)
@[simp] theorem State.setPort_ports (p : Nat) (x : EvpPort) : (s.setPort p x).ports = tput s.ports p x := (rfl)
@[simp] theorem State.setAcq_acqs (n : Nat) (x : AcqChan) : (s.setAcq n x).acqs = tput s.acqs n x := (rfl)
@[simp] theorem State.setDfc_dfcs (n : Nat) (x : DfcChan) : (s.setDfc n x).dfcs = tput s.dfcs n x := (rfl)
@[simp] theorem State.setEnc_encs (n : Nat) (e : Enc) : (s.setEnc n e).encs = tput s.encs n e := (rfl)
@[simp] theorem State.setLineIn_lineIns (i : Nat) (l : LineIn) : (s.setLineIn i l).lineIns = tput s.lineIns i l := (rfl)
@[simp] theorem State.setLineOut_lineOuts (j : Nat) (l : LineOut) : (s.setLineOut j l).lineOuts = tput s.lineOuts j l := (rfl)
@[simp] theorem State.setChan_chans (n : Nat) (x : ChanRun) : (s.setChan n x).chans = tput s.chans n x := (rfl)
@[simp] theorem State.delChan_chans (n : Nat) : (s.delChan n).chans = tdel s.chans n := (rfl)
@[simp] theorem State.setRange_ranges (k : Nat) (r : Range) : (s.setRange k r).ranges = tput s.ranges k r := (rfl)
@[simp] theorem State.setDom_doms (d : Nat) (x : Dom) : (s.setDom d x).doms = tput s.doms d x := (rfl)
@[simp] theorem State.setEngDie_engDies (d : Nat) (x : EngDie) : (s.setEngDie d x).engDies = tput s.engDies d x := (rfl)
@[simp] theorem State.onHerd_herd (f : Herd → Herd) : (s.onHerd f).herd = f s.herd := (rfl)

/-! ### Outputs, interrupts, free values -/

section
variable (o : Out) (fn vec : Nat)

@[simp] theorem State.emit_time : (s.emit o).time = s.time := by unfold State.emit; split <;> rfl
@[simp] theorem State.emit_pending : (s.emit o).pending = s.pending := by unfold State.emit; split <;> rfl
@[simp] theorem State.emit_fresh : (s.emit o).fresh = s.fresh := by unfold State.emit; split <;> rfl
@[simp] theorem State.emit_regs : (s.emit o).regs = s.regs := by unfold State.emit; split <;> rfl
@[simp] theorem State.emit_latches : (s.emit o).latches = s.latches := by unfold State.emit; split <;> rfl
@[simp] theorem State.emit_holds : (s.emit o).holds = s.holds := by unfold State.emit; split <;> rfl
@[simp] theorem State.emit_mem : (s.emit o).mem = s.mem := by unfold State.emit; split <;> rfl
@[simp] theorem State.emit_ecc : (s.emit o).ecc = s.ecc := by unfold State.emit; split <;> rfl
@[simp] theorem State.emit_ctxs : (s.emit o).ctxs = s.ctxs := by unfold State.emit; split <;> rfl
@[simp] theorem State.emit_queues : (s.emit o).queues = s.queues := by unfold State.emit; split <;> rfl
@[simp] theorem State.emit_cmdSeq : (s.emit o).cmdSeq = s.cmdSeq := by unfold State.emit; split <;> rfl
@[simp] theorem State.emit_plans : (s.emit o).plans = s.plans := by unfold State.emit; split <;> rfl
@[simp] theorem State.emit_items : (s.emit o).items = s.items := by unfold State.emit; split <;> rfl
@[simp] theorem State.emit_ranges : (s.emit o).ranges = s.ranges := by unfold State.emit; split <;> rfl
@[simp] theorem State.emit_gens : (s.emit o).gens = s.gens := by unfold State.emit; split <;> rfl
@[simp] theorem State.emit_tlb : (s.emit o).tlb = s.tlb := by unfold State.emit; split <;> rfl
@[simp] theorem State.emit_walkCache : (s.emit o).walkCache = s.walkCache := by unfold State.emit; split <;> rfl
@[simp] theorem State.emit_imports : (s.emit o).imports = s.imports := by unfold State.emit; split <;> rfl
@[simp] theorem State.emit_progs : (s.emit o).progs = s.progs := by unfold State.emit; split <;> rfl
@[simp] theorem State.emit_chans : (s.emit o).chans = s.chans := by unfold State.emit; split <;> rfl
@[simp] theorem State.emit_encs : (s.emit o).encs = s.encs := by unfold State.emit; split <;> rfl
@[simp] theorem State.emit_lineIns : (s.emit o).lineIns = s.lineIns := by unfold State.emit; split <;> rfl
@[simp] theorem State.emit_unread : (s.emit o).unread = s.unread := by unfold State.emit; split <;> rfl
@[simp] theorem State.emit_ceSeen : (s.emit o).ceSeen = s.ceSeen := by unfold State.emit; split <;> rfl
@[simp] theorem State.emit_zeroing : (s.emit o).zeroing = s.zeroing := by unfold State.emit; split <;> rfl
@[simp] theorem State.emit_ports : (s.emit o).ports = s.ports := by unfold State.emit; split <;> rfl
@[simp] theorem State.emit_surface : (s.emit o).surface = s.surface := by unfold State.emit; split <;> rfl
@[simp] theorem State.emit_builders : (s.emit o).builders = s.builders := by unfold State.emit; split <;> rfl
@[simp] theorem State.emit_windows : (s.emit o).windows = s.windows := by unfold State.emit; split <;> rfl
@[simp] theorem State.emit_acqs : (s.emit o).acqs = s.acqs := by unfold State.emit; split <;> rfl
@[simp] theorem State.emit_acqRuns : (s.emit o).acqRuns = s.acqRuns := by unfold State.emit; split <;> rfl
@[simp] theorem State.emit_fabric : (s.emit o).fabric = s.fabric := by unfold State.emit; split <;> rfl
@[simp] theorem State.emit_strobes : (s.emit o).strobes = s.strobes := by unfold State.emit; split <;> rfl
@[simp] theorem State.emit_dfcs : (s.emit o).dfcs = s.dfcs := by unfold State.emit; split <;> rfl
@[simp] theorem State.emit_syncIn : (s.emit o).syncIn = s.syncIn := by unfold State.emit; split <;> rfl
@[simp] theorem State.emit_energies : (s.emit o).energies = s.energies := by unfold State.emit; split <;> rfl
@[simp] theorem State.emit_energyNext : (s.emit o).energyNext = s.energyNext := by unfold State.emit; split <;> rfl
@[simp] theorem State.emit_betas : (s.emit o).betas = s.betas := by unfold State.emit; split <;> rfl
@[simp] theorem State.emit_droops : (s.emit o).droops = s.droops := by unfold State.emit; split <;> rfl
@[simp] theorem State.emit_models : (s.emit o).models = s.models := by unfold State.emit; split <;> rfl
@[simp] theorem State.emit_engDies : (s.emit o).engDies = s.engDies := by unfold State.emit; split <;> rfl
@[simp] theorem State.emit_copies : (s.emit o).copies = s.copies := by unfold State.emit; split <;> rfl
@[simp] theorem State.emit_lastRun : (s.emit o).lastRun = s.lastRun := by unfold State.emit; split <;> rfl
@[simp] theorem State.emit_unitFires : (s.emit o).unitFires = s.unitFires := by unfold State.emit; split <;> rfl
@[simp] theorem State.emit_recovers : (s.emit o).recovers = s.recovers := by unfold State.emit; split <;> rfl
@[simp] theorem State.emit_failFrom : (s.emit o).failFrom = s.failFrom := by unfold State.emit; split <;> rfl
@[simp] theorem State.emit_chanProgs : (s.emit o).chanProgs = s.chanProgs := by unfold State.emit; split <;> rfl
@[simp] theorem State.emit_chanLast : (s.emit o).chanLast = s.chanLast := by unfold State.emit; split <;> rfl
@[simp] theorem State.emit_atsPend : (s.emit o).atsPend = s.atsPend := by unfold State.emit; split <;> rfl
@[simp] theorem State.emit_revoking : (s.emit o).revoking = s.revoking := by unfold State.emit; split <;> rfl
@[simp] theorem State.emit_atsOn : (s.emit o).atsOn = s.atsOn := by unfold State.emit; split <;> rfl
@[simp] theorem State.emit_herd : (s.emit o).herd = s.herd := by unfold State.emit; split <;> rfl
@[simp] theorem State.emit_doms : (s.emit o).doms = s.doms := by unfold State.emit; split <;> rfl
@[simp] theorem State.emit_group : (s.emit o).group = s.group := by unfold State.emit; split <;> rfl
@[simp] theorem State.emit_resetT : (s.emit o).resetT = s.resetT := by unfold State.emit; split <;> rfl
@[simp] theorem State.emit_faultLog : (s.emit o).faultLog = s.faultLog := by unfold State.emit; split <;> rfl
@[simp] theorem State.emit_devHead : (s.emit o).devHead = s.devHead := by unfold State.emit; split <;> rfl
@[simp] theorem State.emit_injSite : (s.emit o).injSite = s.injSite := by unfold State.emit; split <;> rfl
@[simp] theorem State.emit_lanesBad : (s.emit o).lanesBad = s.lanesBad := by unfold State.emit; split <;> rfl
@[simp] theorem State.emit_flash : (s.emit o).flash = s.flash := by unfold State.emit; split <;> rfl
@[simp] theorem State.emit_svn : (s.emit o).svn = s.svn := by unfold State.emit; split <;> rfl
@[simp] theorem State.emit_rootRev : (s.emit o).rootRev = s.rootRev := by unfold State.emit; split <;> rfl
@[simp] theorem State.emit_provLock : (s.emit o).provLock = s.provLock := by unfold State.emit; split <;> rfl
@[simp] theorem State.emit_keys : (s.emit o).keys = s.keys := by unfold State.emit; split <;> rfl
@[simp] theorem State.emit_fw : (s.emit o).fw = s.fw := by unfold State.emit; split <;> rfl
@[simp] theorem State.emit_cool : (s.emit o).cool = s.cool := by unfold State.emit; split <;> rfl
@[simp] theorem State.emit_railsBad : (s.emit o).railsBad = s.railsBad := by unfold State.emit; split <;> rfl
@[simp] theorem State.emit_tapIr : (s.emit o).tapIr = s.tapIr := by unfold State.emit; split <;> rfl
@[simp] theorem State.emit_tapHigh : (s.emit o).tapHigh = s.tapHigh := by unfold State.emit; split <;> rfl
@[simp] theorem State.emit_resetAfter : (s.emit o).resetAfter = s.resetAfter := by unfold State.emit; split <;> rfl
@[simp] theorem State.emit_perst : (s.emit o).perst = s.perst := by unfold State.emit; split <;> rfl
@[simp] theorem State.emit_numVfs : (s.emit o).numVfs = s.numVfs := by unfold State.emit; split <;> rfl
@[simp] theorem State.emit_lineOuts : (s.emit o).lineOuts = s.lineOuts := by unfold State.emit; split <;> rfl
@[simp] theorem State.emit_parked : (s.emit o).parked = s.parked := by unfold State.emit; split <;> rfl
@[simp] theorem State.signal_time : (s.signal fn vec).time = s.time := by unfold State.signal; split <;> simp
@[simp] theorem State.signal_pending : (s.signal fn vec).pending = s.pending := by unfold State.signal; split <;> simp
@[simp] theorem State.signal_fresh : (s.signal fn vec).fresh = s.fresh := by unfold State.signal; split <;> simp
@[simp] theorem State.signal_regs : (s.signal fn vec).regs = s.regs := by unfold State.signal; split <;> simp
@[simp] theorem State.signal_mem : (s.signal fn vec).mem = s.mem := by unfold State.signal; split <;> simp
@[simp] theorem State.signal_ecc : (s.signal fn vec).ecc = s.ecc := by unfold State.signal; split <;> simp
@[simp] theorem State.signal_ctxs : (s.signal fn vec).ctxs = s.ctxs := by unfold State.signal; split <;> simp
@[simp] theorem State.signal_queues : (s.signal fn vec).queues = s.queues := by unfold State.signal; split <;> simp
@[simp] theorem State.signal_cmdSeq : (s.signal fn vec).cmdSeq = s.cmdSeq := by unfold State.signal; split <;> simp
@[simp] theorem State.signal_plans : (s.signal fn vec).plans = s.plans := by unfold State.signal; split <;> simp
@[simp] theorem State.signal_items : (s.signal fn vec).items = s.items := by unfold State.signal; split <;> simp
@[simp] theorem State.signal_ranges : (s.signal fn vec).ranges = s.ranges := by unfold State.signal; split <;> simp
@[simp] theorem State.signal_tlb : (s.signal fn vec).tlb = s.tlb := by unfold State.signal; split <;> simp
@[simp] theorem State.signal_chans : (s.signal fn vec).chans = s.chans := by unfold State.signal; split <;> simp
@[simp] theorem State.signal_encs : (s.signal fn vec).encs = s.encs := by unfold State.signal; split <;> simp
@[simp] theorem State.signal_lineIns : (s.signal fn vec).lineIns = s.lineIns := by unfold State.signal; split <;> simp
@[simp] theorem State.signal_lineOuts : (s.signal fn vec).lineOuts = s.lineOuts := by unfold State.signal; split <;> simp
@[simp] theorem State.signal_ports : (s.signal fn vec).ports = s.ports := by unfold State.signal; split <;> simp
@[simp] theorem State.signal_acqs : (s.signal fn vec).acqs = s.acqs := by unfold State.signal; split <;> simp
@[simp] theorem State.signal_dfcs : (s.signal fn vec).dfcs = s.dfcs := by unfold State.signal; split <;> simp
@[simp] theorem State.signal_models : (s.signal fn vec).models = s.models := by unfold State.signal; split <;> simp
@[simp] theorem State.signal_engDies : (s.signal fn vec).engDies = s.engDies := by unfold State.signal; split <;> simp
@[simp] theorem State.signal_herd : (s.signal fn vec).herd = s.herd := by unfold State.signal; split <;> simp
@[simp] theorem State.signal_doms : (s.signal fn vec).doms = s.doms := by unfold State.signal; split <;> simp
@[simp] theorem State.signal_group : (s.signal fn vec).group = s.group := by unfold State.signal; split <;> simp
@[simp] theorem State.signal_faultLog : (s.signal fn vec).faultLog = s.faultLog := by unfold State.signal; split <;> simp
@[simp] theorem State.signal_flash : (s.signal fn vec).flash = s.flash := by unfold State.signal; split <;> simp
@[simp] theorem State.signal_keys : (s.signal fn vec).keys = s.keys := by unfold State.signal; split <;> simp
@[simp] theorem State.signal_provLock : (s.signal fn vec).provLock = s.provLock := by unfold State.signal; split <;> simp
@[simp] theorem State.signal_svn : (s.signal fn vec).svn = s.svn := by unfold State.signal; split <;> simp
@[simp] theorem State.signal_rootRev : (s.signal fn vec).rootRev = s.rootRev := by unfold State.signal; split <;> simp
@[simp] theorem State.draw_time : s.draw.2.time = s.time := (rfl)
@[simp] theorem State.draw_pending : s.draw.2.pending = s.pending := (rfl)
@[simp] theorem State.draw_out : s.draw.2.out = s.out := (rfl)
@[simp] theorem State.draw_regs : s.draw.2.regs = s.regs := (rfl)
@[simp] theorem State.draw_mem : s.draw.2.mem = s.mem := (rfl)
@[simp] theorem State.draw_ecc : s.draw.2.ecc = s.ecc := (rfl)
@[simp] theorem State.draw_ctxs : s.draw.2.ctxs = s.ctxs := (rfl)
@[simp] theorem State.draw_queues : s.draw.2.queues = s.queues := (rfl)
@[simp] theorem State.draw_cmdSeq : s.draw.2.cmdSeq = s.cmdSeq := (rfl)
@[simp] theorem State.draw_plans : s.draw.2.plans = s.plans := (rfl)
@[simp] theorem State.draw_items : s.draw.2.items = s.items := (rfl)
@[simp] theorem State.draw_ranges : s.draw.2.ranges = s.ranges := (rfl)
@[simp] theorem State.draw_tlb : s.draw.2.tlb = s.tlb := (rfl)
@[simp] theorem State.draw_chans : s.draw.2.chans = s.chans := (rfl)
@[simp] theorem State.draw_encs : s.draw.2.encs = s.encs := (rfl)
@[simp] theorem State.draw_lineIns : s.draw.2.lineIns = s.lineIns := (rfl)
@[simp] theorem State.draw_lineOuts : s.draw.2.lineOuts = s.lineOuts := (rfl)
@[simp] theorem State.draw_ports : s.draw.2.ports = s.ports := (rfl)
@[simp] theorem State.draw_acqs : s.draw.2.acqs = s.acqs := (rfl)
@[simp] theorem State.draw_dfcs : s.draw.2.dfcs = s.dfcs := (rfl)
@[simp] theorem State.draw_models : s.draw.2.models = s.models := (rfl)
@[simp] theorem State.draw_engDies : s.draw.2.engDies = s.engDies := (rfl)
@[simp] theorem State.draw_herd : s.draw.2.herd = s.herd := (rfl)
@[simp] theorem State.draw_doms : s.draw.2.doms = s.doms := (rfl)
@[simp] theorem State.draw_group : s.draw.2.group = s.group := (rfl)
@[simp] theorem State.draw_faultLog : s.draw.2.faultLog = s.faultLog := (rfl)
@[simp] theorem State.draw_flash : s.draw.2.flash = s.flash := (rfl)
@[simp] theorem State.draw_keys : s.draw.2.keys = s.keys := (rfl)
@[simp] theorem State.draw_provLock : s.draw.2.provLock = s.provLock := (rfl)
@[simp] theorem State.draw_svn : s.draw.2.svn = s.svn := (rfl)
@[simp] theorem State.draw_rootRev : s.draw.2.rootRev = s.rootRev := (rfl)
@[simp] theorem State.draw_fresh : s.draw.2.fresh = s.fresh + 1 := (rfl)
@[simp] theorem State.draw_value : s.draw.1 = Config.free s.fresh := (rfl)
theorem State.emit_out (h : s.tapHigh = false) : (s.emit o).out = s.out ++ [o] := by simp [State.emit, h]

end

/-! ### Event flags -/

section
variable (ev en irq : Reg) (n : Nat)

@[simp] theorem State.raise_time : (s.raise ev en irq n).time = s.time := by unfold State.raise; dsimp only; split <;> simp
@[simp] theorem State.raise_pending : (s.raise ev en irq n).pending = s.pending := by unfold State.raise; dsimp only; split <;> simp
@[simp] theorem State.raise_fresh : (s.raise ev en irq n).fresh = s.fresh := by unfold State.raise; dsimp only; split <;> simp
@[simp] theorem State.raise_mem : (s.raise ev en irq n).mem = s.mem := by unfold State.raise; dsimp only; split <;> simp
@[simp] theorem State.raise_ecc : (s.raise ev en irq n).ecc = s.ecc := by unfold State.raise; dsimp only; split <;> simp
@[simp] theorem State.raise_ctxs : (s.raise ev en irq n).ctxs = s.ctxs := by unfold State.raise; dsimp only; split <;> simp
@[simp] theorem State.raise_queues : (s.raise ev en irq n).queues = s.queues := by unfold State.raise; dsimp only; split <;> simp
@[simp] theorem State.raise_cmdSeq : (s.raise ev en irq n).cmdSeq = s.cmdSeq := by unfold State.raise; dsimp only; split <;> simp
@[simp] theorem State.raise_plans : (s.raise ev en irq n).plans = s.plans := by unfold State.raise; dsimp only; split <;> simp
@[simp] theorem State.raise_items : (s.raise ev en irq n).items = s.items := by unfold State.raise; dsimp only; split <;> simp
@[simp] theorem State.raise_ranges : (s.raise ev en irq n).ranges = s.ranges := by unfold State.raise; dsimp only; split <;> simp
@[simp] theorem State.raise_tlb : (s.raise ev en irq n).tlb = s.tlb := by unfold State.raise; dsimp only; split <;> simp
@[simp] theorem State.raise_chans : (s.raise ev en irq n).chans = s.chans := by unfold State.raise; dsimp only; split <;> simp
@[simp] theorem State.raise_encs : (s.raise ev en irq n).encs = s.encs := by unfold State.raise; dsimp only; split <;> simp
@[simp] theorem State.raise_lineIns : (s.raise ev en irq n).lineIns = s.lineIns := by unfold State.raise; dsimp only; split <;> simp
@[simp] theorem State.raise_lineOuts : (s.raise ev en irq n).lineOuts = s.lineOuts := by unfold State.raise; dsimp only; split <;> simp
@[simp] theorem State.raise_ports : (s.raise ev en irq n).ports = s.ports := by unfold State.raise; dsimp only; split <;> simp
@[simp] theorem State.raise_acqs : (s.raise ev en irq n).acqs = s.acqs := by unfold State.raise; dsimp only; split <;> simp
@[simp] theorem State.raise_dfcs : (s.raise ev en irq n).dfcs = s.dfcs := by unfold State.raise; dsimp only; split <;> simp
@[simp] theorem State.raise_models : (s.raise ev en irq n).models = s.models := by unfold State.raise; dsimp only; split <;> simp
@[simp] theorem State.raise_engDies : (s.raise ev en irq n).engDies = s.engDies := by unfold State.raise; dsimp only; split <;> simp
@[simp] theorem State.raise_herd : (s.raise ev en irq n).herd = s.herd := by unfold State.raise; dsimp only; split <;> simp
@[simp] theorem State.raise_doms : (s.raise ev en irq n).doms = s.doms := by unfold State.raise; dsimp only; split <;> simp
@[simp] theorem State.raise_group : (s.raise ev en irq n).group = s.group := by unfold State.raise; dsimp only; split <;> simp
@[simp] theorem State.raise_faultLog : (s.raise ev en irq n).faultLog = s.faultLog := by unfold State.raise; dsimp only; split <;> simp
@[simp] theorem State.raise_flash : (s.raise ev en irq n).flash = s.flash := by unfold State.raise; dsimp only; split <;> simp
@[simp] theorem State.raise_keys : (s.raise ev en irq n).keys = s.keys := by unfold State.raise; dsimp only; split <;> simp
@[simp] theorem State.raise_provLock : (s.raise ev en irq n).provLock = s.provLock := by unfold State.raise; dsimp only; split <;> simp
@[simp] theorem State.raise_svn : (s.raise ev en irq n).svn = s.svn := by unfold State.raise; dsimp only; split <;> simp
@[simp] theorem State.raise_rootRev : (s.raise ev en irq n).rootRev = s.rootRev := by unfold State.raise; dsimp only; split <;> simp

end

@[simp] theorem State.raiseGlb_time (n : Nat) : (s.raiseGlb n).time = s.time := by simp [State.raiseGlb]
@[simp] theorem State.raiseGlb_pending (n : Nat) : (s.raiseGlb n).pending = s.pending := by simp [State.raiseGlb]
@[simp] theorem State.raiseGlb_mem (n : Nat) : (s.raiseGlb n).mem = s.mem := by simp [State.raiseGlb]
@[simp] theorem State.raiseGlb_ecc (n : Nat) : (s.raiseGlb n).ecc = s.ecc := by simp [State.raiseGlb]
@[simp] theorem State.raiseGlb_ctxs (n : Nat) : (s.raiseGlb n).ctxs = s.ctxs := by simp [State.raiseGlb]
@[simp] theorem State.raiseGlb_queues (n : Nat) : (s.raiseGlb n).queues = s.queues := by simp [State.raiseGlb]
@[simp] theorem State.raiseGlb_plans (n : Nat) : (s.raiseGlb n).plans = s.plans := by simp [State.raiseGlb]
@[simp] theorem State.raiseGlb_items (n : Nat) : (s.raiseGlb n).items = s.items := by simp [State.raiseGlb]
@[simp] theorem State.raiseGlb_ranges (n : Nat) : (s.raiseGlb n).ranges = s.ranges := by simp [State.raiseGlb]
@[simp] theorem State.raiseAtu_time (n : Nat) : (s.raiseAtu n).time = s.time := by simp [State.raiseAtu]
@[simp] theorem State.raiseAtu_pending (n : Nat) : (s.raiseAtu n).pending = s.pending := by simp [State.raiseAtu]
@[simp] theorem State.raiseAtu_mem (n : Nat) : (s.raiseAtu n).mem = s.mem := by simp [State.raiseAtu]
@[simp] theorem State.raiseAtu_ecc (n : Nat) : (s.raiseAtu n).ecc = s.ecc := by simp [State.raiseAtu]
@[simp] theorem State.raiseAtu_ctxs (n : Nat) : (s.raiseAtu n).ctxs = s.ctxs := by simp [State.raiseAtu]
@[simp] theorem State.raiseAtu_queues (n : Nat) : (s.raiseAtu n).queues = s.queues := by simp [State.raiseAtu]
@[simp] theorem State.raiseAtu_plans (n : Nat) : (s.raiseAtu n).plans = s.plans := by simp [State.raiseAtu]
@[simp] theorem State.raiseAtu_items (n : Nat) : (s.raiseAtu n).items = s.items := by simp [State.raiseAtu]
@[simp] theorem State.raiseAtu_ranges (n : Nat) : (s.raiseAtu n).ranges = s.ranges := by simp [State.raiseAtu]
@[simp] theorem State.raiseDmx_time (n : Nat) : (s.raiseDmx n).time = s.time := by simp [State.raiseDmx]
@[simp] theorem State.raiseDmx_pending (n : Nat) : (s.raiseDmx n).pending = s.pending := by simp [State.raiseDmx]
@[simp] theorem State.raiseDmx_mem (n : Nat) : (s.raiseDmx n).mem = s.mem := by simp [State.raiseDmx]
@[simp] theorem State.raiseDmx_ecc (n : Nat) : (s.raiseDmx n).ecc = s.ecc := by simp [State.raiseDmx]
@[simp] theorem State.raiseDmx_ctxs (n : Nat) : (s.raiseDmx n).ctxs = s.ctxs := by simp [State.raiseDmx]
@[simp] theorem State.raiseDmx_queues (n : Nat) : (s.raiseDmx n).queues = s.queues := by simp [State.raiseDmx]
@[simp] theorem State.raiseDmx_plans (n : Nat) : (s.raiseDmx n).plans = s.plans := by simp [State.raiseDmx]
@[simp] theorem State.raiseDmx_items (n : Nat) : (s.raiseDmx n).items = s.items := by simp [State.raiseDmx]
@[simp] theorem State.raiseDmx_ranges (n : Nat) : (s.raiseDmx n).ranges = s.ranges := by simp [State.raiseDmx]
@[simp] theorem State.raiseLio_time (n : Nat) : (s.raiseLio n).time = s.time := by simp [State.raiseLio]
@[simp] theorem State.raiseLio_pending (n : Nat) : (s.raiseLio n).pending = s.pending := by simp [State.raiseLio]
@[simp] theorem State.raiseLio_mem (n : Nat) : (s.raiseLio n).mem = s.mem := by simp [State.raiseLio]
@[simp] theorem State.raiseLio_ecc (n : Nat) : (s.raiseLio n).ecc = s.ecc := by simp [State.raiseLio]
@[simp] theorem State.raiseLio_ctxs (n : Nat) : (s.raiseLio n).ctxs = s.ctxs := by simp [State.raiseLio]
@[simp] theorem State.raiseLio_queues (n : Nat) : (s.raiseLio n).queues = s.queues := by simp [State.raiseLio]
@[simp] theorem State.raiseLio_plans (n : Nat) : (s.raiseLio n).plans = s.plans := by simp [State.raiseLio]
@[simp] theorem State.raiseLio_items (n : Nat) : (s.raiseLio n).items = s.items := by simp [State.raiseLio]
@[simp] theorem State.raiseLio_ranges (n : Nat) : (s.raiseLio n).ranges = s.ranges := by simp [State.raiseLio]
@[simp] theorem State.raiseEvp_time (n : Nat) : (s.raiseEvp n).time = s.time := by simp [State.raiseEvp]
@[simp] theorem State.raiseEvp_pending (n : Nat) : (s.raiseEvp n).pending = s.pending := by simp [State.raiseEvp]
@[simp] theorem State.raiseEvp_mem (n : Nat) : (s.raiseEvp n).mem = s.mem := by simp [State.raiseEvp]
@[simp] theorem State.raiseEvp_ecc (n : Nat) : (s.raiseEvp n).ecc = s.ecc := by simp [State.raiseEvp]
@[simp] theorem State.raiseEvp_ctxs (n : Nat) : (s.raiseEvp n).ctxs = s.ctxs := by simp [State.raiseEvp]
@[simp] theorem State.raiseEvp_queues (n : Nat) : (s.raiseEvp n).queues = s.queues := by simp [State.raiseEvp]
@[simp] theorem State.raiseEvp_plans (n : Nat) : (s.raiseEvp n).plans = s.plans := by simp [State.raiseEvp]
@[simp] theorem State.raiseEvp_items (n : Nat) : (s.raiseEvp n).items = s.items := by simp [State.raiseEvp]
@[simp] theorem State.raiseEvp_ranges (n : Nat) : (s.raiseEvp n).ranges = s.ranges := by simp [State.raiseEvp]
@[simp] theorem State.raiseAcq_time (n : Nat) : (s.raiseAcq n).time = s.time := by simp [State.raiseAcq]
@[simp] theorem State.raiseAcq_pending (n : Nat) : (s.raiseAcq n).pending = s.pending := by simp [State.raiseAcq]
@[simp] theorem State.raiseAcq_mem (n : Nat) : (s.raiseAcq n).mem = s.mem := by simp [State.raiseAcq]
@[simp] theorem State.raiseAcq_ecc (n : Nat) : (s.raiseAcq n).ecc = s.ecc := by simp [State.raiseAcq]
@[simp] theorem State.raiseAcq_ctxs (n : Nat) : (s.raiseAcq n).ctxs = s.ctxs := by simp [State.raiseAcq]
@[simp] theorem State.raiseAcq_queues (n : Nat) : (s.raiseAcq n).queues = s.queues := by simp [State.raiseAcq]
@[simp] theorem State.raiseAcq_plans (n : Nat) : (s.raiseAcq n).plans = s.plans := by simp [State.raiseAcq]
@[simp] theorem State.raiseAcq_items (n : Nat) : (s.raiseAcq n).items = s.items := by simp [State.raiseAcq]
@[simp] theorem State.raiseAcq_ranges (n : Nat) : (s.raiseAcq n).ranges = s.ranges := by simp [State.raiseAcq]
@[simp] theorem State.raiseDfc_time (n : Nat) : (s.raiseDfc n).time = s.time := by simp [State.raiseDfc]
@[simp] theorem State.raiseDfc_pending (n : Nat) : (s.raiseDfc n).pending = s.pending := by simp [State.raiseDfc]
@[simp] theorem State.raiseDfc_mem (n : Nat) : (s.raiseDfc n).mem = s.mem := by simp [State.raiseDfc]
@[simp] theorem State.raiseDfc_ecc (n : Nat) : (s.raiseDfc n).ecc = s.ecc := by simp [State.raiseDfc]
@[simp] theorem State.raiseDfc_ctxs (n : Nat) : (s.raiseDfc n).ctxs = s.ctxs := by simp [State.raiseDfc]
@[simp] theorem State.raiseDfc_queues (n : Nat) : (s.raiseDfc n).queues = s.queues := by simp [State.raiseDfc]
@[simp] theorem State.raiseDfc_plans (n : Nat) : (s.raiseDfc n).plans = s.plans := by simp [State.raiseDfc]
@[simp] theorem State.raiseDfc_items (n : Nat) : (s.raiseDfc n).items = s.items := by simp [State.raiseDfc]
@[simp] theorem State.raiseDfc_ranges (n : Nat) : (s.raiseDfc n).ranges = s.ranges := by simp [State.raiseDfc]
@[simp] theorem State.raisePmc_time (n : Nat) : (s.raisePmc n).time = s.time := by simp [State.raisePmc]
@[simp] theorem State.raisePmc_pending (n : Nat) : (s.raisePmc n).pending = s.pending := by simp [State.raisePmc]
@[simp] theorem State.raisePmc_mem (n : Nat) : (s.raisePmc n).mem = s.mem := by simp [State.raisePmc]
@[simp] theorem State.raisePmc_ecc (n : Nat) : (s.raisePmc n).ecc = s.ecc := by simp [State.raisePmc]
@[simp] theorem State.raisePmc_ctxs (n : Nat) : (s.raisePmc n).ctxs = s.ctxs := by simp [State.raisePmc]
@[simp] theorem State.raisePmc_queues (n : Nat) : (s.raisePmc n).queues = s.queues := by simp [State.raisePmc]
@[simp] theorem State.raisePmc_plans (n : Nat) : (s.raisePmc n).plans = s.plans := by simp [State.raisePmc]
@[simp] theorem State.raisePmc_items (n : Nat) : (s.raisePmc n).items = s.items := by simp [State.raisePmc]
@[simp] theorem State.raisePmc_ranges (n : Nat) : (s.raisePmc n).ranges = s.ranges := by simp [State.raisePmc]
@[simp] theorem State.raiseEmu_time (n : Nat) : (s.raiseEmu n).time = s.time := by simp [State.raiseEmu]
@[simp] theorem State.raiseEmu_pending (n : Nat) : (s.raiseEmu n).pending = s.pending := by simp [State.raiseEmu]
@[simp] theorem State.raiseEmu_mem (n : Nat) : (s.raiseEmu n).mem = s.mem := by simp [State.raiseEmu]
@[simp] theorem State.raiseEmu_ecc (n : Nat) : (s.raiseEmu n).ecc = s.ecc := by simp [State.raiseEmu]
@[simp] theorem State.raiseEmu_ctxs (n : Nat) : (s.raiseEmu n).ctxs = s.ctxs := by simp [State.raiseEmu]
@[simp] theorem State.raiseEmu_queues (n : Nat) : (s.raiseEmu n).queues = s.queues := by simp [State.raiseEmu]
@[simp] theorem State.raiseEmu_plans (n : Nat) : (s.raiseEmu n).plans = s.plans := by simp [State.raiseEmu]
@[simp] theorem State.raiseEmu_items (n : Nat) : (s.raiseEmu n).items = s.items := by simp [State.raiseEmu]
@[simp] theorem State.raiseEmu_ranges (n : Nat) : (s.raiseEmu n).ranges = s.ranges := by simp [State.raiseEmu]
@[simp] theorem State.raiseFmu_time (n : Nat) : (s.raiseFmu n).time = s.time := by simp [State.raiseFmu]
@[simp] theorem State.raiseFmu_pending (n : Nat) : (s.raiseFmu n).pending = s.pending := by simp [State.raiseFmu]
@[simp] theorem State.raiseFmu_mem (n : Nat) : (s.raiseFmu n).mem = s.mem := by simp [State.raiseFmu]
@[simp] theorem State.raiseFmu_ecc (n : Nat) : (s.raiseFmu n).ecc = s.ecc := by simp [State.raiseFmu]
@[simp] theorem State.raiseFmu_ctxs (n : Nat) : (s.raiseFmu n).ctxs = s.ctxs := by simp [State.raiseFmu]
@[simp] theorem State.raiseFmu_queues (n : Nat) : (s.raiseFmu n).queues = s.queues := by simp [State.raiseFmu]
@[simp] theorem State.raiseFmu_plans (n : Nat) : (s.raiseFmu n).plans = s.plans := by simp [State.raiseFmu]
@[simp] theorem State.raiseFmu_items (n : Nat) : (s.raiseFmu n).items = s.items := by simp [State.raiseFmu]
@[simp] theorem State.raiseFmu_ranges (n : Nat) : (s.raiseFmu n).ranges = s.ranges := by simp [State.raiseFmu]
@[simp] theorem State.raiseHrd_time (n : Nat) : (s.raiseHrd n).time = s.time := by simp [State.raiseHrd]
@[simp] theorem State.raiseHrd_pending (n : Nat) : (s.raiseHrd n).pending = s.pending := by simp [State.raiseHrd]
@[simp] theorem State.raiseHrd_mem (n : Nat) : (s.raiseHrd n).mem = s.mem := by simp [State.raiseHrd]
@[simp] theorem State.raiseHrd_ecc (n : Nat) : (s.raiseHrd n).ecc = s.ecc := by simp [State.raiseHrd]
@[simp] theorem State.raiseHrd_ctxs (n : Nat) : (s.raiseHrd n).ctxs = s.ctxs := by simp [State.raiseHrd]
@[simp] theorem State.raiseHrd_queues (n : Nat) : (s.raiseHrd n).queues = s.queues := by simp [State.raiseHrd]
@[simp] theorem State.raiseHrd_plans (n : Nat) : (s.raiseHrd n).plans = s.plans := by simp [State.raiseHrd]
@[simp] theorem State.raiseHrd_items (n : Nat) : (s.raiseHrd n).items = s.items := by simp [State.raiseHrd]
@[simp] theorem State.raiseHrd_ranges (n : Nat) : (s.raiseHrd n).ranges = s.ranges := by simp [State.raiseHrd]
@[simp] theorem State.raiseKsu_time (n : Nat) : (s.raiseKsu n).time = s.time := by simp [State.raiseKsu]
@[simp] theorem State.raiseKsu_pending (n : Nat) : (s.raiseKsu n).pending = s.pending := by simp [State.raiseKsu]
@[simp] theorem State.raiseKsu_mem (n : Nat) : (s.raiseKsu n).mem = s.mem := by simp [State.raiseKsu]
@[simp] theorem State.raiseKsu_ecc (n : Nat) : (s.raiseKsu n).ecc = s.ecc := by simp [State.raiseKsu]
@[simp] theorem State.raiseKsu_ctxs (n : Nat) : (s.raiseKsu n).ctxs = s.ctxs := by simp [State.raiseKsu]
@[simp] theorem State.raiseKsu_queues (n : Nat) : (s.raiseKsu n).queues = s.queues := by simp [State.raiseKsu]
@[simp] theorem State.raiseKsu_plans (n : Nat) : (s.raiseKsu n).plans = s.plans := by simp [State.raiseKsu]
@[simp] theorem State.raiseKsu_items (n : Nat) : (s.raiseKsu n).items = s.items := by simp [State.raiseKsu]
@[simp] theorem State.raiseKsu_ranges (n : Nat) : (s.raiseKsu n).ranges = s.ranges := by simp [State.raiseKsu]

end Sys2Proof.Machine
end

