-- ==== Sys2Proof/Laws/Tables.lean ====
section
/-! SUPPORT. Sparse tables, registers and fields: a read after a write of the same key gives what was written, a write leaves
every other key alone. -/

namespace Sys2Proof.Machine

/-! ### Tables -/

@[simp] theorem tfind_tput_same {α : Type} (l : List (Nat × α)) (n : Nat) (v : α) : tfind (tput l n v) n = some v := by
  induction l with
  | nil => simp [tput, tfind]
  | cons x t ih =>
    obtain ⟨k, w⟩ := x
    unfold tput
    split
    · simp [tfind]
    · split
      · simp [tfind]
      · simp [tfind, ih]; intro h; omega

@[simp] theorem tfind_tput_ne {α : Type} (l : List (Nat × α)) {n m : Nat} (v : α) (h : m ≠ n) :
    tfind (tput l n v) m = tfind l m := by
  induction l with
  | nil => simp [tput, tfind]; omega
  | cons x t ih =>
    obtain ⟨k, w⟩ := x
    unfold tput
    split
    · simp [tfind]; intro h'; omega
    · split
      · subst_vars; simp [tfind, Ne.symm h]
      · simp [tfind, ih]

@[simp] theorem tfind_tdel_same {α : Type} (l : List (Nat × α)) (n : Nat) : tfind (tdel l n) n = none := by
  induction l with
  | nil => rfl
  | cons x t ih =>
    obtain ⟨k, w⟩ := x
    unfold tdel
    split
    · exact ih
    · simp [tfind, ih]; assumption

@[simp] theorem tfind_tdel_ne {α : Type} (l : List (Nat × α)) {n m : Nat} (h : m ≠ n) : tfind (tdel l n) m = tfind l m := by
  induction l with
  | nil => rfl
  | cons x t ih =>
    obtain ⟨k, w⟩ := x
    unfold tdel
    split
    · subst_vars; simp [tfind, Ne.symm h, ih]
    · simp [tfind, ih]

theorem tget_eq_tfind {α : Type} (l : List (Nat × α)) (n : Nat) (d : α) : tget l n d = (tfind l n).getD d := by
  induction l with
  | nil => rfl
  | cons x t ih =>
    obtain ⟨k, w⟩ := x
    by_cases h : k = n <;> simp [tget, tfind, h, ih]

@[simp] theorem tget_tput_same {α : Type} (l : List (Nat × α)) (n : Nat) (v d : α) : tget (tput l n v) n d = v := by
  simp [tget_eq_tfind]

@[simp] theorem tget_tput_ne {α : Type} (l : List (Nat × α)) {n m : Nat} (v d : α) (h : m ≠ n) :
    tget (tput l n v) m d = tget l m d := by
  simp [tget_eq_tfind, h]

@[simp] theorem tget_tdel_same {α : Type} (l : List (Nat × α)) (n : Nat) (d : α) : tget (tdel l n) n d = d := by
  simp [tget_eq_tfind]

@[simp] theorem tget_tdel_ne {α : Type} (l : List (Nat × α)) {n m : Nat} (d : α) (h : m ≠ n) :
    tget (tdel l n) m d = tget l m d := by
  simp [tget_eq_tfind, h]

/-! ### Registers -/

variable (s : State)

@[simp] theorem State.rd_wr_same (r : Reg) (v : Nat) : (s.wr r v).rd r = v % 2 ^ r.width := by
  unfold State.rd State.wr
  dsimp only
  split <;> simp_all

@[simp] theorem State.rd_wr_ne {r r' : Reg} (v : Nat) (h : r'.key ≠ r.key) : (s.wr r v).rd r' = s.rd r' := by
  unfold State.rd State.wr
  dsimp only
  split <;> simp [h]

@[simp] theorem State.get_wr_ne {r : Reg} {f : Fld} (v : Nat) (h : f.reg.key ≠ r.key) : (s.wr r v).get f = s.get f := by
  simp [State.get, h]

@[simp] theorem State.rd_put_ne {f : Fld} {r : Reg} (v : Nat) (h : r.key ≠ f.reg.key) : (s.put f v).rd r = s.rd r := by
  simp [State.put, h]

@[simp] theorem State.get_put_ne {f g : Fld} (v : Nat) (h : g.reg.key ≠ f.reg.key) : (s.put f v).get g = s.get g := by
  simp [State.get, h]

theorem putBits_eq (x hi lo v : Nat) (h : lo ≤ hi) :
    putBits x hi lo v = (x / 2 ^ (hi + 1)) * 2 ^ (hi + 1) + (v % 2 ^ (hi + 1 - lo)) * 2 ^ lo + x % 2 ^ lo := by
  have e : 2 ^ (hi + 1) = 2 ^ (hi + 1 - lo) * 2 ^ lo := by rw [← Nat.pow_add]; congr 1; omega
  have h1 : x / 2 ^ lo / 2 ^ (hi + 1 - lo) = x / 2 ^ (hi + 1) := by rw [Nat.div_div_eq_div_mul, e, Nat.mul_comm]
  have h2 := Nat.div_add_mod x (2 ^ lo)
  have h3 := Nat.div_add_mod (x / 2 ^ lo) (2 ^ (hi + 1 - lo))
  have h4 : x = (x / 2 ^ (hi + 1)) * 2 ^ (hi + 1) + (x / 2 ^ lo % 2 ^ (hi + 1 - lo)) * 2 ^ lo + x % 2 ^ lo := by
    rw [h1] at h3
    rw [e] at h3 ⊢
    calc x = 2 ^ lo * (x / 2 ^ lo) + x % 2 ^ lo := h2.symm
      _ = 2 ^ lo * (2 ^ (hi + 1 - lo) * (x / (2 ^ (hi + 1 - lo) * 2 ^ lo)) + x / 2 ^ lo % 2 ^ (hi + 1 - lo)) + x % 2 ^ lo := by
        rw [h3]
      _ = _ := by ring
  unfold putBits bits
  simp only [Nat.shiftLeft_eq, Nat.shiftRight_eq_div_pow]
  omega

theorem bits_putBits (x hi lo v : Nat) (h : lo ≤ hi) : bits (putBits x hi lo v) hi lo = v % 2 ^ (hi + 1 - lo) := by
  have e : 2 ^ (hi + 1) = 2 ^ (hi + 1 - lo) * 2 ^ lo := by rw [← Nat.pow_add]; congr 1; omega
  have p1 : 0 < 2 ^ lo := Nat.two_pow_pos _
  have hx : x % 2 ^ lo < 2 ^ lo := Nat.mod_lt _ p1
  rw [putBits_eq x hi lo v h]
  unfold bits
  rw [Nat.shiftRight_eq_div_pow, e]
  have : x / (2 ^ (hi + 1 - lo) * 2 ^ lo) * (2 ^ (hi + 1 - lo) * 2 ^ lo) + v % 2 ^ (hi + 1 - lo) * 2 ^ lo + x % 2 ^ lo
      = x % 2 ^ lo + 2 ^ lo * (x / (2 ^ (hi + 1 - lo) * 2 ^ lo) * 2 ^ (hi + 1 - lo) + v % 2 ^ (hi + 1 - lo)) := by ring
  rw [this, Nat.add_mul_div_left _ _ p1, Nat.div_eq_of_lt hx]
  simp

/-- A field reads back what was written to it, cut to its width. -/
theorem State.get_put_same (f : Fld) (v : Nat) (h : f.lo ≤ f.hi) (hw : f.hi < f.reg.width) :
    (s.put f v).get f = v % 2 ^ (f.hi + 1 - f.lo) := by
  unfold State.get State.put
  rw [State.rd_wr_same]
  have e : 2 ^ f.reg.width = 2 ^ (f.hi + 1) * 2 ^ (f.reg.width - (f.hi + 1)) := by rw [← Nat.pow_add]; congr 1; omega
  have : ∀ y, bits (y % 2 ^ f.reg.width) f.hi f.lo = bits y f.hi f.lo := by
    intro y
    unfold bits
    rw [Nat.shiftRight_eq_div_pow, Nat.shiftRight_eq_div_pow]
    have e2 : 2 ^ f.reg.width = 2 ^ f.lo * (2 ^ (f.hi + 1 - f.lo) * 2 ^ (f.reg.width - (f.hi + 1))) := by
      rw [← Nat.pow_add, ← Nat.pow_add]; congr 1; omega
    rw [e2, Nat.mod_mul_right_div_self, Nat.mod_mul_right_mod]
  rw [this, bits_putBits _ _ _ _ h]

/-! ### Contexts, queues, plans -/

@[simp] theorem State.ctx_setCtx_same (c : Nat) (x : Ctx) : (s.setCtx c x).ctx c = x := by simp [State.ctx]

@[simp] theorem State.ctx_setCtx_ne {c d : Nat} (x : Ctx) (h : d ≠ c) : (s.setCtx c x).ctx d = s.ctx d := by simp [State.ctx, h]

@[simp] theorem State.queue?_setQueue_same (c q : Nat) (x : Queue) : (s.setQueue c q x).queue? c q = some x := by
  simp [State.queue?]

@[simp] theorem State.queue?_setQueue_ne {c q d r : Nat} (x : Queue) (h : gq d r ≠ gq c q) :
    (s.setQueue c q x).queue? d r = s.queue? d r := by simp [State.queue?, h]

@[simp] theorem State.queue?_delQueue_same (c q : Nat) : (s.delQueue c q).queue? c q = none := by simp [State.queue?]

@[simp] theorem State.plan?_setPlan_same (c h : Nat) (p : Plan) : (s.setPlan c h p).plan? c h = some p := by simp [State.plan?]

@[simp] theorem State.plan?_delPlan_same (c h : Nat) : (s.delPlan c h).plan? c h = none := by simp [State.plan?]

/-- A change of a queue that exists. -/
theorem State.onQueue_some {c q : Nat} {x : Queue} (f : Queue → Queue) (h : s.queue? c q = some x) :
    s.onQueue c q f = s.setQueue c q (f x) := by simp [State.onQueue, h]

theorem State.onQueue_none {c q : Nat} (f : Queue → Queue) (h : s.queue? c q = none) : s.onQueue c q f = s := by
  simp [State.onQueue, h]

/-- A change of a plan that exists. -/
theorem State.onPlan_some {c h : Nat} {p : Plan} (f : Plan → Plan) (hp : s.plan? c h = some p) :
    s.onPlan c h f = s.setPlan c h (f p) := by simp [State.onPlan, hp]

end Sys2Proof.Machine
end

