-- ==== Sys2Proof/Safety.lean ====
section
/-! DEFINITION. What a safe step is, and how a command ends, in the terms claims use: a command that its queue lets start is
served, and it is answered or waits. -/

namespace Sys2Proof.Machine

/-- A step that neither faults nor is refused. -/
def Safe (s : State) : Prop := ∃ t, step s = .next t

/-- The opcode rows: context, local queue, environment, opcode and selecting value. -/
def opcodeRow : Instr → Option (Nat × Nat × HostEnv × Nat × Nat)
  | .nop c q e => some (c, q, e, 0x01, 0)
  | .echo c q e => some (c, q, e, 0x02, 0)
  | .queryDevice c q e => some (c, q, e, 0x03, 0)
  | .planLoad c q e => some (c, q, e, 0x10, 0)
  | .planAdmit c q e => some (c, q, e, 0x11, 0)
  | .planArm c q e => some (c, q, e, 0x12, 0)
  | .planStop c q e => some (c, q, e, 0x13, 0)
  | .planUnload c q e => some (c, q, e, 0x14, 0)
  | .planStatus c q e => some (c, q, e, 0x15, 0)
  | .modelLoad c q e => some (c, q, e, 0x20, 0)
  | .modelEvict c q e => some (c, q, e, 0x21, 0)
  | .modelList c q e => some (c, q, e, 0x22, 0)
  | .bufPin c q e => some (c, q, e, 0x30, 0)
  | .bufUnpin c q e => some (c, q, e, 0x31, 0)
  | .tlbInvalidate c q e => some (c, q, e, 0x32, 0)
  | .pageMigrate c q e => some (c, q, e, 0x33, 0)
  | .ringCreate c q e => some (c, q, e, 0x40, 0)
  | .ringDestroy c q e => some (c, q, e, 0x41, 0)
  | .dmaProgLoad c q e => some (c, q, e, 0x42, 0)
  | .acqConfigStop c q e => some (c, q, e, 0x50, 0)
  | .acqConfigApply c q e => some (c, q, e, 0x50, 1)
  | .acqConfigStart c q e => some (c, q, e, 0x50, 2)
  | .acqConfigForce c q e => some (c, q, e, 0x50, 3)
  | .acqConfigPair c q e => some (c, q, e, 0x50, 4)
  | .dfcCoefLoadStop c q e => some (c, q, e, 0x51, 0)
  | .dfcCoefLoadLoad c q e => some (c, q, e, 0x51, 1)
  | .dfcCoefLoadStart c q e => some (c, q, e, 0x51, 2)
  | .acqSync c q e => some (c, q, e, 0x52, 0)
  | .acqReadout c q e => some (c, q, e, 0x53, 0)
  | .evpConfigDisable c q e => some (c, q, e, 0x60, 0)
  | .evpConfigEnable c q e => some (c, q, e, 0x60, 1)
  | .evpConfigGroups c q e => some (c, q, e, 0x60, 2)
  | .evpMaskLoad c q e => some (c, q, e, 0x61, 0)
  | .pwrPolicySet c q e => some (c, q, e, 0x70, 0)
  | .pwrPolicyWake c q e => some (c, q, e, 0x70, 1)
  | .pwrPolicyAon c q e => some (c, q, e, 0x70, 2)
  | .energyBudgetSet c q e => some (c, q, e, 0x71, 0)
  | .pwrGroupSleep c q e => some (c, q, e, 0x72, 0)
  | .faultInject c q e => some (c, q, e, 0x80, 0)
  | .faultInjectClear c q e => some (c, q, e, 0x80, 3)
  | .faultLogRead c q e => some (c, q, e, 0x81, 0)
  | .selftestRun c q e => some (c, q, e, 0x82, 0)
  | .herdJoinJoin c q e => some (c, q, e, 0x90, 0)
  | .herdJoinFound c q e => some (c, q, e, 0x90, 1)
  | .herdJoinEpoch c q e => some (c, q, e, 0x90, 2)
  | .herdLeave c q e => some (c, q, e, 0x91, 0)
  | .herdStatus c q e => some (c, q, e, 0x92, 0)
  | .windowExport c q e => some (c, q, e, 0x93, 0)
  | .windowWithdraw c q e => some (c, q, e, 0x93, 1)
  | .fwDownload c q e => some (c, q, e, 0xA0, 0)
  | .fwVerify c q e => some (c, q, e, 0xA1, 0)
  | .fwActivate c q e => some (c, q, e, 0xA2, 0)
  | .fwConfirm c q e => some (c, q, e, 0xA3, 0)
  | .ctxReset c q e => some (c, q, e, 0xB0, 0)
  | .abort c q e => some (c, q, e, 0xB1, 0)
  | _ => none

/-- The row of opcode `op` and selecting value `sel` serves packet `k` of queue `q` of context `c`: it is the one that may start
(R80), it has passed the checks that every packet meets (R70, R79), every domain that it needs is ON (R340), and its reply has
room in the CQ (R75). -/
structure Serves (s : State) (c q op sel : Nat) (x : Queue) (k : Cmd) : Prop where
  ctx : c < 128
  loc : q < 128
  start : s.startable c q = some (x, k)
  opc : k.op = op
  row : (selector op k.par).1 = sel
  checks : s.admitted c op k = true
  domains : ∀ d ∈ State.cmdDomains k, s.domOn d = true
  room : x.room = true

/-- The command has made the change that leads to state `t`, and its reply with a status and DETAIL is written in the same step
(R81): what the device is then in, with everything that waited for it gone on. -/
def State.answered (t : State) (c q : Nat) (k : Cmd) (status detail : Nat) : State :=
  (((t.countRefusal c k.op status).postReply c q k status detail).served k).settle

/-- The command has begun, and waits. -/
def State.waits (t : State) (c q : Nat) (k : Cmd) (w : Wait) : State :=
  ((t.onQueue c q (fun x => x.onCmd k.seq (fun k => { k with phase := .executing w }))).served k).settle

end Sys2Proof.Machine
end

