-- ==== Sys2Proof/Laws/Run.lean ====
section
/-! SUPPORT. How a command ends: what its row answers once its packet is served, is settled by what its own body answers. -/

namespace Sys2Proof.Machine

/-- A well-formed command takes its effect. -/
theorem guarded_next {i : Instr} (f : State → State) (s : State) (h : i.wellFormed = true) : guarded i f s = .next (f s) := by
  simp [guarded, h]

theorem runNeeding_on {s : State} {c q : Nat} {x : Queue} {k : Cmd} (op sel : Nat) (body : Cmd → State → CmdOut)
    (hs : s.startable c q = some (x, k)) (hd : ∀ d ∈ State.cmdDomains k, s.domOn d = true) :
    s.runNeeding c q op sel body = (s.runCmd c q op sel body).served k := by
  have h : (State.cmdDomains k).any (fun d => !s.domOn d) = false := by
    simp only [List.any_eq_false]
    intro d hd'; simp [hd d hd']
  unfold State.runNeeding
  rw [hs]
  simp [h]

theorem runCmd_body {s : State} {c q : Nat} {x : Queue} {k : Cmd} {op : Nat} (body : Cmd → State → CmdOut)
    (ho : opcodes.contains op = true) (hs : s.startable c q = some (x, k)) (hk : k.op = op)
    (ha : s.admitted c op k = true) :
    s.runCmd c q op (selector op k.par).1 body = s.conclude c q x k (body k s) := by
  unfold State.admitted at ha
  simp only [Bool.and_eq_true, Bool.not_eq_true'] at ha
  obtain ⟨⟨⟨⟨h1, h2⟩, h3⟩, h4⟩, h5⟩ := ha
  have hr : k.rowOf op (selector op k.par).1 = true := by simp [Cmd.rowOf, hk]
  unfold State.runCmd
  rw [hs]
  simp only [hk, ho, hr, h1, h2, h3, h4, h5]
  simp

/-- A command whose body answers a status ends with that status. -/
theorem run_answers {s t : State} {c q op sel st d : Nat} {x : Queue} {k : Cmd} (body : Cmd → State → CmdOut)
    (ho : opcodes.contains op = true) (h : Serves s c q op sel x k) (hb : body k s = .done st d t) :
    (s.runNeeding c q op sel body).settle = t.answered c q k st d := by
  rw [runNeeding_on op sel body h.start h.domains, ← h.row, runCmd_body body ho h.start h.opc h.checks, hb]
  simp [State.conclude, h.room, State.answered]

/-- A command whose body waits is in EXECUTING. -/
theorem run_waits {s t : State} {c q op sel : Nat} {w : Wait} {x : Queue} {k : Cmd} (body : Cmd → State → CmdOut)
    (ho : opcodes.contains op = true) (h : Serves s c q op sel x k) (hb : body k s = .wait w t) :
    (s.runNeeding c q op sel body).settle = t.waits c q k w := by
  rw [runNeeding_on op sel body h.start h.domains, ← h.row, runCmd_body body ho h.start h.opc h.checks, hb]
  simp [State.conclude, State.waits]

/-- Nothing waits on another command's commit. -/
theorem settle_nothing {s : State} (hr : s.recovers.all (fun r => !r.2.2) = true)
    (hq : ∀ x ∈ s.queues, x.2.cmds = []) : s.settle = s := by
  have h1 : s.recovers.filter (fun r => r.2.2) = [] := by
    rw [List.filter_eq_nil_iff]
    intro r hr'
    have := (List.all_eq_true.mp hr) r hr'
    simpa using this
  have h2 : s.queues.flatMap (fun x => x.2.cmds.map (fun k => (x.1, k))) = [] := by
    rw [List.flatMap_eq_nil_iff]
    intro x hx; simp [hq x hx]
  unfold State.settle
  simp [h1, h2]

end Sys2Proof.Machine
end

