-- ==== Sys2Proof/Laws/Arms.lean ====
section
/-! SUPPORT. One lemma an arm of `exec`: a well-formed event takes its effect; a packet that a row serves ends as the row's own body
answers, or waits as it says. -/

namespace Sys2Proof.Machine

set_option Elab.async false

theorem exec_nop_answers {s t : State} {c q : Nat} {env : HostEnv} {x : Queue} {k : Cmd} {st d : Nat}
    (he : envOk env = true) (h : Serves s c q 0x01 0 x k) (hb : (fun _ s => cmdNop s : Cmd → State → CmdOut) k s = .done st d t) :
    exec (.nop c q env) s = .next (t.answered c q k st d) := by
  show guarded _ _ _ = _
  rw [guarded_next _ _ (by simp [Instr.wellFormed, h.ctx, h.loc, he])]
  exact congrArg _ (run_answers _ (by decide) h hb)

theorem exec_nop_waits {s t : State} {c q : Nat} {env : HostEnv} {x : Queue} {k : Cmd} {w : Wait}
    (he : envOk env = true) (h : Serves s c q 0x01 0 x k) (hb : (fun _ s => cmdNop s : Cmd → State → CmdOut) k s = .wait w t) :
    exec (.nop c q env) s = .next (t.waits c q k w) := by
  show guarded _ _ _ = _
  rw [guarded_next _ _ (by simp [Instr.wellFormed, h.ctx, h.loc, he])]
  exact congrArg _ (run_waits _ (by decide) h hb)

theorem exec_echo_answers {s t : State} {c q : Nat} {env : HostEnv} {x : Queue} {k : Cmd} {st d : Nat}
    (he : envOk env = true) (h : Serves s c q 0x02 0 x k) (hb : (fun k s => cmdEcho k s : Cmd → State → CmdOut) k s = .done st d t) :
    exec (.echo c q env) s = .next (t.answered c q k st d) := by
  show guarded _ _ _ = _
  rw [guarded_next _ _ (by simp [Instr.wellFormed, h.ctx, h.loc, he])]
  exact congrArg _ (run_answers _ (by decide) h hb)

theorem exec_echo_waits {s t : State} {c q : Nat} {env : HostEnv} {x : Queue} {k : Cmd} {w : Wait}
    (he : envOk env = true) (h : Serves s c q 0x02 0 x k) (hb : (fun k s => cmdEcho k s : Cmd → State → CmdOut) k s = .wait w t) :
    exec (.echo c q env) s = .next (t.waits c q k w) := by
  show guarded _ _ _ = _
  rw [guarded_next _ _ (by simp [Instr.wellFormed, h.ctx, h.loc, he])]
  exact congrArg _ (run_waits _ (by decide) h hb)

theorem exec_queryDevice_answers {s t : State} {c q : Nat} {env : HostEnv} {x : Queue} {k : Cmd} {st d : Nat}
    (he : envOk env = true) (h : Serves s c q 0x03 0 x k) (hb : (fun k s => cmdQueryDevice c k s : Cmd → State → CmdOut) k s = .done st d t) :
    exec (.queryDevice c q env) s = .next (t.answered c q k st d) := by
  show guarded _ _ _ = _
  rw [guarded_next _ _ (by simp [Instr.wellFormed, h.ctx, h.loc, he])]
  exact congrArg _ (run_answers _ (by decide) h hb)

theorem exec_queryDevice_waits {s t : State} {c q : Nat} {env : HostEnv} {x : Queue} {k : Cmd} {w : Wait}
    (he : envOk env = true) (h : Serves s c q 0x03 0 x k) (hb : (fun k s => cmdQueryDevice c k s : Cmd → State → CmdOut) k s = .wait w t) :
    exec (.queryDevice c q env) s = .next (t.waits c q k w) := by
  show guarded _ _ _ = _
  rw [guarded_next _ _ (by simp [Instr.wellFormed, h.ctx, h.loc, he])]
  exact congrArg _ (run_waits _ (by decide) h hb)

theorem exec_planLoad_answers {s t : State} {c q : Nat} {env : HostEnv} {x : Queue} {k : Cmd} {st d : Nat}
    (he : envOk env = true) (h : Serves s c q 0x10 0 x k) (hb : (fun k s => cmdPlanLoad c env k s : Cmd → State → CmdOut) k s = .done st d t) :
    exec (.planLoad c q env) s = .next (t.answered c q k st d) := by
  show guarded _ _ _ = _
  rw [guarded_next _ _ (by simp [Instr.wellFormed, h.ctx, h.loc, he])]
  exact congrArg _ (run_answers _ (by decide) h hb)

theorem exec_planLoad_waits {s t : State} {c q : Nat} {env : HostEnv} {x : Queue} {k : Cmd} {w : Wait}
    (he : envOk env = true) (h : Serves s c q 0x10 0 x k) (hb : (fun k s => cmdPlanLoad c env k s : Cmd → State → CmdOut) k s = .wait w t) :
    exec (.planLoad c q env) s = .next (t.waits c q k w) := by
  show guarded _ _ _ = _
  rw [guarded_next _ _ (by simp [Instr.wellFormed, h.ctx, h.loc, he])]
  exact congrArg _ (run_waits _ (by decide) h hb)

theorem exec_planAdmit_answers {s t : State} {c q : Nat} {env : HostEnv} {x : Queue} {k : Cmd} {st d : Nat}
    (he : envOk env = true) (h : Serves s c q 0x11 0 x k) (hb : (fun k s => cmdPlanAdmit c env k s : Cmd → State → CmdOut) k s = .done st d t) :
    exec (.planAdmit c q env) s = .next (t.answered c q k st d) := by
  show guarded _ _ _ = _
  rw [guarded_next _ _ (by simp [Instr.wellFormed, h.ctx, h.loc, he])]
  exact congrArg _ (run_answers _ (by decide) h hb)

theorem exec_planAdmit_waits {s t : State} {c q : Nat} {env : HostEnv} {x : Queue} {k : Cmd} {w : Wait}
    (he : envOk env = true) (h : Serves s c q 0x11 0 x k) (hb : (fun k s => cmdPlanAdmit c env k s : Cmd → State → CmdOut) k s = .wait w t) :
    exec (.planAdmit c q env) s = .next (t.waits c q k w) := by
  show guarded _ _ _ = _
  rw [guarded_next _ _ (by simp [Instr.wellFormed, h.ctx, h.loc, he])]
  exact congrArg _ (run_waits _ (by decide) h hb)

theorem exec_planArm_answers {s t : State} {c q : Nat} {env : HostEnv} {x : Queue} {k : Cmd} {st d : Nat}
    (he : envOk env = true) (h : Serves s c q 0x12 0 x k) (hb : (fun k s => cmdPlanArm c env k s : Cmd → State → CmdOut) k s = .done st d t) :
    exec (.planArm c q env) s = .next (t.answered c q k st d) := by
  show guarded _ _ _ = _
  rw [guarded_next _ _ (by simp [Instr.wellFormed, h.ctx, h.loc, he])]
  exact congrArg _ (run_answers _ (by decide) h hb)

theorem exec_planArm_waits {s t : State} {c q : Nat} {env : HostEnv} {x : Queue} {k : Cmd} {w : Wait}
    (he : envOk env = true) (h : Serves s c q 0x12 0 x k) (hb : (fun k s => cmdPlanArm c env k s : Cmd → State → CmdOut) k s = .wait w t) :
    exec (.planArm c q env) s = .next (t.waits c q k w) := by
  show guarded _ _ _ = _
  rw [guarded_next _ _ (by simp [Instr.wellFormed, h.ctx, h.loc, he])]
  exact congrArg _ (run_waits _ (by decide) h hb)

theorem exec_planStop_answers {s t : State} {c q : Nat} {env : HostEnv} {x : Queue} {k : Cmd} {st d : Nat}
    (he : envOk env = true) (h : Serves s c q 0x13 0 x k) (hb : (fun k s => cmdPlanStop c k s : Cmd → State → CmdOut) k s = .done st d t) :
    exec (.planStop c q env) s = .next (t.answered c q k st d) := by
  show guarded _ _ _ = _
  rw [guarded_next _ _ (by simp [Instr.wellFormed, h.ctx, h.loc, he])]
  exact congrArg _ (run_answers _ (by decide) h hb)

theorem exec_planStop_waits {s t : State} {c q : Nat} {env : HostEnv} {x : Queue} {k : Cmd} {w : Wait}
    (he : envOk env = true) (h : Serves s c q 0x13 0 x k) (hb : (fun k s => cmdPlanStop c k s : Cmd → State → CmdOut) k s = .wait w t) :
    exec (.planStop c q env) s = .next (t.waits c q k w) := by
  show guarded _ _ _ = _
  rw [guarded_next _ _ (by simp [Instr.wellFormed, h.ctx, h.loc, he])]
  exact congrArg _ (run_waits _ (by decide) h hb)

theorem exec_planUnload_answers {s t : State} {c q : Nat} {env : HostEnv} {x : Queue} {k : Cmd} {st d : Nat}
    (he : envOk env = true) (h : Serves s c q 0x14 0 x k) (hb : (fun k s => cmdPlanUnload c k s : Cmd → State → CmdOut) k s = .done st d t) :
    exec (.planUnload c q env) s = .next (t.answered c q k st d) := by
  show guarded _ _ _ = _
  rw [guarded_next _ _ (by simp [Instr.wellFormed, h.ctx, h.loc, he])]
  exact congrArg _ (run_answers _ (by decide) h hb)

theorem exec_planUnload_waits {s t : State} {c q : Nat} {env : HostEnv} {x : Queue} {k : Cmd} {w : Wait}
    (he : envOk env = true) (h : Serves s c q 0x14 0 x k) (hb : (fun k s => cmdPlanUnload c k s : Cmd → State → CmdOut) k s = .wait w t) :
    exec (.planUnload c q env) s = .next (t.waits c q k w) := by
  show guarded _ _ _ = _
  rw [guarded_next _ _ (by simp [Instr.wellFormed, h.ctx, h.loc, he])]
  exact congrArg _ (run_waits _ (by decide) h hb)

theorem exec_planStatus_answers {s t : State} {c q : Nat} {env : HostEnv} {x : Queue} {k : Cmd} {st d : Nat}
    (he : envOk env = true) (h : Serves s c q 0x15 0 x k) (hb : (fun k s => cmdPlanStatus c env k s : Cmd → State → CmdOut) k s = .done st d t) :
    exec (.planStatus c q env) s = .next (t.answered c q k st d) := by
  show guarded _ _ _ = _
  rw [guarded_next _ _ (by simp [Instr.wellFormed, h.ctx, h.loc, he])]
  exact congrArg _ (run_answers _ (by decide) h hb)

theorem exec_planStatus_waits {s t : State} {c q : Nat} {env : HostEnv} {x : Queue} {k : Cmd} {w : Wait}
    (he : envOk env = true) (h : Serves s c q 0x15 0 x k) (hb : (fun k s => cmdPlanStatus c env k s : Cmd → State → CmdOut) k s = .wait w t) :
    exec (.planStatus c q env) s = .next (t.waits c q k w) := by
  show guarded _ _ _ = _
  rw [guarded_next _ _ (by simp [Instr.wellFormed, h.ctx, h.loc, he])]
  exact congrArg _ (run_waits _ (by decide) h hb)

theorem exec_modelLoad_answers {s t : State} {c q : Nat} {env : HostEnv} {x : Queue} {k : Cmd} {st d : Nat}
    (he : envOk env = true) (h : Serves s c q 0x20 0 x k) (hb : (fun k s => cmdModelLoad c env k s : Cmd → State → CmdOut) k s = .done st d t) :
    exec (.modelLoad c q env) s = .next (t.answered c q k st d) := by
  show guarded _ _ _ = _
  rw [guarded_next _ _ (by simp [Instr.wellFormed, h.ctx, h.loc, he])]
  exact congrArg _ (run_answers _ (by decide) h hb)

theorem exec_modelLoad_waits {s t : State} {c q : Nat} {env : HostEnv} {x : Queue} {k : Cmd} {w : Wait}
    (he : envOk env = true) (h : Serves s c q 0x20 0 x k) (hb : (fun k s => cmdModelLoad c env k s : Cmd → State → CmdOut) k s = .wait w t) :
    exec (.modelLoad c q env) s = .next (t.waits c q k w) := by
  show guarded _ _ _ = _
  rw [guarded_next _ _ (by simp [Instr.wellFormed, h.ctx, h.loc, he])]
  exact congrArg _ (run_waits _ (by decide) h hb)

theorem exec_modelEvict_answers {s t : State} {c q : Nat} {env : HostEnv} {x : Queue} {k : Cmd} {st d : Nat}
    (he : envOk env = true) (h : Serves s c q 0x21 0 x k) (hb : (fun k s => cmdModelEvict c k s : Cmd → State → CmdOut) k s = .done st d t) :
    exec (.modelEvict c q env) s = .next (t.answered c q k st d) := by
  show guarded _ _ _ = _
  rw [guarded_next _ _ (by simp [Instr.wellFormed, h.ctx, h.loc, he])]
  exact congrArg _ (run_answers _ (by decide) h hb)

theorem exec_modelEvict_waits {s t : State} {c q : Nat} {env : HostEnv} {x : Queue} {k : Cmd} {w : Wait}
    (he : envOk env = true) (h : Serves s c q 0x21 0 x k) (hb : (fun k s => cmdModelEvict c k s : Cmd → State → CmdOut) k s = .wait w t) :
    exec (.modelEvict c q env) s = .next (t.waits c q k w) := by
  show guarded _ _ _ = _
  rw [guarded_next _ _ (by simp [Instr.wellFormed, h.ctx, h.loc, he])]
  exact congrArg _ (run_waits _ (by decide) h hb)

theorem exec_modelList_answers {s t : State} {c q : Nat} {env : HostEnv} {x : Queue} {k : Cmd} {st d : Nat}
    (he : envOk env = true) (h : Serves s c q 0x22 0 x k) (hb : (fun k s => cmdModelList c env k s : Cmd → State → CmdOut) k s = .done st d t) :
    exec (.modelList c q env) s = .next (t.answered c q k st d) := by
  show guarded _ _ _ = _
  rw [guarded_next _ _ (by simp [Instr.wellFormed, h.ctx, h.loc, he])]
  exact congrArg _ (run_answers _ (by decide) h hb)

theorem exec_modelList_waits {s t : State} {c q : Nat} {env : HostEnv} {x : Queue} {k : Cmd} {w : Wait}
    (he : envOk env = true) (h : Serves s c q 0x22 0 x k) (hb : (fun k s => cmdModelList c env k s : Cmd → State → CmdOut) k s = .wait w t) :
    exec (.modelList c q env) s = .next (t.waits c q k w) := by
  show guarded _ _ _ = _
  rw [guarded_next _ _ (by simp [Instr.wellFormed, h.ctx, h.loc, he])]
  exact congrArg _ (run_waits _ (by decide) h hb)

theorem exec_bufPin_answers {s t : State} {c q : Nat} {env : HostEnv} {x : Queue} {k : Cmd} {st d : Nat}
    (he : envOk env = true) (h : Serves s c q 0x30 0 x k) (hb : (fun k s => cmdBufPin c env k s : Cmd → State → CmdOut) k s = .done st d t) :
    exec (.bufPin c q env) s = .next (t.answered c q k st d) := by
  show guarded _ _ _ = _
  rw [guarded_next _ _ (by simp [Instr.wellFormed, h.ctx, h.loc, he])]
  exact congrArg _ (run_answers _ (by decide) h hb)

theorem exec_bufPin_waits {s t : State} {c q : Nat} {env : HostEnv} {x : Queue} {k : Cmd} {w : Wait}
    (he : envOk env = true) (h : Serves s c q 0x30 0 x k) (hb : (fun k s => cmdBufPin c env k s : Cmd → State → CmdOut) k s = .wait w t) :
    exec (.bufPin c q env) s = .next (t.waits c q k w) := by
  show guarded _ _ _ = _
  rw [guarded_next _ _ (by simp [Instr.wellFormed, h.ctx, h.loc, he])]
  exact congrArg _ (run_waits _ (by decide) h hb)

theorem exec_bufUnpin_answers {s t : State} {c q : Nat} {env : HostEnv} {x : Queue} {k : Cmd} {st d : Nat}
    (he : envOk env = true) (h : Serves s c q 0x31 0 x k) (hb : (fun k s => cmdBufUnpin c env k s : Cmd → State → CmdOut) k s = .done st d t) :
    exec (.bufUnpin c q env) s = .next (t.answered c q k st d) := by
  show guarded _ _ _ = _
  rw [guarded_next _ _ (by simp [Instr.wellFormed, h.ctx, h.loc, he])]
  exact congrArg _ (run_answers _ (by decide) h hb)

theorem exec_bufUnpin_waits {s t : State} {c q : Nat} {env : HostEnv} {x : Queue} {k : Cmd} {w : Wait}
    (he : envOk env = true) (h : Serves s c q 0x31 0 x k) (hb : (fun k s => cmdBufUnpin c env k s : Cmd → State → CmdOut) k s = .wait w t) :
    exec (.bufUnpin c q env) s = .next (t.waits c q k w) := by
  show guarded _ _ _ = _
  rw [guarded_next _ _ (by simp [Instr.wellFormed, h.ctx, h.loc, he])]
  exact congrArg _ (run_waits _ (by decide) h hb)

theorem exec_tlbInvalidate_answers {s t : State} {c q : Nat} {env : HostEnv} {x : Queue} {k : Cmd} {st d : Nat}
    (he : envOk env = true) (h : Serves s c q 0x32 0 x k) (hb : (fun k s => cmdTlbInvalidate c env k s : Cmd → State → CmdOut) k s = .done st d t) :
    exec (.tlbInvalidate c q env) s = .next (t.answered c q k st d) := by
  show guarded _ _ _ = _
  rw [guarded_next _ _ (by simp [Instr.wellFormed, h.ctx, h.loc, he])]
  exact congrArg _ (run_answers _ (by decide) h hb)

theorem exec_tlbInvalidate_waits {s t : State} {c q : Nat} {env : HostEnv} {x : Queue} {k : Cmd} {w : Wait}
    (he : envOk env = true) (h : Serves s c q 0x32 0 x k) (hb : (fun k s => cmdTlbInvalidate c env k s : Cmd → State → CmdOut) k s = .wait w t) :
    exec (.tlbInvalidate c q env) s = .next (t.waits c q k w) := by
  show guarded _ _ _ = _
  rw [guarded_next _ _ (by simp [Instr.wellFormed, h.ctx, h.loc, he])]
  exact congrArg _ (run_waits _ (by decide) h hb)

theorem exec_pageMigrate_answers {s t : State} {c q : Nat} {env : HostEnv} {x : Queue} {k : Cmd} {st d : Nat}
    (he : envOk env = true) (h : Serves s c q 0x33 0 x k) (hb : (fun k s => cmdPageMigrate c env k s : Cmd → State → CmdOut) k s = .done st d t) :
    exec (.pageMigrate c q env) s = .next (t.answered c q k st d) := by
  show guarded _ _ _ = _
  rw [guarded_next _ _ (by simp [Instr.wellFormed, h.ctx, h.loc, he])]
  exact congrArg _ (run_answers _ (by decide) h hb)

theorem exec_pageMigrate_waits {s t : State} {c q : Nat} {env : HostEnv} {x : Queue} {k : Cmd} {w : Wait}
    (he : envOk env = true) (h : Serves s c q 0x33 0 x k) (hb : (fun k s => cmdPageMigrate c env k s : Cmd → State → CmdOut) k s = .wait w t) :
    exec (.pageMigrate c q env) s = .next (t.waits c q k w) := by
  show guarded _ _ _ = _
  rw [guarded_next _ _ (by simp [Instr.wellFormed, h.ctx, h.loc, he])]
  exact congrArg _ (run_waits _ (by decide) h hb)

theorem exec_ringCreate_answers {s t : State} {c q : Nat} {env : HostEnv} {x : Queue} {k : Cmd} {st d : Nat}
    (he : envOk env = true) (h : Serves s c q 0x40 0 x k) (hb : (fun k s => cmdRingCreate c k s : Cmd → State → CmdOut) k s = .done st d t) :
    exec (.ringCreate c q env) s = .next (t.answered c q k st d) := by
  show guarded _ _ _ = _
  rw [guarded_next _ _ (by simp [Instr.wellFormed, h.ctx, h.loc, he])]
  exact congrArg _ (run_answers _ (by decide) h hb)

theorem exec_ringCreate_waits {s t : State} {c q : Nat} {env : HostEnv} {x : Queue} {k : Cmd} {w : Wait}
    (he : envOk env = true) (h : Serves s c q 0x40 0 x k) (hb : (fun k s => cmdRingCreate c k s : Cmd → State → CmdOut) k s = .wait w t) :
    exec (.ringCreate c q env) s = .next (t.waits c q k w) := by
  show guarded _ _ _ = _
  rw [guarded_next _ _ (by simp [Instr.wellFormed, h.ctx, h.loc, he])]
  exact congrArg _ (run_waits _ (by decide) h hb)

theorem exec_ringDestroy_answers {s t : State} {c q : Nat} {env : HostEnv} {x : Queue} {k : Cmd} {st d : Nat}
    (he : envOk env = true) (h : Serves s c q 0x41 0 x k) (hb : (fun k s => cmdRingDestroy c q k s : Cmd → State → CmdOut) k s = .done st d t) :
    exec (.ringDestroy c q env) s = .next (t.answered c q k st d) := by
  show guarded _ _ _ = _
  rw [guarded_next _ _ (by simp [Instr.wellFormed, h.ctx, h.loc, he])]
  exact congrArg _ (run_answers _ (by decide) h hb)

theorem exec_ringDestroy_waits {s t : State} {c q : Nat} {env : HostEnv} {x : Queue} {k : Cmd} {w : Wait}
    (he : envOk env = true) (h : Serves s c q 0x41 0 x k) (hb : (fun k s => cmdRingDestroy c q k s : Cmd → State → CmdOut) k s = .wait w t) :
    exec (.ringDestroy c q env) s = .next (t.waits c q k w) := by
  show guarded _ _ _ = _
  rw [guarded_next _ _ (by simp [Instr.wellFormed, h.ctx, h.loc, he])]
  exact congrArg _ (run_waits _ (by decide) h hb)

theorem exec_dmaProgLoad_answers {s t : State} {c q : Nat} {env : HostEnv} {x : Queue} {k : Cmd} {st d : Nat}
    (he : envOk env = true) (h : Serves s c q 0x42 0 x k) (hb : (fun k s => cmdDmaProgLoad c env k s : Cmd → State → CmdOut) k s = .done st d t) :
    exec (.dmaProgLoad c q env) s = .next (t.answered c q k st d) := by
  show guarded _ _ _ = _
  rw [guarded_next _ _ (by simp [Instr.wellFormed, h.ctx, h.loc, he])]
  exact congrArg _ (run_answers _ (by decide) h hb)

theorem exec_dmaProgLoad_waits {s t : State} {c q : Nat} {env : HostEnv} {x : Queue} {k : Cmd} {w : Wait}
    (he : envOk env = true) (h : Serves s c q 0x42 0 x k) (hb : (fun k s => cmdDmaProgLoad c env k s : Cmd → State → CmdOut) k s = .wait w t) :
    exec (.dmaProgLoad c q env) s = .next (t.waits c q k w) := by
  show guarded _ _ _ = _
  rw [guarded_next _ _ (by simp [Instr.wellFormed, h.ctx, h.loc, he])]
  exact congrArg _ (run_waits _ (by decide) h hb)

theorem exec_acqConfigStop_answers {s t : State} {c q : Nat} {env : HostEnv} {x : Queue} {k : Cmd} {st d : Nat}
    (he : envOk env = true) (h : Serves s c q 0x50 0 x k) (hb : (fun k s => cmdAcqStop c k s : Cmd → State → CmdOut) k s = .done st d t) :
    exec (.acqConfigStop c q env) s = .next (t.answered c q k st d) := by
  show guarded _ _ _ = _
  rw [guarded_next _ _ (by simp [Instr.wellFormed, h.ctx, h.loc, he])]
  exact congrArg _ (run_answers _ (by decide) h hb)

theorem exec_acqConfigStop_waits {s t : State} {c q : Nat} {env : HostEnv} {x : Queue} {k : Cmd} {w : Wait}
    (he : envOk env = true) (h : Serves s c q 0x50 0 x k) (hb : (fun k s => cmdAcqStop c k s : Cmd → State → CmdOut) k s = .wait w t) :
    exec (.acqConfigStop c q env) s = .next (t.waits c q k w) := by
  show guarded _ _ _ = _
  rw [guarded_next _ _ (by simp [Instr.wellFormed, h.ctx, h.loc, he])]
  exact congrArg _ (run_waits _ (by decide) h hb)

theorem exec_acqConfigApply_answers {s t : State} {c q : Nat} {env : HostEnv} {x : Queue} {k : Cmd} {st d : Nat}
    (he : envOk env = true) (h : Serves s c q 0x50 1 x k) (hb : (fun k s => cmdAcqApply c env k s : Cmd → State → CmdOut) k s = .done st d t) :
    exec (.acqConfigApply c q env) s = .next (t.answered c q k st d) := by
  show guarded _ _ _ = _
  rw [guarded_next _ _ (by simp [Instr.wellFormed, h.ctx, h.loc, he])]
  exact congrArg _ (run_answers _ (by decide) h hb)

theorem exec_acqConfigApply_waits {s t : State} {c q : Nat} {env : HostEnv} {x : Queue} {k : Cmd} {w : Wait}
    (he : envOk env = true) (h : Serves s c q 0x50 1 x k) (hb : (fun k s => cmdAcqApply c env k s : Cmd → State → CmdOut) k s = .wait w t) :
    exec (.acqConfigApply c q env) s = .next (t.waits c q k w) := by
  show guarded _ _ _ = _
  rw [guarded_next _ _ (by simp [Instr.wellFormed, h.ctx, h.loc, he])]
  exact congrArg _ (run_waits _ (by decide) h hb)

theorem exec_acqConfigStart_answers {s t : State} {c q : Nat} {env : HostEnv} {x : Queue} {k : Cmd} {st d : Nat}
    (he : envOk env = true) (h : Serves s c q 0x50 2 x k) (hb : (fun k s => cmdAcqStart c k s : Cmd → State → CmdOut) k s = .done st d t) :
    exec (.acqConfigStart c q env) s = .next (t.answered c q k st d) := by
  show guarded _ _ _ = _
  rw [guarded_next _ _ (by simp [Instr.wellFormed, h.ctx, h.loc, he])]
  exact congrArg _ (run_answers _ (by decide) h hb)

theorem exec_acqConfigStart_waits {s t : State} {c q : Nat} {env : HostEnv} {x : Queue} {k : Cmd} {w : Wait}
    (he : envOk env = true) (h : Serves s c q 0x50 2 x k) (hb : (fun k s => cmdAcqStart c k s : Cmd → State → CmdOut) k s = .wait w t) :
    exec (.acqConfigStart c q env) s = .next (t.waits c q k w) := by
  show guarded _ _ _ = _
  rw [guarded_next _ _ (by simp [Instr.wellFormed, h.ctx, h.loc, he])]
  exact congrArg _ (run_waits _ (by decide) h hb)

theorem exec_acqConfigForce_answers {s t : State} {c q : Nat} {env : HostEnv} {x : Queue} {k : Cmd} {st d : Nat}
    (he : envOk env = true) (h : Serves s c q 0x50 3 x k) (hb : (fun k s => cmdAcqForce c k s : Cmd → State → CmdOut) k s = .done st d t) :
    exec (.acqConfigForce c q env) s = .next (t.answered c q k st d) := by
  show guarded _ _ _ = _
  rw [guarded_next _ _ (by simp [Instr.wellFormed, h.ctx, h.loc, he])]
  exact congrArg _ (run_answers _ (by decide) h hb)

theorem exec_acqConfigForce_waits {s t : State} {c q : Nat} {env : HostEnv} {x : Queue} {k : Cmd} {w : Wait}
    (he : envOk env = true) (h : Serves s c q 0x50 3 x k) (hb : (fun k s => cmdAcqForce c k s : Cmd → State → CmdOut) k s = .wait w t) :
    exec (.acqConfigForce c q env) s = .next (t.waits c q k w) := by
  show guarded _ _ _ = _
  rw [guarded_next _ _ (by simp [Instr.wellFormed, h.ctx, h.loc, he])]
  exact congrArg _ (run_waits _ (by decide) h hb)

theorem exec_acqConfigPair_answers {s t : State} {c q : Nat} {env : HostEnv} {x : Queue} {k : Cmd} {st d : Nat}
    (he : envOk env = true) (h : Serves s c q 0x50 4 x k) (hb : (fun k s => cmdAcqPair c k s : Cmd → State → CmdOut) k s = .done st d t) :
    exec (.acqConfigPair c q env) s = .next (t.answered c q k st d) := by
  show guarded _ _ _ = _
  rw [guarded_next _ _ (by simp [Instr.wellFormed, h.ctx, h.loc, he])]
  exact congrArg _ (run_answers _ (by decide) h hb)

theorem exec_acqConfigPair_waits {s t : State} {c q : Nat} {env : HostEnv} {x : Queue} {k : Cmd} {w : Wait}
    (he : envOk env = true) (h : Serves s c q 0x50 4 x k) (hb : (fun k s => cmdAcqPair c k s : Cmd → State → CmdOut) k s = .wait w t) :
    exec (.acqConfigPair c q env) s = .next (t.waits c q k w) := by
  show guarded _ _ _ = _
  rw [guarded_next _ _ (by simp [Instr.wellFormed, h.ctx, h.loc, he])]
  exact congrArg _ (run_waits _ (by decide) h hb)

theorem exec_dfcCoefLoadStop_answers {s t : State} {c q : Nat} {env : HostEnv} {x : Queue} {k : Cmd} {st d : Nat}
    (he : envOk env = true) (h : Serves s c q 0x51 0 x k) (hb : (fun k s => cmdDfcStop c k s : Cmd → State → CmdOut) k s = .done st d t) :
    exec (.dfcCoefLoadStop c q env) s = .next (t.answered c q k st d) := by
  show guarded _ _ _ = _
  rw [guarded_next _ _ (by simp [Instr.wellFormed, h.ctx, h.loc, he])]
  exact congrArg _ (run_answers _ (by decide) h hb)

theorem exec_dfcCoefLoadStop_waits {s t : State} {c q : Nat} {env : HostEnv} {x : Queue} {k : Cmd} {w : Wait}
    (he : envOk env = true) (h : Serves s c q 0x51 0 x k) (hb : (fun k s => cmdDfcStop c k s : Cmd → State → CmdOut) k s = .wait w t) :
    exec (.dfcCoefLoadStop c q env) s = .next (t.waits c q k w) := by
  show guarded _ _ _ = _
  rw [guarded_next _ _ (by simp [Instr.wellFormed, h.ctx, h.loc, he])]
  exact congrArg _ (run_waits _ (by decide) h hb)

theorem exec_dfcCoefLoadLoad_answers {s t : State} {c q : Nat} {env : HostEnv} {x : Queue} {k : Cmd} {st d : Nat}
    (he : envOk env = true) (h : Serves s c q 0x51 1 x k) (hb : (fun k s => cmdDfcLoad c env k s : Cmd → State → CmdOut) k s = .done st d t) :
    exec (.dfcCoefLoadLoad c q env) s = .next (t.answered c q k st d) := by
  show guarded _ _ _ = _
  rw [guarded_next _ _ (by simp [Instr.wellFormed, h.ctx, h.loc, he])]
  exact congrArg _ (run_answers _ (by decide) h hb)

theorem exec_dfcCoefLoadLoad_waits {s t : State} {c q : Nat} {env : HostEnv} {x : Queue} {k : Cmd} {w : Wait}
    (he : envOk env = true) (h : Serves s c q 0x51 1 x k) (hb : (fun k s => cmdDfcLoad c env k s : Cmd → State → CmdOut) k s = .wait w t) :
    exec (.dfcCoefLoadLoad c q env) s = .next (t.waits c q k w) := by
  show guarded _ _ _ = _
  rw [guarded_next _ _ (by simp [Instr.wellFormed, h.ctx, h.loc, he])]
  exact congrArg _ (run_waits _ (by decide) h hb)

theorem exec_dfcCoefLoadStart_answers {s t : State} {c q : Nat} {env : HostEnv} {x : Queue} {k : Cmd} {st d : Nat}
    (he : envOk env = true) (h : Serves s c q 0x51 2 x k) (hb : (fun k s => cmdDfcStart c k s : Cmd → State → CmdOut) k s = .done st d t) :
    exec (.dfcCoefLoadStart c q env) s = .next (t.answered c q k st d) := by
  show guarded _ _ _ = _
  rw [guarded_next _ _ (by simp [Instr.wellFormed, h.ctx, h.loc, he])]
  exact congrArg _ (run_answers _ (by decide) h hb)

theorem exec_dfcCoefLoadStart_waits {s t : State} {c q : Nat} {env : HostEnv} {x : Queue} {k : Cmd} {w : Wait}
    (he : envOk env = true) (h : Serves s c q 0x51 2 x k) (hb : (fun k s => cmdDfcStart c k s : Cmd → State → CmdOut) k s = .wait w t) :
    exec (.dfcCoefLoadStart c q env) s = .next (t.waits c q k w) := by
  show guarded _ _ _ = _
  rw [guarded_next _ _ (by simp [Instr.wellFormed, h.ctx, h.loc, he])]
  exact congrArg _ (run_waits _ (by decide) h hb)

theorem exec_acqSync_answers {s t : State} {c q : Nat} {env : HostEnv} {x : Queue} {k : Cmd} {st d : Nat}
    (he : envOk env = true) (h : Serves s c q 0x52 0 x k) (hb : (fun k s => cmdAcqSync k s : Cmd → State → CmdOut) k s = .done st d t) :
    exec (.acqSync c q env) s = .next (t.answered c q k st d) := by
  show guarded _ _ _ = _
  rw [guarded_next _ _ (by simp [Instr.wellFormed, h.ctx, h.loc, he])]
  exact congrArg _ (run_answers _ (by decide) h hb)

theorem exec_acqSync_waits {s t : State} {c q : Nat} {env : HostEnv} {x : Queue} {k : Cmd} {w : Wait}
    (he : envOk env = true) (h : Serves s c q 0x52 0 x k) (hb : (fun k s => cmdAcqSync k s : Cmd → State → CmdOut) k s = .wait w t) :
    exec (.acqSync c q env) s = .next (t.waits c q k w) := by
  show guarded _ _ _ = _
  rw [guarded_next _ _ (by simp [Instr.wellFormed, h.ctx, h.loc, he])]
  exact congrArg _ (run_waits _ (by decide) h hb)

theorem exec_acqReadout_answers {s t : State} {c q : Nat} {env : HostEnv} {x : Queue} {k : Cmd} {st d : Nat}
    (he : envOk env = true) (h : Serves s c q 0x53 0 x k) (hb : (fun k s => cmdAcqReadout c env k s : Cmd → State → CmdOut) k s = .done st d t) :
    exec (.acqReadout c q env) s = .next (t.answered c q k st d) := by
  show guarded _ _ _ = _
  rw [guarded_next _ _ (by simp [Instr.wellFormed, h.ctx, h.loc, he])]
  exact congrArg _ (run_answers _ (by decide) h hb)

theorem exec_acqReadout_waits {s t : State} {c q : Nat} {env : HostEnv} {x : Queue} {k : Cmd} {w : Wait}
    (he : envOk env = true) (h : Serves s c q 0x53 0 x k) (hb : (fun k s => cmdAcqReadout c env k s : Cmd → State → CmdOut) k s = .wait w t) :
    exec (.acqReadout c q env) s = .next (t.waits c q k w) := by
  show guarded _ _ _ = _
  rw [guarded_next _ _ (by simp [Instr.wellFormed, h.ctx, h.loc, he])]
  exact congrArg _ (run_waits _ (by decide) h hb)

theorem exec_evpConfigDisable_answers {s t : State} {c q : Nat} {env : HostEnv} {x : Queue} {k : Cmd} {st d : Nat}
    (he : envOk env = true) (h : Serves s c q 0x60 0 x k) (hb : (fun k s => cmdEvpDisable k s : Cmd → State → CmdOut) k s = .done st d t) :
    exec (.evpConfigDisable c q env) s = .next (t.answered c q k st d) := by
  show guarded _ _ _ = _
  rw [guarded_next _ _ (by simp [Instr.wellFormed, h.ctx, h.loc, he])]
  exact congrArg _ (run_answers _ (by decide) h hb)

theorem exec_evpConfigDisable_waits {s t : State} {c q : Nat} {env : HostEnv} {x : Queue} {k : Cmd} {w : Wait}
    (he : envOk env = true) (h : Serves s c q 0x60 0 x k) (hb : (fun k s => cmdEvpDisable k s : Cmd → State → CmdOut) k s = .wait w t) :
    exec (.evpConfigDisable c q env) s = .next (t.waits c q k w) := by
  show guarded _ _ _ = _
  rw [guarded_next _ _ (by simp [Instr.wellFormed, h.ctx, h.loc, he])]
  exact congrArg _ (run_waits _ (by decide) h hb)

theorem exec_evpConfigEnable_answers {s t : State} {c q : Nat} {env : HostEnv} {x : Queue} {k : Cmd} {st d : Nat}
    (he : envOk env = true) (h : Serves s c q 0x60 1 x k) (hb : (fun k s => cmdEvpEnable c env k s : Cmd → State → CmdOut) k s = .done st d t) :
    exec (.evpConfigEnable c q env) s = .next (t.answered c q k st d) := by
  show guarded _ _ _ = _
  rw [guarded_next _ _ (by simp [Instr.wellFormed, h.ctx, h.loc, he])]
  exact congrArg _ (run_answers _ (by decide) h hb)

theorem exec_evpConfigEnable_waits {s t : State} {c q : Nat} {env : HostEnv} {x : Queue} {k : Cmd} {w : Wait}
    (he : envOk env = true) (h : Serves s c q 0x60 1 x k) (hb : (fun k s => cmdEvpEnable c env k s : Cmd → State → CmdOut) k s = .wait w t) :
    exec (.evpConfigEnable c q env) s = .next (t.waits c q k w) := by
  show guarded _ _ _ = _
  rw [guarded_next _ _ (by simp [Instr.wellFormed, h.ctx, h.loc, he])]
  exact congrArg _ (run_waits _ (by decide) h hb)

theorem exec_evpConfigGroups_answers {s t : State} {c q : Nat} {env : HostEnv} {x : Queue} {k : Cmd} {st d : Nat}
    (he : envOk env = true) (h : Serves s c q 0x60 2 x k) (hb : (fun k s => cmdEvpGroups c env k s : Cmd → State → CmdOut) k s = .done st d t) :
    exec (.evpConfigGroups c q env) s = .next (t.answered c q k st d) := by
  show guarded _ _ _ = _
  rw [guarded_next _ _ (by simp [Instr.wellFormed, h.ctx, h.loc, he])]
  exact congrArg _ (run_answers _ (by decide) h hb)

theorem exec_evpConfigGroups_waits {s t : State} {c q : Nat} {env : HostEnv} {x : Queue} {k : Cmd} {w : Wait}
    (he : envOk env = true) (h : Serves s c q 0x60 2 x k) (hb : (fun k s => cmdEvpGroups c env k s : Cmd → State → CmdOut) k s = .wait w t) :
    exec (.evpConfigGroups c q env) s = .next (t.waits c q k w) := by
  show guarded _ _ _ = _
  rw [guarded_next _ _ (by simp [Instr.wellFormed, h.ctx, h.loc, he])]
  exact congrArg _ (run_waits _ (by decide) h hb)

theorem exec_evpMaskLoad_answers {s t : State} {c q : Nat} {env : HostEnv} {x : Queue} {k : Cmd} {st d : Nat}
    (he : envOk env = true) (h : Serves s c q 0x61 0 x k) (hb : (fun k s => cmdEvpMaskLoad c env k s : Cmd → State → CmdOut) k s = .done st d t) :
    exec (.evpMaskLoad c q env) s = .next (t.answered c q k st d) := by
  show guarded _ _ _ = _
  rw [guarded_next _ _ (by simp [Instr.wellFormed, h.ctx, h.loc, he])]
  exact congrArg _ (run_answers _ (by decide) h hb)

theorem exec_evpMaskLoad_waits {s t : State} {c q : Nat} {env : HostEnv} {x : Queue} {k : Cmd} {w : Wait}
    (he : envOk env = true) (h : Serves s c q 0x61 0 x k) (hb : (fun k s => cmdEvpMaskLoad c env k s : Cmd → State → CmdOut) k s = .wait w t) :
    exec (.evpMaskLoad c q env) s = .next (t.waits c q k w) := by
  show guarded _ _ _ = _
  rw [guarded_next _ _ (by simp [Instr.wellFormed, h.ctx, h.loc, he])]
  exact congrArg _ (run_waits _ (by decide) h hb)

theorem exec_pwrPolicySet_answers {s t : State} {c q : Nat} {env : HostEnv} {x : Queue} {k : Cmd} {st d : Nat}
    (he : envOk env = true) (h : Serves s c q 0x70 0 x k) (hb : (fun k s => cmdPwrSet k s : Cmd → State → CmdOut) k s = .done st d t) :
    exec (.pwrPolicySet c q env) s = .next (t.answered c q k st d) := by
  show guarded _ _ _ = _
  rw [guarded_next _ _ (by simp [Instr.wellFormed, h.ctx, h.loc, he])]
  exact congrArg _ (run_answers _ (by decide) h hb)

theorem exec_pwrPolicySet_waits {s t : State} {c q : Nat} {env : HostEnv} {x : Queue} {k : Cmd} {w : Wait}
    (he : envOk env = true) (h : Serves s c q 0x70 0 x k) (hb : (fun k s => cmdPwrSet k s : Cmd → State → CmdOut) k s = .wait w t) :
    exec (.pwrPolicySet c q env) s = .next (t.waits c q k w) := by
  show guarded _ _ _ = _
  rw [guarded_next _ _ (by simp [Instr.wellFormed, h.ctx, h.loc, he])]
  exact congrArg _ (run_waits _ (by decide) h hb)

theorem exec_pwrPolicyWake_answers {s t : State} {c q : Nat} {env : HostEnv} {x : Queue} {k : Cmd} {st d : Nat}
    (he : envOk env = true) (h : Serves s c q 0x70 1 x k) (hb : (fun k s => cmdPwrWake k s : Cmd → State → CmdOut) k s = .done st d t) :
    exec (.pwrPolicyWake c q env) s = .next (t.answered c q k st d) := by
  show guarded _ _ _ = _
  rw [guarded_next _ _ (by simp [Instr.wellFormed, h.ctx, h.loc, he])]
  exact congrArg _ (run_answers _ (by decide) h hb)

theorem exec_pwrPolicyWake_waits {s t : State} {c q : Nat} {env : HostEnv} {x : Queue} {k : Cmd} {w : Wait}
    (he : envOk env = true) (h : Serves s c q 0x70 1 x k) (hb : (fun k s => cmdPwrWake k s : Cmd → State → CmdOut) k s = .wait w t) :
    exec (.pwrPolicyWake c q env) s = .next (t.waits c q k w) := by
  show guarded _ _ _ = _
  rw [guarded_next _ _ (by simp [Instr.wellFormed, h.ctx, h.loc, he])]
  exact congrArg _ (run_waits _ (by decide) h hb)

theorem exec_pwrPolicyAon_answers {s t : State} {c q : Nat} {env : HostEnv} {x : Queue} {k : Cmd} {st d : Nat}
    (he : envOk env = true) (h : Serves s c q 0x70 2 x k) (hb : (fun k s => cmdPwrAon k s : Cmd → State → CmdOut) k s = .done st d t) :
    exec (.pwrPolicyAon c q env) s = .next (t.answered c q k st d) := by
  show guarded _ _ _ = _
  rw [guarded_next _ _ (by simp [Instr.wellFormed, h.ctx, h.loc, he])]
  exact congrArg _ (run_answers _ (by decide) h hb)

theorem exec_pwrPolicyAon_waits {s t : State} {c q : Nat} {env : HostEnv} {x : Queue} {k : Cmd} {w : Wait}
    (he : envOk env = true) (h : Serves s c q 0x70 2 x k) (hb : (fun k s => cmdPwrAon k s : Cmd → State → CmdOut) k s = .wait w t) :
    exec (.pwrPolicyAon c q env) s = .next (t.waits c q k w) := by
  show guarded _ _ _ = _
  rw [guarded_next _ _ (by simp [Instr.wellFormed, h.ctx, h.loc, he])]
  exact congrArg _ (run_waits _ (by decide) h hb)

theorem exec_energyBudgetSet_answers {s t : State} {c q : Nat} {env : HostEnv} {x : Queue} {k : Cmd} {st d : Nat}
    (he : envOk env = true) (h : Serves s c q 0x71 0 x k) (hb : (fun k s => cmdEnergyBudgetSet k s : Cmd → State → CmdOut) k s = .done st d t) :
    exec (.energyBudgetSet c q env) s = .next (t.answered c q k st d) := by
  show guarded _ _ _ = _
  rw [guarded_next _ _ (by simp [Instr.wellFormed, h.ctx, h.loc, he])]
  exact congrArg _ (run_answers _ (by decide) h hb)

theorem exec_energyBudgetSet_waits {s t : State} {c q : Nat} {env : HostEnv} {x : Queue} {k : Cmd} {w : Wait}
    (he : envOk env = true) (h : Serves s c q 0x71 0 x k) (hb : (fun k s => cmdEnergyBudgetSet k s : Cmd → State → CmdOut) k s = .wait w t) :
    exec (.energyBudgetSet c q env) s = .next (t.waits c q k w) := by
  show guarded _ _ _ = _
  rw [guarded_next _ _ (by simp [Instr.wellFormed, h.ctx, h.loc, he])]
  exact congrArg _ (run_waits _ (by decide) h hb)

theorem exec_pwrGroupSleep_answers {s t : State} {c q : Nat} {env : HostEnv} {x : Queue} {k : Cmd} {st d : Nat}
    (he : envOk env = true) (h : Serves s c q 0x72 0 x k) (hb : (fun k s => cmdGroupSleep c q k s : Cmd → State → CmdOut) k s = .done st d t) :
    exec (.pwrGroupSleep c q env) s = .next (t.answered c q k st d) := by
  show guarded _ _ _ = _
  rw [guarded_next _ _ (by simp [Instr.wellFormed, h.ctx, h.loc, he])]
  exact congrArg _ (run_answers _ (by decide) h hb)

theorem exec_pwrGroupSleep_waits {s t : State} {c q : Nat} {env : HostEnv} {x : Queue} {k : Cmd} {w : Wait}
    (he : envOk env = true) (h : Serves s c q 0x72 0 x k) (hb : (fun k s => cmdGroupSleep c q k s : Cmd → State → CmdOut) k s = .wait w t) :
    exec (.pwrGroupSleep c q env) s = .next (t.waits c q k w) := by
  show guarded _ _ _ = _
  rw [guarded_next _ _ (by simp [Instr.wellFormed, h.ctx, h.loc, he])]
  exact congrArg _ (run_waits _ (by decide) h hb)

theorem exec_faultInject_answers {s t : State} {c q : Nat} {env : HostEnv} {x : Queue} {k : Cmd} {st d : Nat}
    (he : envOk env = true) (h : Serves s c q 0x80 0 x k) (hb : (fun k s => cmdFaultInject k s : Cmd → State → CmdOut) k s = .done st d t) :
    exec (.faultInject c q env) s = .next (t.answered c q k st d) := by
  show guarded _ _ _ = _
  rw [guarded_next _ _ (by simp [Instr.wellFormed, h.ctx, h.loc, he])]
  exact congrArg _ (run_answers _ (by decide) h hb)

theorem exec_faultInject_waits {s t : State} {c q : Nat} {env : HostEnv} {x : Queue} {k : Cmd} {w : Wait}
    (he : envOk env = true) (h : Serves s c q 0x80 0 x k) (hb : (fun k s => cmdFaultInject k s : Cmd → State → CmdOut) k s = .wait w t) :
    exec (.faultInject c q env) s = .next (t.waits c q k w) := by
  show guarded _ _ _ = _
  rw [guarded_next _ _ (by simp [Instr.wellFormed, h.ctx, h.loc, he])]
  exact congrArg _ (run_waits _ (by decide) h hb)

theorem exec_faultInjectClear_answers {s t : State} {c q : Nat} {env : HostEnv} {x : Queue} {k : Cmd} {st d : Nat}
    (he : envOk env = true) (h : Serves s c q 0x80 3 x k) (hb : (fun k s => cmdFaultInjectClear k s : Cmd → State → CmdOut) k s = .done st d t) :
    exec (.faultInjectClear c q env) s = .next (t.answered c q k st d) := by
  show guarded _ _ _ = _
  rw [guarded_next _ _ (by simp [Instr.wellFormed, h.ctx, h.loc, he])]
  exact congrArg _ (run_answers _ (by decide) h hb)

theorem exec_faultInjectClear_waits {s t : State} {c q : Nat} {env : HostEnv} {x : Queue} {k : Cmd} {w : Wait}
    (he : envOk env = true) (h : Serves s c q 0x80 3 x k) (hb : (fun k s => cmdFaultInjectClear k s : Cmd → State → CmdOut) k s = .wait w t) :
    exec (.faultInjectClear c q env) s = .next (t.waits c q k w) := by
  show guarded _ _ _ = _
  rw [guarded_next _ _ (by simp [Instr.wellFormed, h.ctx, h.loc, he])]
  exact congrArg _ (run_waits _ (by decide) h hb)

theorem exec_faultLogRead_answers {s t : State} {c q : Nat} {env : HostEnv} {x : Queue} {k : Cmd} {st d : Nat}
    (he : envOk env = true) (h : Serves s c q 0x81 0 x k) (hb : (fun k s => cmdFaultLogRead c env k s : Cmd → State → CmdOut) k s = .done st d t) :
    exec (.faultLogRead c q env) s = .next (t.answered c q k st d) := by
  show guarded _ _ _ = _
  rw [guarded_next _ _ (by simp [Instr.wellFormed, h.ctx, h.loc, he])]
  exact congrArg _ (run_answers _ (by decide) h hb)

theorem exec_faultLogRead_waits {s t : State} {c q : Nat} {env : HostEnv} {x : Queue} {k : Cmd} {w : Wait}
    (he : envOk env = true) (h : Serves s c q 0x81 0 x k) (hb : (fun k s => cmdFaultLogRead c env k s : Cmd → State → CmdOut) k s = .wait w t) :
    exec (.faultLogRead c q env) s = .next (t.waits c q k w) := by
  show guarded _ _ _ = _
  rw [guarded_next _ _ (by simp [Instr.wellFormed, h.ctx, h.loc, he])]
  exact congrArg _ (run_waits _ (by decide) h hb)

theorem exec_selftestRun_answers {s t : State} {c q : Nat} {env : HostEnv} {x : Queue} {k : Cmd} {st d : Nat}
    (he : envOk env = true) (h : Serves s c q 0x82 0 x k) (hb : (fun k s => cmdSelftestRun k s : Cmd → State → CmdOut) k s = .done st d t) :
    exec (.selftestRun c q env) s = .next (t.answered c q k st d) := by
  show guarded _ _ _ = _
  rw [guarded_next _ _ (by simp [Instr.wellFormed, h.ctx, h.loc, he])]
  exact congrArg _ (run_answers _ (by decide) h hb)

theorem exec_selftestRun_waits {s t : State} {c q : Nat} {env : HostEnv} {x : Queue} {k : Cmd} {w : Wait}
    (he : envOk env = true) (h : Serves s c q 0x82 0 x k) (hb : (fun k s => cmdSelftestRun k s : Cmd → State → CmdOut) k s = .wait w t) :
    exec (.selftestRun c q env) s = .next (t.waits c q k w) := by
  show guarded _ _ _ = _
  rw [guarded_next _ _ (by simp [Instr.wellFormed, h.ctx, h.loc, he])]
  exact congrArg _ (run_waits _ (by decide) h hb)

theorem exec_herdJoinJoin_answers {s t : State} {c q : Nat} {env : HostEnv} {x : Queue} {k : Cmd} {st d : Nat}
    (he : envOk env = true) (h : Serves s c q 0x90 0 x k) (hb : (fun k s => cmdHerdJoin k s : Cmd → State → CmdOut) k s = .done st d t) :
    exec (.herdJoinJoin c q env) s = .next (t.answered c q k st d) := by
  show guarded _ _ _ = _
  rw [guarded_next _ _ (by simp [Instr.wellFormed, h.ctx, h.loc, he])]
  exact congrArg _ (run_answers _ (by decide) h hb)

theorem exec_herdJoinJoin_waits {s t : State} {c q : Nat} {env : HostEnv} {x : Queue} {k : Cmd} {w : Wait}
    (he : envOk env = true) (h : Serves s c q 0x90 0 x k) (hb : (fun k s => cmdHerdJoin k s : Cmd → State → CmdOut) k s = .wait w t) :
    exec (.herdJoinJoin c q env) s = .next (t.waits c q k w) := by
  show guarded _ _ _ = _
  rw [guarded_next _ _ (by simp [Instr.wellFormed, h.ctx, h.loc, he])]
  exact congrArg _ (run_waits _ (by decide) h hb)

theorem exec_herdJoinFound_answers {s t : State} {c q : Nat} {env : HostEnv} {x : Queue} {k : Cmd} {st d : Nat}
    (he : envOk env = true) (h : Serves s c q 0x90 1 x k) (hb : (fun k s => cmdHerdFound k s : Cmd → State → CmdOut) k s = .done st d t) :
    exec (.herdJoinFound c q env) s = .next (t.answered c q k st d) := by
  show guarded _ _ _ = _
  rw [guarded_next _ _ (by simp [Instr.wellFormed, h.ctx, h.loc, he])]
  exact congrArg _ (run_answers _ (by decide) h hb)

theorem exec_herdJoinFound_waits {s t : State} {c q : Nat} {env : HostEnv} {x : Queue} {k : Cmd} {w : Wait}
    (he : envOk env = true) (h : Serves s c q 0x90 1 x k) (hb : (fun k s => cmdHerdFound k s : Cmd → State → CmdOut) k s = .wait w t) :
    exec (.herdJoinFound c q env) s = .next (t.waits c q k w) := by
  show guarded _ _ _ = _
  rw [guarded_next _ _ (by simp [Instr.wellFormed, h.ctx, h.loc, he])]
  exact congrArg _ (run_waits _ (by decide) h hb)

theorem exec_herdJoinEpoch_answers {s t : State} {c q : Nat} {env : HostEnv} {x : Queue} {k : Cmd} {st d : Nat}
    (he : envOk env = true) (h : Serves s c q 0x90 2 x k) (hb : (fun k s => cmdHerdEpoch k s : Cmd → State → CmdOut) k s = .done st d t) :
    exec (.herdJoinEpoch c q env) s = .next (t.answered c q k st d) := by
  show guarded _ _ _ = _
  rw [guarded_next _ _ (by simp [Instr.wellFormed, h.ctx, h.loc, he])]
  exact congrArg _ (run_answers _ (by decide) h hb)

theorem exec_herdJoinEpoch_waits {s t : State} {c q : Nat} {env : HostEnv} {x : Queue} {k : Cmd} {w : Wait}
    (he : envOk env = true) (h : Serves s c q 0x90 2 x k) (hb : (fun k s => cmdHerdEpoch k s : Cmd → State → CmdOut) k s = .wait w t) :
    exec (.herdJoinEpoch c q env) s = .next (t.waits c q k w) := by
  show guarded _ _ _ = _
  rw [guarded_next _ _ (by simp [Instr.wellFormed, h.ctx, h.loc, he])]
  exact congrArg _ (run_waits _ (by decide) h hb)

theorem exec_herdLeave_answers {s t : State} {c q : Nat} {env : HostEnv} {x : Queue} {k : Cmd} {st d : Nat}
    (he : envOk env = true) (h : Serves s c q 0x91 0 x k) (hb : (fun _ s => cmdHerdLeave s : Cmd → State → CmdOut) k s = .done st d t) :
    exec (.herdLeave c q env) s = .next (t.answered c q k st d) := by
  show guarded _ _ _ = _
  rw [guarded_next _ _ (by simp [Instr.wellFormed, h.ctx, h.loc, he])]
  exact congrArg _ (run_answers _ (by decide) h hb)

theorem exec_herdLeave_waits {s t : State} {c q : Nat} {env : HostEnv} {x : Queue} {k : Cmd} {w : Wait}
    (he : envOk env = true) (h : Serves s c q 0x91 0 x k) (hb : (fun _ s => cmdHerdLeave s : Cmd → State → CmdOut) k s = .wait w t) :
    exec (.herdLeave c q env) s = .next (t.waits c q k w) := by
  show guarded _ _ _ = _
  rw [guarded_next _ _ (by simp [Instr.wellFormed, h.ctx, h.loc, he])]
  exact congrArg _ (run_waits _ (by decide) h hb)

theorem exec_herdStatus_answers {s t : State} {c q : Nat} {env : HostEnv} {x : Queue} {k : Cmd} {st d : Nat}
    (he : envOk env = true) (h : Serves s c q 0x92 0 x k) (hb : (fun k s => cmdHerdStatus c env k s : Cmd → State → CmdOut) k s = .done st d t) :
    exec (.herdStatus c q env) s = .next (t.answered c q k st d) := by
  show guarded _ _ _ = _
  rw [guarded_next _ _ (by simp [Instr.wellFormed, h.ctx, h.loc, he])]
  exact congrArg _ (run_answers _ (by decide) h hb)

theorem exec_herdStatus_waits {s t : State} {c q : Nat} {env : HostEnv} {x : Queue} {k : Cmd} {w : Wait}
    (he : envOk env = true) (h : Serves s c q 0x92 0 x k) (hb : (fun k s => cmdHerdStatus c env k s : Cmd → State → CmdOut) k s = .wait w t) :
    exec (.herdStatus c q env) s = .next (t.waits c q k w) := by
  show guarded _ _ _ = _
  rw [guarded_next _ _ (by simp [Instr.wellFormed, h.ctx, h.loc, he])]
  exact congrArg _ (run_waits _ (by decide) h hb)

theorem exec_windowExport_answers {s t : State} {c q : Nat} {env : HostEnv} {x : Queue} {k : Cmd} {st d : Nat}
    (he : envOk env = true) (h : Serves s c q 0x93 0 x k) (hb : (fun k s => cmdWindowExport c k s : Cmd → State → CmdOut) k s = .done st d t) :
    exec (.windowExport c q env) s = .next (t.answered c q k st d) := by
  show guarded _ _ _ = _
  rw [guarded_next _ _ (by simp [Instr.wellFormed, h.ctx, h.loc, he])]
  exact congrArg _ (run_answers _ (by decide) h hb)

theorem exec_windowExport_waits {s t : State} {c q : Nat} {env : HostEnv} {x : Queue} {k : Cmd} {w : Wait}
    (he : envOk env = true) (h : Serves s c q 0x93 0 x k) (hb : (fun k s => cmdWindowExport c k s : Cmd → State → CmdOut) k s = .wait w t) :
    exec (.windowExport c q env) s = .next (t.waits c q k w) := by
  show guarded _ _ _ = _
  rw [guarded_next _ _ (by simp [Instr.wellFormed, h.ctx, h.loc, he])]
  exact congrArg _ (run_waits _ (by decide) h hb)

theorem exec_windowWithdraw_answers {s t : State} {c q : Nat} {env : HostEnv} {x : Queue} {k : Cmd} {st d : Nat}
    (he : envOk env = true) (h : Serves s c q 0x93 1 x k) (hb : (fun k s => cmdWindowWithdraw c k s : Cmd → State → CmdOut) k s = .done st d t) :
    exec (.windowWithdraw c q env) s = .next (t.answered c q k st d) := by
  show guarded _ _ _ = _
  rw [guarded_next _ _ (by simp [Instr.wellFormed, h.ctx, h.loc, he])]
  exact congrArg _ (run_answers _ (by decide) h hb)

theorem exec_windowWithdraw_waits {s t : State} {c q : Nat} {env : HostEnv} {x : Queue} {k : Cmd} {w : Wait}
    (he : envOk env = true) (h : Serves s c q 0x93 1 x k) (hb : (fun k s => cmdWindowWithdraw c k s : Cmd → State → CmdOut) k s = .wait w t) :
    exec (.windowWithdraw c q env) s = .next (t.waits c q k w) := by
  show guarded _ _ _ = _
  rw [guarded_next _ _ (by simp [Instr.wellFormed, h.ctx, h.loc, he])]
  exact congrArg _ (run_waits _ (by decide) h hb)

theorem exec_fwDownload_answers {s t : State} {c q : Nat} {env : HostEnv} {x : Queue} {k : Cmd} {st d : Nat}
    (he : envOk env = true) (h : Serves s c q 0xA0 0 x k) (hb : (fun k s => cmdFwDownload c env k s : Cmd → State → CmdOut) k s = .done st d t) :
    exec (.fwDownload c q env) s = .next (t.answered c q k st d) := by
  show guarded _ _ _ = _
  rw [guarded_next _ _ (by simp [Instr.wellFormed, h.ctx, h.loc, he])]
  exact congrArg _ (run_answers _ (by decide) h hb)

theorem exec_fwDownload_waits {s t : State} {c q : Nat} {env : HostEnv} {x : Queue} {k : Cmd} {w : Wait}
    (he : envOk env = true) (h : Serves s c q 0xA0 0 x k) (hb : (fun k s => cmdFwDownload c env k s : Cmd → State → CmdOut) k s = .wait w t) :
    exec (.fwDownload c q env) s = .next (t.waits c q k w) := by
  show guarded _ _ _ = _
  rw [guarded_next _ _ (by simp [Instr.wellFormed, h.ctx, h.loc, he])]
  exact congrArg _ (run_waits _ (by decide) h hb)

theorem exec_fwVerify_answers {s t : State} {c q : Nat} {env : HostEnv} {x : Queue} {k : Cmd} {st d : Nat}
    (he : envOk env = true) (h : Serves s c q 0xA1 0 x k) (hb : (fun _ s => cmdFwVerify s : Cmd → State → CmdOut) k s = .done st d t) :
    exec (.fwVerify c q env) s = .next (t.answered c q k st d) := by
  show guarded _ _ _ = _
  rw [guarded_next _ _ (by simp [Instr.wellFormed, h.ctx, h.loc, he])]
  exact congrArg _ (run_answers _ (by decide) h hb)

theorem exec_fwVerify_waits {s t : State} {c q : Nat} {env : HostEnv} {x : Queue} {k : Cmd} {w : Wait}
    (he : envOk env = true) (h : Serves s c q 0xA1 0 x k) (hb : (fun _ s => cmdFwVerify s : Cmd → State → CmdOut) k s = .wait w t) :
    exec (.fwVerify c q env) s = .next (t.waits c q k w) := by
  show guarded _ _ _ = _
  rw [guarded_next _ _ (by simp [Instr.wellFormed, h.ctx, h.loc, he])]
  exact congrArg _ (run_waits _ (by decide) h hb)

theorem exec_fwActivate_answers {s t : State} {c q : Nat} {env : HostEnv} {x : Queue} {k : Cmd} {st d : Nat}
    (he : envOk env = true) (h : Serves s c q 0xA2 0 x k) (hb : (fun k s => cmdFwActivate k s : Cmd → State → CmdOut) k s = .done st d t) :
    exec (.fwActivate c q env) s = .next (t.answered c q k st d) := by
  show guarded _ _ _ = _
  rw [guarded_next _ _ (by simp [Instr.wellFormed, h.ctx, h.loc, he])]
  exact congrArg _ (run_answers _ (by decide) h hb)

theorem exec_fwActivate_waits {s t : State} {c q : Nat} {env : HostEnv} {x : Queue} {k : Cmd} {w : Wait}
    (he : envOk env = true) (h : Serves s c q 0xA2 0 x k) (hb : (fun k s => cmdFwActivate k s : Cmd → State → CmdOut) k s = .wait w t) :
    exec (.fwActivate c q env) s = .next (t.waits c q k w) := by
  show guarded _ _ _ = _
  rw [guarded_next _ _ (by simp [Instr.wellFormed, h.ctx, h.loc, he])]
  exact congrArg _ (run_waits _ (by decide) h hb)

theorem exec_fwConfirm_answers {s t : State} {c q : Nat} {env : HostEnv} {x : Queue} {k : Cmd} {st d : Nat}
    (he : envOk env = true) (h : Serves s c q 0xA3 0 x k) (hb : (fun _ s => cmdFwConfirm s : Cmd → State → CmdOut) k s = .done st d t) :
    exec (.fwConfirm c q env) s = .next (t.answered c q k st d) := by
  show guarded _ _ _ = _
  rw [guarded_next _ _ (by simp [Instr.wellFormed, h.ctx, h.loc, he])]
  exact congrArg _ (run_answers _ (by decide) h hb)

theorem exec_fwConfirm_waits {s t : State} {c q : Nat} {env : HostEnv} {x : Queue} {k : Cmd} {w : Wait}
    (he : envOk env = true) (h : Serves s c q 0xA3 0 x k) (hb : (fun _ s => cmdFwConfirm s : Cmd → State → CmdOut) k s = .wait w t) :
    exec (.fwConfirm c q env) s = .next (t.waits c q k w) := by
  show guarded _ _ _ = _
  rw [guarded_next _ _ (by simp [Instr.wellFormed, h.ctx, h.loc, he])]
  exact congrArg _ (run_waits _ (by decide) h hb)

theorem exec_ctxReset_answers {s t : State} {c q : Nat} {env : HostEnv} {x : Queue} {k : Cmd} {st d : Nat}
    (he : envOk env = true) (h : Serves s c q 0xB0 0 x k) (hb : (fun k s => cmdCtxReset c q k s : Cmd → State → CmdOut) k s = .done st d t) :
    exec (.ctxReset c q env) s = .next (t.answered c q k st d) := by
  show guarded _ _ _ = _
  rw [guarded_next _ _ (by simp [Instr.wellFormed, h.ctx, h.loc, he])]
  exact congrArg _ (run_answers _ (by decide) h hb)

theorem exec_ctxReset_waits {s t : State} {c q : Nat} {env : HostEnv} {x : Queue} {k : Cmd} {w : Wait}
    (he : envOk env = true) (h : Serves s c q 0xB0 0 x k) (hb : (fun k s => cmdCtxReset c q k s : Cmd → State → CmdOut) k s = .wait w t) :
    exec (.ctxReset c q env) s = .next (t.waits c q k w) := by
  show guarded _ _ _ = _
  rw [guarded_next _ _ (by simp [Instr.wellFormed, h.ctx, h.loc, he])]
  exact congrArg _ (run_waits _ (by decide) h hb)

theorem exec_abort_answers {s t : State} {c q : Nat} {env : HostEnv} {x : Queue} {k : Cmd} {st d : Nat}
    (he : envOk env = true) (h : Serves s c q 0xB1 0 x k) (hb : (fun k s => cmdAbort c q k s : Cmd → State → CmdOut) k s = .done st d t) :
    exec (.abort c q env) s = .next (t.answered c q k st d) := by
  show guarded _ _ _ = _
  rw [guarded_next _ _ (by simp [Instr.wellFormed, h.ctx, h.loc, he])]
  exact congrArg _ (run_answers _ (by decide) h hb)

theorem exec_abort_waits {s t : State} {c q : Nat} {env : HostEnv} {x : Queue} {k : Cmd} {w : Wait}
    (he : envOk env = true) (h : Serves s c q 0xB1 0 x k) (hb : (fun k s => cmdAbort c q k s : Cmd → State → CmdOut) k s = .wait w t) :
    exec (.abort c q env) s = .next (t.waits c q k w) := by
  show guarded _ _ _ = _
  rw [guarded_next _ _ (by simp [Instr.wellFormed, h.ctx, h.loc, he])]
  exact congrArg _ (run_waits _ (by decide) h hb)

theorem exec_fnSqdb (s : State) (c : Nat) (q : Nat) (tail : Nat) (env : HostEnv) (hw : (Instr.fnSqdb c q tail env).wellFormed = true) :
    exec (.fnSqdb c q tail env) s = .next (fnSqdb c q tail env s) :=
  guarded_next (i := .fnSqdb c q tail env) (fun s => fnSqdb c q tail env s) s hw

theorem exec_fnCqdb (s : State) (c : Nat) (q : Nat) (head : Nat) (hw : (Instr.fnCqdb c q head).wellFormed = true) :
    exec (.fnCqdb c q head) s = .next (fnCqdb c q head s) :=
  guarded_next (i := .fnCqdb c q head) (fun s => fnCqdb c q head s) s hw

theorem exec_fnQ0Ctrl (s : State) (c : Nat) (v : Nat) (hw : (Instr.fnQ0Ctrl c v).wellFormed = true) :
    exec (.fnQ0Ctrl c v) s = .next (fnQ0Ctrl c v s) :=
  guarded_next (i := .fnQ0Ctrl c v) (fun s => fnQ0Ctrl c v s) s hw

theorem exec_lioEncRelock (s : State) (n : Nat) (hw : (Instr.lioEncRelock n).wellFormed = true) :
    exec (.lioEncRelock n) s = .next (lioEncRelock n s) :=
  guarded_next (i := .lioEncRelock n) (fun s => lioEncRelock n s) s hw

theorem exec_lioLoForce (s : State) (j : Nat) (len : Nat) (hw : (Instr.lioLoForce j len).wellFormed = true) :
    exec (.lioLoForce j len) s = .next (loForce j len s) :=
  guarded_next (i := .lioLoForce j len) (fun s => loForce j len s) s hw

theorem exec_acqSpiTx (s : State) (v : Nat) (hw : (Instr.acqSpiTx v).wellFormed = true) :
    exec (.acqSpiTx v) s = .next (acqSpiTx v s) :=
  guarded_next (i := .acqSpiTx v) (fun s => acqSpiTx v s) s hw

theorem exec_dmxPauseSet (s : State) (n : Nat) (hw : (Instr.dmxPauseSet n).wellFormed = true) :
    exec (.dmxPauseSet n) s = .next (dmxPauseSet n s) :=
  guarded_next (i := .dmxPauseSet n) (fun s => dmxPauseSet n s) s hw

theorem exec_dmxPauseClear (s : State) (n : Nat) (hw : (Instr.dmxPauseClear n).wellFormed = true) :
    exec (.dmxPauseClear n) s = .next (dmxPauseClear n s) :=
  guarded_next (i := .dmxPauseClear n) (fun s => dmxPauseClear n s) s hw

theorem exec_atuTlbFlush (s : State) (env : HostEnv) (hw : (Instr.atuTlbFlush env).wellFormed = true) :
    exec (.atuTlbFlush env) s = .next (atuTlbFlush env s) :=
  guarded_next (i := .atuTlbFlush env) (fun s => atuTlbFlush env s) s hw

theorem exec_ksuKeyLoad (s : State) (slot : Nat) (hw : (Instr.ksuKeyLoad slot).wellFormed = true) :
    exec (.ksuKeyLoad slot) s = .next (ksuKeyLoad slot s) :=
  guarded_next (i := .ksuKeyLoad slot) (fun s => ksuKeyLoad slot s) s hw

theorem exec_ksuKeyClear (s : State) (slot : Nat) (hw : (Instr.ksuKeyClear slot).wellFormed = true) :
    exec (.ksuKeyClear slot) s = .next (ksuKeyClear slot s) :=
  guarded_next (i := .ksuKeyClear slot) (fun s => ksuKeyClear slot s) s hw

theorem exec_ksuKeyWrap (s : State) (slot : Nat) (hw : (Instr.ksuKeyWrap slot).wellFormed = true) :
    exec (.ksuKeyWrap slot) s = .next (ksuKeyWrap slot s) :=
  guarded_next (i := .ksuKeyWrap slot) (fun s => ksuKeyWrap slot s) s hw

theorem exec_ksuDbgUnlock (s : State) (keysel : Nat) (hw : (Instr.ksuDbgUnlock keysel).wellFormed = true) :
    exec (.ksuDbgUnlock keysel) s = .next (ksuDbgUnlock keysel s) :=
  guarded_next (i := .ksuDbgUnlock keysel) (fun s => ksuDbgUnlock keysel s) s hw

theorem exec_ksuRevoke (s : State) (v : Nat) (hw : (Instr.ksuRevoke v).wellFormed = true) :
    exec (.ksuRevoke v) s = .next (ksuRevoke v s) :=
  guarded_next (i := .ksuRevoke v) (fun s => ksuRevoke v s) s hw

theorem exec_ksuProvLock (s : State) (v : Nat) (hw : (Instr.ksuProvLock v).wellFormed = true) :
    exec (.ksuProvLock v) s = .next (ksuProvLock v s) :=
  guarded_next (i := .ksuProvLock v) (fun s => ksuProvLock v s) s hw

theorem exec_glbDomrst (s : State) (domain : Nat) (key : Nat) (hw : (Instr.glbDomrst domain key).wellFormed = true) :
    exec (.glbDomrst domain key) s = .next (glbDomrst domain key s) :=
  guarded_next (i := .glbDomrst domain key) (fun s => glbDomrst domain key s) s hw

theorem exec_hrdLinkRetrain (s : State) (l : Nat) (hw : (Instr.hrdLinkRetrain l).wellFormed = true) :
    exec (.hrdLinkRetrain l) s = .next (hrdLinkRetrain l s) :=
  guarded_next (i := .hrdLinkRetrain l) (fun s => hrdLinkRetrain l s) s hw

theorem exec_registerWrite (s : State) (port : RegPort) (off : Nat) (size : Nat) (v : Nat) (hw : (Instr.registerWrite port off size v).wellFormed = true) :
    exec (.registerWrite port off size v) s = .next (registerWrite port off size v s) :=
  guarded_next (i := .registerWrite port off size v) (fun s => registerWrite port off size v s) s hw

theorem exec_bar0BadAccess (s : State) (off : Nat) (size : Nat) (write : Bool) (hw : (Instr.bar0BadAccess off size write).wellFormed = true) :
    exec (.bar0BadAccess off size write) s = .next (bar0BadAccess off write s) :=
  guarded_next (i := .bar0BadAccess off size write) (fun s => bar0BadAccess off write s) s hw

theorem exec_bar4Access (s : State) (off : Nat) (size : Nat) (write : Bool) (v : Nat) (hw : (Instr.bar4Access off size write v).wellFormed = true) :
    exec (.bar4Access off size write v) s = .next (bar4Access off size write v s) :=
  guarded_next (i := .bar4Access off size write v) (fun s => bar4Access off size write v s) s hw

theorem exec_tapInstruction (s : State) (ir : Nat) (dr : Nat) (hw : (Instr.tapInstruction ir dr).wellFormed = true) :
    exec (.tapInstruction ir dr) s = .next (tapInstruction ir dr s) :=
  guarded_next (i := .tapInstruction ir dr) (fun s => tapInstruction ir dr s) s hw

theorem exec_replyWriteResponse (s : State) (c : Nat) (q : Nat) (hw : (Instr.replyWriteResponse c q).wellFormed = true) :
    exec (.replyWriteResponse c q) s = .next (replyWriteResponse c q s) :=
  guarded_next (i := .replyWriteResponse c q) (fun s => replyWriteResponse c q s) s hw

theorem exec_commandTimeout (s : State) (c : Nat) (q : Nat) (hw : (Instr.commandTimeout c q).wellFormed = true) :
    exec (.commandTimeout c q) s = .next (commandTimeout c q s) :=
  guarded_next (i := .commandTimeout c q) (fun s => commandTimeout c q s) s hw

theorem exec_cqCoalesceTimeout (s : State) (c : Nat) (q : Nat) (hw : (Instr.cqCoalesceTimeout c q).wellFormed = true) :
    exec (.cqCoalesceTimeout c q) s = .next (cqCoalesceTimeout c q s) :=
  guarded_next (i := .cqCoalesceTimeout c q) (fun s => cqCoalesceTimeout c q s) s hw

theorem exec_beatBoundary (s : State) (env : BeatEnv) (hw : (Instr.beatBoundary env).wellFormed = true) :
    exec (.beatBoundary env) s = .next (beatBoundary env s) :=
  guarded_next (i := .beatBoundary env) (fun s => beatBoundary env s) s hw

theorem exec_planDrained (s : State) (c : Nat) (h : Nat) (hw : (Instr.planDrained c h).wellFormed = true) :
    exec (.planDrained c h) s = .next (planDrained c h s) :=
  guarded_next (i := .planDrained c h) (fun s => planDrained c h s) s hw

theorem exec_itemCreate (s : State) (c : Nat) (hw : (Instr.itemCreate c).wellFormed = true) :
    exec (.itemCreate c) s = .next (itemCreate c s) :=
  guarded_next (i := .itemCreate c) (fun s => itemCreate c s) s hw

theorem exec_verdictCompose (s : State) (c : Nat) (id : Nat) (env : HostEnv) (hw : (Instr.verdictCompose c id env).wellFormed = true) :
    exec (.verdictCompose c id env) s = .next (verdictCompose c id env s) :=
  guarded_next (i := .verdictCompose c id env) (fun s => verdictCompose c id env s) s hw

theorem exec_itemVerdict (s : State) (c : Nat) (id : Nat) (env : HostEnv) (hw : (Instr.itemVerdict c id env).wellFormed = true) :
    exec (.itemVerdict c id env) s = .next (itemVerdict c id env s) :=
  guarded_next (i := .itemVerdict c id env) (fun s => itemVerdict c id env s) s hw

theorem exec_tineRun (s : State) (run : RecRun) (hw : (Instr.tineRun run).wellFormed = true) :
    exec (.tineRun run) s = .next (tineRun run s) :=
  guarded_next (i := .tineRun run) (fun s => tineRun run s) s hw

theorem exec_chainOp (s : State) (run : RecRun) (hw : (Instr.chainOp run).wellFormed = true) :
    exec (.chainOp run) s = .next (chainOp run s) :=
  guarded_next (i := .chainOp run) (fun s => chainOp run s) s hw

theorem exec_ppuSort (s : State) (run : RecRun) (hw : (Instr.ppuSort run).wellFormed = true) :
    exec (.ppuSort run) s = .next (ppuSort run s) :=
  guarded_next (i := .ppuSort run) (fun s => ppuSort run s) s hw

theorem exec_ppuDetect (s : State) (run : RecRun) (hw : (Instr.ppuDetect run).wellFormed = true) :
    exec (.ppuDetect run) s = .next (ppuDetect run s) :=
  guarded_next (i := .ppuDetect run) (fun s => ppuDetect run s) s hw

theorem exec_dmxRun (s : State) (run : RecRun) (hw : (Instr.dmxRun run).wellFormed = true) :
    exec (.dmxRun run) s = .next (dmxRun run s) :=
  guarded_next (i := .dmxRun run) (fun s => dmxRun run s) s hw

theorem exec_evpPatch (s : State) (run : RecRun) (hw : (Instr.evpPatch run).wellFormed = true) :
    exec (.evpPatch run) s = .next (evpPatch run s) :=
  guarded_next (i := .evpPatch run) (fun s => evpPatch run s) s hw

theorem exec_evpPredict (s : State) (run : RecRun) (hw : (Instr.evpPredict run).wellFormed = true) :
    exec (.evpPredict run) s = .next (evpPredict run s) :=
  guarded_next (i := .evpPredict run) (fun s => evpPredict run s) s hw

theorem exec_acqArm (s : State) (run : RecRun) (hw : (Instr.acqArm run).wellFormed = true) :
    exec (.acqArm run) s = .next (acqArm run s) :=
  guarded_next (i := .acqArm run) (fun s => acqArm run s) s hw

theorem exec_strobe (s : State) (run : RecRun) (hw : (Instr.strobe run).wellFormed = true) :
    exec (.strobe run) s = .next (strobe run s) :=
  guarded_next (i := .strobe run) (fun s => strobe run s) s hw

theorem exec_herdXfer (s : State) (run : RecRun) (hw : (Instr.herdXfer run).wellFormed = true) :
    exec (.herdXfer run) s = .next (herdXfer run s) :=
  guarded_next (i := .herdXfer run) (fun s => herdXfer run s) s hw

theorem exec_dmxMove (s : State) (n : Nat) (hw : (Instr.dmxMove n).wellFormed = true) :
    exec (.dmxMove n) s = .next (dmxMove n s) :=
  guarded_next (i := .dmxMove n) (fun s => dmxMove n s) s hw

theorem exec_dmxLoop (s : State) (n : Nat) (hw : (Instr.dmxLoop n).wellFormed = true) :
    exec (.dmxLoop n) s = .next (dmxLoop n s) :=
  guarded_next (i := .dmxLoop n) (fun s => dmxLoop n s) s hw

theorem exec_dmxWaitBeat (s : State) (n : Nat) (hw : (Instr.dmxWaitBeat n).wellFormed = true) :
    exec (.dmxWaitBeat n) s = .next (dmxWaitBeat n s) :=
  guarded_next (i := .dmxWaitBeat n) (fun s => dmxWaitBeat n s) s hw

theorem exec_dmxWaitTrig (s : State) (n : Nat) (hw : (Instr.dmxWaitTrig n).wellFormed = true) :
    exec (.dmxWaitTrig n) s = .next (dmxWaitTrig n s) :=
  guarded_next (i := .dmxWaitTrig n) (fun s => dmxWaitTrig n s) s hw

theorem exec_dmxWaitSem (s : State) (n : Nat) (hw : (Instr.dmxWaitSem n).wellFormed = true) :
    exec (.dmxWaitSem n) s = .next (dmxWaitSem n s) :=
  guarded_next (i := .dmxWaitSem n) (fun s => dmxWaitSem n s) s hw

theorem exec_dmxWaitRelease (s : State) (n : Nat) (hw : (Instr.dmxWaitRelease n).wellFormed = true) :
    exec (.dmxWaitRelease n) s = .next (dmxWaitRelease n s) :=
  guarded_next (i := .dmxWaitRelease n) (fun s => dmxWaitRelease n s) s hw

theorem exec_dmxWaitTimeout (s : State) (n : Nat) (hw : (Instr.dmxWaitTimeout n).wellFormed = true) :
    exec (.dmxWaitTimeout n) s = .next (dmxWaitTimeout n s) :=
  guarded_next (i := .dmxWaitTimeout n) (fun s => dmxWaitTimeout n s) s hw

theorem exec_dmxSignal (s : State) (n : Nat) (hw : (Instr.dmxSignal n).wellFormed = true) :
    exec (.dmxSignal n) s = .next (dmxSignal n s) :=
  guarded_next (i := .dmxSignal n) (fun s => dmxSignal n s) s hw

theorem exec_dmxEnd (s : State) (n : Nat) (hw : (Instr.dmxEnd n).wellFormed = true) :
    exec (.dmxEnd n) s = .next (dmxEnd n s) :=
  guarded_next (i := .dmxEnd n) (fun s => dmxEnd n s) s hw

theorem exec_recordLate (s : State) (n : Nat) (hw : (Instr.recordLate n).wellFormed = true) :
    exec (.recordLate n) s = .next (recordLate n s) :=
  guarded_next (i := .recordLate n) (fun s => recordLate n s) s hw

theorem exec_descMove (s : State) (n : Nat) (env : HostEnv) (hw : (Instr.descMove n env).wellFormed = true) :
    exec (.descMove n env) s = .next (descMove n env s) :=
  guarded_next (i := .descMove n env) (fun s => descMove n env s) s hw

theorem exec_descNop (s : State) (n : Nat) (env : HostEnv) (hw : (Instr.descNop n env).wellFormed = true) :
    exec (.descNop n env) s = .next (descNop n env s) :=
  guarded_next (i := .descNop n env) (fun s => descNop n env s) s hw

theorem exec_dmxPaused (s : State) (n : Nat) (hw : (Instr.dmxPaused n).wellFormed = true) :
    exec (.dmxPaused n) s = .next (dmxPaused n s) :=
  guarded_next (i := .dmxPaused n) (fun s => dmxPaused n s) s hw

theorem exec_ringFaultServed (s : State) (c : Nat) (q : Nat) (hw : (Instr.ringFaultServed c q).wellFormed = true) :
    exec (.ringFaultServed c q) s = .next (ringFaultServed c q s) :=
  guarded_next (i := .ringFaultServed c q) (fun s => ringFaultServed c q s) s hw

theorem exec_faultTimeout (s : State) (c : Nat) (q : Nat) (hw : (Instr.faultTimeout c q).wellFormed = true) :
    exec (.faultTimeout c q) s = .next (faultTimeout c q s) :=
  guarded_next (i := .faultTimeout c q) (fun s => faultTimeout c q s) s hw

theorem exec_prgResponse (s : State) (c : Nat) (q : Nat) (code : Nat) (env : HostEnv) (hw : (Instr.prgResponse c q code env).wellFormed = true) :
    exec (.prgResponse c q code env) s = .next (prgResponse c q code env s) :=
  guarded_next (i := .prgResponse c q code env) (fun s => prgResponse c q code env s) s hw

theorem exec_atsInvalidation (s : State) (pasid : Option Nat) (hva : Nat) (len : Nat) (env : HostEnv) (hw : (Instr.atsInvalidation pasid hva len env).wellFormed = true) :
    exec (.atsInvalidation pasid hva len env) s = .next (atsInvalidation pasid hva len env s) :=
  guarded_next (i := .atsInvalidation pasid hva len env) (fun s => atsInvalidation pasid hva len env s) s hw

theorem exec_invalidateStop (s : State) (n : Nat) (hw : (Instr.invalidateStop n).wellFormed = true) :
    exec (.invalidateStop n) s = .next (invalidateStop n s) :=
  guarded_next (i := .invalidateStop n) (fun s => invalidateStop n s) s hw

theorem exec_walkTimeout (s : State) (c : Nat) (q : Nat) (hw : (Instr.walkTimeout c q).wellFormed = true) :
    exec (.walkTimeout c q) s = .next (walkTimeout c q s) :=
  guarded_next (i := .walkTimeout c q) (fun s => walkTimeout c q s) s hw

theorem exec_encCount (s : State) (n : Nat) (a : Bool) (b : Bool) (held : Nat) (hw : (Instr.encCount n a b held).wellFormed = true) :
    exec (.encCount n a b held) s = .next (encCount n a b held s) :=
  guarded_next (i := .encCount n a b held) (fun s => encCount n a b held s) s hw

theorem exec_encZEdge (s : State) (n : Nat) (z : Bool) (held : Nat) (hw : (Instr.encZEdge n z held).wellFormed = true) :
    exec (.encZEdge n z held) s = .next (encZEdge n z held s) :=
  guarded_next (i := .encZEdge n z held) (fun s => encZEdge n z held s) s hw

theorem exec_webStopped (s : State) (n : Nat) (hw : (Instr.webStopped n).wellFormed = true) :
    exec (.webStopped n) s = .next (webStopped n s) :=
  guarded_next (i := .webStopped n) (fun s => webStopped n s) s hw

theorem exec_liEdge (s : State) (i : Nat) (level : Bool) (held : Nat) (phase : Nat) (hw : (Instr.liEdge i level held phase).wellFormed = true) :
    exec (.liEdge i level held phase) s = .next (liEdge i level held phase s) :=
  guarded_next (i := .liEdge i level held phase) (fun s => liEdge i level held phase s) s hw

theorem exec_liStuck (s : State) (i : Nat) (hw : (Instr.liStuck i).wellFormed = true) :
    exec (.liStuck i) s = .next (liStuck i s) :=
  guarded_next (i := .liStuck i) (fun s => liStuck i s) s hw

theorem exec_outputFire (s : State) (j : Nat) (hw : (Instr.outputFire j).wellFormed = true) :
    exec (.outputFire j) s = .next (outputFire j s) :=
  guarded_next (i := .outputFire j) (fun s => outputFire j s) s hw

theorem exec_outputPulseEnd (s : State) (j : Nat) (hw : (Instr.outputPulseEnd j).wellFormed = true) :
    exec (.outputPulseEnd j) s = .next (outputPulseEnd j s) :=
  guarded_next (i := .outputPulseEnd j) (fun s => outputPulseEnd j s) s hw

theorem exec_csi2LongPacket (s : State) (p : Nat) (pkt : CsiPacket) (hw : (Instr.csi2LongPacket p pkt).wellFormed = true) :
    exec (.csi2LongPacket p pkt) s = .next (csiLong p pkt s) :=
  guarded_next (i := .csi2LongPacket p pkt) (fun s => csiLong p pkt s) s hw

theorem exec_csi2ShortPacket (s : State) (p : Nat) (pkt : CsiPacket) (hw : (Instr.csi2ShortPacket p pkt).wellFormed = true) :
    exec (.csi2ShortPacket p pkt) s = .next (csiShort p pkt s) :=
  guarded_next (i := .csi2ShortPacket p pkt) (fun s => csiShort p pkt s) s hw

theorem exec_mapperWindowClose (s : State) (p : Nat) (hw : (Instr.mapperWindowClose p).wellFormed = true) :
    exec (.mapperWindowClose p) s = .next (mapperWindowClose p s) :=
  guarded_next (i := .mapperWindowClose p) (fun s => mapperWindowClose p s) s hw

theorem exec_mapperSilent (s : State) (p : Nat) (hw : (Instr.mapperSilent p).wellFormed = true) :
    exec (.mapperSilent p) s = .next (mapperSilent p s) :=
  guarded_next (i := .mapperSilent p) (fun s => mapperSilent p s) s hw

theorem exec_eventProcess (s : State) (p : Nat) (hw : (Instr.eventProcess p).wellFormed = true) :
    exec (.eventProcess p) s = .next (eventProcess p s) :=
  guarded_next (i := .eventProcess p) (fun s => eventProcess p s) s hw

theorem exec_trackCoastTimeout (s : State) (p : Nat) (m : Nat) (hw : (Instr.trackCoastTimeout p m).wellFormed = true) :
    exec (.trackCoastTimeout p m) s = .next (trackCoast p m s) :=
  guarded_next (i := .trackCoastTimeout p m) (fun s => trackCoast p m s) s hw

theorem exec_surfaceSweep (s : State) (p : Nat) (x : Nat) (y : Nat) (hw : (Instr.surfaceSweep p x y).wellFormed = true) :
    exec (.surfaceSweep p x y) s = .next (surfaceSweep p x y s) :=
  guarded_next (i := .surfaceSweep p x y) (fun s => surfaceSweep p x y s) s hw

theorem exec_fabricFire (s : State) (line : Nat) (hw : (Instr.fabricFire line).wellFormed = true) :
    exec (.fabricFire line) s = .next (fabricFire line s) :=
  guarded_next (i := .fabricFire line) (fun s => fabricFire line s) s hw

theorem exec_fabricArmClose (s : State) (line : Nat) (hw : (Instr.fabricArmClose line).wellFormed = true) :
    exec (.fabricArmClose line) s = .next (fabricArmClose line s) :=
  guarded_next (i := .fabricArmClose line) (fun s => fabricArmClose line s) s hw

theorem exec_acqTrigger (s : State) (ch : Nat) (src : Nat) (k : Nat) (samples : List (List Int)) (hw : (Instr.acqTrigger ch src k samples).wellFormed = true) :
    exec (.acqTrigger ch src k samples) s = .next (acqTrigger ch src k samples s) :=
  guarded_next (i := .acqTrigger ch src k samples) (fun s => acqTrigger ch src k samples s) s hw

theorem exec_acqFillDone (s : State) (ch : Nat) (hw : (Instr.acqFillDone ch).wellFormed = true) :
    exec (.acqFillDone ch) s = .next (acqFillDone ch s) :=
  guarded_next (i := .acqFillDone ch) (fun s => acqFillDone ch s) s hw

theorem exec_acqSegmentDone (s : State) (ch : Nat) (rec : Nat) (samples : List Int) (hw : (Instr.acqSegmentDone ch rec samples).wellFormed = true) :
    exec (.acqSegmentDone ch rec samples) s = .next (acqSegmentDone ch rec samples s) :=
  guarded_next (i := .acqSegmentDone ch rec samples) (fun s => acqSegmentDone ch rec samples s) s hw

theorem exec_acqRearmDone (s : State) (ch : Nat) (hw : (Instr.acqRearmDone ch).wellFormed = true) :
    exec (.acqRearmDone ch) s = .next (acqRearmDone ch s) :=
  guarded_next (i := .acqRearmDone ch) (fun s => acqRearmDone ch s) s hw

theorem exec_acqCalTracking (s : State) (ch : Nat) (hw : (Instr.acqCalTracking ch).wellFormed = true) :
    exec (.acqCalTracking ch) s = .next (acqCalTracking ch s) :=
  guarded_next (i := .acqCalTracking ch) (fun s => acqCalTracking ch s) s hw

theorem exec_spiTransferDone (s : State) (rx : Nat) (hw : (Instr.spiTransferDone rx).wellFormed = true) :
    exec (.spiTransferDone rx) s = .next (spiTransferDone rx s) :=
  guarded_next (i := .spiTransferDone rx) (fun s => spiTransferDone rx s) s hw

theorem exec_dfcSync (s : State) (cut : List (Nat × Nat × List Int)) (hw : (Instr.dfcSync cut).wellFormed = true) :
    exec (.dfcSync cut) s = .next (dfcSync cut s) :=
  guarded_next (i := .dfcSync cut) (fun s => dfcSync cut s) s hw

theorem exec_dfcStreamBlock (s : State) (ch : Nat) (samples : List Int) (hw : (Instr.dfcStreamBlock ch samples).wellFormed = true) :
    exec (.dfcStreamBlock ch samples) s = .next (dfcStreamBlock ch samples s) :=
  guarded_next (i := .dfcStreamBlock ch samples) (fun s => dfcStreamBlock ch samples s) s hw

theorem exec_syncInEdge (s : State) (rising : Bool) (hw : (Instr.syncInEdge rising).wellFormed = true) :
    exec (.syncInEdge rising) s = .next (syncInEdge rising s) :=
  guarded_next (i := .syncInEdge rising) (fun s => syncInEdge rising s) s hw

theorem exec_syncOutPulse (s : State) (hw : (Instr.syncOutPulse).wellFormed = true) :
    exec (.syncOutPulse) s = .next (syncOutPulse s) :=
  guarded_next (i := .syncOutPulse) (fun s => syncOutPulse s) s hw

theorem exec_recordShed (s : State) (run : RecRun) (hw : (Instr.recordShed run).wellFormed = true) :
    exec (.recordShed run) s = .next (recordShed run s) :=
  guarded_next (i := .recordShed run) (fun s => recordShed run s) s hw

theorem exec_recordOverrun (s : State) (run : RecRun) (hw : (Instr.recordOverrun run).wellFormed = true) :
    exec (.recordOverrun run) s = .next (recordOverrun run s) :=
  guarded_next (i := .recordOverrun run) (fun s => recordOverrun run s) s hw

theorem exec_droop (s : State) (d : Nat) (hw : (Instr.droop d).wellFormed = true) :
    exec (.droop d) s = .next (droopSeen d s) :=
  guarded_next (i := .droop d) (fun s => droopSeen d s) s hw

theorem exec_thermalSample (s : State) (t : List Int) (hw : (Instr.thermalSample t).wellFormed = true) :
    exec (.thermalSample t) s = .next (thermalSample t s) :=
  guarded_next (i := .thermalSample t) (fun s => thermalSample t s) s hw

theorem exec_thermHoldEnd (s : State) (hw : (Instr.thermHoldEnd).wellFormed = true) :
    exec (.thermHoldEnd) s = .next (thermHoldEnd s) :=
  guarded_next (i := .thermHoldEnd) (fun s => thermHoldEnd s) s hw

theorem exec_detectorFire (s : State) (id : Nat) (site : Nat) (hw : (Instr.detectorFire id site).wellFormed = true) :
    exec (.detectorFire id site) s = .next (detectorFire id site s) :=
  guarded_next (i := .detectorFire id site) (fun s => detectorFire id site s) s hw

theorem exec_contextRecovery (s : State) (c : Nat) (det : Nat) (hw : (Instr.contextRecovery c det).wellFormed = true) :
    exec (.contextRecovery c det) s = .next (contextRecovery c det s) :=
  guarded_next (i := .contextRecovery c det) (fun s => contextRecovery c det s) s hw

theorem exec_replacementBegin (s : State) (e : Nat) (n : Nat) (hw : (Instr.replacementBegin e n).wellFormed = true) :
    exec (.replacementBegin e n) s = .next (replacementBegin e n s) :=
  guarded_next (i := .replacementBegin e n) (fun s => replacementBegin e n s) s hw

theorem exec_replacementSwap (s : State) (e : Nat) (hw : (Instr.replacementSwap e).wellFormed = true) :
    exec (.replacementSwap e) s = .next (replacementSwap e s) :=
  guarded_next (i := .replacementSwap e) (fun s => replacementSwap e s) s hw

theorem exec_rotationStepBegin (s : State) (e : Nat) (hw : (Instr.rotationStepBegin e).wellFormed = true) :
    exec (.rotationStepBegin e) s = .next (rotationStepBegin e s) :=
  guarded_next (i := .rotationStepBegin e) (fun s => rotationStepBegin e s) s hw

theorem exec_shadowCopyDone (s : State) (e : Nat) (hw : (Instr.shadowCopyDone e).wellFormed = true) :
    exec (.shadowCopyDone e) s = .next (shadowCopyDone e s) :=
  guarded_next (i := .shadowCopyDone e) (fun s => shadowCopyDone e s) s hw

theorem exec_spareSwap (s : State) (e : Nat) (hw : (Instr.spareSwap e).wellFormed = true) :
    exec (.spareSwap e) s = .next (spareSwap e s) :=
  guarded_next (i := .spareSwap e) (fun s => spareSwap e s) s hw

theorem exec_engineSelftestDone (s : State) (e : Nat) (n : Nat) (pass : Bool) (hw : (Instr.engineSelftestDone e n pass).wellFormed = true) :
    exec (.engineSelftestDone e n pass) s = .next (engineSelftestDone e n pass s) :=
  guarded_next (i := .engineSelftestDone e n pass) (fun s => engineSelftestDone e n pass s) s hw

theorem exec_bankZeroDone (s : State) (hw : (Instr.bankZeroDone).wellFormed = true) :
    exec (.bankZeroDone) s = .next (State.settle (bankZeroDone s)) :=
  guarded_next (i := .bankZeroDone) (fun s => State.settle (bankZeroDone s)) s hw

theorem exec_sramScrub (s : State) (la : Nat) (hw : (Instr.sramScrub la).wellFormed = true) :
    exec (.sramScrub la) s = .next (sramScrub la s) :=
  guarded_next (i := .sramScrub la) (fun s => sramScrub la s) s hw

theorem exec_domainIdleTimeout (s : State) (d : Nat) (hw : (Instr.domainIdleTimeout d).wellFormed = true) :
    exec (.domainIdleTimeout d) s = .next (domainIdleTimeout d s) :=
  guarded_next (i := .domainIdleTimeout d) (fun s => domainIdleTimeout d s) s hw

theorem exec_domainEntryDone (s : State) (d : Nat) (hw : (Instr.domainEntryDone d).wellFormed = true) :
    exec (.domainEntryDone d) s = .next (domainEntryDone d s) :=
  guarded_next (i := .domainEntryDone d) (fun s => domainEntryDone d s) s hw

theorem exec_domainDemand (s : State) (d : Nat) (hw : (Instr.domainDemand d).wellFormed = true) :
    exec (.domainDemand d) s = .next (demandServed d s) :=
  guarded_next (i := .domainDemand d) (fun s => demandServed d s) s hw

theorem exec_domainWakeDone (s : State) (d : Nat) (hw : (Instr.domainWakeDone d).wellFormed = true) :
    exec (.domainWakeDone d) s = .next (wakeDoneServed d s) :=
  guarded_next (i := .domainWakeDone d) (fun s => wakeDoneServed d s) s hw

theorem exec_clkSwitchDone (s : State) (d : Nat) (hw : (Instr.clkSwitchDone d).wellFormed = true) :
    exec (.clkSwitchDone d) s = .next (clkSwitchDone d s) :=
  guarded_next (i := .clkSwitchDone d) (fun s => clkSwitchDone d s) s hw

theorem exec_clkSwitchFail (s : State) (d : Nat) (hw : (Instr.clkSwitchFail d).wellFormed = true) :
    exec (.clkSwitchFail d) s = .next (clkSwitchFail d s) :=
  guarded_next (i := .clkSwitchFail d) (fun s => clkSwitchFail d s) s hw

theorem exec_domainResetDone (s : State) (hw : (Instr.domainResetDone).wellFormed = true) :
    exec (.domainResetDone) s = .next (domainResetDone s) :=
  guarded_next (i := .domainResetDone) (fun s => domainResetDone s) s hw

theorem exec_aonBrownOut (s : State) (hw : (Instr.aonBrownOut).wellFormed = true) :
    exec (.aonBrownOut) s = .next (aonBrownOut s) :=
  guarded_next (i := .aonBrownOut) (fun s => aonBrownOut s) s hw

theorem exec_powerOn (s : State) (hw : (Instr.powerOn).wellFormed = true) :
    exec (.powerOn) s = .next (powerOn s) :=
  guarded_next (i := .powerOn) (fun s => powerOn s) s hw

theorem exec_perstAssert (s : State) (hw : (Instr.perstAssert).wellFormed = true) :
    exec (.perstAssert) s = .next (perstAssert s) :=
  guarded_next (i := .perstAssert) (fun s => perstAssert s) s hw

theorem exec_perstDeassert (s : State) (hw : (Instr.perstDeassert).wellFormed = true) :
    exec (.perstDeassert) s = .next (perstDeassert s) :=
  guarded_next (i := .perstDeassert) (fun s => perstDeassert s) s hw

theorem exec_warmDeviceReset (s : State) (cause : Nat) (det : Nat) (hw : (Instr.warmDeviceReset cause det).wellFormed = true) :
    exec (.warmDeviceReset cause det) s = .next (warmDeviceReset cause det s) :=
  guarded_next (i := .warmDeviceReset cause det) (fun s => warmDeviceReset cause det s) s hw

theorem exec_bootStageDone (s : State) (env : BootEnv) (hw : (Instr.bootStageDone env).wellFormed = true) :
    exec (.bootStageDone env) s = .next (bootStageDone env s) :=
  guarded_next (i := .bootStageDone env) (fun s => bootStageDone env s) s hw

theorem exec_tamper (s : State) (det : Nat) (hw : (Instr.tamper det).wellFormed = true) :
    exec (.tamper det) s = .next (tamper det s) :=
  guarded_next (i := .tamper det) (fun s => tamper det s) s hw

theorem exec_vfFlr (s : State) (n : Nat) (env : HostEnv) (hw : (Instr.vfFlr n env).wellFormed = true) :
    exec (.vfFlr n env) s = .next (vfFlr n env s) :=
  guarded_next (i := .vfFlr n env) (fun s => vfFlr n env s) s hw

theorem exec_pfFlr (s : State) (hw : (Instr.pfFlr).wellFormed = true) :
    exec (.pfFlr) s = .next (pfFlr s) :=
  guarded_next (i := .pfFlr) (fun s => pfFlr s) s hw

theorem exec_vfEnableSet (s : State) (num : Nat) (hw : (Instr.vfEnableSet num).wellFormed = true) :
    exec (.vfEnableSet num) s = .next (vfEnableSet num s) :=
  guarded_next (i := .vfEnableSet num) (fun s => vfEnableSet num s) s hw

theorem exec_vfEnableClear (s : State) (env : HostEnv) (hw : (Instr.vfEnableClear env).wellFormed = true) :
    exec (.vfEnableClear env) s = .next (vfEnableClear env s) :=
  guarded_next (i := .vfEnableClear env) (fun s => vfEnableClear env s) s hw

theorem exec_flitReceive (s : State) (l : Nat) (flit : Flit) (env : HostEnv) (hw : (Instr.flitReceive l flit env).wellFormed = true) :
    exec (.flitReceive l flit env) s = .next (flitReceive l flit env s) :=
  guarded_next (i := .flitReceive l flit env) (fun s => flitReceive l flit env s) s hw

theorem exec_flitLost (s : State) (l : Nat) (slot : Nat) (hw : (Instr.flitLost l slot).wellFormed = true) :
    exec (.flitLost l slot) s = .next (flitLost l slot s) :=
  guarded_next (i := .flitLost l slot) (fun s => flitLost l slot s) s hw

theorem exec_resultUndelivered (s : State) (id : Nat) (dev : Nat) (hw : (Instr.resultUndelivered id dev).wellFormed = true) :
    exec (.resultUndelivered id dev) s = .next (resultUndelivered id dev s) :=
  guarded_next (i := .resultUndelivered id dev) (fun s => resultUndelivered id dev s) s hw

theorem exec_laneFault (s : State) (l : Nat) (lane : Nat) (hw : (Instr.laneFault l lane).wellFormed = true) :
    exec (.laneFault l lane) s = .next (laneFault l lane s) :=
  guarded_next (i := .laneFault l lane) (fun s => laneFault l lane s) s hw

theorem exec_linkDown (s : State) (l : Nat) (hw : (Instr.linkDown l).wellFormed = true) :
    exec (.linkDown l) s = .next (linkDown l s) :=
  guarded_next (i := .linkDown l) (fun s => linkDown l s) s hw

theorem exec_linkTrained (s : State) (l : Nat) (lanes : Nat) (peer : Nat) (peerLink : Nat) (hw : (Instr.linkTrained l lanes peer peerLink).wellFormed = true) :
    exec (.linkTrained l lanes peer peerLink) s = .next (linkTrained l lanes peer peerLink s) :=
  guarded_next (i := .linkTrained l lanes peer peerLink) (fun s => linkTrained l lanes peer peerLink s) s hw

theorem exec_herdLeaveDone (s : State) (hw : (Instr.herdLeaveDone).wellFormed = true) :
    exec (.herdLeaveDone) s = .next (herdLeaveDone s) :=
  guarded_next (i := .herdLeaveDone) (fun s => herdLeaveDone s) s hw

theorem exec_registerRead (s : State) (port : RegPort) (off : Nat) (size : Nat) (hw : (Instr.registerRead port off size).wellFormed = true) :
    exec (.registerRead port off size) s = .next (registerRead port off size s) :=
  guarded_next (i := .registerRead port off size) (fun s => registerRead port off size s) s hw

theorem exec_fabricArmOpen (s : State) (line : Nat) (hw : (Instr.fabricArmOpen line).wellFormed = true) :
    exec (.fabricArmOpen line) s = .next (fabricArmOpen line s) :=
  guarded_next (i := .fabricArmOpen line) (fun s => fabricArmOpen line s) s hw

theorem exec_trackLeavesFrame (s : State) (p : Nat) (m : Nat) (hw : (Instr.trackLeavesFrame p m).wellFormed = true) :
    exec (.trackLeavesFrame p m) s = .next (trackLeaves p m s) :=
  guarded_next (i := .trackLeavesFrame p m) (fun s => trackLeaves p m s) s hw

theorem exec_linkTrainingTimeout (s : State) (l : Nat) (hw : (Instr.linkTrainingTimeout l).wellFormed = true) :
    exec (.linkTrainingTimeout l) s = .next (linkTrainingTimeout l s) :=
  guarded_next (i := .linkTrainingTimeout l) (fun s => linkTrainingTimeout l s) s hw

theorem exec_flitReplay (s : State) (l : Nat) (id : Nat) (hw : (Instr.flitReplay l id).wellFormed = true) :
    exec (.flitReplay l id) s = .next (flitReplay l id s) :=
  guarded_next (i := .flitReplay l id) (fun s => flitReplay l id s) s hw

theorem exec_priEnable (s : State) (alloc : Nat) (ats : Bool) (hw : (Instr.priEnable alloc ats).wellFormed = true) :
    exec (.priEnable alloc ats) s = .next (priEnable alloc ats s) :=
  guarded_next (i := .priEnable alloc ats) (fun s => priEnable alloc ats s) s hw

theorem exec_railReturn (s : State) (rail : Nat) (hw : (Instr.railReturn rail).wellFormed = true) :
    exec (.railReturn rail) s = .next (railReturn rail s) :=
  guarded_next (i := .railReturn rail) (fun s => railReturn rail s) s hw

theorem exec_dphyStateChange (s : State) (p : Nat) (st : Nat) (lanes : Nat) (deskew : Bool) (hw : (Instr.dphyStateChange p st lanes deskew).wellFormed = true) :
    exec (.dphyStateChange p st lanes deskew) s = .next (dphyState p st lanes deskew s) :=
  guarded_next (i := .dphyStateChange p st lanes deskew) (fun s => dphyState p st lanes deskew s) s hw

end Sys2Proof.Machine
end

