-- ==== Sys2Proof/Laws/Memory.lean ====
section
/-! SUPPORT. Device-local memory: every memory operation keeps the canonical form, a read after a write of the same byte gives
what was written, and a write leaves every other byte alone. -/

namespace Sys2Proof.Machine

/-! ### What one byte reads -/

/-- Whether an address is listed. -/
def memHas (m : List Host.Cell) (a : Nat) : Bool := m.any (fun c => c.1 == a)

theorem memByte_append (l r : List Host.Cell) (a : Nat) :
    memByte (l ++ r) a = if memHas l a then memByte l a else memByte r a := by
  induction l with
  | nil => simp [memHas]
  | cons c t ih =>
    obtain ⟨k, b⟩ := c
    by_cases h : k = a
    · simp [memByte, memHas, h]
    · have : memHas ((k, b) :: t) a = memHas t a := by simp [memHas, h]
      simp [memByte, h, this, ih]

theorem memByte_not_has {m : List Host.Cell} {a : Nat} (h : memHas m a = false) : memByte m a = 0 := by
  induction m with
  | nil => rfl
  | cons c t ih =>
    obtain ⟨k, b⟩ := c
    simp [memHas] at h
    have ht : memHas t a = false := by simpa [memHas] using h.2
    simp [memByte, h.1, ih ht]

theorem memByte_filter_pos (m : List Host.Cell) (p : Nat → Bool) (a : Nat) (h : p a) :
    memByte (m.filter (fun c => p c.1)) a = memByte m a := by
  induction m with
  | nil => rfl
  | cons c t ih =>
    obtain ⟨k, b⟩ := c
    by_cases hk : p k
    · simp [hk, memByte, ih]
    · have : k ≠ a := by rintro rfl; exact hk h
      simp [hk, memByte, this, ih]

theorem memHas_filter_neg (m : List Host.Cell) (p : Nat → Bool) (a : Nat) (h : p a = false) :
    memHas (m.filter (fun c => p c.1)) a = false := by
  simp only [memHas, List.any_eq_false, List.mem_filter]
  rintro c ⟨_, hc⟩ he
  simp at he; rw [he] at hc; simp [h] at hc

theorem memHas_cellsFrom_out (a : Nat) (bs : Bytes) (x : Nat) (h : x < a ∨ a + bs.length ≤ x) :
    memHas (cellsFrom a bs) x = false := by
  induction bs generalizing a with
  | nil => simp [cellsFrom, memHas]
  | cons b t ih =>
    have ht : memHas (cellsFrom (a + 1) t) x = false := ih (a + 1) (by simp at h; omega)
    have hk : a ≠ x := by simp at h; omega
    unfold cellsFrom
    split
    · exact ht
    · simp only [memHas, List.any_cons, beq_eq_false_iff_ne.mpr hk, Bool.false_or]; exact ht

theorem memByte_cellsFrom (a : Nat) (bs : Bytes) (i : Nat) : memByte (cellsFrom a bs) (a + i) = bs.getD i 0 := by
  induction bs generalizing a i with
  | nil => simp [cellsFrom, memByte]
  | cons b t ih =>
    unfold cellsFrom
    cases i with
    | zero =>
      split
      · rename_i hb
        rw [memByte_not_has (memHas_cellsFrom_out _ _ _ (by omega))]; simp [hb]
      · simp [memByte]
    | succ j =>
      have e : a + (j + 1) = (a + 1) + j := by omega
      split
      · rw [e, ih]; simp
      · have : a ≠ a + (j + 1) := by omega
        simp only [memByte, this, if_false]
        rw [e, ih]; simp

/-- A span of memory replaced leaves every byte outside it. -/
theorem memByte_memSpan_out (m : List Host.Cell) (a n : Nat) (cells : List Host.Cell) (x : Nat) (h : x < a ∨ a + n ≤ x)
    (hc : memHas cells x = false) : memByte (memSpan m a n cells) x = memByte m x := by
  unfold memSpan
  rw [List.append_assoc, memByte_append, memByte_append, hc]
  rcases h with h | h
  · have p : memByte (m.filter (fun c => decide (c.1 < a))) x = memByte m x :=
      memByte_filter_pos m (fun k => decide (k < a)) x (by simpa using h)
    by_cases hh : memHas (m.filter (fun c => decide (c.1 < a))) x
    · simp [hh, p]
    · simp only [Bool.not_eq_true] at hh
      have q : memHas (m.filter (fun c => decide (a + n ≤ c.1))) x = false :=
        memHas_filter_neg m (fun k => decide (a + n ≤ k)) x (by simp; omega)
      rw [memByte_not_has hh] at p
      simp [hh, memByte_not_has q, ← p]
  · have q : memHas (m.filter (fun c => decide (c.1 < a))) x = false :=
      memHas_filter_neg m (fun k => decide (k < a)) x (by simp; omega)
    simp only [q, Bool.false_eq_true, if_false]
    exact memByte_filter_pos m (fun k => decide (a + n ≤ k)) x (by simpa using h)

/-- Inside a span replaced, a byte is what the replacement lists. -/
theorem memByte_memSpan_in (m : List Host.Cell) (a n : Nat) (cells : List Host.Cell) (x : Nat) (h1 : a ≤ x) (h2 : x < a + n) :
    memByte (memSpan m a n cells) x = memByte cells x := by
  have q : memHas (m.filter (fun c => decide (c.1 < a))) x = false :=
    memHas_filter_neg m (fun k => decide (k < a)) x (by simp; omega)
  have r : memHas (m.filter (fun c => decide (a + n ≤ c.1))) x = false :=
    memHas_filter_neg m (fun k => decide (a + n ≤ k)) x (by simp; omega)
  unfold memSpan
  rw [List.append_assoc, memByte_append, memByte_append]
  simp only [q, Bool.false_eq_true, if_false]
  by_cases hh : memHas cells x
  · simp [hh]
  · simp only [Bool.not_eq_true] at hh
    simp [hh, memByte_not_has r, memByte_not_has hh]

/-- A byte written reads back. -/
theorem memByte_memPuts_in (m : List Host.Cell) (a : Nat) (bs : Bytes) (i : Nat) (h : i < bs.length) :
    memByte (memPuts m a bs) (a + i) = bs.getD i 0 := by
  unfold memPuts
  rw [memByte_memSpan_in _ _ _ _ _ (by omega) (by omega), memByte_cellsFrom]

/-- A write leaves every byte outside its span. -/
theorem memByte_memPuts_out (m : List Host.Cell) (a : Nat) (bs : Bytes) (x : Nat) (h : x < a ∨ a + bs.length ≤ x) :
    memByte (memPuts m a bs) x = memByte m x :=
  memByte_memSpan_out m a bs.length _ x h (memHas_cellsFrom_out a bs x h)

theorem memByte_memClear_in (m : List Host.Cell) (a n x : Nat) (h1 : a ≤ x) (h2 : x < a + n) :
    memByte (memClear m a n) x = 0 := by
  unfold memClear; rw [memByte_memSpan_in _ _ _ _ _ h1 h2]; rfl

theorem memByte_memClear_out (m : List Host.Cell) (a n x : Nat) (h : x < a ∨ a + n ≤ x) :
    memByte (memClear m a n) x = memByte m x := memByte_memSpan_out m a n [] x h rfl

/-! ### The canonical form -/

theorem Memory.wf_iff (m : List Host.Cell) :
    Memory.wf m = true ↔ m.Pairwise (fun x y => x.1 < y.1) ∧ ∀ c ∈ m, c.2 ≠ 0 := by
  simp [Memory.wf]

theorem Memory.wf_nil : Memory.wf [] = true := by simp [Memory.wf]

theorem memSpan_wf {m : List Host.Cell} {a n : Nat} {cells : List Host.Cell} (hm : Memory.wf m = true)
    (hc : Memory.wf cells = true) (hr : ∀ c ∈ cells, a ≤ c.1 ∧ c.1 < a + n) : Memory.wf (memSpan m a n cells) = true := by
  rw [Memory.wf_iff] at *
  unfold memSpan
  refine ⟨?_, ?_⟩
  · rw [List.pairwise_append, List.pairwise_append]
    refine ⟨⟨hm.1.filter _, hc.1, ?_⟩, hm.1.filter _, ?_⟩
    · intro x hx y hy
      have := (List.mem_filter.mp hx).2
      have := hr y hy
      simp at *; omega
    · intro x hx y hy
      have hy := (List.mem_filter.mp hy).2
      rcases List.mem_append.mp hx with hx | hx
      · have := (List.mem_filter.mp hx).2
        simp at *; omega
      · have := hr x hx
        simp at *; omega
  · intro c hc'
    rcases List.mem_append.mp hc' with h | h
    · rcases List.mem_append.mp h with h | h
      · exact hm.2 c (List.mem_filter.mp h).1
      · exact hc.2 c h
    · exact hm.2 c (List.mem_filter.mp h).1

theorem cellsFrom_range (a : Nat) (bs : Bytes) : ∀ c ∈ cellsFrom a bs, a ≤ c.1 ∧ c.1 < a + bs.length := by
  induction bs generalizing a with
  | nil => simp [cellsFrom]
  | cons b t ih =>
    intro c hc
    unfold cellsFrom at hc
    split at hc
    · have := ih (a + 1) c hc; simp; omega
    · rcases List.mem_cons.mp hc with rfl | hc
      · simp
      · have := ih (a + 1) c hc; simp; omega

theorem cellsFrom_wf (a : Nat) (bs : Bytes) : Memory.wf (cellsFrom a bs) = true := by
  induction bs generalizing a with
  | nil => exact Memory.wf_nil
  | cons b t ih =>
    unfold cellsFrom
    split
    · exact ih (a + 1)
    · rename_i hb
      have h := (Memory.wf_iff _).mp (ih (a + 1))
      rw [Memory.wf_iff]
      refine ⟨List.pairwise_cons.mpr ⟨?_, h.1⟩, ?_⟩
      · intro c hc; have := cellsFrom_range (a + 1) t c hc; simp; omega
      · intro c hc
        rcases List.mem_cons.mp hc with rfl | hc
        · exact hb
        · exact h.2 c hc

/-- A write of bytes keeps the canonical form. -/
theorem memPuts_wf {m : List Host.Cell} (a : Nat) (bs : Bytes) (h : Memory.wf m = true) : Memory.wf (memPuts m a bs) = true :=
  memSpan_wf h (cellsFrom_wf a bs) (cellsFrom_range a bs)

/-- A span zeroed keeps the canonical form. -/
theorem memClear_wf {m : List Host.Cell} (a n : Nat) (h : Memory.wf m = true) : Memory.wf (memClear m a n) = true :=
  memSpan_wf h Memory.wf_nil (by simp)

/-- A span copied keeps the canonical form. -/
theorem memMove_wf {m : List Host.Cell} (src dst n : Nat) (h : Memory.wf m = true) : Memory.wf (memMove m src dst n) = true := by
  have hm := (Memory.wf_iff _).mp h
  refine memSpan_wf h ?_ ?_
  · rw [Memory.wf_iff]
    refine ⟨?_, ?_⟩
    · rw [List.pairwise_map]
      refine (hm.1.filter _).imp_of_mem ?_
      intro x y hx hy hxy
      have h1 := (List.mem_filter.mp hx).2
      have h2 := (List.mem_filter.mp hy).2
      simp at *; omega
    · intro c hc
      obtain ⟨d, hd, rfl⟩ := List.mem_map.mp hc
      exact hm.2 d (List.mem_filter.mp hd).1
  · intro c hc
    obtain ⟨d, hd, rfl⟩ := List.mem_map.mp hc
    have := (List.mem_filter.mp hd).2
    simp at *; omega

/-! ### The state's memory operations -/

section
variable (s : State)

theorem foldl_mem {α : Type} (f : State → α → State) (hf : ∀ s x, (f s x).mem = s.mem) (l : List α) (s : State) :
    (l.foldl f s).mem = s.mem := by
  induction l generalizing s with
  | nil => rfl
  | cons x t ih => simp [ih, hf]

theorem State.noteUnread_mem (p k : Nat) : (s.noteUnread p k).mem = s.mem := by
  unfold State.noteUnread; split <;> simp

theorem State.logError_mem (who : Who) (a k y : Nat) : (s.logError who a k y).mem = s.mem := by
  simp [State.logError, State.noteUnread_mem]

theorem State.countCe_mem (who : Who) (a y : Nat) : (s.countCe who a y).mem = s.mem := by
  unfold State.countCe; dsimp only; split <;> simp [State.logError_mem]

theorem State.countUe_mem (who : Who) (a y : Nat) : (s.countUe who a y).mem = s.mem := by
  simp [State.countUe, State.logError_mem]

theorem State.eccRead_mem (who : Who) (w : Nat) : (s.eccRead who w).mem = s.mem := by
  unfold State.eccRead; split <;> simp [State.countCe_mem, State.countUe_mem]

theorem State.eccWrite_mem (who : Who) (w : Nat) (full bad : Bool) : (s.eccWrite who w full bad).mem = s.mem := by
  unfold State.eccWrite
  cases full <;> cases bad <;> cases tfind s.ecc w with
  | none => rfl
  | some x => cases x <;> simp [State.countCe_mem, State.logError_mem]

/-- A read changes no byte of memory. -/
theorem State.readLa_mem (who : Who) (a n : Nat) : (s.readLa who a n).2.mem = s.mem := by
  unfold State.readLa
  rw [foldl_mem _ (fun s w => s.eccRead_mem who w)]

/-- What a write of bytes at a local address leaves in memory. -/
theorem State.writeLa_mem (who : Who) (a : Nat) (d : List PByte) :
    (s.writeLa who a d).mem = if laPlace a = 8 then s.mem else memPuts s.mem a (d.map (·.1)) := by
  unfold State.writeLa
  split
  · rfl
  · simp only
    rw [foldl_mem _ (fun s (p : Nat × Bool × Bool) => s.eccWrite_mem who p.1 p.2.1 p.2.2)]

@[simp] theorem State.zeroLa_mem (a n : Nat) : (s.zeroLa a n).mem = memClear s.mem a n := rfl

/-- Every write and every zeroing of memory keeps the canonical form. -/
theorem State.writeLa_wf (who : Who) (a : Nat) (d : List PByte) (h : Memory.wf s.mem = true) :
    Memory.wf (s.writeLa who a d).mem = true := by
  rw [State.writeLa_mem]; split
  · exact h
  · exact memPuts_wf _ _ h

theorem State.zeroLa_wf (a n : Nat) (h : Memory.wf s.mem = true) : Memory.wf (s.zeroLa a n).mem = true := memClear_wf a n h

end

end Sys2Proof.Machine
end

