-- ==== Sys2Proof/Laws/Frames.lean ====
section
/-! SUPPORT. Frames of the shared operations on memory and buffers: a read or write of memory changes registers, logs, memory and what
leaves the device, and no other field. -/

namespace Sys2Proof.Machine

set_option Elab.async false

/-- What every step of a fold keeps, the fold keeps. -/
theorem foldl_keeps {α β : Type} (g : State → β) (f : State → α → State) (hf : ∀ s x, g (f s x) = g s) (l : List α) (s : State) :
    g (l.foldl f s) = g s := by
  induction l generalizing s with
  | nil => rfl
  | cons x t ih => rw [List.foldl_cons, ih, hf]

/-- The same where the state comes with a result. -/
theorem foldl_keeps2 {α β γ : Type} (g : State → β) (f : γ × State → α → γ × State) (hf : ∀ a x, g (f a x).2 = g a.2)
    (l : List α) (a : γ × State) : g (l.foldl f a).2 = g a.2 := by
  induction l generalizing a with
  | nil => rfl
  | cons x t ih => rw [List.foldl_cons, ih, hf]

variable (s : State)


/-! ### Counting and logging -/

@[simp] theorem State.noteUnread_time (p k : Nat) : (s.noteUnread p k).time = s.time := by
  unfold State.noteUnread; split <;> simp
@[simp] theorem State.noteUnread_pending (p k : Nat) : (s.noteUnread p k).pending = s.pending := by
  unfold State.noteUnread; split <;> simp
@[simp] theorem State.noteUnread_fresh (p k : Nat) : (s.noteUnread p k).fresh = s.fresh := by
  unfold State.noteUnread; split <;> simp
@[simp] theorem State.noteUnread_ctxs (p k : Nat) : (s.noteUnread p k).ctxs = s.ctxs := by
  unfold State.noteUnread; split <;> simp
@[simp] theorem State.noteUnread_queues (p k : Nat) : (s.noteUnread p k).queues = s.queues := by
  unfold State.noteUnread; split <;> simp
@[simp] theorem State.noteUnread_cmdSeq (p k : Nat) : (s.noteUnread p k).cmdSeq = s.cmdSeq := by
  unfold State.noteUnread; split <;> simp
@[simp] theorem State.noteUnread_plans (p k : Nat) : (s.noteUnread p k).plans = s.plans := by
  unfold State.noteUnread; split <;> simp
@[simp] theorem State.noteUnread_items (p k : Nat) : (s.noteUnread p k).items = s.items := by
  unfold State.noteUnread; split <;> simp
@[simp] theorem State.noteUnread_ranges (p k : Nat) : (s.noteUnread p k).ranges = s.ranges := by
  unfold State.noteUnread; split <;> simp
@[simp] theorem State.noteUnread_tlb (p k : Nat) : (s.noteUnread p k).tlb = s.tlb := by
  unfold State.noteUnread; split <;> simp
@[simp] theorem State.noteUnread_chans (p k : Nat) : (s.noteUnread p k).chans = s.chans := by
  unfold State.noteUnread; split <;> simp
@[simp] theorem State.noteUnread_encs (p k : Nat) : (s.noteUnread p k).encs = s.encs := by
  unfold State.noteUnread; split <;> simp
@[simp] theorem State.noteUnread_lineIns (p k : Nat) : (s.noteUnread p k).lineIns = s.lineIns := by
  unfold State.noteUnread; split <;> simp
@[simp] theorem State.noteUnread_lineOuts (p k : Nat) : (s.noteUnread p k).lineOuts = s.lineOuts := by
  unfold State.noteUnread; split <;> simp
@[simp] theorem State.noteUnread_ports (p k : Nat) : (s.noteUnread p k).ports = s.ports := by
  unfold State.noteUnread; split <;> simp
@[simp] theorem State.noteUnread_acqs (p k : Nat) : (s.noteUnread p k).acqs = s.acqs := by
  unfold State.noteUnread; split <;> simp
@[simp] theorem State.noteUnread_dfcs (p k : Nat) : (s.noteUnread p k).dfcs = s.dfcs := by
  unfold State.noteUnread; split <;> simp
@[simp] theorem State.noteUnread_models (p k : Nat) : (s.noteUnread p k).models = s.models := by
  unfold State.noteUnread; split <;> simp
@[simp] theorem State.noteUnread_engDies (p k : Nat) : (s.noteUnread p k).engDies = s.engDies := by
  unfold State.noteUnread; split <;> simp
@[simp] theorem State.noteUnread_herd (p k : Nat) : (s.noteUnread p k).herd = s.herd := by
  unfold State.noteUnread; split <;> simp
@[simp] theorem State.noteUnread_doms (p k : Nat) : (s.noteUnread p k).doms = s.doms := by
  unfold State.noteUnread; split <;> simp
@[simp] theorem State.noteUnread_group (p k : Nat) : (s.noteUnread p k).group = s.group := by
  unfold State.noteUnread; split <;> simp
@[simp] theorem State.noteUnread_faultLog (p k : Nat) : (s.noteUnread p k).faultLog = s.faultLog := by
  unfold State.noteUnread; split <;> simp
@[simp] theorem State.noteUnread_flash (p k : Nat) : (s.noteUnread p k).flash = s.flash := by
  unfold State.noteUnread; split <;> simp
@[simp] theorem State.noteUnread_keys (p k : Nat) : (s.noteUnread p k).keys = s.keys := by
  unfold State.noteUnread; split <;> simp
@[simp] theorem State.noteUnread_out (p k : Nat) : (s.noteUnread p k).out = s.out := by
  unfold State.noteUnread; split <;> simp
@[simp] theorem State.noteUnread_ecc (p k : Nat) : (s.noteUnread p k).ecc = s.ecc := by
  unfold State.noteUnread; split <;> simp
@[simp] theorem State.logError_time (who : Who) (a k y : Nat) : (s.logError who a k y).time = s.time := by
  simp [State.logError]
@[simp] theorem State.logError_pending (who : Who) (a k y : Nat) : (s.logError who a k y).pending = s.pending := by
  simp [State.logError]
@[simp] theorem State.logError_fresh (who : Who) (a k y : Nat) : (s.logError who a k y).fresh = s.fresh := by
  simp [State.logError]
@[simp] theorem State.logError_ctxs (who : Who) (a k y : Nat) : (s.logError who a k y).ctxs = s.ctxs := by
  simp [State.logError]
@[simp] theorem State.logError_queues (who : Who) (a k y : Nat) : (s.logError who a k y).queues = s.queues := by
  simp [State.logError]
@[simp] theorem State.logError_cmdSeq (who : Who) (a k y : Nat) : (s.logError who a k y).cmdSeq = s.cmdSeq := by
  simp [State.logError]
@[simp] theorem State.logError_plans (who : Who) (a k y : Nat) : (s.logError who a k y).plans = s.plans := by
  simp [State.logError]
@[simp] theorem State.logError_items (who : Who) (a k y : Nat) : (s.logError who a k y).items = s.items := by
  simp [State.logError]
@[simp] theorem State.logError_ranges (who : Who) (a k y : Nat) : (s.logError who a k y).ranges = s.ranges := by
  simp [State.logError]
@[simp] theorem State.logError_tlb (who : Who) (a k y : Nat) : (s.logError who a k y).tlb = s.tlb := by
  simp [State.logError]
@[simp] theorem State.logError_chans (who : Who) (a k y : Nat) : (s.logError who a k y).chans = s.chans := by
  simp [State.logError]
@[simp] theorem State.logError_encs (who : Who) (a k y : Nat) : (s.logError who a k y).encs = s.encs := by
  simp [State.logError]
@[simp] theorem State.logError_lineIns (who : Who) (a k y : Nat) : (s.logError who a k y).lineIns = s.lineIns := by
  simp [State.logError]
@[simp] theorem State.logError_lineOuts (who : Who) (a k y : Nat) : (s.logError who a k y).lineOuts = s.lineOuts := by
  simp [State.logError]
@[simp] theorem State.logError_ports (who : Who) (a k y : Nat) : (s.logError who a k y).ports = s.ports := by
  simp [State.logError]
@[simp] theorem State.logError_acqs (who : Who) (a k y : Nat) : (s.logError who a k y).acqs = s.acqs := by
  simp [State.logError]
@[simp] theorem State.logError_dfcs (who : Who) (a k y : Nat) : (s.logError who a k y).dfcs = s.dfcs := by
  simp [State.logError]
@[simp] theorem State.logError_models (who : Who) (a k y : Nat) : (s.logError who a k y).models = s.models := by
  simp [State.logError]
@[simp] theorem State.logError_engDies (who : Who) (a k y : Nat) : (s.logError who a k y).engDies = s.engDies := by
  simp [State.logError]
@[simp] theorem State.logError_herd (who : Who) (a k y : Nat) : (s.logError who a k y).herd = s.herd := by
  simp [State.logError]
@[simp] theorem State.logError_doms (who : Who) (a k y : Nat) : (s.logError who a k y).doms = s.doms := by
  simp [State.logError]
@[simp] theorem State.logError_group (who : Who) (a k y : Nat) : (s.logError who a k y).group = s.group := by
  simp [State.logError]
@[simp] theorem State.logError_faultLog (who : Who) (a k y : Nat) : (s.logError who a k y).faultLog = s.faultLog := by
  simp [State.logError]
@[simp] theorem State.logError_flash (who : Who) (a k y : Nat) : (s.logError who a k y).flash = s.flash := by
  simp [State.logError]
@[simp] theorem State.logError_keys (who : Who) (a k y : Nat) : (s.logError who a k y).keys = s.keys := by
  simp [State.logError]
@[simp] theorem State.logError_out (who : Who) (a k y : Nat) : (s.logError who a k y).out = s.out := by
  simp [State.logError]
@[simp] theorem State.logError_ecc (who : Who) (a k y : Nat) : (s.logError who a k y).ecc = s.ecc := by
  simp [State.logError]
@[simp] theorem State.countCe_time (who : Who) (a y : Nat) : (s.countCe who a y).time = s.time := by
  unfold State.countCe; dsimp only; split <;> simp
@[simp] theorem State.countCe_pending (who : Who) (a y : Nat) : (s.countCe who a y).pending = s.pending := by
  unfold State.countCe; dsimp only; split <;> simp
@[simp] theorem State.countCe_fresh (who : Who) (a y : Nat) : (s.countCe who a y).fresh = s.fresh := by
  unfold State.countCe; dsimp only; split <;> simp
@[simp] theorem State.countCe_ctxs (who : Who) (a y : Nat) : (s.countCe who a y).ctxs = s.ctxs := by
  unfold State.countCe; dsimp only; split <;> simp
@[simp] theorem State.countCe_queues (who : Who) (a y : Nat) : (s.countCe who a y).queues = s.queues := by
  unfold State.countCe; dsimp only; split <;> simp
@[simp] theorem State.countCe_cmdSeq (who : Who) (a y : Nat) : (s.countCe who a y).cmdSeq = s.cmdSeq := by
  unfold State.countCe; dsimp only; split <;> simp
@[simp] theorem State.countCe_plans (who : Who) (a y : Nat) : (s.countCe who a y).plans = s.plans := by
  unfold State.countCe; dsimp only; split <;> simp
@[simp] theorem State.countCe_items (who : Who) (a y : Nat) : (s.countCe who a y).items = s.items := by
  unfold State.countCe; dsimp only; split <;> simp
@[simp] theorem State.countCe_ranges (who : Who) (a y : Nat) : (s.countCe who a y).ranges = s.ranges := by
  unfold State.countCe; dsimp only; split <;> simp
@[simp] theorem State.countCe_tlb (who : Who) (a y : Nat) : (s.countCe who a y).tlb = s.tlb := by
  unfold State.countCe; dsimp only; split <;> simp
@[simp] theorem State.countCe_chans (who : Who) (a y : Nat) : (s.countCe who a y).chans = s.chans := by
  unfold State.countCe; dsimp only; split <;> simp
@[simp] theorem State.countCe_encs (who : Who) (a y : Nat) : (s.countCe who a y).encs = s.encs := by
  unfold State.countCe; dsimp only; split <;> simp
@[simp] theorem State.countCe_lineIns (who : Who) (a y : Nat) : (s.countCe who a y).lineIns = s.lineIns := by
  unfold State.countCe; dsimp only; split <;> simp
@[simp] theorem State.countCe_lineOuts (who : Who) (a y : Nat) : (s.countCe who a y).lineOuts = s.lineOuts := by
  unfold State.countCe; dsimp only; split <;> simp
@[simp] theorem State.countCe_ports (who : Who) (a y : Nat) : (s.countCe who a y).ports = s.ports := by
  unfold State.countCe; dsimp only; split <;> simp
@[simp] theorem State.countCe_acqs (who : Who) (a y : Nat) : (s.countCe who a y).acqs = s.acqs := by
  unfold State.countCe; dsimp only; split <;> simp
@[simp] theorem State.countCe_dfcs (who : Who) (a y : Nat) : (s.countCe who a y).dfcs = s.dfcs := by
  unfold State.countCe; dsimp only; split <;> simp
@[simp] theorem State.countCe_models (who : Who) (a y : Nat) : (s.countCe who a y).models = s.models := by
  unfold State.countCe; dsimp only; split <;> simp
@[simp] theorem State.countCe_engDies (who : Who) (a y : Nat) : (s.countCe who a y).engDies = s.engDies := by
  unfold State.countCe; dsimp only; split <;> simp
@[simp] theorem State.countCe_herd (who : Who) (a y : Nat) : (s.countCe who a y).herd = s.herd := by
  unfold State.countCe; dsimp only; split <;> simp
@[simp] theorem State.countCe_doms (who : Who) (a y : Nat) : (s.countCe who a y).doms = s.doms := by
  unfold State.countCe; dsimp only; split <;> simp
@[simp] theorem State.countCe_group (who : Who) (a y : Nat) : (s.countCe who a y).group = s.group := by
  unfold State.countCe; dsimp only; split <;> simp
@[simp] theorem State.countCe_faultLog (who : Who) (a y : Nat) : (s.countCe who a y).faultLog = s.faultLog := by
  unfold State.countCe; dsimp only; split <;> simp
@[simp] theorem State.countCe_flash (who : Who) (a y : Nat) : (s.countCe who a y).flash = s.flash := by
  unfold State.countCe; dsimp only; split <;> simp
@[simp] theorem State.countCe_keys (who : Who) (a y : Nat) : (s.countCe who a y).keys = s.keys := by
  unfold State.countCe; dsimp only; split <;> simp
@[simp] theorem State.countCe_out (who : Who) (a y : Nat) : (s.countCe who a y).out = s.out := by
  unfold State.countCe; dsimp only; split <;> simp
@[simp] theorem State.countCe_ecc (who : Who) (a y : Nat) : (s.countCe who a y).ecc = s.ecc := by
  unfold State.countCe; dsimp only; split <;> simp
@[simp] theorem State.countUe_time (who : Who) (a y : Nat) : (s.countUe who a y).time = s.time := by
  simp [State.countUe]
@[simp] theorem State.countUe_pending (who : Who) (a y : Nat) : (s.countUe who a y).pending = s.pending := by
  simp [State.countUe]
@[simp] theorem State.countUe_fresh (who : Who) (a y : Nat) : (s.countUe who a y).fresh = s.fresh := by
  simp [State.countUe]
@[simp] theorem State.countUe_ctxs (who : Who) (a y : Nat) : (s.countUe who a y).ctxs = s.ctxs := by
  simp [State.countUe]
@[simp] theorem State.countUe_queues (who : Who) (a y : Nat) : (s.countUe who a y).queues = s.queues := by
  simp [State.countUe]
@[simp] theorem State.countUe_cmdSeq (who : Who) (a y : Nat) : (s.countUe who a y).cmdSeq = s.cmdSeq := by
  simp [State.countUe]
@[simp] theorem State.countUe_plans (who : Who) (a y : Nat) : (s.countUe who a y).plans = s.plans := by
  simp [State.countUe]
@[simp] theorem State.countUe_items (who : Who) (a y : Nat) : (s.countUe who a y).items = s.items := by
  simp [State.countUe]
@[simp] theorem State.countUe_ranges (who : Who) (a y : Nat) : (s.countUe who a y).ranges = s.ranges := by
  simp [State.countUe]
@[simp] theorem State.countUe_tlb (who : Who) (a y : Nat) : (s.countUe who a y).tlb = s.tlb := by
  simp [State.countUe]
@[simp] theorem State.countUe_chans (who : Who) (a y : Nat) : (s.countUe who a y).chans = s.chans := by
  simp [State.countUe]
@[simp] theorem State.countUe_encs (who : Who) (a y : Nat) : (s.countUe who a y).encs = s.encs := by
  simp [State.countUe]
@[simp] theorem State.countUe_lineIns (who : Who) (a y : Nat) : (s.countUe who a y).lineIns = s.lineIns := by
  simp [State.countUe]
@[simp] theorem State.countUe_lineOuts (who : Who) (a y : Nat) : (s.countUe who a y).lineOuts = s.lineOuts := by
  simp [State.countUe]
@[simp] theorem State.countUe_ports (who : Who) (a y : Nat) : (s.countUe who a y).ports = s.ports := by
  simp [State.countUe]
@[simp] theorem State.countUe_acqs (who : Who) (a y : Nat) : (s.countUe who a y).acqs = s.acqs := by
  simp [State.countUe]
@[simp] theorem State.countUe_dfcs (who : Who) (a y : Nat) : (s.countUe who a y).dfcs = s.dfcs := by
  simp [State.countUe]
@[simp] theorem State.countUe_models (who : Who) (a y : Nat) : (s.countUe who a y).models = s.models := by
  simp [State.countUe]
@[simp] theorem State.countUe_engDies (who : Who) (a y : Nat) : (s.countUe who a y).engDies = s.engDies := by
  simp [State.countUe]
@[simp] theorem State.countUe_herd (who : Who) (a y : Nat) : (s.countUe who a y).herd = s.herd := by
  simp [State.countUe]
@[simp] theorem State.countUe_doms (who : Who) (a y : Nat) : (s.countUe who a y).doms = s.doms := by
  simp [State.countUe]
@[simp] theorem State.countUe_group (who : Who) (a y : Nat) : (s.countUe who a y).group = s.group := by
  simp [State.countUe]
@[simp] theorem State.countUe_faultLog (who : Who) (a y : Nat) : (s.countUe who a y).faultLog = s.faultLog := by
  simp [State.countUe]
@[simp] theorem State.countUe_flash (who : Who) (a y : Nat) : (s.countUe who a y).flash = s.flash := by
  simp [State.countUe]
@[simp] theorem State.countUe_keys (who : Who) (a y : Nat) : (s.countUe who a y).keys = s.keys := by
  simp [State.countUe]
@[simp] theorem State.countUe_out (who : Who) (a y : Nat) : (s.countUe who a y).out = s.out := by
  simp [State.countUe]
@[simp] theorem State.countUe_ecc (who : Who) (a y : Nat) : (s.countUe who a y).ecc = s.ecc := by
  simp [State.countUe]
@[simp] theorem State.eccRead_time (who : Who) (w : Nat) : (s.eccRead who w).time = s.time := by
  unfold State.eccRead; split <;> simp
@[simp] theorem State.eccRead_pending (who : Who) (w : Nat) : (s.eccRead who w).pending = s.pending := by
  unfold State.eccRead; split <;> simp
@[simp] theorem State.eccRead_fresh (who : Who) (w : Nat) : (s.eccRead who w).fresh = s.fresh := by
  unfold State.eccRead; split <;> simp
@[simp] theorem State.eccRead_ctxs (who : Who) (w : Nat) : (s.eccRead who w).ctxs = s.ctxs := by
  unfold State.eccRead; split <;> simp
@[simp] theorem State.eccRead_queues (who : Who) (w : Nat) : (s.eccRead who w).queues = s.queues := by
  unfold State.eccRead; split <;> simp
@[simp] theorem State.eccRead_cmdSeq (who : Who) (w : Nat) : (s.eccRead who w).cmdSeq = s.cmdSeq := by
  unfold State.eccRead; split <;> simp
@[simp] theorem State.eccRead_plans (who : Who) (w : Nat) : (s.eccRead who w).plans = s.plans := by
  unfold State.eccRead; split <;> simp
@[simp] theorem State.eccRead_items (who : Who) (w : Nat) : (s.eccRead who w).items = s.items := by
  unfold State.eccRead; split <;> simp
@[simp] theorem State.eccRead_ranges (who : Who) (w : Nat) : (s.eccRead who w).ranges = s.ranges := by
  unfold State.eccRead; split <;> simp
@[simp] theorem State.eccRead_tlb (who : Who) (w : Nat) : (s.eccRead who w).tlb = s.tlb := by
  unfold State.eccRead; split <;> simp
@[simp] theorem State.eccRead_chans (who : Who) (w : Nat) : (s.eccRead who w).chans = s.chans := by
  unfold State.eccRead; split <;> simp
@[simp] theorem State.eccRead_encs (who : Who) (w : Nat) : (s.eccRead who w).encs = s.encs := by
  unfold State.eccRead; split <;> simp
@[simp] theorem State.eccRead_lineIns (who : Who) (w : Nat) : (s.eccRead who w).lineIns = s.lineIns := by
  unfold State.eccRead; split <;> simp
@[simp] theorem State.eccRead_lineOuts (who : Who) (w : Nat) : (s.eccRead who w).lineOuts = s.lineOuts := by
  unfold State.eccRead; split <;> simp
@[simp] theorem State.eccRead_ports (who : Who) (w : Nat) : (s.eccRead who w).ports = s.ports := by
  unfold State.eccRead; split <;> simp
@[simp] theorem State.eccRead_acqs (who : Who) (w : Nat) : (s.eccRead who w).acqs = s.acqs := by
  unfold State.eccRead; split <;> simp
@[simp] theorem State.eccRead_dfcs (who : Who) (w : Nat) : (s.eccRead who w).dfcs = s.dfcs := by
  unfold State.eccRead; split <;> simp
@[simp] theorem State.eccRead_models (who : Who) (w : Nat) : (s.eccRead who w).models = s.models := by
  unfold State.eccRead; split <;> simp
@[simp] theorem State.eccRead_engDies (who : Who) (w : Nat) : (s.eccRead who w).engDies = s.engDies := by
  unfold State.eccRead; split <;> simp
@[simp] theorem State.eccRead_herd (who : Who) (w : Nat) : (s.eccRead who w).herd = s.herd := by
  unfold State.eccRead; split <;> simp
@[simp] theorem State.eccRead_doms (who : Who) (w : Nat) : (s.eccRead who w).doms = s.doms := by
  unfold State.eccRead; split <;> simp
@[simp] theorem State.eccRead_group (who : Who) (w : Nat) : (s.eccRead who w).group = s.group := by
  unfold State.eccRead; split <;> simp
@[simp] theorem State.eccRead_faultLog (who : Who) (w : Nat) : (s.eccRead who w).faultLog = s.faultLog := by
  unfold State.eccRead; split <;> simp
@[simp] theorem State.eccRead_flash (who : Who) (w : Nat) : (s.eccRead who w).flash = s.flash := by
  unfold State.eccRead; split <;> simp
@[simp] theorem State.eccRead_keys (who : Who) (w : Nat) : (s.eccRead who w).keys = s.keys := by
  unfold State.eccRead; split <;> simp
@[simp] theorem State.eccRead_out (who : Who) (w : Nat) : (s.eccRead who w).out = s.out := by
  unfold State.eccRead; split <;> simp
@[simp] theorem State.eccRead_ecc (who : Who) (w : Nat) : (s.eccRead who w).ecc = s.ecc := by
  unfold State.eccRead; split <;> simp

/-! ### Reads and writes of memory -/

@[simp] theorem State.eccWrite_time (who : Who) (w : Nat) (full bad : Bool) : (s.eccWrite who w full bad).time = s.time := by
  unfold State.eccWrite
  cases full <;> cases bad <;> cases tfind s.ecc w with
  | none => rfl
  | some x => cases x <;> simp
@[simp] theorem State.eccWrite_pending (who : Who) (w : Nat) (full bad : Bool) : (s.eccWrite who w full bad).pending = s.pending := by
  unfold State.eccWrite
  cases full <;> cases bad <;> cases tfind s.ecc w with
  | none => rfl
  | some x => cases x <;> simp
@[simp] theorem State.eccWrite_fresh (who : Who) (w : Nat) (full bad : Bool) : (s.eccWrite who w full bad).fresh = s.fresh := by
  unfold State.eccWrite
  cases full <;> cases bad <;> cases tfind s.ecc w with
  | none => rfl
  | some x => cases x <;> simp
@[simp] theorem State.eccWrite_ctxs (who : Who) (w : Nat) (full bad : Bool) : (s.eccWrite who w full bad).ctxs = s.ctxs := by
  unfold State.eccWrite
  cases full <;> cases bad <;> cases tfind s.ecc w with
  | none => rfl
  | some x => cases x <;> simp
@[simp] theorem State.eccWrite_queues (who : Who) (w : Nat) (full bad : Bool) : (s.eccWrite who w full bad).queues = s.queues := by
  unfold State.eccWrite
  cases full <;> cases bad <;> cases tfind s.ecc w with
  | none => rfl
  | some x => cases x <;> simp
@[simp] theorem State.eccWrite_cmdSeq (who : Who) (w : Nat) (full bad : Bool) : (s.eccWrite who w full bad).cmdSeq = s.cmdSeq := by
  unfold State.eccWrite
  cases full <;> cases bad <;> cases tfind s.ecc w with
  | none => rfl
  | some x => cases x <;> simp
@[simp] theorem State.eccWrite_plans (who : Who) (w : Nat) (full bad : Bool) : (s.eccWrite who w full bad).plans = s.plans := by
  unfold State.eccWrite
  cases full <;> cases bad <;> cases tfind s.ecc w with
  | none => rfl
  | some x => cases x <;> simp
@[simp] theorem State.eccWrite_items (who : Who) (w : Nat) (full bad : Bool) : (s.eccWrite who w full bad).items = s.items := by
  unfold State.eccWrite
  cases full <;> cases bad <;> cases tfind s.ecc w with
  | none => rfl
  | some x => cases x <;> simp
@[simp] theorem State.eccWrite_ranges (who : Who) (w : Nat) (full bad : Bool) : (s.eccWrite who w full bad).ranges = s.ranges := by
  unfold State.eccWrite
  cases full <;> cases bad <;> cases tfind s.ecc w with
  | none => rfl
  | some x => cases x <;> simp
@[simp] theorem State.eccWrite_tlb (who : Who) (w : Nat) (full bad : Bool) : (s.eccWrite who w full bad).tlb = s.tlb := by
  unfold State.eccWrite
  cases full <;> cases bad <;> cases tfind s.ecc w with
  | none => rfl
  | some x => cases x <;> simp
@[simp] theorem State.eccWrite_chans (who : Who) (w : Nat) (full bad : Bool) : (s.eccWrite who w full bad).chans = s.chans := by
  unfold State.eccWrite
  cases full <;> cases bad <;> cases tfind s.ecc w with
  | none => rfl
  | some x => cases x <;> simp
@[simp] theorem State.eccWrite_encs (who : Who) (w : Nat) (full bad : Bool) : (s.eccWrite who w full bad).encs = s.encs := by
  unfold State.eccWrite
  cases full <;> cases bad <;> cases tfind s.ecc w with
  | none => rfl
  | some x => cases x <;> simp
@[simp] theorem State.eccWrite_lineIns (who : Who) (w : Nat) (full bad : Bool) : (s.eccWrite who w full bad).lineIns = s.lineIns := by
  unfold State.eccWrite
  cases full <;> cases bad <;> cases tfind s.ecc w with
  | none => rfl
  | some x => cases x <;> simp
@[simp] theorem State.eccWrite_lineOuts (who : Who) (w : Nat) (full bad : Bool) : (s.eccWrite who w full bad).lineOuts = s.lineOuts := by
  unfold State.eccWrite
  cases full <;> cases bad <;> cases tfind s.ecc w with
  | none => rfl
  | some x => cases x <;> simp
@[simp] theorem State.eccWrite_ports (who : Who) (w : Nat) (full bad : Bool) : (s.eccWrite who w full bad).ports = s.ports := by
  unfold State.eccWrite
  cases full <;> cases bad <;> cases tfind s.ecc w with
  | none => rfl
  | some x => cases x <;> simp
@[simp] theorem State.eccWrite_acqs (who : Who) (w : Nat) (full bad : Bool) : (s.eccWrite who w full bad).acqs = s.acqs := by
  unfold State.eccWrite
  cases full <;> cases bad <;> cases tfind s.ecc w with
  | none => rfl
  | some x => cases x <;> simp
@[simp] theorem State.eccWrite_dfcs (who : Who) (w : Nat) (full bad : Bool) : (s.eccWrite who w full bad).dfcs = s.dfcs := by
  unfold State.eccWrite
  cases full <;> cases bad <;> cases tfind s.ecc w with
  | none => rfl
  | some x => cases x <;> simp
@[simp] theorem State.eccWrite_models (who : Who) (w : Nat) (full bad : Bool) : (s.eccWrite who w full bad).models = s.models := by
  unfold State.eccWrite
  cases full <;> cases bad <;> cases tfind s.ecc w with
  | none => rfl
  | some x => cases x <;> simp
@[simp] theorem State.eccWrite_engDies (who : Who) (w : Nat) (full bad : Bool) : (s.eccWrite who w full bad).engDies = s.engDies := by
  unfold State.eccWrite
  cases full <;> cases bad <;> cases tfind s.ecc w with
  | none => rfl
  | some x => cases x <;> simp
@[simp] theorem State.eccWrite_herd (who : Who) (w : Nat) (full bad : Bool) : (s.eccWrite who w full bad).herd = s.herd := by
  unfold State.eccWrite
  cases full <;> cases bad <;> cases tfind s.ecc w with
  | none => rfl
  | some x => cases x <;> simp
@[simp] theorem State.eccWrite_doms (who : Who) (w : Nat) (full bad : Bool) : (s.eccWrite who w full bad).doms = s.doms := by
  unfold State.eccWrite
  cases full <;> cases bad <;> cases tfind s.ecc w with
  | none => rfl
  | some x => cases x <;> simp
@[simp] theorem State.eccWrite_group (who : Who) (w : Nat) (full bad : Bool) : (s.eccWrite who w full bad).group = s.group := by
  unfold State.eccWrite
  cases full <;> cases bad <;> cases tfind s.ecc w with
  | none => rfl
  | some x => cases x <;> simp
@[simp] theorem State.eccWrite_faultLog (who : Who) (w : Nat) (full bad : Bool) : (s.eccWrite who w full bad).faultLog = s.faultLog := by
  unfold State.eccWrite
  cases full <;> cases bad <;> cases tfind s.ecc w with
  | none => rfl
  | some x => cases x <;> simp
@[simp] theorem State.eccWrite_flash (who : Who) (w : Nat) (full bad : Bool) : (s.eccWrite who w full bad).flash = s.flash := by
  unfold State.eccWrite
  cases full <;> cases bad <;> cases tfind s.ecc w with
  | none => rfl
  | some x => cases x <;> simp
@[simp] theorem State.eccWrite_keys (who : Who) (w : Nat) (full bad : Bool) : (s.eccWrite who w full bad).keys = s.keys := by
  unfold State.eccWrite
  cases full <;> cases bad <;> cases tfind s.ecc w with
  | none => rfl
  | some x => cases x <;> simp
@[simp] theorem State.eccWrite_out (who : Who) (w : Nat) (full bad : Bool) : (s.eccWrite who w full bad).out = s.out := by
  unfold State.eccWrite
  cases full <;> cases bad <;> cases tfind s.ecc w with
  | none => rfl
  | some x => cases x <;> simp
@[simp] theorem State.readLa_time (who : Who) (a n : Nat) : ((s.readLa who a n).2).time = s.time := by
  exact foldl_keeps State.time _ (fun s w => s.eccRead_time who w) _ s
@[simp] theorem State.readLa_pending (who : Who) (a n : Nat) : ((s.readLa who a n).2).pending = s.pending := by
  exact foldl_keeps State.pending _ (fun s w => s.eccRead_pending who w) _ s
@[simp] theorem State.readLa_fresh (who : Who) (a n : Nat) : ((s.readLa who a n).2).fresh = s.fresh := by
  exact foldl_keeps State.fresh _ (fun s w => s.eccRead_fresh who w) _ s
@[simp] theorem State.readLa_ctxs (who : Who) (a n : Nat) : ((s.readLa who a n).2).ctxs = s.ctxs := by
  exact foldl_keeps State.ctxs _ (fun s w => s.eccRead_ctxs who w) _ s
@[simp] theorem State.readLa_queues (who : Who) (a n : Nat) : ((s.readLa who a n).2).queues = s.queues := by
  exact foldl_keeps State.queues _ (fun s w => s.eccRead_queues who w) _ s
@[simp] theorem State.readLa_cmdSeq (who : Who) (a n : Nat) : ((s.readLa who a n).2).cmdSeq = s.cmdSeq := by
  exact foldl_keeps State.cmdSeq _ (fun s w => s.eccRead_cmdSeq who w) _ s
@[simp] theorem State.readLa_plans (who : Who) (a n : Nat) : ((s.readLa who a n).2).plans = s.plans := by
  exact foldl_keeps State.plans _ (fun s w => s.eccRead_plans who w) _ s
@[simp] theorem State.readLa_items (who : Who) (a n : Nat) : ((s.readLa who a n).2).items = s.items := by
  exact foldl_keeps State.items _ (fun s w => s.eccRead_items who w) _ s
@[simp] theorem State.readLa_ranges (who : Who) (a n : Nat) : ((s.readLa who a n).2).ranges = s.ranges := by
  exact foldl_keeps State.ranges _ (fun s w => s.eccRead_ranges who w) _ s
@[simp] theorem State.readLa_tlb (who : Who) (a n : Nat) : ((s.readLa who a n).2).tlb = s.tlb := by
  exact foldl_keeps State.tlb _ (fun s w => s.eccRead_tlb who w) _ s
@[simp] theorem State.readLa_chans (who : Who) (a n : Nat) : ((s.readLa who a n).2).chans = s.chans := by
  exact foldl_keeps State.chans _ (fun s w => s.eccRead_chans who w) _ s
@[simp] theorem State.readLa_encs (who : Who) (a n : Nat) : ((s.readLa who a n).2).encs = s.encs := by
  exact foldl_keeps State.encs _ (fun s w => s.eccRead_encs who w) _ s
@[simp] theorem State.readLa_lineIns (who : Who) (a n : Nat) : ((s.readLa who a n).2).lineIns = s.lineIns := by
  exact foldl_keeps State.lineIns _ (fun s w => s.eccRead_lineIns who w) _ s
@[simp] theorem State.readLa_lineOuts (who : Who) (a n : Nat) : ((s.readLa who a n).2).lineOuts = s.lineOuts := by
  exact foldl_keeps State.lineOuts _ (fun s w => s.eccRead_lineOuts who w) _ s
@[simp] theorem State.readLa_ports (who : Who) (a n : Nat) : ((s.readLa who a n).2).ports = s.ports := by
  exact foldl_keeps State.ports _ (fun s w => s.eccRead_ports who w) _ s
@[simp] theorem State.readLa_acqs (who : Who) (a n : Nat) : ((s.readLa who a n).2).acqs = s.acqs := by
  exact foldl_keeps State.acqs _ (fun s w => s.eccRead_acqs who w) _ s
@[simp] theorem State.readLa_dfcs (who : Who) (a n : Nat) : ((s.readLa who a n).2).dfcs = s.dfcs := by
  exact foldl_keeps State.dfcs _ (fun s w => s.eccRead_dfcs who w) _ s
@[simp] theorem State.readLa_models (who : Who) (a n : Nat) : ((s.readLa who a n).2).models = s.models := by
  exact foldl_keeps State.models _ (fun s w => s.eccRead_models who w) _ s
@[simp] theorem State.readLa_engDies (who : Who) (a n : Nat) : ((s.readLa who a n).2).engDies = s.engDies := by
  exact foldl_keeps State.engDies _ (fun s w => s.eccRead_engDies who w) _ s
@[simp] theorem State.readLa_herd (who : Who) (a n : Nat) : ((s.readLa who a n).2).herd = s.herd := by
  exact foldl_keeps State.herd _ (fun s w => s.eccRead_herd who w) _ s
@[simp] theorem State.readLa_doms (who : Who) (a n : Nat) : ((s.readLa who a n).2).doms = s.doms := by
  exact foldl_keeps State.doms _ (fun s w => s.eccRead_doms who w) _ s
@[simp] theorem State.readLa_group (who : Who) (a n : Nat) : ((s.readLa who a n).2).group = s.group := by
  exact foldl_keeps State.group _ (fun s w => s.eccRead_group who w) _ s
@[simp] theorem State.readLa_faultLog (who : Who) (a n : Nat) : ((s.readLa who a n).2).faultLog = s.faultLog := by
  exact foldl_keeps State.faultLog _ (fun s w => s.eccRead_faultLog who w) _ s
@[simp] theorem State.readLa_flash (who : Who) (a n : Nat) : ((s.readLa who a n).2).flash = s.flash := by
  exact foldl_keeps State.flash _ (fun s w => s.eccRead_flash who w) _ s
@[simp] theorem State.readLa_keys (who : Who) (a n : Nat) : ((s.readLa who a n).2).keys = s.keys := by
  exact foldl_keeps State.keys _ (fun s w => s.eccRead_keys who w) _ s
@[simp] theorem State.readLa_out (who : Who) (a n : Nat) : ((s.readLa who a n).2).out = s.out := by
  exact foldl_keeps State.out _ (fun s w => s.eccRead_out who w) _ s
@[simp] theorem State.readLa_ecc (who : Who) (a n : Nat) : ((s.readLa who a n).2).ecc = s.ecc := by
  exact foldl_keeps State.ecc _ (fun s w => s.eccRead_ecc who w) _ s
@[simp] theorem State.writeLa_time (who : Who) (a : Nat) (d : List PByte) : (s.writeLa who a d).time = s.time := by
  unfold State.writeLa
  split
  · rfl
  · exact foldl_keeps State.time _ (fun s (p : Nat × Bool × Bool) => s.eccWrite_time who p.1 p.2.1 p.2.2) _ s
@[simp] theorem State.writeLa_pending (who : Who) (a : Nat) (d : List PByte) : (s.writeLa who a d).pending = s.pending := by
  unfold State.writeLa
  split
  · rfl
  · exact foldl_keeps State.pending _ (fun s (p : Nat × Bool × Bool) => s.eccWrite_pending who p.1 p.2.1 p.2.2) _ s
@[simp] theorem State.writeLa_fresh (who : Who) (a : Nat) (d : List PByte) : (s.writeLa who a d).fresh = s.fresh := by
  unfold State.writeLa
  split
  · rfl
  · exact foldl_keeps State.fresh _ (fun s (p : Nat × Bool × Bool) => s.eccWrite_fresh who p.1 p.2.1 p.2.2) _ s
@[simp] theorem State.writeLa_ctxs (who : Who) (a : Nat) (d : List PByte) : (s.writeLa who a d).ctxs = s.ctxs := by
  unfold State.writeLa
  split
  · rfl
  · exact foldl_keeps State.ctxs _ (fun s (p : Nat × Bool × Bool) => s.eccWrite_ctxs who p.1 p.2.1 p.2.2) _ s
@[simp] theorem State.writeLa_queues (who : Who) (a : Nat) (d : List PByte) : (s.writeLa who a d).queues = s.queues := by
  unfold State.writeLa
  split
  · rfl
  · exact foldl_keeps State.queues _ (fun s (p : Nat × Bool × Bool) => s.eccWrite_queues who p.1 p.2.1 p.2.2) _ s
@[simp] theorem State.writeLa_cmdSeq (who : Who) (a : Nat) (d : List PByte) : (s.writeLa who a d).cmdSeq = s.cmdSeq := by
  unfold State.writeLa
  split
  · rfl
  · exact foldl_keeps State.cmdSeq _ (fun s (p : Nat × Bool × Bool) => s.eccWrite_cmdSeq who p.1 p.2.1 p.2.2) _ s
@[simp] theorem State.writeLa_plans (who : Who) (a : Nat) (d : List PByte) : (s.writeLa who a d).plans = s.plans := by
  unfold State.writeLa
  split
  · rfl
  · exact foldl_keeps State.plans _ (fun s (p : Nat × Bool × Bool) => s.eccWrite_plans who p.1 p.2.1 p.2.2) _ s
@[simp] theorem State.writeLa_items (who : Who) (a : Nat) (d : List PByte) : (s.writeLa who a d).items = s.items := by
  unfold State.writeLa
  split
  · rfl
  · exact foldl_keeps State.items _ (fun s (p : Nat × Bool × Bool) => s.eccWrite_items who p.1 p.2.1 p.2.2) _ s
@[simp] theorem State.writeLa_ranges (who : Who) (a : Nat) (d : List PByte) : (s.writeLa who a d).ranges = s.ranges := by
  unfold State.writeLa
  split
  · rfl
  · exact foldl_keeps State.ranges _ (fun s (p : Nat × Bool × Bool) => s.eccWrite_ranges who p.1 p.2.1 p.2.2) _ s
@[simp] theorem State.writeLa_tlb (who : Who) (a : Nat) (d : List PByte) : (s.writeLa who a d).tlb = s.tlb := by
  unfold State.writeLa
  split
  · rfl
  · exact foldl_keeps State.tlb _ (fun s (p : Nat × Bool × Bool) => s.eccWrite_tlb who p.1 p.2.1 p.2.2) _ s
@[simp] theorem State.writeLa_chans (who : Who) (a : Nat) (d : List PByte) : (s.writeLa who a d).chans = s.chans := by
  unfold State.writeLa
  split
  · rfl
  · exact foldl_keeps State.chans _ (fun s (p : Nat × Bool × Bool) => s.eccWrite_chans who p.1 p.2.1 p.2.2) _ s
@[simp] theorem State.writeLa_encs (who : Who) (a : Nat) (d : List PByte) : (s.writeLa who a d).encs = s.encs := by
  unfold State.writeLa
  split
  · rfl
  · exact foldl_keeps State.encs _ (fun s (p : Nat × Bool × Bool) => s.eccWrite_encs who p.1 p.2.1 p.2.2) _ s
@[simp] theorem State.writeLa_lineIns (who : Who) (a : Nat) (d : List PByte) : (s.writeLa who a d).lineIns = s.lineIns := by
  unfold State.writeLa
  split
  · rfl
  · exact foldl_keeps State.lineIns _ (fun s (p : Nat × Bool × Bool) => s.eccWrite_lineIns who p.1 p.2.1 p.2.2) _ s
@[simp] theorem State.writeLa_lineOuts (who : Who) (a : Nat) (d : List PByte) : (s.writeLa who a d).lineOuts = s.lineOuts := by
  unfold State.writeLa
  split
  · rfl
  · exact foldl_keeps State.lineOuts _ (fun s (p : Nat × Bool × Bool) => s.eccWrite_lineOuts who p.1 p.2.1 p.2.2) _ s
@[simp] theorem State.writeLa_ports (who : Who) (a : Nat) (d : List PByte) : (s.writeLa who a d).ports = s.ports := by
  unfold State.writeLa
  split
  · rfl
  · exact foldl_keeps State.ports _ (fun s (p : Nat × Bool × Bool) => s.eccWrite_ports who p.1 p.2.1 p.2.2) _ s
@[simp] theorem State.writeLa_acqs (who : Who) (a : Nat) (d : List PByte) : (s.writeLa who a d).acqs = s.acqs := by
  unfold State.writeLa
  split
  · rfl
  · exact foldl_keeps State.acqs _ (fun s (p : Nat × Bool × Bool) => s.eccWrite_acqs who p.1 p.2.1 p.2.2) _ s
@[simp] theorem State.writeLa_dfcs (who : Who) (a : Nat) (d : List PByte) : (s.writeLa who a d).dfcs = s.dfcs := by
  unfold State.writeLa
  split
  · rfl
  · exact foldl_keeps State.dfcs _ (fun s (p : Nat × Bool × Bool) => s.eccWrite_dfcs who p.1 p.2.1 p.2.2) _ s
@[simp] theorem State.writeLa_models (who : Who) (a : Nat) (d : List PByte) : (s.writeLa who a d).models = s.models := by
  unfold State.writeLa
  split
  · rfl
  · exact foldl_keeps State.models _ (fun s (p : Nat × Bool × Bool) => s.eccWrite_models who p.1 p.2.1 p.2.2) _ s
@[simp] theorem State.writeLa_engDies (who : Who) (a : Nat) (d : List PByte) : (s.writeLa who a d).engDies = s.engDies := by
  unfold State.writeLa
  split
  · rfl
  · exact foldl_keeps State.engDies _ (fun s (p : Nat × Bool × Bool) => s.eccWrite_engDies who p.1 p.2.1 p.2.2) _ s
@[simp] theorem State.writeLa_herd (who : Who) (a : Nat) (d : List PByte) : (s.writeLa who a d).herd = s.herd := by
  unfold State.writeLa
  split
  · rfl
  · exact foldl_keeps State.herd _ (fun s (p : Nat × Bool × Bool) => s.eccWrite_herd who p.1 p.2.1 p.2.2) _ s
@[simp] theorem State.writeLa_doms (who : Who) (a : Nat) (d : List PByte) : (s.writeLa who a d).doms = s.doms := by
  unfold State.writeLa
  split
  · rfl
  · exact foldl_keeps State.doms _ (fun s (p : Nat × Bool × Bool) => s.eccWrite_doms who p.1 p.2.1 p.2.2) _ s
@[simp] theorem State.writeLa_group (who : Who) (a : Nat) (d : List PByte) : (s.writeLa who a d).group = s.group := by
  unfold State.writeLa
  split
  · rfl
  · exact foldl_keeps State.group _ (fun s (p : Nat × Bool × Bool) => s.eccWrite_group who p.1 p.2.1 p.2.2) _ s
@[simp] theorem State.writeLa_faultLog (who : Who) (a : Nat) (d : List PByte) : (s.writeLa who a d).faultLog = s.faultLog := by
  unfold State.writeLa
  split
  · rfl
  · exact foldl_keeps State.faultLog _ (fun s (p : Nat × Bool × Bool) => s.eccWrite_faultLog who p.1 p.2.1 p.2.2) _ s
@[simp] theorem State.writeLa_flash (who : Who) (a : Nat) (d : List PByte) : (s.writeLa who a d).flash = s.flash := by
  unfold State.writeLa
  split
  · rfl
  · exact foldl_keeps State.flash _ (fun s (p : Nat × Bool × Bool) => s.eccWrite_flash who p.1 p.2.1 p.2.2) _ s
@[simp] theorem State.writeLa_keys (who : Who) (a : Nat) (d : List PByte) : (s.writeLa who a d).keys = s.keys := by
  unfold State.writeLa
  split
  · rfl
  · exact foldl_keeps State.keys _ (fun s (p : Nat × Bool × Bool) => s.eccWrite_keys who p.1 p.2.1 p.2.2) _ s
@[simp] theorem State.writeLa_out (who : Who) (a : Nat) (d : List PByte) : (s.writeLa who a d).out = s.out := by
  unfold State.writeLa
  split
  · rfl
  · exact foldl_keeps State.out _ (fun s (p : Nat × Bool × Bool) => s.eccWrite_out who p.1 p.2.1 p.2.2) _ s
@[simp] theorem State.readBg_time (who : Who) (a n : Nat) : ((s.readBg who a n).2).time = s.time := by
  unfold State.readBg
  rw [foldl_keeps2 State.time]
  intro acc p; dsimp only; split <;> simp
@[simp] theorem State.readBg_pending (who : Who) (a n : Nat) : ((s.readBg who a n).2).pending = s.pending := by
  unfold State.readBg
  rw [foldl_keeps2 State.pending]
  intro acc p; dsimp only; split <;> simp
@[simp] theorem State.readBg_fresh (who : Who) (a n : Nat) : ((s.readBg who a n).2).fresh = s.fresh := by
  unfold State.readBg
  rw [foldl_keeps2 State.fresh]
  intro acc p; dsimp only; split <;> simp
@[simp] theorem State.readBg_ctxs (who : Who) (a n : Nat) : ((s.readBg who a n).2).ctxs = s.ctxs := by
  unfold State.readBg
  rw [foldl_keeps2 State.ctxs]
  intro acc p; dsimp only; split <;> simp
@[simp] theorem State.readBg_queues (who : Who) (a n : Nat) : ((s.readBg who a n).2).queues = s.queues := by
  unfold State.readBg
  rw [foldl_keeps2 State.queues]
  intro acc p; dsimp only; split <;> simp
@[simp] theorem State.readBg_cmdSeq (who : Who) (a n : Nat) : ((s.readBg who a n).2).cmdSeq = s.cmdSeq := by
  unfold State.readBg
  rw [foldl_keeps2 State.cmdSeq]
  intro acc p; dsimp only; split <;> simp
@[simp] theorem State.readBg_plans (who : Who) (a n : Nat) : ((s.readBg who a n).2).plans = s.plans := by
  unfold State.readBg
  rw [foldl_keeps2 State.plans]
  intro acc p; dsimp only; split <;> simp
@[simp] theorem State.readBg_items (who : Who) (a n : Nat) : ((s.readBg who a n).2).items = s.items := by
  unfold State.readBg
  rw [foldl_keeps2 State.items]
  intro acc p; dsimp only; split <;> simp
@[simp] theorem State.readBg_ranges (who : Who) (a n : Nat) : ((s.readBg who a n).2).ranges = s.ranges := by
  unfold State.readBg
  rw [foldl_keeps2 State.ranges]
  intro acc p; dsimp only; split <;> simp
@[simp] theorem State.readBg_tlb (who : Who) (a n : Nat) : ((s.readBg who a n).2).tlb = s.tlb := by
  unfold State.readBg
  rw [foldl_keeps2 State.tlb]
  intro acc p; dsimp only; split <;> simp
@[simp] theorem State.readBg_chans (who : Who) (a n : Nat) : ((s.readBg who a n).2).chans = s.chans := by
  unfold State.readBg
  rw [foldl_keeps2 State.chans]
  intro acc p; dsimp only; split <;> simp
@[simp] theorem State.readBg_encs (who : Who) (a n : Nat) : ((s.readBg who a n).2).encs = s.encs := by
  unfold State.readBg
  rw [foldl_keeps2 State.encs]
  intro acc p; dsimp only; split <;> simp
@[simp] theorem State.readBg_lineIns (who : Who) (a n : Nat) : ((s.readBg who a n).2).lineIns = s.lineIns := by
  unfold State.readBg
  rw [foldl_keeps2 State.lineIns]
  intro acc p; dsimp only; split <;> simp
@[simp] theorem State.readBg_lineOuts (who : Who) (a n : Nat) : ((s.readBg who a n).2).lineOuts = s.lineOuts := by
  unfold State.readBg
  rw [foldl_keeps2 State.lineOuts]
  intro acc p; dsimp only; split <;> simp
@[simp] theorem State.readBg_ports (who : Who) (a n : Nat) : ((s.readBg who a n).2).ports = s.ports := by
  unfold State.readBg
  rw [foldl_keeps2 State.ports]
  intro acc p; dsimp only; split <;> simp
@[simp] theorem State.readBg_acqs (who : Who) (a n : Nat) : ((s.readBg who a n).2).acqs = s.acqs := by
  unfold State.readBg
  rw [foldl_keeps2 State.acqs]
  intro acc p; dsimp only; split <;> simp
@[simp] theorem State.readBg_dfcs (who : Who) (a n : Nat) : ((s.readBg who a n).2).dfcs = s.dfcs := by
  unfold State.readBg
  rw [foldl_keeps2 State.dfcs]
  intro acc p; dsimp only; split <;> simp
@[simp] theorem State.readBg_models (who : Who) (a n : Nat) : ((s.readBg who a n).2).models = s.models := by
  unfold State.readBg
  rw [foldl_keeps2 State.models]
  intro acc p; dsimp only; split <;> simp
@[simp] theorem State.readBg_engDies (who : Who) (a n : Nat) : ((s.readBg who a n).2).engDies = s.engDies := by
  unfold State.readBg
  rw [foldl_keeps2 State.engDies]
  intro acc p; dsimp only; split <;> simp
@[simp] theorem State.readBg_herd (who : Who) (a n : Nat) : ((s.readBg who a n).2).herd = s.herd := by
  unfold State.readBg
  rw [foldl_keeps2 State.herd]
  intro acc p; dsimp only; split <;> simp
@[simp] theorem State.readBg_doms (who : Who) (a n : Nat) : ((s.readBg who a n).2).doms = s.doms := by
  unfold State.readBg
  rw [foldl_keeps2 State.doms]
  intro acc p; dsimp only; split <;> simp
@[simp] theorem State.readBg_group (who : Who) (a n : Nat) : ((s.readBg who a n).2).group = s.group := by
  unfold State.readBg
  rw [foldl_keeps2 State.group]
  intro acc p; dsimp only; split <;> simp
@[simp] theorem State.readBg_faultLog (who : Who) (a n : Nat) : ((s.readBg who a n).2).faultLog = s.faultLog := by
  unfold State.readBg
  rw [foldl_keeps2 State.faultLog]
  intro acc p; dsimp only; split <;> simp
@[simp] theorem State.readBg_flash (who : Who) (a n : Nat) : ((s.readBg who a n).2).flash = s.flash := by
  unfold State.readBg
  rw [foldl_keeps2 State.flash]
  intro acc p; dsimp only; split <;> simp
@[simp] theorem State.readBg_keys (who : Who) (a n : Nat) : ((s.readBg who a n).2).keys = s.keys := by
  unfold State.readBg
  rw [foldl_keeps2 State.keys]
  intro acc p; dsimp only; split <;> simp
@[simp] theorem State.readBg_out (who : Who) (a n : Nat) : ((s.readBg who a n).2).out = s.out := by
  unfold State.readBg
  rw [foldl_keeps2 State.out]
  intro acc p; dsimp only; split <;> simp
@[simp] theorem State.readBg_ecc (who : Who) (a n : Nat) : ((s.readBg who a n).2).ecc = s.ecc := by
  unfold State.readBg
  rw [foldl_keeps2 State.ecc]
  intro acc p; dsimp only; split <;> simp
@[simp] theorem State.readBg_mem (who : Who) (a n : Nat) : (s.readBg who a n).2.mem = s.mem := by
  unfold State.readBg
  rw [foldl_keeps2 State.mem]
  intro acc p; dsimp only; split <;> simp [State.readLa_mem]
@[simp] theorem State.writeBg_time (who : Who) (a : Nat) (d : List PByte) : (s.writeBg who a d).time = s.time := by
  unfold State.writeBg
  rw [foldl_keeps State.time]
  intro s p; split <;> simp
@[simp] theorem State.writeBg_pending (who : Who) (a : Nat) (d : List PByte) : (s.writeBg who a d).pending = s.pending := by
  unfold State.writeBg
  rw [foldl_keeps State.pending]
  intro s p; split <;> simp
@[simp] theorem State.writeBg_fresh (who : Who) (a : Nat) (d : List PByte) : (s.writeBg who a d).fresh = s.fresh := by
  unfold State.writeBg
  rw [foldl_keeps State.fresh]
  intro s p; split <;> simp
@[simp] theorem State.writeBg_ctxs (who : Who) (a : Nat) (d : List PByte) : (s.writeBg who a d).ctxs = s.ctxs := by
  unfold State.writeBg
  rw [foldl_keeps State.ctxs]
  intro s p; split <;> simp
@[simp] theorem State.writeBg_queues (who : Who) (a : Nat) (d : List PByte) : (s.writeBg who a d).queues = s.queues := by
  unfold State.writeBg
  rw [foldl_keeps State.queues]
  intro s p; split <;> simp
@[simp] theorem State.writeBg_cmdSeq (who : Who) (a : Nat) (d : List PByte) : (s.writeBg who a d).cmdSeq = s.cmdSeq := by
  unfold State.writeBg
  rw [foldl_keeps State.cmdSeq]
  intro s p; split <;> simp
@[simp] theorem State.writeBg_plans (who : Who) (a : Nat) (d : List PByte) : (s.writeBg who a d).plans = s.plans := by
  unfold State.writeBg
  rw [foldl_keeps State.plans]
  intro s p; split <;> simp
@[simp] theorem State.writeBg_items (who : Who) (a : Nat) (d : List PByte) : (s.writeBg who a d).items = s.items := by
  unfold State.writeBg
  rw [foldl_keeps State.items]
  intro s p; split <;> simp
@[simp] theorem State.writeBg_ranges (who : Who) (a : Nat) (d : List PByte) : (s.writeBg who a d).ranges = s.ranges := by
  unfold State.writeBg
  rw [foldl_keeps State.ranges]
  intro s p; split <;> simp
@[simp] theorem State.writeBg_tlb (who : Who) (a : Nat) (d : List PByte) : (s.writeBg who a d).tlb = s.tlb := by
  unfold State.writeBg
  rw [foldl_keeps State.tlb]
  intro s p; split <;> simp
@[simp] theorem State.writeBg_chans (who : Who) (a : Nat) (d : List PByte) : (s.writeBg who a d).chans = s.chans := by
  unfold State.writeBg
  rw [foldl_keeps State.chans]
  intro s p; split <;> simp
@[simp] theorem State.writeBg_encs (who : Who) (a : Nat) (d : List PByte) : (s.writeBg who a d).encs = s.encs := by
  unfold State.writeBg
  rw [foldl_keeps State.encs]
  intro s p; split <;> simp
@[simp] theorem State.writeBg_lineIns (who : Who) (a : Nat) (d : List PByte) : (s.writeBg who a d).lineIns = s.lineIns := by
  unfold State.writeBg
  rw [foldl_keeps State.lineIns]
  intro s p; split <;> simp
@[simp] theorem State.writeBg_lineOuts (who : Who) (a : Nat) (d : List PByte) : (s.writeBg who a d).lineOuts = s.lineOuts := by
  unfold State.writeBg
  rw [foldl_keeps State.lineOuts]
  intro s p; split <;> simp
@[simp] theorem State.writeBg_ports (who : Who) (a : Nat) (d : List PByte) : (s.writeBg who a d).ports = s.ports := by
  unfold State.writeBg
  rw [foldl_keeps State.ports]
  intro s p; split <;> simp
@[simp] theorem State.writeBg_acqs (who : Who) (a : Nat) (d : List PByte) : (s.writeBg who a d).acqs = s.acqs := by
  unfold State.writeBg
  rw [foldl_keeps State.acqs]
  intro s p; split <;> simp
@[simp] theorem State.writeBg_dfcs (who : Who) (a : Nat) (d : List PByte) : (s.writeBg who a d).dfcs = s.dfcs := by
  unfold State.writeBg
  rw [foldl_keeps State.dfcs]
  intro s p; split <;> simp
@[simp] theorem State.writeBg_models (who : Who) (a : Nat) (d : List PByte) : (s.writeBg who a d).models = s.models := by
  unfold State.writeBg
  rw [foldl_keeps State.models]
  intro s p; split <;> simp
@[simp] theorem State.writeBg_engDies (who : Who) (a : Nat) (d : List PByte) : (s.writeBg who a d).engDies = s.engDies := by
  unfold State.writeBg
  rw [foldl_keeps State.engDies]
  intro s p; split <;> simp
@[simp] theorem State.writeBg_herd (who : Who) (a : Nat) (d : List PByte) : (s.writeBg who a d).herd = s.herd := by
  unfold State.writeBg
  rw [foldl_keeps State.herd]
  intro s p; split <;> simp
@[simp] theorem State.writeBg_doms (who : Who) (a : Nat) (d : List PByte) : (s.writeBg who a d).doms = s.doms := by
  unfold State.writeBg
  rw [foldl_keeps State.doms]
  intro s p; split <;> simp
@[simp] theorem State.writeBg_group (who : Who) (a : Nat) (d : List PByte) : (s.writeBg who a d).group = s.group := by
  unfold State.writeBg
  rw [foldl_keeps State.group]
  intro s p; split <;> simp
@[simp] theorem State.writeBg_faultLog (who : Who) (a : Nat) (d : List PByte) : (s.writeBg who a d).faultLog = s.faultLog := by
  unfold State.writeBg
  rw [foldl_keeps State.faultLog]
  intro s p; split <;> simp
@[simp] theorem State.writeBg_flash (who : Who) (a : Nat) (d : List PByte) : (s.writeBg who a d).flash = s.flash := by
  unfold State.writeBg
  rw [foldl_keeps State.flash]
  intro s p; split <;> simp
@[simp] theorem State.writeBg_keys (who : Who) (a : Nat) (d : List PByte) : (s.writeBg who a d).keys = s.keys := by
  unfold State.writeBg
  rw [foldl_keeps State.keys]
  intro s p; split <;> simp
@[simp] theorem State.writeBg_out (who : Who) (a : Nat) (d : List PByte) : (s.writeBg who a d).out = s.out := by
  unfold State.writeBg
  rw [foldl_keeps State.out]
  intro s p; split <;> simp
@[simp] theorem State.farWrite_time (imp off : Nat) (d : Bytes) : (s.farWrite imp off d).time = s.time := by
  unfold State.farWrite
  split
  · rfl
  · split
    · rfl
    · rw [foldl_keeps State.time]
      intro s i; simp
@[simp] theorem State.farWrite_pending (imp off : Nat) (d : Bytes) : (s.farWrite imp off d).pending = s.pending := by
  unfold State.farWrite
  split
  · rfl
  · split
    · rfl
    · rw [foldl_keeps State.pending]
      intro s i; simp
@[simp] theorem State.farWrite_fresh (imp off : Nat) (d : Bytes) : (s.farWrite imp off d).fresh = s.fresh := by
  unfold State.farWrite
  split
  · rfl
  · split
    · rfl
    · rw [foldl_keeps State.fresh]
      intro s i; simp
@[simp] theorem State.farWrite_ctxs (imp off : Nat) (d : Bytes) : (s.farWrite imp off d).ctxs = s.ctxs := by
  unfold State.farWrite
  split
  · rfl
  · split
    · rfl
    · rw [foldl_keeps State.ctxs]
      intro s i; simp
@[simp] theorem State.farWrite_queues (imp off : Nat) (d : Bytes) : (s.farWrite imp off d).queues = s.queues := by
  unfold State.farWrite
  split
  · rfl
  · split
    · rfl
    · rw [foldl_keeps State.queues]
      intro s i; simp
@[simp] theorem State.farWrite_cmdSeq (imp off : Nat) (d : Bytes) : (s.farWrite imp off d).cmdSeq = s.cmdSeq := by
  unfold State.farWrite
  split
  · rfl
  · split
    · rfl
    · rw [foldl_keeps State.cmdSeq]
      intro s i; simp
@[simp] theorem State.farWrite_plans (imp off : Nat) (d : Bytes) : (s.farWrite imp off d).plans = s.plans := by
  unfold State.farWrite
  split
  · rfl
  · split
    · rfl
    · rw [foldl_keeps State.plans]
      intro s i; simp
@[simp] theorem State.farWrite_items (imp off : Nat) (d : Bytes) : (s.farWrite imp off d).items = s.items := by
  unfold State.farWrite
  split
  · rfl
  · split
    · rfl
    · rw [foldl_keeps State.items]
      intro s i; simp
@[simp] theorem State.farWrite_ranges (imp off : Nat) (d : Bytes) : (s.farWrite imp off d).ranges = s.ranges := by
  unfold State.farWrite
  split
  · rfl
  · split
    · rfl
    · rw [foldl_keeps State.ranges]
      intro s i; simp
@[simp] theorem State.farWrite_tlb (imp off : Nat) (d : Bytes) : (s.farWrite imp off d).tlb = s.tlb := by
  unfold State.farWrite
  split
  · rfl
  · split
    · rfl
    · rw [foldl_keeps State.tlb]
      intro s i; simp
@[simp] theorem State.farWrite_chans (imp off : Nat) (d : Bytes) : (s.farWrite imp off d).chans = s.chans := by
  unfold State.farWrite
  split
  · rfl
  · split
    · rfl
    · rw [foldl_keeps State.chans]
      intro s i; simp
@[simp] theorem State.farWrite_encs (imp off : Nat) (d : Bytes) : (s.farWrite imp off d).encs = s.encs := by
  unfold State.farWrite
  split
  · rfl
  · split
    · rfl
    · rw [foldl_keeps State.encs]
      intro s i; simp
@[simp] theorem State.farWrite_lineIns (imp off : Nat) (d : Bytes) : (s.farWrite imp off d).lineIns = s.lineIns := by
  unfold State.farWrite
  split
  · rfl
  · split
    · rfl
    · rw [foldl_keeps State.lineIns]
      intro s i; simp
@[simp] theorem State.farWrite_lineOuts (imp off : Nat) (d : Bytes) : (s.farWrite imp off d).lineOuts = s.lineOuts := by
  unfold State.farWrite
  split
  · rfl
  · split
    · rfl
    · rw [foldl_keeps State.lineOuts]
      intro s i; simp
@[simp] theorem State.farWrite_ports (imp off : Nat) (d : Bytes) : (s.farWrite imp off d).ports = s.ports := by
  unfold State.farWrite
  split
  · rfl
  · split
    · rfl
    · rw [foldl_keeps State.ports]
      intro s i; simp
@[simp] theorem State.farWrite_acqs (imp off : Nat) (d : Bytes) : (s.farWrite imp off d).acqs = s.acqs := by
  unfold State.farWrite
  split
  · rfl
  · split
    · rfl
    · rw [foldl_keeps State.acqs]
      intro s i; simp
@[simp] theorem State.farWrite_dfcs (imp off : Nat) (d : Bytes) : (s.farWrite imp off d).dfcs = s.dfcs := by
  unfold State.farWrite
  split
  · rfl
  · split
    · rfl
    · rw [foldl_keeps State.dfcs]
      intro s i; simp
@[simp] theorem State.farWrite_models (imp off : Nat) (d : Bytes) : (s.farWrite imp off d).models = s.models := by
  unfold State.farWrite
  split
  · rfl
  · split
    · rfl
    · rw [foldl_keeps State.models]
      intro s i; simp
@[simp] theorem State.farWrite_engDies (imp off : Nat) (d : Bytes) : (s.farWrite imp off d).engDies = s.engDies := by
  unfold State.farWrite
  split
  · rfl
  · split
    · rfl
    · rw [foldl_keeps State.engDies]
      intro s i; simp
@[simp] theorem State.farWrite_herd (imp off : Nat) (d : Bytes) : (s.farWrite imp off d).herd = s.herd := by
  unfold State.farWrite
  split
  · rfl
  · split
    · rfl
    · rw [foldl_keeps State.herd]
      intro s i; simp
@[simp] theorem State.farWrite_doms (imp off : Nat) (d : Bytes) : (s.farWrite imp off d).doms = s.doms := by
  unfold State.farWrite
  split
  · rfl
  · split
    · rfl
    · rw [foldl_keeps State.doms]
      intro s i; simp
@[simp] theorem State.farWrite_group (imp off : Nat) (d : Bytes) : (s.farWrite imp off d).group = s.group := by
  unfold State.farWrite
  split
  · rfl
  · split
    · rfl
    · rw [foldl_keeps State.group]
      intro s i; simp
@[simp] theorem State.farWrite_faultLog (imp off : Nat) (d : Bytes) : (s.farWrite imp off d).faultLog = s.faultLog := by
  unfold State.farWrite
  split
  · rfl
  · split
    · rfl
    · rw [foldl_keeps State.faultLog]
      intro s i; simp
@[simp] theorem State.farWrite_flash (imp off : Nat) (d : Bytes) : (s.farWrite imp off d).flash = s.flash := by
  unfold State.farWrite
  split
  · rfl
  · split
    · rfl
    · rw [foldl_keeps State.flash]
      intro s i; simp
@[simp] theorem State.farWrite_keys (imp off : Nat) (d : Bytes) : (s.farWrite imp off d).keys = s.keys := by
  unfold State.farWrite
  split
  · rfl
  · split
    · rfl
    · rw [foldl_keeps State.keys]
      intro s i; simp
@[simp] theorem State.farWrite_mem (imp off : Nat) (d : Bytes) : (s.farWrite imp off d).mem = s.mem := by
  unfold State.farWrite
  split
  · rfl
  · split
    · rfl
    · rw [foldl_keeps State.mem]
      intro s i; simp
@[simp] theorem State.farWrite_ecc (imp off : Nat) (d : Bytes) : (s.farWrite imp off d).ecc = s.ecc := by
  unfold State.farWrite
  split
  · rfl
  · split
    · rfl
    · rw [foldl_keeps State.ecc]
      intro s i; simp
@[simp] theorem State.farWrite_regs (imp off : Nat) (d : Bytes) : (s.farWrite imp off d).regs = s.regs := by
  unfold State.farWrite
  split
  · rfl
  · split
    · rfl
    · rw [foldl_keeps State.regs]
      intro s i; simp

/-! ### Reads and writes of buffers -/

@[simp] theorem State.readSegs_time (e : HostEnv) (who : Who) (l : List Seg) : ((s.readSegs e who l).2).time = s.time := by
  unfold State.readSegs
  rw [foldl_keeps2 State.time]
  intro acc g; cases g <;> simp
@[simp] theorem State.readSegs_pending (e : HostEnv) (who : Who) (l : List Seg) : ((s.readSegs e who l).2).pending = s.pending := by
  unfold State.readSegs
  rw [foldl_keeps2 State.pending]
  intro acc g; cases g <;> simp
@[simp] theorem State.readSegs_fresh (e : HostEnv) (who : Who) (l : List Seg) : ((s.readSegs e who l).2).fresh = s.fresh := by
  unfold State.readSegs
  rw [foldl_keeps2 State.fresh]
  intro acc g; cases g <;> simp
@[simp] theorem State.readSegs_ctxs (e : HostEnv) (who : Who) (l : List Seg) : ((s.readSegs e who l).2).ctxs = s.ctxs := by
  unfold State.readSegs
  rw [foldl_keeps2 State.ctxs]
  intro acc g; cases g <;> simp
@[simp] theorem State.readSegs_queues (e : HostEnv) (who : Who) (l : List Seg) : ((s.readSegs e who l).2).queues = s.queues := by
  unfold State.readSegs
  rw [foldl_keeps2 State.queues]
  intro acc g; cases g <;> simp
@[simp] theorem State.readSegs_cmdSeq (e : HostEnv) (who : Who) (l : List Seg) : ((s.readSegs e who l).2).cmdSeq = s.cmdSeq := by
  unfold State.readSegs
  rw [foldl_keeps2 State.cmdSeq]
  intro acc g; cases g <;> simp
@[simp] theorem State.readSegs_plans (e : HostEnv) (who : Who) (l : List Seg) : ((s.readSegs e who l).2).plans = s.plans := by
  unfold State.readSegs
  rw [foldl_keeps2 State.plans]
  intro acc g; cases g <;> simp
@[simp] theorem State.readSegs_items (e : HostEnv) (who : Who) (l : List Seg) : ((s.readSegs e who l).2).items = s.items := by
  unfold State.readSegs
  rw [foldl_keeps2 State.items]
  intro acc g; cases g <;> simp
@[simp] theorem State.readSegs_ranges (e : HostEnv) (who : Who) (l : List Seg) : ((s.readSegs e who l).2).ranges = s.ranges := by
  unfold State.readSegs
  rw [foldl_keeps2 State.ranges]
  intro acc g; cases g <;> simp
@[simp] theorem State.readSegs_tlb (e : HostEnv) (who : Who) (l : List Seg) : ((s.readSegs e who l).2).tlb = s.tlb := by
  unfold State.readSegs
  rw [foldl_keeps2 State.tlb]
  intro acc g; cases g <;> simp
@[simp] theorem State.readSegs_chans (e : HostEnv) (who : Who) (l : List Seg) : ((s.readSegs e who l).2).chans = s.chans := by
  unfold State.readSegs
  rw [foldl_keeps2 State.chans]
  intro acc g; cases g <;> simp
@[simp] theorem State.readSegs_encs (e : HostEnv) (who : Who) (l : List Seg) : ((s.readSegs e who l).2).encs = s.encs := by
  unfold State.readSegs
  rw [foldl_keeps2 State.encs]
  intro acc g; cases g <;> simp
@[simp] theorem State.readSegs_lineIns (e : HostEnv) (who : Who) (l : List Seg) : ((s.readSegs e who l).2).lineIns = s.lineIns := by
  unfold State.readSegs
  rw [foldl_keeps2 State.lineIns]
  intro acc g; cases g <;> simp
@[simp] theorem State.readSegs_lineOuts (e : HostEnv) (who : Who) (l : List Seg) : ((s.readSegs e who l).2).lineOuts = s.lineOuts := by
  unfold State.readSegs
  rw [foldl_keeps2 State.lineOuts]
  intro acc g; cases g <;> simp
@[simp] theorem State.readSegs_ports (e : HostEnv) (who : Who) (l : List Seg) : ((s.readSegs e who l).2).ports = s.ports := by
  unfold State.readSegs
  rw [foldl_keeps2 State.ports]
  intro acc g; cases g <;> simp
@[simp] theorem State.readSegs_acqs (e : HostEnv) (who : Who) (l : List Seg) : ((s.readSegs e who l).2).acqs = s.acqs := by
  unfold State.readSegs
  rw [foldl_keeps2 State.acqs]
  intro acc g; cases g <;> simp
@[simp] theorem State.readSegs_dfcs (e : HostEnv) (who : Who) (l : List Seg) : ((s.readSegs e who l).2).dfcs = s.dfcs := by
  unfold State.readSegs
  rw [foldl_keeps2 State.dfcs]
  intro acc g; cases g <;> simp
@[simp] theorem State.readSegs_models (e : HostEnv) (who : Who) (l : List Seg) : ((s.readSegs e who l).2).models = s.models := by
  unfold State.readSegs
  rw [foldl_keeps2 State.models]
  intro acc g; cases g <;> simp
@[simp] theorem State.readSegs_engDies (e : HostEnv) (who : Who) (l : List Seg) : ((s.readSegs e who l).2).engDies = s.engDies := by
  unfold State.readSegs
  rw [foldl_keeps2 State.engDies]
  intro acc g; cases g <;> simp
@[simp] theorem State.readSegs_herd (e : HostEnv) (who : Who) (l : List Seg) : ((s.readSegs e who l).2).herd = s.herd := by
  unfold State.readSegs
  rw [foldl_keeps2 State.herd]
  intro acc g; cases g <;> simp
@[simp] theorem State.readSegs_doms (e : HostEnv) (who : Who) (l : List Seg) : ((s.readSegs e who l).2).doms = s.doms := by
  unfold State.readSegs
  rw [foldl_keeps2 State.doms]
  intro acc g; cases g <;> simp
@[simp] theorem State.readSegs_group (e : HostEnv) (who : Who) (l : List Seg) : ((s.readSegs e who l).2).group = s.group := by
  unfold State.readSegs
  rw [foldl_keeps2 State.group]
  intro acc g; cases g <;> simp
@[simp] theorem State.readSegs_faultLog (e : HostEnv) (who : Who) (l : List Seg) : ((s.readSegs e who l).2).faultLog = s.faultLog := by
  unfold State.readSegs
  rw [foldl_keeps2 State.faultLog]
  intro acc g; cases g <;> simp
@[simp] theorem State.readSegs_flash (e : HostEnv) (who : Who) (l : List Seg) : ((s.readSegs e who l).2).flash = s.flash := by
  unfold State.readSegs
  rw [foldl_keeps2 State.flash]
  intro acc g; cases g <;> simp
@[simp] theorem State.readSegs_keys (e : HostEnv) (who : Who) (l : List Seg) : ((s.readSegs e who l).2).keys = s.keys := by
  unfold State.readSegs
  rw [foldl_keeps2 State.keys]
  intro acc g; cases g <;> simp
@[simp] theorem State.readSegs_out (e : HostEnv) (who : Who) (l : List Seg) : ((s.readSegs e who l).2).out = s.out := by
  unfold State.readSegs
  rw [foldl_keeps2 State.out]
  intro acc g; cases g <;> simp
@[simp] theorem State.readSegs_mem (e : HostEnv) (who : Who) (l : List Seg) : ((s.readSegs e who l).2).mem = s.mem := by
  unfold State.readSegs
  rw [foldl_keeps2 State.mem]
  intro acc g; cases g <;> simp
@[simp] theorem State.readSegs_ecc (e : HostEnv) (who : Who) (l : List Seg) : ((s.readSegs e who l).2).ecc = s.ecc := by
  unfold State.readSegs
  rw [foldl_keeps2 State.ecc]
  intro acc g; cases g <;> simp
@[simp] theorem State.writeSegs_time (who : Who) (l : List Seg) (d : List PByte) : (s.writeSegs who l d).time = s.time := by
  induction l generalizing s d with
  | nil => rfl
  | cons g t ih => cases g <;> simp only [State.writeSegs, ih] <;> (try split) <;> simp
@[simp] theorem State.writeSegs_pending (who : Who) (l : List Seg) (d : List PByte) : (s.writeSegs who l d).pending = s.pending := by
  induction l generalizing s d with
  | nil => rfl
  | cons g t ih => cases g <;> simp only [State.writeSegs, ih] <;> (try split) <;> simp
@[simp] theorem State.writeSegs_fresh (who : Who) (l : List Seg) (d : List PByte) : (s.writeSegs who l d).fresh = s.fresh := by
  induction l generalizing s d with
  | nil => rfl
  | cons g t ih => cases g <;> simp only [State.writeSegs, ih] <;> (try split) <;> simp
@[simp] theorem State.writeSegs_ctxs (who : Who) (l : List Seg) (d : List PByte) : (s.writeSegs who l d).ctxs = s.ctxs := by
  induction l generalizing s d with
  | nil => rfl
  | cons g t ih => cases g <;> simp only [State.writeSegs, ih] <;> (try split) <;> simp
@[simp] theorem State.writeSegs_queues (who : Who) (l : List Seg) (d : List PByte) : (s.writeSegs who l d).queues = s.queues := by
  induction l generalizing s d with
  | nil => rfl
  | cons g t ih => cases g <;> simp only [State.writeSegs, ih] <;> (try split) <;> simp
@[simp] theorem State.writeSegs_cmdSeq (who : Who) (l : List Seg) (d : List PByte) : (s.writeSegs who l d).cmdSeq = s.cmdSeq := by
  induction l generalizing s d with
  | nil => rfl
  | cons g t ih => cases g <;> simp only [State.writeSegs, ih] <;> (try split) <;> simp
@[simp] theorem State.writeSegs_plans (who : Who) (l : List Seg) (d : List PByte) : (s.writeSegs who l d).plans = s.plans := by
  induction l generalizing s d with
  | nil => rfl
  | cons g t ih => cases g <;> simp only [State.writeSegs, ih] <;> (try split) <;> simp
@[simp] theorem State.writeSegs_items (who : Who) (l : List Seg) (d : List PByte) : (s.writeSegs who l d).items = s.items := by
  induction l generalizing s d with
  | nil => rfl
  | cons g t ih => cases g <;> simp only [State.writeSegs, ih] <;> (try split) <;> simp
@[simp] theorem State.writeSegs_ranges (who : Who) (l : List Seg) (d : List PByte) : (s.writeSegs who l d).ranges = s.ranges := by
  induction l generalizing s d with
  | nil => rfl
  | cons g t ih => cases g <;> simp only [State.writeSegs, ih] <;> (try split) <;> simp
@[simp] theorem State.writeSegs_tlb (who : Who) (l : List Seg) (d : List PByte) : (s.writeSegs who l d).tlb = s.tlb := by
  induction l generalizing s d with
  | nil => rfl
  | cons g t ih => cases g <;> simp only [State.writeSegs, ih] <;> (try split) <;> simp
@[simp] theorem State.writeSegs_chans (who : Who) (l : List Seg) (d : List PByte) : (s.writeSegs who l d).chans = s.chans := by
  induction l generalizing s d with
  | nil => rfl
  | cons g t ih => cases g <;> simp only [State.writeSegs, ih] <;> (try split) <;> simp
@[simp] theorem State.writeSegs_encs (who : Who) (l : List Seg) (d : List PByte) : (s.writeSegs who l d).encs = s.encs := by
  induction l generalizing s d with
  | nil => rfl
  | cons g t ih => cases g <;> simp only [State.writeSegs, ih] <;> (try split) <;> simp
@[simp] theorem State.writeSegs_lineIns (who : Who) (l : List Seg) (d : List PByte) : (s.writeSegs who l d).lineIns = s.lineIns := by
  induction l generalizing s d with
  | nil => rfl
  | cons g t ih => cases g <;> simp only [State.writeSegs, ih] <;> (try split) <;> simp
@[simp] theorem State.writeSegs_lineOuts (who : Who) (l : List Seg) (d : List PByte) : (s.writeSegs who l d).lineOuts = s.lineOuts := by
  induction l generalizing s d with
  | nil => rfl
  | cons g t ih => cases g <;> simp only [State.writeSegs, ih] <;> (try split) <;> simp
@[simp] theorem State.writeSegs_ports (who : Who) (l : List Seg) (d : List PByte) : (s.writeSegs who l d).ports = s.ports := by
  induction l generalizing s d with
  | nil => rfl
  | cons g t ih => cases g <;> simp only [State.writeSegs, ih] <;> (try split) <;> simp
@[simp] theorem State.writeSegs_acqs (who : Who) (l : List Seg) (d : List PByte) : (s.writeSegs who l d).acqs = s.acqs := by
  induction l generalizing s d with
  | nil => rfl
  | cons g t ih => cases g <;> simp only [State.writeSegs, ih] <;> (try split) <;> simp
@[simp] theorem State.writeSegs_dfcs (who : Who) (l : List Seg) (d : List PByte) : (s.writeSegs who l d).dfcs = s.dfcs := by
  induction l generalizing s d with
  | nil => rfl
  | cons g t ih => cases g <;> simp only [State.writeSegs, ih] <;> (try split) <;> simp
@[simp] theorem State.writeSegs_models (who : Who) (l : List Seg) (d : List PByte) : (s.writeSegs who l d).models = s.models := by
  induction l generalizing s d with
  | nil => rfl
  | cons g t ih => cases g <;> simp only [State.writeSegs, ih] <;> (try split) <;> simp
@[simp] theorem State.writeSegs_engDies (who : Who) (l : List Seg) (d : List PByte) : (s.writeSegs who l d).engDies = s.engDies := by
  induction l generalizing s d with
  | nil => rfl
  | cons g t ih => cases g <;> simp only [State.writeSegs, ih] <;> (try split) <;> simp
@[simp] theorem State.writeSegs_herd (who : Who) (l : List Seg) (d : List PByte) : (s.writeSegs who l d).herd = s.herd := by
  induction l generalizing s d with
  | nil => rfl
  | cons g t ih => cases g <;> simp only [State.writeSegs, ih] <;> (try split) <;> simp
@[simp] theorem State.writeSegs_doms (who : Who) (l : List Seg) (d : List PByte) : (s.writeSegs who l d).doms = s.doms := by
  induction l generalizing s d with
  | nil => rfl
  | cons g t ih => cases g <;> simp only [State.writeSegs, ih] <;> (try split) <;> simp
@[simp] theorem State.writeSegs_group (who : Who) (l : List Seg) (d : List PByte) : (s.writeSegs who l d).group = s.group := by
  induction l generalizing s d with
  | nil => rfl
  | cons g t ih => cases g <;> simp only [State.writeSegs, ih] <;> (try split) <;> simp
@[simp] theorem State.writeSegs_faultLog (who : Who) (l : List Seg) (d : List PByte) : (s.writeSegs who l d).faultLog = s.faultLog := by
  induction l generalizing s d with
  | nil => rfl
  | cons g t ih => cases g <;> simp only [State.writeSegs, ih] <;> (try split) <;> simp
@[simp] theorem State.writeSegs_flash (who : Who) (l : List Seg) (d : List PByte) : (s.writeSegs who l d).flash = s.flash := by
  induction l generalizing s d with
  | nil => rfl
  | cons g t ih => cases g <;> simp only [State.writeSegs, ih] <;> (try split) <;> simp
@[simp] theorem State.writeSegs_keys (who : Who) (l : List Seg) (d : List PByte) : (s.writeSegs who l d).keys = s.keys := by
  induction l generalizing s d with
  | nil => rfl
  | cons g t ih => cases g <;> simp only [State.writeSegs, ih] <;> (try split) <;> simp

end Sys2Proof.Machine
end

