-- ==== Sys2Proof/Certificates/Slice0/Obligations.lean ====
section
/-! DEFINITION. The statements about the block: for every command that it completes its own effect, and what that effect is;
the checks that every packet meets; the shared operations with their frames; reset; and the invariant of memory that every step
keeps. A clause `exec i s = .next t` says all of t: what t's expression does not write is unchanged. -/

section
open Sys2Proof Sys2Proof.Machine

/-- NOP, ECHO and QUERY_DEVICE served by a queue end with ST_OK in the same step: DETAIL is 0, the VALUE given, or the device
value that SELECT names; a SELECT that names none is refused with ST_BAD_PARAM (R95, Table 4.12). Nothing else of the state
changes than what the reply itself changes. -/
def Obligations.PlainCommands : Prop :=
  (∀ (s : State) (c q : Nat) (x : Queue) (k : Cmd) (e : HostEnv), envOk e = true → Serves s c q 0x01 0 x k →
    exec (.nop c q e) s = .next (s.answered c q k stOk 0)) ∧
  (∀ (s : State) (c q : Nat) (x : Queue) (k : Cmd) (e : HostEnv), envOk e = true → Serves s c q 0x02 0 x k →
    exec (.echo c q e) s = .next (s.answered c q k stOk (pf k.par 8 4))) ∧
  (∀ (s : State) (c q : Nat) (x : Queue) (k : Cmd) (e : HostEnv), envOk e = true → Serves s c q 0x03 0 x k →
    (∀ v, s.query c (pf k.par 8 1) = some v → exec (.queryDevice c q e) s = .next (s.answered c q k stOk v)) ∧
    (s.query c (pf k.par 8 1) = none → exec (.queryDevice c q e) s = .next (s.answered c q k stBadParam 0))) ∧
  (∀ (s : State) (c : Nat), s.query c 0 = some 0xB04832 ∧ s.query c 3 = some c ∧
    s.query c 4 = some ((s.ctxQueues c).length + 128 * 256) ∧ s.query c 5 = some (30 + s.healthyEngines * 256) ∧
    s.query c 7 = some (s.rd (R.CPX_CTX_RIGHTS c)) ∧ ∀ n, 8 ≤ n → s.query c n = none)

/-- RING_CREATE makes the queue its packet describes, empty, with PHASE 1, and returns the global queue number; RING_DESTROY
aborts every command of the queue that can still be ended and waits until all of them have committed; a queue whose commands
have all committed goes when RING_DESTROY settles (R96, R97, R72). -/
def Obligations.QueueCommands : Prop :=
  (∀ (s : State) (c q : Nat) (x : Queue) (k : Cmd) (e : HostEnv) (chan : Nat), envOk e = true → Serves s c q 0x40 0 x k →
    ringFieldsOk k.par = true → s.queue? c (pf k.par 8 1) = none →
    (pf k.par 9 1 = 3 → s.verdictQueue c = none) →
    (if pf k.par 9 1 = 2 then s.ringChannel c (pf k.par 48 2) else some 0) = some chan →
    s.areasPinned c (newQueue k.par chan) = true →
    exec (.ringCreate c q e) s =
      .next ((s.setQueue c (pf k.par 8 1) (newQueue k.par chan)).answered c q k stOk (128 * c + pf k.par 8 1))) ∧
  (∀ par chan, let y := newQueue par chan
    y.h = 0 ∧ y.t = 0 ∧ y.p = 0 ∧ y.e = 0 ∧ y.phase = true ∧ y.cmds = [] ∧ y.sqN = pf par 12 4 ∧ y.cqN = pf par 16 4 ∧
    y.sqAddr = pf par 20 8 ∧ y.cqAddr = pf par 28 8) ∧
  (∀ (s : State) (c q : Nat) (x : Queue) (k : Cmd) (e : HostEnv) (y : Queue), envOk e = true → Serves s c q 0x41 0 x k →
    1 ≤ pf k.par 8 1 → pf k.par 8 1 ≤ 127 → pf k.par 8 1 ≠ q → s.queue? c (pf k.par 8 1) = some y →
    (y.typ = 3 → ∀ p ∈ s.ctxPlans c, p.2.phase ≠ .armed ∧ p.2.phase ≠ .running ∧ p.2.phase ≠ .draining) →
    exec (.ringDestroy c q e) s =
      .next (((y.cmds.filter Cmd.endable).foldl (fun t z => t.abortCmd c (pf k.par 8 1) z) s).waits c q k
        (.destroying (pf k.par 8 1))))

/-- ABORT: its target is the oldest uncommitted command of the SQ that carries TAG; one that can still be ended ends with ST_ABORTED and
ABORT with ST_OK; without a target, or for its own SQ or a command that cannot be aborted, ABORT returns ST_ABORT_TOO_LATE and the
target stays; a target whose reply is under way, or that has made its timed change, is waited for, and ABORT then returns
ST_ABORT_TOO_LATE (R83, R85). -/
def Obligations.AbortCommand : Prop :=
  (∀ (s : State) (c q : Nat) (x : Queue) (k : Cmd) (e : HostEnv), envOk e = true → Serves s c q 0xB1 0 x k →
    pf k.par 8 1 ≤ 127 →
    let g := pf k.par 8 1
    let target := (s.queueCmds c g).find? (fun y => y.tag == pf k.par 10 2)
    (target = none → exec (.abort c q e) s = .next (s.answered c q k stTooLate 0)) ∧
    (∀ y, target = some y → (g = q ∨ unabortable y.op = true) → exec (.abort c q e) s = .next (s.answered c q k stTooLate 0)) ∧
    (∀ y, target = some y → g ≠ q → unabortable y.op = false → y.phase ≠ .committing → y.timed = false →
      exec (.abort c q e) s = .next ((s.abortCmd c g y).answered c q k stOk 0)) ∧
    (∀ y, target = some y → g ≠ q → unabortable y.op = false → (y.phase = .committing ∨ y.timed = true) →
      exec (.abort c q e) s = .next (s.waits c q k (.abortHeld y.seq)))) ∧
  (∀ (s : State) (c g : Nat) (y : Cmd), s.abortCmd c g y = (s.undoWait y).fixResult c g y.seq stAborted 0) ∧
  (∀ op, unabortable op = true ↔ op = 0xB1 ∨ op = 0xB0 ∨ op = 0xA2 ∨ op = 0x91) ∧
  (∀ (s : State) (c q n : Nat) (k : Cmd), k.phase = .executing (.abortHeld n) →
    ((∃ y ∈ s.ctxCmds c, y.2.seq = n) → s.settleCmd c q k = s) ∧
    ((∀ y ∈ s.ctxCmds c, y.2.seq ≠ n) → s.settleCmd c q k = s.fixResult c q k.seq stTooLate 0))

/-- CTX_RESET of an ACTIVE context, of itself or by context 0: the context enters RESETTING with the steps of R88, the command
waits for the commands it ended; a DISABLED context is refused with ST_BAD_PARAM, one in RESETTING with ST_BAD_STATE, another
context's by a context other than 0 with ST_NO_RIGHTS (R86, R88). -/
def Obligations.ContextReset : Prop :=
  ∀ (s : State) (c q : Nat) (x : Queue) (k : Cmd) (e : HostEnv), envOk e = true → Serves s c q 0xB0 0 x k →
    pf k.par 8 1 ≤ 127 →
    let t := pf k.par 8 1
    (c ≠ 0 → t ≠ c → exec (.ctxReset c q e) s = .next (s.answered c q k stNoRights 0)) ∧
    ((c = 0 ∨ t = c) → (s.ctx t).phase = .resetting → exec (.ctxReset c q e) s = .next (s.answered c q k stBadState 0)) ∧
    ((c = 0 ∨ t = c) → (s.ctx t).phase = .disabled → exec (.ctxReset c q e) s = .next (s.answered c q k stBadParam 0)) ∧
    ((c = 0 ∨ t = c) → (s.ctx t).phase = .active →
      (∀ y ∈ s.ctxCmds t, y.2.phase = .committing → t = c ∧ y.1 = q) →
      exec (.ctxReset c q e) s =
        .next ((s.resetCtx t (some k.seq)).2.waits c q k (.resetting t (s.resetCtx t (some k.seq)).1)))

/-- FN_SQDB on a COMMAND queue (R74): a tail inside the queue that does not step back past T is accepted: T is the tail, and one
packet for each entry that it covers is fetched behind the others and waits in QUEUED; H, memory, plans and items stay. Any
other tail is ignored as a whole and recorded as ST_QUEUE_OVERRUN. -/
def Obligations.SubmissionDoorbell : Prop :=
  ∀ (s : State) (c q tail : Nat) (e : HostEnv) (x : Queue), c < 128 → q < 128 → tail < 65536 → envOk e = true →
    (s.ctx c).phase ≠ .disabled → s.domOn 4 = true → s.queue? c q = some x → x.typ = 1 →
    (tail < x.sqN → (x.t + x.sqN - x.h) % x.sqN ≤ (tail + x.sqN - x.h) % x.sqN →
      ∃ (t : State) (y : Queue) (new : List Cmd), exec (.fnSqdb c q tail e) s = .next t ∧ t.queue? c q = some y ∧ y.t = tail ∧ y.h = x.h ∧ y.p = x.p ∧
        y.cmds = x.cmds ++ new ∧ new.length = (tail + x.sqN - x.t) % x.sqN ∧ (∀ k ∈ new, k.phase = .queued) ∧
        t.mem = s.mem ∧ t.plans = s.plans ∧ t.items = s.items ∧ t.ctxs = s.ctxs ∧ t.out = s.out) ∧
    (x.sqN ≤ tail ∨ (tail + x.sqN - x.h) % x.sqN < (x.t + x.sqN - x.h) % x.sqN →
      exec (.fnSqdb c q tail e) s = .next (s.overrun c q))

/-- The marks that a doorbell leaves that is not accepted: FN_CTX_ERR names the status and the queue, an overrun is counted in
FN_OVR_CNT (which stops at its largest value), and nothing but these registers changes; a doorbell of a queue that holds none
records ST_BAD_STATE; one of a VERDICT queue's SQ records nothing (R74, R75, R76). -/
def Obligations.DoorbellErrors : Prop :=
  (∀ (s : State) (c q : Nat), c < 128 → q < 128 →
    (s.overrun c q).rd (R.FN_CTX_ERR c) = stOverrun + q * 2 ^ 16 + 2 ^ 31 ∧
    (s.overrun c q).get (F.FN_OVR_CNT_OVR c) = min (s.get (F.FN_OVR_CNT_OVR c) + 1) (2 ^ 16 - 1) ∧
    (∀ r : Reg, r.key ≠ (R.FN_CTX_ERR c).key → r.key ≠ (R.FN_OVR_CNT c).key → (s.overrun c q).rd r = s.rd r) ∧
    (s.overrun c q).mem = s.mem ∧ (s.overrun c q).queues = s.queues ∧ (s.overrun c q).out = s.out) ∧
  (∀ (s : State) (c q tail : Nat) (e : HostEnv), c < 128 → q < 128 → tail < 65536 → envOk e = true →
    (s.ctx c).phase ≠ .disabled → s.domOn 4 = true →
    (s.queue? c q = none → exec (.fnSqdb c q tail e) s = .next (s.ctxErr c stBadState q)) ∧
    (∀ x, s.queue? c q = some x → x.typ = 3 → exec (.fnSqdb c q tail e) s = .next s)) ∧
  (∀ (s : State) (c q head : Nat), c < 128 → q < 128 → head < 65536 → (s.ctx c).phase ≠ .disabled →
    s.queue? c q = none → exec (.fnCqdb c q head) s = .next (s.ctxErr c stBadState q))

/-- FN_CQDB of a COMMAND queue (R75): a head inside the queue that does not run ahead of P is accepted, E becomes the head and a
reply that waited for room is written; any other head is ignored as a whole and recorded as in R74. -/
def Obligations.CompletionDoorbell : Prop :=
  ∀ (s : State) (c q head : Nat) (x : Queue), c < 128 → q < 128 → head < 65536 → (s.ctx c).phase ≠ .disabled →
    s.queue? c q = some x → x.typ = 1 →
    (head < x.cqN → (x.p + x.cqN - head) % x.cqN ≤ (x.p + x.cqN - x.e) % x.cqN →
      exec (.fnCqdb c q head) s = .next ((s.setQueue c q { x with e := head }).pump c q).settle) ∧
    (x.cqN ≤ head ∨ (x.p + x.cqN - x.e) % x.cqN < (x.p + x.cqN - head) % x.cqN →
      exec (.fnCqdb c q head) s = .next (s.overrun c q))

/-- FN_Q0_CTRL (R98): ENABLE going from 0 to 1 with both sizes above 0 makes queue 0 with H, T, P and E at 0 and PHASE 1, of the
sizes and addresses that FN_Q0_SIZE, FN_Q0_SQBASE and FN_Q0_CQBASE hold; with a size of 0 ENABLE stays 0; a clear while a
command is uncommitted is ignored, else the queue goes; while ENABLE is 1 a write to those three registers is ignored. -/
def Obligations.QueueZero : Prop :=
  ∀ (s : State) (c v : Nat), c < 128 → v < 2 ^ 32 → (s.ctx c).phase ≠ .disabled →
    (s.queue? c 0 = none → bit v 0 = true → s.get (F.FN_Q0_SIZE_SQ_M1 c) ≠ 0 → s.get (F.FN_Q0_SIZE_CQ_M1 c) ≠ 0 →
      ∃ (t : State) (y : Queue), exec (.fnQ0Ctrl c v) s = .next t ∧ t.queue? c 0 = some y ∧ y.typ = 1 ∧ y.phys = true ∧ y.h = 0 ∧ y.t = 0 ∧ y.p = 0 ∧
        y.e = 0 ∧ y.phase = true ∧ y.cmds = [] ∧ y.sqN = s.get (F.FN_Q0_SIZE_SQ_M1 c) + 1 ∧
        y.cqN = s.get (F.FN_Q0_SIZE_CQ_M1 c) + 1 ∧ y.sqAddr = s.rd (R.FN_Q0_SQBASE c) ∧ y.cqAddr = s.rd (R.FN_Q0_CQBASE c) ∧
        y.vector = bits v 15 8 ∧ t.get (F.FN_Q0_CTRL_ENABLE c) = 1 ∧ t.mem = s.mem ∧ t.plans = s.plans) ∧
    (s.queue? c 0 = none → bit v 0 = true → s.get (F.FN_Q0_SIZE_SQ_M1 c) = 0 ∨ s.get (F.FN_Q0_SIZE_CQ_M1 c) = 0 →
      ∃ t : State, exec (.fnQ0Ctrl c v) s = .next t ∧ t.queues = s.queues ∧
        t.get (F.FN_Q0_CTRL_ENABLE c) = s.get (F.FN_Q0_CTRL_ENABLE c)) ∧
    (∀ x, s.queue? c 0 = some x → bit v 0 = false → x.cmds ≠ [] →
      ∃ t : State, exec (.fnQ0Ctrl c v) s = .next t ∧
        t.queue? c 0 = some { x with vector := bits v 15 8, coalesce := bits v 23 16 } ∧
        t.get (F.FN_Q0_CTRL_ENABLE c) = s.get (F.FN_Q0_CTRL_ENABLE c)) ∧
    (∀ x, s.queue? c 0 = some x → bit v 0 = false → x.cmds = [] →
      ∃ t : State, exec (.fnQ0Ctrl c v) s = .next t ∧ t.queue? c 0 = none ∧ t.get (F.FN_Q0_CTRL_ENABLE c) = 0) ∧
    (∀ (h : Hit) (w : Nat), h.place = c → s.on (F.FN_Q0_CTRL_ENABLE c) = true →
      (h.first = (R.FN_Q0_SQBASE 0).key ∨ h.first = (R.FN_Q0_CQBASE 0).key ∨ h.first = (R.FN_Q0_SIZE 0).key) →
      s.writeReg h w = s)

/-- How commands end on their queue: the write response of a reply commits the oldest command, H moves to the next one and the
context's count rises (R81); a command whose host access gets no completion ends with ST_TIMEOUT and no other change (R82);
COAL_US after the first entry not signalled the CQ's vector is signalled (R95). -/
def Obligations.CommandEnds : Prop :=
  (∀ (s : State) (c q : Nat) (x : Queue) (k : Cmd) (rest : List Cmd), c < 128 → q < 128 → s.queue? c q = some x →
    x.cmds = k :: rest → k.phase = .committing → s.resetAfter ≠ some k.seq →
    exec (.replyWriteResponse c q) s = .next
      ((((s.setQueue c q { x with cmds := rest, h := nextHead rest x.t }).incWrap
        (F.CPX_CTX_CMDS_CMDS c)).pump c q).settle)) ∧
  (∀ (s : State) (c q : Nat) (x : Queue) (k : Cmd), c < 128 → q < 128 → s.startable c q = some (x, k) → k.hostWork = true →
    s.admitted c k.op k = true → x.room = true →
    exec (.commandTimeout c q) s = .next ((s.countRefusal c k.op stTimeout).postReply c q k stTimeout 0)) ∧
  (∀ (s : State) (c q : Nat) (x : Queue), c < 128 → q < 128 → s.queue? c q = some x → x.coalUs ≠ 0 → x.unsig ≠ 0 →
    x.unsigT + 100 * x.coalUs ≤ s.time →
    exec (.cqCoalesceTimeout c q) s = .next ((s.setQueue c q { x with unsig := 0 }).signal c x.vector))

/-- One CQ entry is written as R75 and R77 say: in a queue 0, the 16 bytes of a status reply go to entry P in host memory with
the present PHASE; P moves on, and at the end of a pass it returns to 0 and PHASE inverts; the command is COMMITTING; the
vector is signalled, or the entry is counted as not signalled yet. Memory, registers, plans and items stay. -/
def Obligations.ReplyEntry : Prop :=
  ∀ (s : State) (c q : Nat) (x : Queue) (k : Cmd) (st d : Nat), s.queue? c q = some x → x.phys = true → x.typ = 1 →
    ∃ y sig, (s.postReply c q k st d).queue? c q = some y ∧
      (s.postReply c q k st d).out = s.out ++ [.hostWrite (x.cqAddr + x.p * 16) (replyBytes k.tag st d s.t48 q x.phase) false] ++
        (if sig = true ∧ x.vector < 64 then [.msix c x.vector] else []) ∧
      (x.p + 1 = x.cqN → y.p = 0 ∧ y.phase = !x.phase) ∧ (x.p + 1 ≠ x.cqN → y.p = x.p + 1 ∧ y.phase = x.phase) ∧
      y.h = x.h ∧ y.t = x.t ∧ y.e = x.e ∧
      y.cmds = x.cmds.map (fun z => if z.seq = k.seq then { z with phase := .committing } else z) ∧
      (sig = true ↔ k.irqNow = true ∨ x.coalesce ≤ x.unsig) ∧ y.unsig = (if sig = true then 0 else x.unsig + 1) ∧
      (s.postReply c q k st d).mem = s.mem ∧ (s.postReply c q k st d).regs = s.regs ∧
      (s.postReply c q k st d).plans = s.plans ∧ (s.postReply c q k st d).items = s.items

/-- The checks that every packet meets, whatever its row: an OPCODE that Table 4.9 does not hold is refused with ST_BAD_OPCODE; a
packet of the row with a wrong LEN, a reserved bit or field that is not zero, or a selecting field that names no row, with
ST_BAD_PARAM; one that the context has no right to, with ST_NO_RIGHTS; in recovery an opcode other than the six that the ROM
serves, with ST_BAD_STATE; each refusal changes nothing but what its reply changes (R70, R79, R404, R3). -/
def Obligations.PacketChecks : Prop :=
  ∀ (i : Instr) (s : State) (c q op sel : Nat) (e : HostEnv) (x : Queue) (k : Cmd),
    opcodeRow i = some (c, q, e, op, sel) → c < 128 → q < 128 → envOk e = true → s.startable c q = some (x, k) →
    x.room = true →
    (opcodes.contains k.op = false → exec i s = .next (s.answered c q k stBadOpcode 0)) ∧
    (k.op = op → (selector op k.par).1 = sel ∨ (selector op k.par).2.contains (selector op k.par).1 = false →
      (k.headerOk = false ∨ paramOk op k.par = false ∨ (selector op k.par).2.contains (selector op k.par).1 = false →
        exec i s = .next (s.answered c q k stBadParam 0)) ∧
      (k.headerOk = true → paramOk op k.par = true → (selector op k.par).2.contains (selector op k.par).1 = true →
        s.hasRights c op = false → exec i s = .next (s.answered c q k stNoRights 0)) ∧
      (k.headerOk = true → paramOk op k.par = true → (selector op k.par).2.contains (selector op k.par).1 = true →
        s.hasRights c op = true → s.on F.KSU_STATUS_RECOVERY = true → op ∉ [0x01, 0x02, 0x03, 0xA0, 0xA1, 0xA2] →
        exec i s = .next (s.answered c q k stBadState 0)))

/-- A command starts only as R80 allows: with an older command on its SQ that has not committed, in a context that is not
ACTIVE, or with BARRIER while an older command of the context is uncommitted, no row changes anything but what waited on
other commands. -/
def Obligations.StartOrder : Prop :=
  (∀ (s : State) (c q : Nat) (x : Queue) (k : Cmd), s.startable c q = some (x, k) →
    s.queue? c q = some x ∧ x.cmds.head? = some k ∧ (s.ctx c).phase = .active ∧
    (k.barrier = true → ∀ p ∈ s.ctxCmds c, k.seq ≤ p.2.seq)) ∧
  (∀ (i : Instr) (s : State) (c q op sel : Nat) (e : HostEnv), opcodeRow i = some (c, q, e, op, sel) → c < 128 → q < 128 →
    envOk e = true → s.startable c q = none → exec i s = .next s.settle)

/-- Contexts of VFs: VF_ENABLE_SET makes every DISABLED context of the VFs enabled ACTIVE, empty, and leaves the others as they
are; VF_FLR ends the context: it is DISABLED, holds no queue, plan or model; VF_ENABLE_CLEAR does so with every VF's context;
CONTEXT_RECOVERY takes the steps of R88 on an ACTIVE context whose recovery is due (R69, R90, R361). -/
def Obligations.ContextEvents : Prop :=
  (∀ (s : State) (n : Nat), n < 128 → s.ready = true →
    ∃ t : State, exec (.vfEnableSet n) s = .next t ∧ t.numVfs = n ∧ t.mem = s.mem ∧ t.queues = s.queues ∧
      ∀ c, t.ctx c = if 1 ≤ c ∧ c ≤ n ∧ (s.ctx c).phase = .disabled then ⟨.active, 0, 0⟩ else s.ctx c) ∧
  (∀ (s : State) (n : Nat) (e : HostEnv), 1 ≤ n → n < 128 → envOk e = true →
    ((s.ctx n).phase = .disabled → exec (.vfFlr n e) s = .next s) ∧
    ((s.ctx n).phase ≠ .disabled → ∃ u : State, exec (.vfFlr n e) s = .next u.settle ∧ u.ctx n = ⟨.disabled, 0, 0⟩ ∧
      (∀ p ∈ u.plans, p.1 / 4 ≠ n) ∧ (∀ m ∈ u.models, m.c ≠ n) ∧ (∀ p ∈ u.progs, p.1 / 65536 ≠ n))) ∧
  (∀ (s : State) (e : HostEnv), envOk e = true →
    exec (.vfEnableClear e) s = .next ((rangeFrom 1 127).foldl (fun t c => vfFlr c e t) { s with numVfs := 0 })) ∧
  (∀ (s : State) (c det : Nat), c < 128 → det < 96 → (c, det, false) ∈ s.recovers → (s.ctx c).phase = .active →
    exec (.contextRecovery c det) s = .next (State.resetCtx
      { s with recovers := s.recovers.map (fun r => if r == (c, det, false) then (c, det, true) else r) } c none).2.settle)

/-- PLAN_LOAD reads the image and checks its format: an image without a fault goes into the lowest EMPTY handle of the context as
LOADED and DETAIL is the handle; an image with one is refused with ST_IMAGE_BAD, check 0x01 and the index of the entry; four
handles in use are ST_BAD_STATE, a full plan store is ST_REFUSED_MEMORY (R48, R54, R56, Table 3.15). -/
def Obligations.PlanLoad : Prop :=
  ∀ (s s1 : State) (c q : Nat) (x : Queue) (k : Cmd) (e : HostEnv) (b : Bytes), envOk e = true → Serves s c q 0x10 0 x k →
    0x200 ≤ pf k.par 16 4 → pf k.par 16 4 ≤ 16 * 2 ^ 20 → s.cmdRead e c (pf k.par 8 8) (pf k.par 16 4) = (.ok b, s1) →
    (∀ i, imageFault b = some i → exec (.planLoad c q e) s = .next (s1.answered c q k stImageBad (2 ^ 24 + i))) ∧
    (∀ h, imageFault b = none → (rangeFrom 0 4).find? (fun h => s1.planPhase c h == .empty) = some h →
      (s1.planStore + pf k.par 16 4 ≤ 64 * 2 ^ 20 →
        exec (.planLoad c q e) s = .next ((s1.setPlan c h (Plan.loaded (readImage b))).answered c q k stOk h)) ∧
      (64 * 2 ^ 20 < s1.planStore + pf k.par 16 4 →
        exec (.planLoad c q e) s = .next (s1.answered c q k stMemory 0))) ∧
    (imageFault b = none → (∀ h < 4, s1.planPhase c h ≠ .empty) →
      exec (.planLoad c q e) s = .next (s1.answered c q k stBadState 0))

/-- PLAN_ADMIT of a LOADED or STOPPED plan: the first check that fails refuses it with its status and DETAIL and the handle stays
as it was; without one the plan is ADMITTED with new counters and DETAIL is the low word of its PLAN_HASH; while a bank that it
claims is still being zeroed the command waits; a handle in another state is ST_BAD_STATE (R54, R56, R57, R243). -/
def Obligations.PlanAdmit : Prop :=
  ∀ (s s1 : State) (c q : Nat) (x : Queue) (k : Cmd) (e : HostEnv) (p : Plan), envOk e = true → Serves s c q 0x11 0 x k →
    pf k.par 8 1 ≤ 3 → pf k.par 9 1 ≤ 1 → pf k.par 10 1 ≤ 3 → s.plan? c (pf k.par 8 1) = some p →
    (s.admitState c (pf k.par 8 1) (admitMate k.par) = false →
      exec (.planAdmit c q e) s = .next (s.answered c q k stBadState 0)) ∧
    (s.admitState c (pf k.par 8 1) (admitMate k.par) = true →
      (∀ y, s.admission e c (admitMate k.par) p = (.error y, s1) →
        exec (.planAdmit c q e) s = .next (s1.answered c q k y.1 y.2)) ∧
      (∀ im, s.admission e c (admitMate k.par) p = (.ok im, s1) →
        ((∀ b ∈ s1.planBanks im, b ∉ s1.zeroing) →
          exec (.planAdmit c q e) s = .next ((s1.setPlan c (pf k.par 8 1)
            (p.admitted im (admitMate k.par) (s1.spareFree 0 && s1.spareFree 1))).answered c q k stOk (p.whole.hash % 2 ^ 32))) ∧
        ((∃ b ∈ s1.planBanks im, b ∈ s1.zeroing) → k.phase ≠ .executing .zeroing →
          exec (.planAdmit c q e) s = .next (s1.waits c q k .zeroing))))

/-- PLAN_ARM of an ADMITTED plan that is no swap partner (and, of a Herd plan, on the leader): A is the beat asked for, or, for 0,
the present beat plus the arm lead, and the plan is ARMED for it; a beat closer than the arm lead is ST_REFUSED_TIME with the
lead in DETAIL; of N in a swap pair k is a cycle boundary of the RUNNING P, or else ST_BAD_PARAM; a plan in another state is
ST_BAD_STATE (R58, R64). -/
def Obligations.PlanArm : Prop :=
  ∀ (s : State) (c q : Nat) (x : Queue) (k : Cmd) (e : HostEnv) (p : Plan), envOk e = true → Serves s c q 0x12 0 x k →
    pf k.par 8 1 ≤ 3 → s.plan? c (pf k.par 8 1) = some p →
    let h := pf k.par 8 1
    let req := pf k.par 16 8
    let lead := s.armLead p.img
    (pf k.par 9 1 ≤ 1 → p.phase ≠ .admitted → exec (.planArm c q e) s = .next (s.answered c q k stBadState 0)) ∧
    (pf k.par 9 1 = 0 → p.phase = .admitted → p.partner = none → p.img.isHerd = false ∨ s.isLeader = true →
      (req = 0 → exec (.planArm c q e) s = .next ((s.armPlan e c h p (s.beat + lead) (s.beat + lead) false).answered c q k stOk
        ((s.beat + lead) % 2 ^ 32))) ∧
      (req ≠ 0 → s.beat + lead ≤ req →
        exec (.planArm c q e) s = .next ((s.armPlan e c h p req req false).answered c q k stOk (req % 2 ^ 32))) ∧
      (req ≠ 0 → req < s.beat + lead → exec (.planArm c q e) s = .next (s.answered c q k stTime lead))) ∧
    (∀ m old, pf k.par 9 1 = 1 → p.phase = .admitted → p.partner = some m → m < 4 → s.plan? c m = some old →
      old.phase = .running → p.img.isHerd = false ∨ s.isLeader = true → 0 < old.img.cyc → req ≠ 0 →
      (req < old.anchor ∨ (req - old.anchor) % old.img.cyc ≠ 0 →
        exec (.planArm c q e) s = .next (s.answered c q k stBadParam 0)) ∧
      (old.anchor ≤ req → (req - old.anchor) % old.img.cyc = 0 → req < s.beat + lead →
        exec (.planArm c q e) s = .next (s.answered c q k stTime lead)) ∧
      (old.anchor ≤ req → (req - old.anchor) % old.img.cyc = 0 → s.beat + lead ≤ req →
        exec (.planArm c q e) s = .next ((s.armPlan e c h p req req true).answered c q k stOk (req % 2 ^ 32))))

/-- The arm lead is at least 400 beats, and at least 8 beats more than the wake lead of every claimed domain that does not
work (R58). -/
def Obligations.ArmLead : Prop :=
  ∀ (s : State) (im : PlanImage), 400 ≤ s.armLead im ∧
    ∀ d ∈ s.planDomains im, s.domWorks d = false →
      (s.domState d = 1 → 8 + (domLeads d).1 ≤ s.armLead im) ∧ (s.domState d = 2 → 8 + (domLeads d).2 ≤ s.armLead im)

/-- PLAN_STOP of a RUNNING plan waits for its stop boundary, at which the plan becomes DRAINING with that boundary and CANCEL; an
ARMED plan is STOPPED at once; a RUNNING plan with a swap armed, and any other state, is ST_BAD_STATE. PLAN_UNLOAD empties a
LOADED or STOPPED handle, and an ADMITTED one with its claims; any other state is ST_BAD_STATE. PLAN_STATUS writes the 128
bytes of Table 3.16 to its pinned buffer (R56, R61, R64, R67). -/
def Obligations.PlanStopUnloadStatus : Prop :=
  (∀ (s : State) (c q : Nat) (x : Queue) (k : Cmd) (e : HostEnv) (p : Plan), envOk e = true → Serves s c q 0x13 0 x k →
    pf k.par 8 1 ≤ 3 → s.plan? c (pf k.par 8 1) = some p →
    (p.phase = .armed →
      exec (.planStop c q e) s = .next ((s.stopPlan c (pf k.par 8 1) p).answered c q k stOk 0)) ∧
    (p.phase = .running → s.swapArmed c (pf k.par 8 1) = false →
      exec (.planStop c q e) s = .next (s.waits c q k (.atBeat (s.stopBoundary p)))) ∧
    (p.phase = .running → s.swapArmed c (pf k.par 8 1) = true →
      exec (.planStop c q e) s = .next (s.answered c q k stBadState 0)) ∧
    (p.phase ≠ .armed → p.phase ≠ .running → exec (.planStop c q e) s = .next (s.answered c q k stBadState 0))) ∧
  (∀ (s : State) (c h n : Nat) (cancel : Bool) (p : Plan), s.plan? c h = some p → p.phase = .running →
    s.drainPlan c h n cancel = s.setPlan c h { p with phase := .draining, stop := n, cancel := cancel }) ∧
  (∀ (s : State) (p : Plan), p.anchor ≤ s.beat → 0 < p.img.cyc → s.beat < s.stopBoundary p ∧
    s.stopBoundary p ≤ s.beat + p.img.cyc ∧ (s.stopBoundary p - p.anchor) % p.img.cyc = 0) ∧
  (∀ (s : State) (c q : Nat) (x : Queue) (k : Cmd) (e : HostEnv) (p : Plan), envOk e = true → Serves s c q 0x14 0 x k →
    pf k.par 8 1 ≤ 3 → s.plan? c (pf k.par 8 1) = some p →
    (p.phase = .loaded ∨ p.phase = .stopped →
      exec (.planUnload c q e) s = .next ((s.delPlan c (pf k.par 8 1)).answered c q k stOk 0)) ∧
    (p.phase = .admitted →
      exec (.planUnload c q e) s =
        .next (((s.delPlan c (pf k.par 8 1)).endClaims c (pf k.par 8 1) p).answered c q k stOk 0)) ∧
    (p.phase = .armed ∨ p.phase = .running ∨ p.phase = .draining →
      exec (.planUnload c q e) s = .next (s.answered c q k stBadState 0))) ∧
  (∀ (s s1 : State) (c q : Nat) (x : Queue) (k : Cmd) (e : HostEnv) (g g1 : List Seg), envOk e = true →
    Serves s c q 0x15 0 x k → pf k.par 8 1 ≤ 3 → pf k.par 16 8 % 64 = 0 →
    s.pinned c (pf k.par 16 8) 128 2 = some g → s.bringIn e c (pf k.par 16 8) 128 = (.ok (), s1) →
    s1.pinned c (pf k.par 16 8) 128 2 = some g1 →
    exec (.planStatus c q e) s = .next
      ((s1.writeSegs (Who.cpx c) g1 (clean (s1.planBlock c (pf k.par 8 1)))).answered c q k stOk 0))

/-- PLAN_DRAINED: once the beat after a DRAINING plan's last record has come and no item of it is left, it becomes STOPPED when
its pending outputs have fired, or, with CANCEL, at once with them cancelled; its handle, image and counters stay, its claims
are released and its items end; before that nothing changes (R61, Table 3.13). -/
def Obligations.PlanDrained : Prop :=
  ∀ (s : State) (c h : Nat) (p : Plan), c < 128 → h < 4 → s.plan? c h = some p →
    (p.phase = .draining → p.stop + p.img.lat ≤ s.beat → s.itemsLeft c h p = false →
      (p.cancel = false → s.outputsPending c h = false →
        exec (.planDrained c h) s = .next ((s.stopPlan c h p).dropItems c h)) ∧
      (p.cancel = false → s.outputsPending c h = true → exec (.planDrained c h) s = .next s) ∧
      (p.cancel = true → exec (.planDrained c h) s =
        .next (((s.cancelOutputs (fun x => x.c == c && x.h == h)).stopPlan c h p).dropItems c h))) ∧
    (p.phase ≠ .draining ∨ s.beat < p.stop + p.img.lat ∨ s.itemsLeft c h p = true →
      exec (.planDrained c h) s = .next s) ∧
    (∃ p', (s.stopPlan c h p).plan? c h = some p' ∧ p'.phase = .stopped ∧ p'.whole = p.whole ∧ p'.items = p.items ∧
      p'.entries = [] ∧ (s.stopPlan c h p).mem = s.mem ∧ (s.stopPlan c h p).regs = s.regs ∧
      (s.stopPlan c h p).queues = s.queues ∧ (s.stopPlan c h p).items = s.items)

/-- ITEM_CREATE: the next entry that HWM has reached under a RUNNING plan becomes an item: it takes the context's next ID, its
entry beat is the present beat and its stamp the present tick; it gets the next slot of the present cycle unless all slots of
the cycle are taken or its class's gap has not passed, when it is NOT_INSPECTED and counted so; the ID counter goes on modulo
2^32 and memory stays (R16, R17, R59). -/
def Obligations.ItemCreate : Prop :=
  ∀ (s : State) (c h : Nat) (p : Plan) (y : Entry) (r : Rule), c < 128 →
    ((s.dropEntries c).ctxPlans c).find? (fun p => p.2.phase == .running && ((s.dropEntries c).nextEntry p.2).isSome) =
      some (h, p) → (s.dropEntries c).nextEntry p = some y → p.img.rules[y.rule]? = some r →
    ∃ (t : State) (i : Item), exec (.itemCreate c) s = .next t ∧ t.items = s.items ++ [i] ∧ i.c = c ∧ i.h = h ∧
      i.id = (s.ctx c).nextItem ∧ i.cls = r.cls ∧ i.beat = s.beat ∧ i.stamp = s.time ∧ i.pos = y.pos ∧ i.rule = y.rule ∧
      (t.ctx c).nextItem = (i.id + 1) % 2 ^ 32 ∧ t.mem = s.mem ∧ t.queues = s.queues ∧ t.out = s.out ∧
      (let n := (s.beat - p.anchor) / max 1 p.img.cyc
       i.slot = if ((s.dropEntries c).noSlot p r.cls n).isSome then none else some (p.takenIn n, n))

/-- The verdict of an item: VERDICT_COMPOSE forms it in the seven beats before b + L for an item with a slot that has none yet;
ITEM_VERDICT in beat b + L writes the record, moves the counters, evaluates the reject rules and ends the item; the result is
4 without a slot, else 5 when FAULTED, else 6 when INCOMPLETE, else what the composer formed: 0 when every score lies within
its limits and the class's FAIL_RESULT when one does not (R18, R51). -/
def Obligations.ItemVerdict : Prop :=
  (∀ (s : State) (c id : Nat) (e : HostEnv) (i : Item) (p : Plan) (v : VerdictRule), c < 128 → id < 2 ^ 32 → envOk e = true →
    s.item? c id = some i → s.itemPlan i = some p → i.beat + p.img.lat ≤ s.beat + 7 → s.beat < i.beat + p.img.lat →
    i.slot.isSome = true → i.composed = none → p.img.verdicts.find? (fun v => v.cls == i.cls) = some v →
    exec (.verdictCompose c id e) s = .next (s.compose e p i v)) ∧
  (∀ (s : State) (c id : Nat) (e : HostEnv) (i j : Item) (p : Plan), c < 128 → id < 2 ^ 32 → envOk e = true →
    s.items.find? (fun i => i.c == c && s.verdictDue i) = some i → i.id = id → s.itemPlan i = some p →
    (s.composeItem e p i).item? c id = some j →
    exec (.itemVerdict c id e) s = .next ((s.composeItem e p i).issueVerdict j p)) ∧
  (∀ (s : State) (i : Item) (p : Plan), ∀ k ∈ (s.issueVerdict i p).items, ¬ (k.c = i.c ∧ k.id = i.id)) ∧
  (∀ i : Item, (i.slot = none → i.result = 4) ∧ (i.slot ≠ none → i.faulted = true → i.result = 5) ∧
    (i.slot ≠ none → i.faulted = false → i.incomplete = true → i.result = 6) ∧
    (∀ w, i.slot ≠ none → i.faulted = false → i.incomplete = false → i.composed = some w → i.result = w.result)) ∧
  (∀ (v : VerdictRule) (l : List Int),
    ((∀ n < v.nscores, v.low.getD n 0 ≤ l.getD n 0 ∧ l.getD n 0 ≤ v.high.getD n 0) → v.judge l = 0) ∧
    ((∃ n < v.nscores, l.getD n 0 < v.low.getD n 0 ∨ v.high.getD n 0 < l.getD n 0) → v.judge l = v.failResult))

/-- BEAT_BOUNDARY: device time goes to the next multiple of 500 ticks; before READY nothing else happens, from READY on the
beat-locked work runs at that time, and a die whose time differs fires detector 0x13. At the boundary an ARMED plan whose beat
has come is RUNNING, and at a swap P drains from that boundary and hands N the class gaps (R35, R34, R58, R62, R64). -/
def Obligations.BeatBoundary : Prop :=
  (∀ (s : State) (e : BeatEnv), (∀ d ∈ e.timeDiff, d < 4) →
    let u : State := { s with time := (s.time / 500 + 1) * 500 }
    (s.ready = false → exec (.beatBoundary e) s = .next u) ∧
    (s.ready = true → e.timeDiff = [] → exec (.beatBoundary e) s = .next (u.beatWork e)) ∧
    (∀ d l, s.ready = true → e.timeDiff = d :: l →
      exec (.beatBoundary e) s = .next ((u.beatWork e).fireDetector 0x13 d))) ∧
  (∀ (s : State) (c h : Nat) (p : Plan), p.armedSwap = false ∨ p.partner = none →
    ∃ p', (s.startPlan c h p).plan? c h = some p' ∧ p'.phase = .running ∧ p'.lastTake = p.lastTake ∧ p'.anchor = p.anchor ∧
      (s.startPlan c h p).mem = s.mem ∧ (s.startPlan c h p).items = s.items) ∧
  (∀ (s : State) (c h m : Nat) (p old : Plan), h < 4 → m < 4 → m ≠ h → p.armedSwap = true → p.partner = some m →
    s.plan? c m = some old → old.phase = .running →
    ∃ p', (s.startPlan c h p).plan? c h = some p' ∧ p'.phase = .running ∧ p'.lastTake = old.lastTake ∧
      (s.startPlan c h p).plan? c m = some { old with phase := .draining, stop := p.start, cancel := false })

/-- A record that energy or time overtakes: an item record whose next energy bubble falls due beyond its SLACK is shed, and a
record still running at the end of its ISSUE beats is stopped; the items that it serves are FAULTED (for a cycle record, every
item of its plan), EMU_MISS counts, the context's FN_CTX_ERR names ST_DEADLINE_MISSED, and the record does not run again (R319 to R321).
ENERGY_BUDGET_SET with values in range that the admitted plans fit waits for the next beat boundary, at which its values take
effect; a budget below the admitted sum is ST_REFUSED_ENERGY with the sum in DETAIL (R325). -/
def Obligations.EnergyRecords : Prop :=
  (∀ (s : State) (r : RecRun) (a : Act), runOk r = true → s.act? r = some a → r.item = true → bubbled a.rcd.kind = true →
    a.ran = false → a.start ≤ s.beat → s.beat < a.start + a.rcd.issue → s.slackSpent a = true →
    exec (.recordShed r) s = .next (((s.faultAct a).missRecord r.c).markRan r)) ∧
  (∀ (s : State) (r : RecRun) (a : Act), runOk r = true → s.act? r = some a → bubbled a.rcd.kind = true → a.rcd.kind ≠ 5 →
    a.ran = false → a.allowed = true → a.start + a.rcd.issue ≤ s.beat →
    exec (.recordOverrun r) s = .next
      (((if r.item then s.faultAct a else s.faultItems (fun i => i.c == r.c && i.h == r.h)).missRecord r.c).markRan r)) ∧
  (∀ (s : State) (c : Nat), (s.missRecord c).get F.EMU_MISS_MISS = min (s.get F.EMU_MISS_MISS + 1) (2 ^ 32 - 1) ∧
    bits ((s.missRecord c).rd (R.FN_CTX_ERR c)) 15 0 = stDeadline ∧ (s.missRecord c).mem = s.mem ∧
    (s.missRecord c).items = s.items ∧ (s.missRecord c).plans = s.plans) ∧
  (∀ (s : State) (c q : Nat) (x : Queue) (k : Cmd) (e : HostEnv), envOk e = true → Serves s c q 0x71 0 x k →
    let b := pf k.par 8 4
    let w := pf k.par 12 4
    let rv := pf k.par 16 4
    1 ≤ w → w ≤ 65536 → 0 < b → b ≤ 750 * w → 9 * w ≤ rv → rv ≤ b → 1 ≤ pf k.par 20 1 → pf k.par 20 1 ≤ 64 →
    (s.energyNeed w rv ≤ b → exec (.energyBudgetSet c q e) s = .next (s.waits c q k (.atBeat (s.beat + 1)))) ∧
    (b < s.energyNeed w rv → exec (.energyBudgetSet c q e) s =
      .next (s.answered c q k stEnergy (min (s.energyNeed w rv) 0xFFFFFFFF))))

/-- BUF_PIN (R265 to R267, R276, R278, R280): fields, rights, place and slots that do not allow the range refuse it with their
status; else the lowest free slot takes the range: a HOST range with the runs of its pages, translated here and held until
BUF_UNPIN (an untranslatable page is ST_REFUSED_UNPINNED with its index and reason, too many runs ST_REFUSED_MEMORY); a LOCAL
range with zeroed memory that the device places, or with the banks it names; a MIGR range with a zeroed pool; a REMOTE range
with an import table. The slot's generation counts on; other slots, queues and plans stay. -/
def Obligations.PinRange : Prop :=
  (∀ (s : State) (c q : Nat) (x : Queue) (k : Cmd) (e : HostEnv), envOk e = true → Serves s c q 0x30 0 x k →
    let kind := pf k.par 8 1
    let rights := pf k.par 9 1
    let mem := pf k.par 10 1
    let p := pf k.par 12 4
    let len := pf k.par 24 8
    let dva := s.pinDva c k.par
    (∀ st, s.pinRefusal c k.par = some st → exec (.bufPin c q e) s = .next (s.answered c q k st 0)) ∧
    (∀ slot, s.pinRefusal c k.par = none → s.freeSlot c = some slot →
      (∀ s1 l, kind = 0 → s.hostRuns e c (pf k.par 16 8) len rights = (.ok l, s1) → l.length ≤ 16384 →
        s.pinRuns + l.length ≤ 131072 →
        let r : Range := { Range.blank 0 rights dva len with runs := l }
        exec (.bufPin c q e) s = .next ((s1.withRange c slot r).answered c q k stOk (s1.pinDetail c slot r))) ∧
      (∀ s1 l, kind = 0 → s.hostRuns e c (pf k.par 16 8) len rights = (.ok l, s1) →
        16384 < l.length ∨ 131072 < s.pinRuns + l.length →
        exec (.bufPin c q e) s = .next ((s1.raiseAtu 4).answered c q k stMemory 0)) ∧
      (∀ s1 y, kind = 0 → s.hostRuns e c (pf k.par 16 8) len rights = (.error y, s1) →
        exec (.bufPin c q e) s = .next (s1.answered c q k stUnpinned (y.2 + y.1 * 2 ^ 24))) ∧
      (∀ a, kind = 1 → s.pinRuns < 131072 → mem ≠ 4 → s.place mem len = some a →
        let r : Range := { Range.blank 1 rights dva len with la := a, mem := mem }
        exec (.bufPin c q e) s =
          .next (((s.zeroLa a len).withRange c slot r).answered c q k stOk ((s.zeroLa a len).pinDetail c slot r))) ∧
      (kind = 1 → s.pinRuns < 131072 → mem ≠ 4 → s.place mem len = none →
        exec (.bufPin c q e) s = .next (s.answered c q k stMemory 0)) ∧
      (kind = 1 → s.pinRuns < 131072 → mem = 4 →
        let u := s.zeroLa (bankLa p) len
        let w : State := { u with zeroing := u.zeroing.filter (fun b => !(rangeFrom p (len / 0x20000)).contains b) }
        let r : Range := { Range.blank 1 rights dva len with la := bankLa p, mem := 4 }
        exec (.bufPin c q e) s = .next ((w.withRange c slot r).answered c q k stOk (w.pinDetail c slot r))) ∧
      (∀ a, kind = 2 → s.place mem (4096 * p) = some a →
        let u := s.zeroLa a (4096 * p)
        let r : Range := { Range.blank 2 rights dva len with la := a, mem := mem, pool := p }
        exec (.bufPin c q e) s = .next ((u.withRange c slot r).answered c q k stOk (u.pinDetail c slot r))) ∧
      (∀ y w, kind = 3 → s.herd.exports.find? (fun y => y.device == mem && y.window == p) = some y →
        (s.linkTo mem).isSome = true → len ≤ y.len → covers y.rights rights = true →
        (rangeFrom 0 64).find? (fun w => (tfind s.imports w).isNone) = some w →
        let u : State := { s with imports := tput s.imports w ⟨mem, p, y.len, y.rights, c⟩ }
        let r : Range := { Range.blank 3 rights dva len with mem := mem, imp := w }
        exec (.bufPin c q e) s = .next ((u.withRange c slot r).answered c q k stOk (u.pinDetail c slot r))))) ∧
  (∀ (s : State) (c slot : Nat) (r : Range), slot < 32 → ∃ r' : Range,
    tfind (s.withRange c slot r).ranges (32 * c + slot) = some r' ∧
    r' = { r with id := slot + 32 * ((tget s.gens (32 * c + slot) 0 + 1) % 2048) } ∧
    (∀ j, j ≠ 32 * c + slot → tfind (s.withRange c slot r).ranges j = tfind s.ranges j) ∧
    (s.withRange c slot r).mem = s.mem ∧ (s.withRange c slot r).regs = s.regs ∧
    (s.withRange c slot r).queues = s.queues ∧ (s.withRange c slot r).plans = s.plans)

/-- TLB_INVALIDATE, BUF_UNPIN and PAGE_MIGRATE (R272, R276, R277, R281, R282): the TLB and held translations of the span go, a
running descriptor that touches the span is waited for, then TLB_INVALIDATE answers its counts, BUF_UNPIN sends the range's
pages home and frees its slot, PAGE_MIGRATE moves the pages and answers how many moved. A range in use is ST_BAD_STATE, a wrong
RANGE_ID ST_BAD_PARAM, a page that cannot be moved ST_REFUSED_UNPINNED with its reason. -/
def Obligations.UnpinInvalidateMigrate : Prop :=
  (∀ (s : State) (c q : Nat) (x : Queue) (k : Cmd) (e : HostEnv), envOk e = true → Serves s c q 0x32 0 x k →
    let y := s.cmdSpan c k
    pf k.par 8 1 ≤ 1 → pf k.par 16 8 % 4096 = 0 → pf k.par 24 8 % 4096 = 0 →
    (pf k.par 8 1 = 1 → (s.window c).1 ≤ pf k.par 16 8 ∧
      pf k.par 16 8 + pf k.par 24 8 ≤ (s.window c).1 + (s.window c).2.1) →
    (s.get (F.ATU_CTX_CFG_SOURCE c) = 2 → exec (.tlbInvalidate c q e) s = .next (s.answered c q k stBadState 0)) ∧
    (s.get (F.ATU_CTX_CFG_SOURCE c) ≠ 2 →
      (∀ r d t, k.phase = .queued → s.invalidateNow e c y.1 y.2 = (r, d, t) →
        (t.stillRunning c y.1 y.2 s.time = false →
          exec (.tlbInvalidate c q e) s = .next (t.answered c q k stOk (min r 0xFFFF + 65536 * min d 0xFFFF))) ∧
        (t.stillRunning c y.1 y.2 s.time = true →
          exec (.tlbInvalidate c q e) s = .next (t.waits c q k (.descriptors r d s.time)))) ∧
      (∀ r d since, k.phase = .executing (.descriptors r d since) → s.stillRunning c y.1 y.2 since = false →
        exec (.tlbInvalidate c q e) s = .next (s.answered c q k stOk (min r 0xFFFF + 65536 * min d 0xFFFF))))) ∧
  (∀ (s : State) (c q : Nat) (x : Queue) (k : Cmd) (e : HostEnv), envOk e = true → Serves s c q 0x31 0 x k →
    let id := pf k.par 8 2
    (s.rangeById c id = none → exec (.bufUnpin c q e) s = .next (s.answered c q k stBadParam 0)) ∧
    (∀ key r, s.rangeById c id = some (key, r) →
      (s.rangePlanned c id = true ∨ s.rangeQueued c r = true ∨ s.rangeExported c id = true →
        exec (.bufUnpin c q e) s = .next (s.answered c q k stBadState 0)) ∧
      (∀ m d t, s.rangePlanned c id = false → s.rangeQueued c r = false → s.rangeExported c id = false →
        k.phase = .queued → s.invalidateNow e c r.dva r.len = (m, d, t) →
        (t.stillRunning c r.dva r.len s.time = true →
          exec (.bufUnpin c q e) s = .next (t.waits c q k (.descriptors m d s.time))) ∧
        (t.stillRunning c r.dva r.len s.time = false →
          (∀ n u, t.sendHome e key (r.homes.map (·.1)) = (.ok n, u) →
            exec (.bufUnpin c q e) s = .next ((u.unpinRange e c key r).answered c q k stOk 0)) ∧
          (∀ y u, t.sendHome e key (r.homes.map (·.1)) = (.error y, u) →
            exec (.bufUnpin c q e) s = .next (u.answered c q k stUnpinned (y * 2 ^ 24))))))) ∧
  (∀ (s : State) (key : Nat), tfind (s.dropRange key).ranges key = none ∧ (s.dropRange key).mem = s.mem ∧
    (s.dropRange key).queues = s.queues ∧ (s.dropRange key).plans = s.plans ∧
    ∀ j, j ≠ key → tfind (s.dropRange key).ranges j = tfind s.ranges j) ∧
  (∀ (s : State) (c q : Nat) (x : Queue) (k : Cmd) (e : HostEnv) (key : Nat) (r : Range), envOk e = true →
    Serves s c q 0x33 0 x k → s.rangeById c (pf k.par 8 2) = some (key, r) → r.kind = 2 → pf k.par 16 8 % 4096 = 0 →
    1 ≤ pf k.par 24 4 → pf k.par 24 4 ≤ 65536 → r.dva ≤ pf k.par 16 8 →
    pf k.par 16 8 + 4096 * pf k.par 24 4 ≤ r.dva + r.len →
    let pages := rangeFrom ((pf k.par 16 8 - r.dva) / 4096) (pf k.par 24 4)
    (k.phase = .queued → s.stillRunning c (pf k.par 16 8) (4096 * pf k.par 24 4) s.time = false →
      (∀ n u, pf k.par 10 1 = 0 → s.sendHome e key (pages.filter r.here) = (.ok n, u) →
        exec (.pageMigrate c q e) s = .next ((u.translateAll e).answered c q k stOk n)) ∧
      (∀ n u, pf k.par 10 1 = 1 → (pages.filter (fun p => !r.here p)).length ≤ r.pool - r.homes.length →
        s.bringPages e key (pages.filter (fun p => !r.here p)) = (.ok n, u) →
        exec (.pageMigrate c q e) s = .next ((u.translateAll e).answered c q k stOk n)) ∧
      (∀ y u, pf k.par 10 1 = 0 → s.sendHome e key (pages.filter r.here) = (.error y, u) →
        exec (.pageMigrate c q e) s = .next (u.answered c q k stUnpinned (y * 2 ^ 24)))) ∧
    (pf k.par 10 1 = 1 → r.pool - r.homes.length < (pages.filter (fun p => !r.here p)).length →
      exec (.pageMigrate c q e) s = .next (s.answered c q k stMemory 0)))

/-- Programs of program channels (R294, R295, R299, R309): DMA_PROG_LOAD stores a program whose 32-byte instructions pass R294
and answers its CRC-32C, refuses one that does not with ST_IMAGE_BAD and the instruction's index, and with LEN 0 deletes it
(CRC 0); DMX_RUN starts the record's program at its first instruction with SO, DO and loops at zero; a LOOP goes back to its
target COUNT - 1 times with SO and DO advanced and then restores them; a MOVE without CRC of a channel writes the bytes it has
read and goes on to the next instruction. -/
def Obligations.DmaPrograms : Prop :=
  (∀ (s : State) (c q : Nat) (x : Queue) (k : Cmd) (e : HostEnv), envOk e = true → Serves s c q 0x42 0 x k →
    let id := pf k.par 16 2
    let n := pf k.par 18 2
    id ≠ 65535 → pf k.par 8 8 % 64 = 0 →
    (n = 0 → s.progNamed c id = false → (tfind s.progs (progKey c id)).isSome = true →
      exec (.dmaProgLoad c q e) s =
        .next (State.answered { s with progs := tdel s.progs (progKey c id) } c q k stOk (crc32c []))) ∧
    (∀ b s1, 1 ≤ n → n ≤ 128 → s.cmdRead e c (pf k.par 8 8) (32 * n) = (.ok b, s1) →
      (∀ i, checkProg n b = .error i → exec (.dmaProgLoad c q e) s = .next (s1.answered c q k stImageBad i)) ∧
      (∀ code, checkProg n b = .ok code → s1.progNamed c id = true →
        exec (.dmaProgLoad c q e) s = .next (s1.answered c q k stBadState 0)) ∧
      (∀ code, checkProg n b = .ok code → s1.progNamed c id = false →
        ((tfind s.progs (progKey c id)).isSome = true ∨ (s1.progs.filter (fun p => p.1 / 65536 == c)).length < 64) →
        exec (.dmaProgLoad c q e) s = .next (State.answered
          { s1 with progs := tput s1.progs (progKey c id) ⟨crc32c b, code⟩ } c q k stOk (crc32c b))))) ∧
  (∀ (s : State) (r : RecRun) (a : Act) (p : ChanProg), runOk r = true → s.due? r 5 = some a → s.actDomains a = true →
    s.beat = a.start → s.chan? (a.plan.img.recUnit a.rcd 5) = none →
    s.chanProgs.find? (fun y => y.plan == 4 * r.c + r.h && y.chan == a.plan.img.recUnit a.rcd 5 && y.id == a.rcd.progId) =
      some p →
    exec (.dmxRun r) s = .next (((s.setChan (a.plan.img.recUnit a.rcd 5)
      ⟨r, p.prog.code, 0, 0, 0, [], none, 0xFFFFFFFF⟩).noteRun (0x3000 + a.plan.img.recUnit a.rcd 5) r).markRan r)) ∧
  (∀ (s : State) (n : Nat) (x : ChanRun) (a : Act) (t k : Nat) (si di : Int), n < 64 →
    s.chanAt n = some (x, a, .loop t k si di) → x.loops.find? (fun l => l.1 == x.pc) = none →
    (1 < k → exec (.dmxLoop n) s = .next (s.setChan n
      { x with pc := t, so := x.so + si, dofs := x.dofs + di,
               loops := (x.pc, 1, x.so, x.dofs) :: x.loops.filter (fun l => l.1 != x.pc) })) ∧
    (k ≤ 1 → exec (.dmxLoop n) s =
      .next (s.setChan n { x with pc := x.pc + 1, loops := x.loops.filter (fun l => l.1 != x.pc) }))) ∧
  (∀ (s : State) (n : Nat) (x : ChanRun) (a : Act) (t k m : Nat) (si di so dofs : Int), n < 64 →
    s.chanAt n = some (x, a, .loop t k si di) → x.loops.find? (fun l => l.1 == x.pc) = some (x.pc, m, so, dofs) →
    (m + 1 < k → exec (.dmxLoop n) s = .next (s.setChan n
      { x with pc := t, so := x.so + si, dofs := x.dofs + di,
               loops := (x.pc, m + 1, so, dofs) :: x.loops.filter (fun l => l.1 != x.pc) })) ∧
    (k ≤ m + 1 → exec (.dmxLoop n) s = .next (s.setChan n
      { x with pc := x.pc + 1, so := so, dofs := dofs, loops := x.loops.filter (fun l => l.1 != x.pc) }))) ∧
  (∀ (s : State) (n : Nat) (x : ChanRun) (a : Act) (src dst xform esize way len sofs dofs ds : Nat) (ss d : Int)
      (lines blag : Nat), n < 64 →
    s.chanAt n = some (x, a, .move src dst false xform esize way len sofs dofs ss d ds lines blag) →
    ∃ (t : State) (y : ChanRun), exec (.dmxMove n) s = .next t ∧ t.chan? n = some y ∧ y.pc = x.pc + 1 ∧ y.so = x.so ∧
      y.dofs = x.dofs ∧ y.loops = x.loops ∧ y.run = x.run ∧ y.waiting = x.waiting) ∧
  (∀ (x : Xfer) (d : List (List PByte)), x.xform = 0 → x.line d = [d.flatten])

/-- What ends or holds a program channel (R295, R299, R300, R308): WAIT passes when its condition holds, a semaphore giving its
value up, or its channel waits; DMX_WAIT_RELEASE passes it when the condition arrives; a WAIT TRIG or SEM that runs out skips
the rest with the items marked; SIGNAL raises its channel's semaphore, which stops at its largest value; END counts a
completion and signals every EVERY-th; at the end of its span an unfinished record faults its items. -/
def Obligations.ChannelWaits : Prop :=
  (∀ (s : State) (n : Nat) (x : ChanRun) (a : Act) (arg value timeout : Nat), n < 64 → x.waiting = none →
    (s.chanAt n = some (x, a, .wait 0 arg value timeout) →
      (a.start + arg ≤ s.beat → exec (.dmxWaitBeat n) s = .next (s.setChan n { x with pc := x.pc + 1, waiting := none })) ∧
      (s.beat < a.start + arg → exec (.dmxWaitBeat n) s = .next (s.setChan n { x with waiting := some s.time }))) ∧
    (s.chanAt n = some (x, a, .wait 1 arg value timeout) →
      exec (.dmxWaitTrig n) s = .next (s.setChan n { x with waiting := some s.time })) ∧
    (s.chanAt n = some (x, a, .wait 2 arg value timeout) →
      (value ≤ s.get (F.DMX_SEM_VALUE arg) → exec (.dmxWaitSem n) s = .next (State.setChan
        (s.put (F.DMX_SEM_VALUE arg) (s.get (F.DMX_SEM_VALUE arg) - value)) n { x with pc := x.pc + 1, waiting := none })) ∧
      (s.get (F.DMX_SEM_VALUE arg) < value →
        exec (.dmxWaitSem n) s = .next (s.setChan n { x with waiting := some s.time })))) ∧
  (∀ (s : State) (n : Nat) (x : ChanRun) (a : Act) (arg value timeout t : Nat), n < 64 → x.waiting = some t →
    (∀ u, s.chanAt n = some (x, a, .wait 1 arg value timeout) → (s.lineIn arg).capT = some u → t < u →
      exec (.dmxWaitRelease n) s = .next (s.setChan n { x with pc := x.pc + 1, waiting := none })) ∧
    (s.chanAt n = some (x, a, .wait 2 arg value timeout) → value ≤ s.get (F.DMX_SEM_VALUE arg) →
      exec (.dmxWaitRelease n) s = .next (State.setChan
        (s.put (F.DMX_SEM_VALUE arg) (s.get (F.DMX_SEM_VALUE arg) - value)) n { x with pc := x.pc + 1, waiting := none })) ∧
    (s.chanAt n = some (x, a, .wait 1 arg value timeout) → 8 * t + timeout ≤ 8 * s.time →
      exec (.dmxWaitTimeout n) s =
        .next ((((s.incompleteAct a).incSat (F.DMX_CH_CNT2_TMO n)).raiseDmx 1).delChan n)) ∧
    (s.chanAt n = some (x, a, .wait 2 arg value timeout) → 8 * t + timeout ≤ 8 * s.time →
      exec (.dmxWaitTimeout n) s = .next ((((s.faultAct a).incSat (F.DMX_CH_CNT2_TMO n)).raiseDmx 1).delChan n)) ∧
    (∀ kind, s.chanAt n = some (x, a, .wait kind arg value timeout) → 8 * s.time < 8 * t + timeout →
      exec (.dmxWaitTimeout n) s = .next s)) ∧
  (∀ (s : State) (n v : Nat) (x : ChanRun) (a : Act), n < 64 → s.chanAt n = some (x, a, .signal v) →
    ∃ t : State, exec (.dmxSignal n) s = .next t ∧ t.chan? n = some { x with pc := x.pc + 1 } ∧
      t.get (F.DMX_SEM_VALUE n) = min (s.get (F.DMX_SEM_VALUE n) + v) (2 ^ 16 - 1) ∧ t.mem = s.mem ∧ t.items = s.items) ∧
  (∀ (s : State) (n : Nat) (x : ChanRun) (a : Act), n < 64 → s.chanAt n = some (x, a, .fin) →
    ∃ t : State, exec (.dmxEnd n) s = .next t ∧ t.chan? n = none ∧
      t.get (F.DMX_CH_DONE_DONE n) = (s.get (F.DMX_CH_DONE_DONE n) + 1) % 2 ^ 64 ∧ t.mem = s.mem ∧ t.items = s.items) ∧
  (∀ (s : State) (n : Nat) (x : ChanRun) (a : Act), n < 64 → s.chan? n = some x → s.act? x.run = some a →
    (s.beat < a.start + a.rcd.span → exec (.recordLate n) s = .next s) ∧
    (a.start + a.rcd.span ≤ s.beat →
      exec (.recordLate n) s = .next ((((s.faultAct a).incSat (F.DMX_CH_CNT2_LATE n)).raiseDmx 0).delChan n)))

/-- Ring channels (R303 to R306): the descriptor a channel picks starts, or ends at once: with FAULT when its translation has
failed, with NOT_OWNED and the ring STOPPED when OWN is 0, with BAD when its fields are wrong, with OK when it is a NOP; the
running one is carried to its end; a paused channel does nothing; a write of PAUSE to a program channel is ignored and counted. -/
def Obligations.RingChannels : Prop :=
  (∀ (s : State) (n : Nat) (e : HostEnv), n < 192 → envOk e = true →
    (n < 64 ∨ s.on (F.DMX_CH_CTL_PAUSE n) = true → exec (.descMove n e) s = .next s ∧ exec (.descNop n e) s = .next s) ∧
    (∀ c q x d, 64 ≤ n → s.on (F.DMX_CH_CTL_PAUSE n) = false → s.activeRing n = some (c, q, x, d) →
      (x.room = true → exec (.descMove n e) s = .next (s.finishMove e n c q x d)) ∧
      exec (.descNop n e) s = .next s) ∧
    (∀ c q x d, 64 ≤ n → s.on (F.DMX_CH_CTL_PAUSE n) = false → s.activeRing n = none → s.pickRing n = some (c, q, x, d) →
      let u : State := { s with chanLast := tput s.chanLast n (gq c q) }
      (∀ r a, d.opc ≠ 0 → d.phase = .failed r a → exec (.descMove n e) s = .next (u.completeDesc e c q x d 3 r 0 a none)) ∧
      (d.opc ≠ 0 → d.phase = .held → d.owned = false → exec (.descMove n e) s = .next (u.notOwned c q d)) ∧
      (d.opc ≠ 0 → d.phase = .held → d.owned = true → d.ok = false →
        exec (.descMove n e) s = .next (u.completeDesc e c q x d 1 0 0 0 none)) ∧
      (d.opc ≠ 0 → d.phase = .held → d.owned = true → d.ok = true → exec (.descMove n e) s =
        .next (u.onQueue c q (fun y => y.onDesc d.idx (fun d => { d with phase := .running, startT := s.time })))) ∧
      (d.opc = 0 → d.phase = .held → d.owned = true → d.ok = true →
        exec (.descNop n e) s = .next (u.completeDesc e c q x d 0 0 0 0 none) ∧ exec (.descMove n e) s = .next s))) ∧
  (∀ (s : State) (n : Nat), n < 192 →
    (n < 64 → exec (.dmxPauseSet n) s = .next (s.incWrap F.DMX_STATUS_WIGN) ∧
      exec (.dmxPauseClear n) s = .next (s.incWrap F.DMX_STATUS_WIGN)) ∧
    (64 ≤ n → exec (.dmxPauseSet n) s = .next (s.put (F.DMX_CH_CTL_PAUSE n) 1) ∧
      exec (.dmxPauseClear n) s = .next ((s.put (F.DMX_CH_CTL_PAUSE n) 0).put (F.DMX_CH_STAT_STATE n) 0) ∧
      (s.on (F.DMX_CH_CTL_PAUSE n) = true → exec (.dmxPaused n) s = .next (s.put (F.DMX_CH_STAT_STATE n) 4)) ∧
      (s.on (F.DMX_CH_CTL_PAUSE n) = false → exec (.dmxPaused n) s = .next s))) ∧
  (∀ (s : State) (e : HostEnv) (c q : Nat) (x : Queue) (d : Desc) (status reason bytes dva : Nat) (crc : Option Nat),
    ((status = 0 ∨ status = 4 ∨ x.cont = true) → s.completeDesc e c q x d status reason bytes dva crc = ((((s.cqWrite c q d.irq
      (ringEntry d 0 status reason bytes dva s.t48 crc)).onQueue c q (fun y =>
        { y with descs := y.descs.filter (fun z => z.idx != d.idx), h := (d.idx + 1) % y.sqN, ring := .running })).incWrap
      (F.DMX_CH_DONE_DONE x.chan)).translateAll e).settleAts))

/-- Faults of descriptors and what serves or ends them (R260, R263, R264, R269, R272, R274, R275): a served fault sets its WAITING ring
running; a fault older than FTMO ms fails with TIMEOUT, its first cause in ATU_CTX_LASTF; a walk without completion counts an
error and fails the descriptor; a PRG response frees an allocation, and translates the fault again, denies it, or denies all
and stops Page Requests; an ATS invalidation revokes the HOST ranges it covers at the next beat and is answered once running
descriptors are done; a descriptor that outlives an invalidation by 10 ms is stopped; a TLB flush empties the TLB. -/
def Obligations.RingFaults : Prop :=
  (∀ (s : State) (c q : Nat) (x : Queue) (d : Desc) (l : List Desc), c < 128 → q < 128 → s.queue? c q = some x →
    x.ring = .waiting → x.descs = d :: l →
    (d.phase = .held → exec (.ringFaultServed c q) s = .next (s.setQueue c q { x with ring := .running })) ∧
    (d.phase ≠ .held → ∃ t : State, exec (.ringFaultServed c q) s = .next t ∧ t.queue? c q = some x)) ∧
  (∀ (s : State) (c q : Nat) (x : Queue) (d : Desc) (r dva t : Nat) (sent : Bool), c < 128 → q < 128 →
    s.queue? c q = some x → x.descs = [d] → d.phase = .faulted r dva t sent →
    (t + 100000 * s.get (F.ATU_CTX_CFG_FTMO c) ≤ s.time → exec (.faultTimeout c q) s = .next
      ((((s.onQueue c q (fun y => y.onDesc d.idx (fun d => { d with phase := .failed rsnTimeout dva }))).noteFail c q
        rsnTimeout dva).settleRing c q).endFailed c q)) ∧
    (s.time < t + 100000 * s.get (F.ATU_CTX_CFG_FTMO c) → exec (.faultTimeout c q) s = .next s)) ∧
  (∀ (s : State) (c q : Nat) (x : Queue) (d : Desc), c < 128 → q < 128 → s.nextFresh c q = some (x, d) → x.typ = 2 →
    (s.get (F.ATU_CTX_CFG_SOURCE c) = 1 → ∃ dva, exec (.walkTimeout c q) s =
      .next ((((s.incSat F.ATU_CNT_WALK_ERR_CNT).raiseAtu 3).failDesc c q x d rsnWalk dva).settleRing c q)) ∧
    (s.get (F.ATU_CTX_CFG_SOURCE c) ≠ 1 → exec (.walkTimeout c q) s = .next s)) ∧
  (∀ (s : State) (c q code : Nat) (e : HostEnv), c < 128 → q < 128 → code < 16 → envOk e = true →
    (s.get F.ATU_PRI_OUT = 0 → exec (.prgResponse c q code e) s = .next s) ∧
    (s.get F.ATU_PRI_OUT ≠ 0 → code = 15 → exec (.prgResponse c q code e) s = .next (State.requestAll
      ((((s.put F.ATU_PRI_OUT (s.get F.ATU_PRI_OUT - 1)).put F.ATU_STATUS_PRI_STOPPED 1).raiseAtu 2).denyAll))) ∧
    (s.get F.ATU_PRI_OUT ≠ 0 → code ≠ 15 → (∀ x, s.queue? c q = some x → x.descs = []) →
      exec (.prgResponse c q code e) s = .next (s.put F.ATU_PRI_OUT (s.get F.ATU_PRI_OUT - 1)).requestAll)) ∧
  (∀ (s : State) (alloc : Nat) (ats : Bool), alloc ≤ 512 → exec (.priEnable alloc ats) s = .next (State.requestAll
    { (s.put F.ATU_PRI_ALLOC alloc).put F.ATU_STATUS_PRI_STOPPED 0 with atsOn := ats })) ∧
  (∀ (s : State) (pasid : Option Nat) (hva len : Nat) (e : HostEnv),
    (Instr.atsInvalidation pasid hva len e).wellFormed = true → s.atsSpans pasid hva len = [] →
    exec (.atsInvalidation pasid hva len e) s =
      .next (State.settleAts { s with atsPend := s.atsPend ++ [⟨pasid, hva, len, s.time⟩] })) ∧
  (∀ (s : State) (keys : List Nat), keys ≠ [] →
    s.revoke keys = State.raiseAtu { s with revoking := s.revoking ++ keys } 1 ∧
    (∀ key r, tfind s.ranges key = some r → key ∈ s.revoking → tfind s.revokeBeat.ranges key = some { r with revoked := true })) ∧
  (∀ (s : State) (n c q : Nat) (x : Queue) (d : Desc), n < 192 → s.activeRing n = some (c, q, x, d) → x.room = true →
    ((∃ a ∈ s.atsPend, d.startT ≤ a.since ∧ a.since + 1000000 ≤ s.time ∧
        ∃ y ∈ s.atsSpans a.pasid a.hva a.len, y.1 = c ∧ d.touches y.2.1 y.2.2 = true) →
      exec (.invalidateStop n) s = .next (((s.incSat F.ATU_CNT_INV_STOP).noteFail c q rsnInvalidated
        (d.field 0x10 8)).completeDesc HostEnv.none c q x d 3 rsnInvalidated 0 (d.field 0x10 8) none)) ∧
    (s.atsPend = [] → s.ctxCmds c = [] → exec (.invalidateStop n) s = .next s)) ∧
  (∀ (s : State) (e : HostEnv), envOk e = true → s.rings = [] →
    ∃ t : State, exec (.atuTlbFlush e) s = .next t ∧ t.tlb = [] ∧ t.walkCache = [] ∧ t.mem = s.mem ∧ t.regs = s.regs ∧
      t.ranges = s.ranges)

/-- The SRAM's own work and BAR4 (R243, R252, R447): BANK_ZERO_DONE makes the banks that were being zeroed usable; the scrubber
reads one word of a bank that is free and awake and rewrites it clean when it was corrected, and leaves a bank that is claimed
or asleep alone; a BAR4 access reads or writes device memory while debug is unlocked, and closed it reads 0 and takes nothing. -/
def Obligations.SramWork : Prop :=
  (∀ s : State, exec .bankZeroDone s = .next (bankZeroDone s).settle ∧ (bankZeroDone s).zeroing = [] ∧
    (bankZeroDone s).queues = s.queues ∧ (bankZeroDone s).plans = s.plans ∧ (bankZeroDone s).ranges = s.ranges) ∧
  (∀ (s : State) (la : Nat), (Instr.sramScrub la).wellFormed = true →
    (s.on (F.SRM_SCRUB_CFG_EN (bankDie (la / 0x20000))) = false ∨ s.bankHeld (la / 0x20000) = true ∨
      s.domOn (bankDomain (la / 0x20000)) = false → exec (.sramScrub la) s = .next s) ∧
    (bankDie (la / 0x20000) < 4 → s.on (F.SRM_SCRUB_CFG_EN (bankDie (la / 0x20000))) = true →
      s.bankHeld (la / 0x20000) = false → s.domOn (bankDomain (la / 0x20000)) = true →
      let t := s.eccRead ⟨0xB000 + bankDie (la / 0x20000), 0xFF, false, 0⟩ (la / 8 * 8)
      (∀ b, tfind s.ecc (la / 8 * 8) = some (.ce b) →
        exec (.sramScrub la) s = .next { t with ecc := tdel t.ecc (la / 8 * 8) }) ∧
      (tfind s.ecc (la / 8 * 8) = none → exec (.sramScrub la) s = .next t))) ∧
  (∀ (s : State) (off size v : Nat), (Instr.bar4Access off size true v).wellFormed = true →
    (Instr.bar4Access off size false v).wellFormed = true →
    (s.dbg = false → exec (.bar4Access off size true v) s = .next s ∧
      exec (.bar4Access off size false v) s = .next (s.emit (.read 0))) ∧
    (s.dbg = true →
      exec (.bar4Access off size true v) s = .next (s.writeBg ⟨0xC000, 0xFF, false, 0⟩ off (clean (leBytes size v))) ∧
      exec (.bar4Access off size false v) s = .next ((s.readBg ⟨0xC000, 0xFF, false, 0⟩ off size).2.emit
        (.read (leNat ((s.readBg ⟨0xC000, 0xFF, false, 0⟩ off size).1.map (·.1)))))))

/-- Models (R215 to R217): MODEL_LOAD makes an image that passes its checks resident under its ID and answers its hash; an image
that fails a check is refused with that check's status and DETAIL, a resident ID with ST_BAD_STATE, a store without room with
ST_REFUSED_MEMORY; MODEL_EVICT frees a model that no live plan references; MODEL_LIST writes 16 bytes for each model of the
context in the order of loading and answers how many it wrote and how many there are. -/
def Obligations.Models : Prop :=
  (∀ (s s1 : State) (c q : Nat) (x : Queue) (k : Cmd) (e : HostEnv) (raw b : Bytes), envOk e = true →
    Serves s c q 0x20 0 x k → pf k.par 8 8 % 64 = 0 → pf k.par 20 4 ≠ 0xFFFFFFFF →
    (bit (pf k.par 24 1) 0 = false → 128 ≤ pf k.par 16 4 ∧ pf k.par 16 4 ≤ 0x2000000 ∧ pf k.par 16 4 % 64 = 0) →
    (bit (pf k.par 24 1) 0 = true → 208 ≤ pf k.par 16 4 ∧ pf k.par 16 4 ≤ 0x2000000 + 80 ∧ pf k.par 25 1 ≤ 15) →
    s.cmdRead e c (pf k.par 8 8) (pf k.par 16 4) = (.ok raw, s1) →
    (∀ st, bit (pf k.par 24 1) 0 = true → s1.openModel (pf k.par 25 1) raw = .error st →
      exec (.modelLoad c q e) s = .next (s1.answered c q k st 0)) ∧
    ((bit (pf k.par 24 1) 0 = false → b = raw) → (bit (pf k.par 24 1) 0 = true → s1.openModel (pf k.par 25 1) raw = .ok b) →
      (∀ y, checkModel b = .error y → exec (.modelLoad c q e) s = .next (s1.answered c q k y.1 y.2)) ∧
      (∀ ls, checkModel b = .ok ls →
        ((s1.model? c (pf k.par 20 4)).isSome = true → exec (.modelLoad c q e) s = .next (s1.answered c q k stBadState 0)) ∧
        (s1.model? c (pf k.par 20 4) = none → s1.freeBlocks (ceilDiv b.length 4096) = none →
          exec (.modelLoad c q e) s = .next (s1.answered c q k stMemory 0)) ∧
        (∀ blocks, s1.model? c (pf k.par 20 4) = none → s1.freeBlocks (ceilDiv b.length 4096) = some blocks →
          exec (.modelLoad c q e) s = .next
            ((s1.storeModel c (pf k.par 20 4) (bit (pf k.par 24 1) 0) b ls blocks).answered c q k stOk (modelHash b)))))) ∧
  (∀ (s : State) (c id : Nat) (enc : Bool) (b : Bytes) (ls : List Layer) (blocks : List Nat),
    (s.storeModel c id enc b ls blocks).models = s.models ++ [⟨c, id, b.length, modelHash b, ls, enc, b, blocks⟩] ∧
    (s.storeModel c id enc b ls blocks).queues = s.queues ∧ (s.storeModel c id enc b ls blocks).plans = s.plans) ∧
  (∀ (s : State) (c q : Nat) (x : Queue) (k : Cmd) (e : HostEnv), envOk e = true → Serves s c q 0x21 0 x k →
    (s.model? c (pf k.par 8 4) = none → exec (.modelEvict c q e) s = .next (s.answered c q k stBadParam 0)) ∧
    (s.model? c (pf k.par 8 4) ≠ none → s.modelUsed c (pf k.par 8 4) = true →
      exec (.modelEvict c q e) s = .next (s.answered c q k stBadState 0)) ∧
    (s.model? c (pf k.par 8 4) ≠ none → s.modelUsed c (pf k.par 8 4) = false →
      exec (.modelEvict c q e) s = .next (State.answered
        { s with models := s.models.filter (fun m => !(m.c == c && m.id == pf k.par 8 4)) } c q k stOk 0))) ∧
  (∀ (s s1 : State) (c q : Nat) (x : Queue) (k : Cmd) (e : HostEnv) (g g1 : List Seg), envOk e = true →
    Serves s c q 0x22 0 x k → pf k.par 8 8 % 64 = 0 → s.pinned c (pf k.par 8 8) (pf k.par 16 4) 2 = some g →
    s.bringIn e c (pf k.par 8 8) (pf k.par 16 4) = (.ok (), s1) → s1.pinned c (pf k.par 8 8) (pf k.par 16 4) 2 = some g1 →
    let mine := s1.models.filter (fun m => m.c == c)
    let l := mine.take (pf k.par 16 4 / 16)
    exec (.modelList c q e) s = .next ((s1.writeSegs (Who.cpx c) g1 (clean (l.flatMap (fun m => leBytes 4 m.id ++
      leBytes 4 m.len ++ leBytes 4 m.hash ++ leBytes 2 m.layers.length ++
      leBytes 2 (b2n (s1.modelUsed c m.id) + 2 * b2n m.enc))))).answered c q k stOk (l.length + 65536 * mine.length)))

/-- The records of the engines, chain units and post-processing channels (R205 to R212, R222, R227, R231 to R236, R354, R360): a
record that is due runs on its unit, reads its inputs, writes its outputs and leaves its cycles in LASTCYC; a record whose unit
has failed, or whose domain is not ON, does not run and its items are FAULTED; one whose cycles exceed its ISSUE beats or whose
slack is spent is left for the shedding rules. Queues, contexts and models stay. -/
def Obligations.EngineRecords : Prop :=
  (∀ (s : State) (r : RecRun) (a : Act), runOk r = true → s.due? r 1 = some a →
    let log := a.plan.img.recUnit a.rcd 1
    (s.engSick (log / 15) (s.physOf log) = true ∨ s.actDomains a = false →
      exec (.tineRun r) s = .next ((s.faultAct a).markRan r)) ∧
    (∀ m bi bo, s.engSick (log / 15) (s.physOf log) = false → s.actDomains a = true →
      s.recModel r.c a.plan.img a.rcd = some m → s.actBuf a a.rcd.inBuf = some bi → s.actBuf a a.rcd.outBuf = some bo →
      (s.tineCyc r a m ≤ 6000 * a.rcd.issue → (r.item = true → s.slackSpent a = false) →
        exec (.tineRun r) s = .next (s.tineWork r a m bi bo)) ∧
      (6000 * a.rcd.issue < s.tineCyc r a m ∨ (r.item = true ∧ s.slackSpent a = true) → exec (.tineRun r) s = .next s))) ∧
  (∀ (s : State) (r : RecRun) (a : Act), runOk r = true → s.due? r 2 = some a →
    let u := a.plan.img.recUnit a.rcd 2
    (s.unitFailed (0x1000 + u) a.start = true ∨ s.actDomains a = false →
      exec (.chainOp r) s = .next ((s.faultAct a).markRan r)) ∧
    (∀ k bi bo, s.unitFailed (0x1000 + u) a.start = false → s.actDomains a = true →
      s.copy? r.c r.h (0x1000 + u) a.rcd.prog = some k → s.actBuf a a.rcd.inBuf = some bi → s.actBuf a a.rcd.outBuf = some bo →
      s.chainCyc r a k ≤ 6000 * a.rcd.issue → (r.item = true → s.slackSpent a = false) →
      exec (.chainOp r) s = .next (s.chainWork r a k bi bo))) ∧
  (∀ (s : State) (r : RecRun) (a : Act), runOk r = true → s.due? r 3 = some a →
    let ch := a.plan.img.recUnit a.rcd 3
    (s.unitFailed (0x2000 + ch) a.start = true ∨ s.actDomains a = false →
      exec (.ppuSort r) s = .next ((s.faultAct a).markRan r)) ∧
    (∀ bi bo, s.unitFailed (0x2000 + ch) a.start = false → s.actDomains a = true → s.actBuf a a.rcd.inBuf = some bi →
      s.actBuf a a.rcd.outBuf = some bo → s.sortCyc r a ≤ 6000 * a.rcd.issue → (r.item = true → s.slackSpent a = false) →
      exec (.ppuSort r) s = .next (s.sortWork r a bi bo))) ∧
  (∀ (s : State) (r : RecRun) (a : Act), runOk r = true → s.due? r 4 = some a →
    let ch := a.plan.img.recUnit a.rcd 3
    (s.unitFailed (0x2000 + ch) a.start = true ∨ s.actDomains a = false →
      exec (.ppuDetect r) s = .next ((s.faultAct a).markRan r)) ∧
    (∀ k bi bo, s.unitFailed (0x2000 + ch) a.start = false → s.actDomains a = true →
      s.copy? r.c r.h (0x2000 + ch) a.rcd.anch = some k → s.actBuf a a.rcd.inBuf = some bi → s.actBuf a a.rcd.outBuf = some bo →
      s.detectCyc r a ≤ 6000 * a.rcd.issue → (r.item = true → s.slackSpent a = false) →
      exec (.ppuDetect r) s = .next (s.detectWork r a k bi bo))) ∧
  (∀ (s : State) (r : RecRun) (a : Act) (m : Model) (bi bo : Buf),
    let log := a.plan.img.recUnit a.rcd 1
    (a.rcd.freq = false →
      (s.tineWork r a m bi bo).rd (R.TINE_LASTCYC (log / 15) (s.physOf log)) = s.tineCyc r a m % 2 ^ 32) ∧
    (s.tineWork r a m bi bo).queues = s.queues ∧ (s.tineWork r a m bi bo).ctxs = s.ctxs ∧
    (s.tineWork r a m bi bo).models = s.models ∧ (s.tineWork r a m bi bo).ranges = s.ranges) ∧
  (∀ (s : State) (r : RecRun) (a : Act) (bi bo : Buf),
    let ch := a.plan.img.recUnit a.rcd 3
    (s.sortWork r a bi bo).rd (R.PPU_S_LASTCYC (ch / 2)) = s.sortCyc r a % 2 ^ 32 ∧
    (s.sortWork r a bi bo).queues = s.queues ∧ (s.sortWork r a bi bo).ctxs = s.ctxs ∧
    (s.sortWork r a bi bo).models = s.models ∧ (s.sortWork r a bi bo).ranges = s.ranges)

/-- The order of a PPU_SORT record (R231): the pairs are those read, ordered by value, descending with ORDER 0 and ascending with
ORDER 1, and pairs of equal value by ascending index; and the rounds of a PPU_DETECT record (R235): OUT_MAX entries, taken from
the candidates in their order, none of which an earlier entry suppresses. -/
def Obligations.SortAndSuppress : Prop :=
  (∀ (n : Nat) (d : List PByte),
    (sortPairs false (scorePairs n d)).Perm (scorePairs n d) ∧ (sortPairs true (scorePairs n d)).Perm (scorePairs n d) ∧
    (sortPairs false (scorePairs n d)).Pairwise (fun a b => b.1 < a.1 ∨ (a.1 = b.1 ∧ a.2.1 < b.2.1)) ∧
    (sortPairs true (scorePairs n d)).Pairwise (fun a b => a.1 < b.1 ∨ (a.1 = b.1 ∧ a.2.1 < b.2.1))) ∧
  (∀ (th n : Nat) (l : List Box), (suppress th n l).length = n ∧ ((suppress th n l).filterMap id).Sublist l ∧
    ((suppress th n l).filterMap id).Pairwise (fun a b => a.suppressed th b = false))

/-- Spare engines (R213, R214, R354, R355, R357, R363, R368): at its boundary a due rotation step makes the spare SHADOW and begins
the copy, which takes 16.384 beats; at the swap the spare becomes ACTIVE under the target's logical number, TINE_MAP shows it, and
the target goes to its self-test; a replacement copies the fenced engine's banks and at its swap the fenced engine is FAILED,
the die has no spare and KIND 3 is logged; a self-test ends 200 beats after its start with its result in TINE_BIST;
SELFTEST_RUN of an engine that no live plan claims starts one and waits. -/
def Obligations.SpareEngines : Prop :=
  (∀ (s : State) (e t : Nat), e < 2 → s.nextTarget e = some t →
    ((s.engDie e).due = true → s.on (F.TINE_ROTCFG_ROT_EN e) = true → s.spareIdle e = true → (s.engDie e).fenced = [] →
      s.engRole e t = 0 → s.engineBoundary (s.logicalOf e t) = true →
      exec (.rotationStepBegin e) s = .next ((s.setRole e (s.spareOf e) 2 31).onDie e
        (fun d => { d with due := false, target := some t, copying := some t, copyT := s.time, copied := false }))) ∧
    ((s.engDie e).due = false ∨ s.on (F.TINE_ROTCFG_ROT_EN e) = false ∨ s.engineBoundary (s.logicalOf e t) = false →
      exec (.rotationStepBegin e) s = .next s)) ∧
  (∀ (s : State) (e n : Nat), e < 2 → (s.engDie e).copying = some n →
    ((s.engDie e).copied = false → (s.engDie e).copyT + 8192 ≤ s.time →
      exec (.shadowCopyDone e) s = .next ((s.copyEngine e n).onDie e (fun d => { d with copied := true }))) ∧
    ((s.engDie e).copied = true ∨ s.time < (s.engDie e).copyT + 8192 → exec (.shadowCopyDone e) s = .next s)) ∧
  (∀ (s : State) (e t : Nat), e < 2 → (s.engDie e).target = some t → (s.engDie e).copying = some t →
    (s.engDie e).copied = true → t ∉ (s.engDie e).fenced → s.engineBoundary (s.logicalOf e t) = true →
    exec (.spareSwap e) s = .next ((((s.takeOver e t).setRole e t 3 31).put (F.TINE_SPARE_PHYS e) t).onDie e
      (fun d => { d with tests := d.tests ++ [(t, s.time, 0)] }))) ∧
  (∀ (s : State) (e t : Nat), e < 2 → s.logicalOf e t < 30 → s.spareOf e < 16 →
    (s.takeOver e t).get (F.TINE_MAP_PHYS (s.logicalOf e t / 15) (s.logicalOf e t % 15)) = s.spareOf e ∧
    (s.takeOver e t).queues = s.queues ∧ (s.takeOver e t).plans = s.plans ∧ (s.takeOver e t).items = s.items) ∧
  (∀ (s : State) (e n : Nat), e < 2 → n < 16 →
    ((s.engDie e).fenced.head? = some n → s.spareIdle e = true → s.engineBoundary (s.logicalOf e n) = true →
      exec (.replacementBegin e n) s = .next (s.onDie e (fun d => { d with copying := some n, copyT := s.time, copied := false }))) ∧
    ((s.engDie e).fenced.head? ≠ some n ∨ s.spareIdle e = false → exec (.replacementBegin e n) s = .next s)) ∧
  (∀ (s : State) (e n : Nat), e < 2 → (s.engDie e).copying = some n → (s.engDie e).copied = true →
    n ∈ (s.engDie e).fenced → s.engineBoundary (s.logicalOf e n) = true →
    let u := (((s.takeOver e n).setRole e n 4 31).put (F.TINE_SPARE_VALID e) 0).onDie e
      (fun d => { d with fenced := d.fenced.filter (· != n) })
    let r : LogRec := { det := 0x20 + 16 * e + n, kind := 3, level := 2, unit := 16 * e + n, sub := s.logicalOf e n,
                        info := s.spareOf e }
    exec (.replacementSwap e) s = .next ((u.log { r with ctx := u.engineCtx (s.logicalOf e n) }).raiseFmu 5)) ∧
  (∀ (s : State) (e n : Nat) (pass : Bool), e < 2 → n < 16 →
    ((∀ y ∈ (s.engDie e).tests, y.1 = n → s.time < y.2.1 + 100000) → exec (.engineSelftestDone e n pass) s = .next s) ∧
    (∀ y, (s.engDie e).tests.find? (fun y => y.1 == n && decide (y.2.1 + 100000 ≤ s.time)) = some y → y.2.2 = 0 →
      pass = true → s.injecting (0x5E + e) = false →
      exec (.engineSelftestDone e n pass) s = .next ((((s.setBist e n true).scramble (engLa e n) (16 * 0x20000)).onDie e
        (fun d => { d with tests := d.tests.filter (fun z => z.1 != n) })).setRole e n 1 31))) ∧
  (∀ (s : State) (e n : Nat) (pass : Bool), (s.setBist e n pass).get (F.TINE_BIST_DONE e n) = 1 ∧
    (s.setBist e n pass).get (F.TINE_BIST_PASS e n) = b2n pass ∧
    (s.setBist e n pass).get (F.TINE_BIST_RUNS e n) = (s.get (F.TINE_BIST_RUNS e n) + 1) % 2 ^ 16) ∧
  (∀ (s : State) (c q : Nat) (x : Queue) (k : Cmd) (e : HostEnv), envOk e = true → Serves s c q 0x82 0 x k →
    let i := pf k.par 9 1
    (pf k.par 8 1 = 0 → i < 32 → s.engineClaimed (i / 16) (i % 16) = false → s.engRole (i / 16) (i % 16) ≠ 2 →
      s.engRole (i / 16) (i % 16) ≠ 3 → (s.engDie (i / 16)).copying = none → (s.engDie (i / 16)).tests = [] →
      exec (.selftestRun c q e) s = .next ((s.onDie (i / 16)
        (fun d => { d with tests := d.tests ++ [(i % 16, s.time, 2)] })).waits c q k .selftest)) ∧
    (pf k.par 8 1 = 0 → i < 32 → s.engineClaimed (i / 16) (i % 16) = true ∨ s.engRole (i / 16) (i % 16) = 2 ∨
      s.engRole (i / 16) (i % 16) = 3 → exec (.selftestRun c q e) s = .next (s.answered c q k stBadState 0)) ∧
    ((pf k.par 8 1 = 1 ∧ i < 8) ∨ (pf k.par 8 1 = 2 ∧ i < 4) →
      (s.claimed (pf k.par 8 1 + 1) i = false →
        exec (.selftestRun c q e) s = .next (s.waits c q k (.atBeat (s.beat + 20)))) ∧
      (s.claimed (pf k.par 8 1 + 1) i = true → exec (.selftestRun c q e) s = .next (s.answered c q k stBadState 0))))

/-- Encoders (R100 to R107): a filtered change of one of A and B counts POS one up or down, by the direction the change and
DIR_INV give; a change of both is a quadrature error: it counts QERR, raises QLVL, and at QERR_LIM enters ENC_LOST; a disabled
or lost encoder does not count; the Z edge of Z_POL captures POS in ZPOS and sets a mark when POS is not behind HWM and beyond
the mark before; after STOP_US without a count the web is STOPPED; RELOCK ends ENC_LOST with POS set to HWM. -/
def Obligations.Encoders : Prop :=
  (∀ (s : State) (n held : Nat) (a b : Bool), n < 4 →
    let e := s.enc n
    let u := s.setEnc n { e with a := a, b := b }
    (s.padIn = false ∨ held < s.get (F.LIO_ENC_CFG_FILT n) + 1 → exec (.encCount n a b held) s = .next s) ∧
    (s.padIn = true → s.get (F.LIO_ENC_CFG_FILT n) + 1 ≤ held →
      (s.on (F.LIO_ENC_CFG_EN n) = false ∨ s.encLost n = true ∨ (e.a = a ∧ e.b = b) → exec (.encCount n a b held) s = .next u) ∧
      (s.on (F.LIO_ENC_CFG_EN n) = true → s.encLost n = false → e.a ≠ a → e.b ≠ b →
        exec (.encCount n a b held) s = .next (u.quadError n)) ∧
      (s.on (F.LIO_ENC_CFG_EN n) = true → s.encLost n = false → e.a ≠ a → e.b = b →
        exec (.encCount n a b held) s =
          .next (u.countOne n (xor ((a != b) == Config.aLeadsUp) (s.on (F.LIO_ENC_CFG_DIR_INV n))))) ∧
      (s.on (F.LIO_ENC_CFG_EN n) = true → s.encLost n = false → e.a = a → e.b ≠ b →
        exec (.encCount n a b held) s =
          .next (u.countOne n (xor ((a == b) == Config.aLeadsUp) (s.on (F.LIO_ENC_CFG_DIR_INV n))))))) ∧
  (∀ (s : State) (n : Nat) (up : Bool), n < 4 →
    ((s.countOne n up).enc n).pos = sint 64 (uint 64 ((s.enc n).pos + if up then 1 else -1)) ∧
    ((s.countOne n up).enc n).hwm = (s.enc n).hwm ∧ ((s.countOne n up).enc n).lastCount = s.time ∧
    (s.countOne n up).getBit F.LIO_STATUS_STOPPED n = false ∧
    ((s.enc n).dir = some (!up) →
      (s.countOne n up).get (F.LIO_ENC_CNT_REVERSALS n) = min (s.get (F.LIO_ENC_CNT_REVERSALS n) + 1) (2 ^ 16 - 1)) ∧
    (∀ m, m ≠ n → (s.countOne n up).enc m = s.enc m) ∧ (s.countOne n up).mem = s.mem ∧
    (s.countOne n up).plans = s.plans ∧ (s.countOne n up).items = s.items) ∧
  (∀ (s : State) (n : Nat), s.get (F.LIO_ENC_CFG_QERR_LIM n) = 0 →
    (s.quadError n).get (F.LIO_ENC_STAT_QLVL n) = min (s.get (F.LIO_ENC_STAT_QLVL n) + 1) 255 ∧
    ((s.quadError n).enc n).pos = (s.enc n).pos) ∧
  (∀ (s : State) (n held : Nat) (z : Bool), n < 4 → s.padIn = true → s.get (F.LIO_ENC_CFG_FILT n) + 1 ≤ held →
    let e := s.enc n
    (e.z = z → exec (.encZEdge n z held) s = .next s) ∧
    (e.z ≠ z → s.on (F.LIO_ENC_CFG_EN n) = true → s.on (F.LIO_ENC_CFG_Z_EN n) = true → z ≠ s.on (F.LIO_ENC_CFG_Z_POL n) →
      (e.hwm ≤ e.pos → (∀ p, e.prevZ = some p → p < e.pos) → exec (.encZEdge n z held) s =
        .next (State.mark ((((s.setEnc n { e with z := z }).wr (R.LIO_ENC_ZPOS n) (uint 64 e.pos)).setEnc n
          { e with z := z, prevZ := some e.pos })) 2 n 0 (tf64 s.time) (fun _ => e.pos))) ∧
      (e.pos < e.hwm → exec (.encZEdge n z held) s =
        .next ((s.setEnc n { e with z := z }).wr (R.LIO_ENC_ZPOS n) (uint 64 e.pos))))) ∧
  (∀ (s : State) (n : Nat), n < 4 →
    (s.on (F.LIO_ENC_CFG_EN n) = true → s.getBit F.LIO_STATUS_STOPPED n = false →
      (s.enc n).lastCount + s.get (F.LIO_ENC_STOP_STOP_US n) * 100 ≤ s.time →
      exec (.webStopped n) s = .next ((s.putBit F.LIO_STATUS_STOPPED n true).raiseLio 0)) ∧
    (s.on (F.LIO_ENC_CFG_EN n) = false ∨ s.getBit F.LIO_STATUS_STOPPED n = true ∨
      s.time < (s.enc n).lastCount + s.get (F.LIO_ENC_STOP_STOP_US n) * 100 → exec (.webStopped n) s = .next s) ∧
    (s.ready = true → s.encLost n = true → s.herdState ≠ 2 → ∃ t : State, exec (.lioEncRelock n) s = .next t ∧
      (t.enc n).pos = (s.enc n).hwm ∧ (t.enc n).hwm = (s.enc n).hwm ∧ t.encLost n = false ∧ t.get (F.LIO_ENC_STAT_QLVL n) = 0 ∧
      (∀ m, m ≠ n → t.enc m = s.enc m) ∧ t.plans = s.plans ∧ t.mem = s.mem) ∧
    (s.encLost n = false → exec (.lioEncRelock n) s = .next s))

/-- Line inputs and outputs (R108 to R115, R157): an active edge of an input with MIN_US 0 and EDGE 0 or 2 is captured at its raw
time, in LIi_LAST and as a mark; an inactive edge ends the period, and a stuck input; a period longer than MAX_MS is STUCK;
the first due entry of an output fires its pulse and is removed; a pulse ends after its ticks, and one that fires during
another joins it; FORCE fires a pulse on an unclaimed output; a STROBE record with REF 0 sends its train from its beat. -/
def Obligations.LineInputsOutputs : Prop :=
  (∀ (s : State) (i held phase : Nat) (level : Bool), i < 8 → phase < 4 →
    let act := level != s.on (F.LIO_LI_CFG_POL i)
    let l := s.lineIn i
    let t := (4 * s.time + phase - (s.get (F.LIO_LI_CFG_FILT i) + 1)) / 4
    (s.padIn = false ∨ held < s.get (F.LIO_LI_CFG_FILT i) + 1 ∨ l.active = act → exec (.liEdge i level held phase) s = .next s) ∧
    (s.padIn = true → s.get (F.LIO_LI_CFG_FILT i) + 1 ≤ held → l.active = false → act = true →
      (s.get (F.LIO_LI_CFG_MIN_US i) = 0 → s.get (F.LIO_LI_CFG_EDGE i) = 0 ∨ s.get (F.LIO_LI_CFG_EDGE i) = 2 →
        exec (.liEdge i level held phase) s =
          .next ((s.setLineIn i { l with active := true, since := t, held := none }).liCapture i t (s.hwmsAt t))) ∧
      (s.get (F.LIO_LI_CFG_EDGE i) = 1 →
        exec (.liEdge i level held phase) s = .next (s.setLineIn i { l with active := true, since := t, held := none }))) ∧
    (s.padIn = true → s.get (F.LIO_LI_CFG_FILT i) + 1 ≤ held → l.active = true → act = false →
      (s.getBit F.LIO_STATUS_STUCK i = true → exec (.liEdge i level held phase) s =
        .next ((s.setLineIn i { l with active := false, held := none }).putBit F.LIO_STATUS_STUCK i false)) ∧
      (s.getBit F.LIO_STATUS_STUCK i = false → t < l.since + s.get (F.LIO_LI_CFG_MIN_US i) * 100 →
        exec (.liEdge i level held phase) s =
          .next (s.setLineIn i { l with active := false, held := none, short := l.short + 1 })))) ∧
  (∀ (s : State) (i t : Nat) (h : List Int), (s.liCapture i t h).rd (R.LIO_LI_LAST i) = t % 2 ^ 64 ∧
    ((s.liCapture i t h).lineIn i).capT = some s.time ∧ (s.liCapture i t h).mem = s.mem ∧
    (s.liCapture i t h).items = s.items) ∧
  (∀ (s : State) (i : Nat), i < 8 →
    ((s.lineIn i).active = true → 0 < s.get (F.LIO_LI_CFG_MAX_MS i) →
      (s.lineIn i).since + s.get (F.LIO_LI_CFG_MAX_MS i) * 100000 < s.time → s.getBit F.LIO_STATUS_STUCK i = false →
      exec (.liStuck i) s =
        .next (((s.putBit F.LIO_STATUS_STUCK i true).setLineIn i { s.lineIn i with held := none }).raiseLio 4)) ∧
    ((s.lineIn i).active = false ∨ s.get (F.LIO_LI_CFG_MAX_MS i) = 0 ∨
      s.time ≤ (s.lineIn i).since + s.get (F.LIO_LI_CFG_MAX_MS i) * 100000 → exec (.liStuck i) s = .next s)) ∧
  (∀ (s : State) (j : Nat), j < 16 →
    (∀ k x, findIdx (s.entryDue ·) 0 (s.lineOut j).pend = some k → (s.lineOut j).pend[k]? = some x →
      exec (.outputFire j) s =
        .next ((s.setLineOut j { s.lineOut j with pend := (s.lineOut j).pend.eraseIdx k }).firePulse j x.pulse)) ∧
    ((∀ x ∈ (s.lineOut j).pend, s.entryDue x = false) → exec (.outputFire j) s = .next s) ∧
    (∀ e, (s.lineOut j).pulseEnd = some e →
      (e ≤ s.time → exec (.outputPulseEnd j) s = .next (s.setLineOut j { s.lineOut j with pulseEnd := none })) ∧
      (s.time < e → exec (.outputPulseEnd j) s = .next s))) ∧
  (∀ (s : State) (j len : Nat), j < 16 → len < 2 ^ 20 →
    (s.ready = true → s.claimed 8 j = false → 1 ≤ len → len ≤ 1000000 → exec (.lioLoForce j len) s = .next (s.firePulse j len)) ∧
    (s.claimed 8 j = true ∨ len = 0 ∨ 1000000 < len → exec (.lioLoForce j len) s = .next s)) ∧
  (∀ (s : State) (j len : Nat),
    (s.pulseActive j = false → ((s.firePulse j len).lineOut j).pulseEnd = some (s.time + 2 + len) ∧
      (s.firePulse j len).get (F.LIO_LO_FIRED_FIRED j) = (s.get (F.LIO_LO_FIRED_FIRED j) + 1) % 2 ^ 32) ∧
    (∀ e, (s.lineOut j).pulseEnd = some e → s.time < e →
      ((s.firePulse j len).lineOut j).pulseEnd = some (max (s.time + 2 + len) e) ∧
      (s.firePulse j len).get (F.LIO_LO_CNT1_MERGE j) = min (s.get (F.LIO_LO_CNT1_MERGE j) + 1) (2 ^ 16 - 1)) ∧
    ((s.firePulse j len).lineOut j).pend = (s.lineOut j).pend ∧ (s.firePulse j len).mem = s.mem ∧
    (s.firePulse j len).items = s.items) ∧
  (∀ (s : State) (r : RecRun) (a : Act), runOk r = true → s.due? r 8 = some a → s.beat = a.start →
    (s.actDomains a = false → exec (.strobe r) s = .next ((s.faultAct a).markRan r)) ∧
    (s.actDomains a = true → bits a.rcd.op0 3 2 = 0 → exec (.strobe r) s =
      .next ((s.markRan r).sendTrain a.rcd.op0 a.rcd.op1 a.rcd.op2 (tickTf (a.start * 500)))) ∧
    (∀ y, s.actDomains a = true → bits a.rcd.op0 3 2 ≠ 0 →
      s.fabric.find? (fun y => y.fire && y.line == bits a.rcd.op0 9 4 && y.beat == s.beat) = some y →
      exec (.strobe r) s = .next ((s.markRan r).sendTrain a.rcd.op0 a.rcd.op1 a.rcd.op2 y.lo)))

/-- Event ports (R40, R43, R45, R46, R120 to R122, R145 to R147): EVP_CONFIG disables a port, enables it with a checked block or
replaces its groups and profiles, unless a live plan uses it; EVP_MASK_LOAD loads its mask; a long packet with a wrong CRC is
dropped whole and one with a wrong header is counted; a short packet changes nothing but a count; the port's lanes show in
EVP_Pn_PHY; a mapper that hears no TIME_HIGH word for 1,024 microseconds starts over or leaves LOCKED; at the end of a window
it takes a new mapping, and after 16 good windows it is LOCKED. -/
def Obligations.EventPorts : Prop :=
  (∀ (s : State) (c q : Nat) (x : Queue) (k : Cmd) (e : HostEnv), envOk e = true →
    let p := pf k.par 8 1
    (Serves s c q 0x60 0 x k → p ≤ 3 → pf k.par 24 4 = 0 →
      (s.portInUse p = false → exec (.evpConfigDisable c q e) s = .next ((s.portDisable p).answered c q k stOk 0)) ∧
      (s.portInUse p = true → exec (.evpConfigDisable c q e) s = .next (s.answered c q k stBadState 0))) ∧
    (∀ s1 b, Serves s c q 0x60 1 x k → p ≤ 3 → pf k.par 16 8 % 64 = 0 → pf k.par 24 4 = 1024 → s.portInUse p = false →
      s.cmdRead e c (pf k.par 16 8) 1024 = (.ok b, s1) →
      (blockOk { EvpPort.init with blk := leNat b } = true →
        exec (.evpConfigEnable c q e) s = .next ((s1.portEnable p (leNat b)).answered c q k stOk 0)) ∧
      (blockOk { EvpPort.init with blk := leNat b } = false →
        exec (.evpConfigEnable c q e) s = .next (s1.answered c q k stBadParam 0))) ∧
    (∀ s1 b, Serves s c q 0x60 2 x k → p ≤ 3 → pf k.par 16 8 % 64 = 0 → pf k.par 24 4 = 1024 → s.portInUse p = false →
      s.cmdRead e c (pf k.par 16 8) 1024 = (.ok b, s1) → blockOk { EvpPort.init with blk := leNat b } = true →
      let y : EvpPort := { s1.port p with blk := putBits (s1.port p).blk (8 * 0x3C0 - 1) (8 * 0xC0) (leNat b >>> (8 * 0xC0)) }
      let z : EvpPort := { y with tracks := y.tracks.filter (fun t => y.groupOn t.2.group) }
      exec (.evpConfigGroups c q e) s = .next (((s1.setPort p z).showTracks p).answered c q k stOk 0)) ∧
    (∀ s1 b, Serves s c q 0x61 0 x k → p ≤ 3 → pf k.par 9 1 ≤ 1 → pf k.par 16 8 % 64 = 0 → s.portOn p = true →
      s.portInUse p = false → pf k.par 24 4 = ceilDiv ((s.port p).width * (s.port p).height) 8 →
      s.cmdRead e c (pf k.par 16 8) (pf k.par 24 4) = (.ok b, s1) →
      exec (.evpMaskLoad c q e) s = .next ((s1.loadMask p (pf k.par 9 1) b).answered c q k stOk 0))) ∧
  (∀ (s : State) (p : Nat) (k : CsiPacket), p < 4 →
    (s.portOn p = false ∨ s.domOn (29 + p) = false → exec (.csi2LongPacket p k) s = .next s ∧
      exec (.csi2ShortPacket p k) s = .next s) ∧
    (s.portOn p = true → s.domOn (29 + p) = true →
      (2 ≤ k.ecc ∨ (k.ecc = 0 ∧ (k.vc ≠ (s.port p).flag 9 8 ∨ k.dt < 0x30 ∨ 0x38 ≤ k.dt)) →
        exec (.csi2LongPacket p k) s = .next (s.evpCount p 3)) ∧
      (k.ecc = 0 → k.vc = (s.port p).flag 9 8 → 0x30 ≤ k.dt → k.dt < 0x38 →
        bit ((s.port p).flag 23 16) (k.dt - 0x30) = true → k.payload.length % 4 = 0 →
        (k.crcOk = false → exec (.csi2LongPacket p k) s =
          .next (((s.evpCount p 4).raiseEvp 1).setPort p { s.port p with crcWait := true, gap := true })) ∧
        (k.crcOk = true → exec (.csi2LongPacket p k) s =
          .next ((payloadWords (k.payload.length / 4) k.payload).foldl (fun t w => t.csiWord p w) s))) ∧
      (k.ecc = 1 → exec (.csi2ShortPacket p k) s = .next (s.evpCount p 5)) ∧
      (k.ecc ≠ 1 → exec (.csi2ShortPacket p k) s = .next s))) ∧
  (∀ (s : State) (p st lanes : Nat) (deskew : Bool), p < 4 → st < 4 → lanes < 5 → s.domOn (29 + p) = true →
    ∃ t : State, exec (.dphyStateChange p st lanes deskew) s = .next t ∧ t.get (F.EVP_P_PHY_STATE p) = st ∧
      t.get (F.EVP_P_PHY_LANES p) = lanes ∧ t.get (F.EVP_P_PHY_DESKEW p) = b2n deskew ∧
      (t.getBit F.EVP_STATUS_HS p = true ↔ st = 2) ∧ t.mem = s.mem ∧ t.ports = s.ports) ∧
  (∀ (s : State) (p : Nat), p < 4 →
    let m := (s.port p).mapper
    let st := s.get (F.CLK_SMAP_STATE_STATE p)
    ((st = 1 ∨ st = 2) → m.tick + 102400 ≤ s.time →
      exec (.mapperSilent p) s = .next ((s.setMapper p { m with tick := s.time }).desync p 3)) ∧
    ((st ≠ 1 ∧ st ≠ 2) ∨ s.time < m.tick + 102400 → exec (.mapperSilent p) s = .next s) ∧
    ((st ≠ 1 ∧ st ≠ 2) ∨ m.restart = true ∨ m.s < m.win + 992 → exec (.mapperWindowClose p) s = .next s) ∧
    (∀ o y t, st = 1 → m.restart = false → m.win + 992 ≤ m.s → m.least = some (o, y, t) →
      let mins := ((y, t) :: m.mins).take 16
      let d := driftOf (fitSlope mins)
      let off : Int := (t : Int) - mapTime 0 d y
      let u := ((s.wr (R.CLK_SMAP_OFFSET p) (uint 64 off)).wr (R.CLK_SMAP_DRIFT p) (uint 32 d)).setMapper p
        { m with mins := mins, least := none, win := m.win + 1024, maps := ((m.win + 1024, off, d) :: m.maps).take 4 }
      d ≤ 200000 → -200000 ≤ d →
      (s.get (F.CLK_SMAP_STATE_GOOD_WIN p) < 15 → exec (.mapperWindowClose p) s =
        .next (u.put (F.CLK_SMAP_STATE_GOOD_WIN p) (s.get (F.CLK_SMAP_STATE_GOOD_WIN p) + 1))) ∧
      (15 ≤ s.get (F.CLK_SMAP_STATE_GOOD_WIN p) → exec (.mapperWindowClose p) s =
        .next (((u.put (F.CLK_SMAP_STATE_GOOD_WIN p) 16).put (F.CLK_SMAP_STATE_STATE p) 2).putBit F.EVP_STATUS_LOCKED p true)))) ∧
  (∀ (s : State) (p reason : Nat), p < 4 → reason < 4 → s.locked p = true →
    (s.desync p reason).get (F.CLK_SMAP_STATE_STATE p) = 3 ∧ (s.desync p reason).get (F.CLK_SMAP_STATE_REASON p) = reason ∧
    ((s.desync p reason).port p).tracks = [] ∧ (s.desync p reason).getBit F.EVP_STATUS_LOCKED p = false ∧
    (s.desync p reason).mem = s.mem)

/-- The event pipeline and the trigger fabric (R127 to R144, R157): a FIFO word that is a TIME_HIGH word moves the exit time, an
event of a port that is not LOCKED only counts for the rate, one at a masked pixel is counted so, and any other goes through
the pipeline at its mapped time; a track without association coasts, then is freed, and one that leaves the frame is freed; the
sweeper empties cells older than the exact span; a patch record's builder writes its patch in its last beat; a predict record
issues its window or misses; a window opens ARM at its start, fires once at t_f and is gone at its end. -/
def Obligations.EventPipeline : Prop :=
  (∀ (s : State) (p : Nat), p < 4 →
    ((s.port p).fifo = [] → exec (.eventProcess p) s = .next s) ∧
    (∀ w rest, (s.port p).fifo = (w, false) :: rest →
      let u := (s.setPort p { s.port p with fifo := rest }).put (F.EVP_P_FIFO_LEVEL p) rest.length
      (2 ^ 31 ≤ w → exec (.eventProcess p) s = .next (u.setPort p { s.port p with
        fifo := rest, exitS := (unwrap (s.port p).exitS (s.port p).exitRaw (bits w 28 0 * 32)).getD (bits w 28 0 * 32),
        exitRaw := bits w 28 0 * 32 })) ∧
      (w < 2 ^ 31 → s.locked p = false →
        exec (.eventProcess p) s = .next (u.setPort p { s.port p with fifo := rest, rate := (s.port p).rate + 1 })) ∧
      (∀ m0 off d, w < 2 ^ 31 → s.locked p = true →
        (s.port p).mapper.maps.find? (fun y => decide (y.1 ≤ (s.port p).exitS + bits w 7 3)) = some (m0, off, d) →
        let t := max (s.port p).mapper.lastEv (mapTime off d ((s.port p).exitS + bits w 7 3))
        let v := (u.setPort p { s.port p with fifo := rest, rate := (s.port p).rate + 1 }).setMapper p
          { (s.port p).mapper with lastEv := t }
        (v.masked p (bits w 29 19) (bits w 18 8) = true → exec (.eventProcess p) s = .next (v.evpCount p 6)) ∧
        (v.masked p (bits w 29 19) (bits w 18 8) = false →
          exec (.eventProcess p) s = .next (v.pipeline p (bits w 29 19) (bits w 18 8) (bits w 30 30) t))))) ∧
  (∀ (s : State) (p m : Nat) (y : Track), p < 4 → m < 256 → tfind (s.port p).tracks m = some y →
    let late := decide (y.since + (s.port p).grp y.group 0x12 2 * 100 ≤ s.time)
    let pos := y.at s.time
    let out := decide (pos.1 < 0) || decide (pos.2 < 0) || decide (16 * ((s.port p).width : Int) ≤ pos.1) ||
      decide (16 * ((s.port p).height : Int) ≤ pos.2)
    (late = false → exec (.trackCoastTimeout p m) s = .next s) ∧
    (late = true → y.st = 2 → exec (.trackCoastTimeout p m) s =
      .next (s.setTrack p m { y with st := 3, since := s.time, x := pos.1, y := pos.2, tLast := s.time })) ∧
    (late = true → y.st ≠ 2 → exec (.trackCoastTimeout p m) s = .next (s.freeTrack p m)) ∧
    (2 ≤ y.st → out = true → exec (.trackLeavesFrame p m) s = .next (s.freeTrack p m)) ∧
    (y.st < 2 ∨ out = false → exec (.trackLeavesFrame p m) s = .next s)) ∧
  (∀ (s : State) (p m : Nat), tfind ((s.freeTrack p m).port p).tracks m = none ∧ (s.freeTrack p m).mem = s.mem ∧
    (s.freeTrack p m).items = s.items ∧ (s.freeTrack p m).plans = s.plans) ∧
  (∀ (s : State) (p x y : Nat), p < 4 → x < 1280 → y < 800 →
    (s.portOn p = false → exec (.surfaceSweep p x y) s = .next s) ∧
    (s.portOn p = true → s.poisonedAt (surfLa p x y) = false →
      (∀ pol < 2, s.cell p x y pol = 0xFFFE ∨ s.cell p x y pol = 0xFFFF ∨
        (cellAge (surfTime (s.port p).unit s.time) (s.cell p x y pol)).isSome = true) →
      exec (.surfaceSweep p x y) s = .next s) ∧
    (s.portOn p = true → s.poisonedAt (surfLa p x y) = true →
      ∃ t : State, exec (.surfaceSweep p x y) s = .next t ∧ t.poisonedAt (surfLa p x y) = false ∧
        t.cell p x y 0 = 0xFFFE ∧ t.cell p x y 1 = 0xFFFE ∧ t.mem = s.mem)) ∧
  (∀ (s : State) (r : RecRun) (a : Act) (i : Item), runOk r = true → s.due? r 6 = some a → a.item = some i →
    bits a.rcd.op0 0 0 = 0 → s.actDomains a = true →
    (s.builders.find? (fun b => b.run == r) = none → s.beat = a.start → exec (.evpPatch r) s = .next (s.patchStart a i)) ∧
    (∀ b o, s.builders.find? (fun b => b.run == r) = some b → s.beat = b.last →
      let u : State := { s with builders := s.builders.filter (fun x => x.run != r) }
      u.actBuf a a.rcd.outBuf = some o → exec (.evpPatch r) s =
        .next ((((u.writeBuf (a.who (0x4000 + 16 * b.port + b.slot)) o 0 (clean b.bytes)).consume a o.revoked).evpCount
          b.port 15).markRan r)) ∧
    (∀ b, s.builders.find? (fun b => b.run == r) = some b → s.beat ≠ b.last → exec (.evpPatch r) s = .next s)) ∧
  (∀ (s : State) (r : RecRun) (a : Act) (i : Item) (ru : Rule), runOk r = true → s.due? r 6 = some a → a.item = some i →
    bits a.rcd.op0 0 0 = 1 → s.beat = a.start → a.plan.img.rules[i.rule]? = some ru →
    (s.predictBlind a ru = true → exec (.evpPredict r) s = .next ((s.markRan r).incompleteAct a)) ∧
    (s.predictBlind a ru = false →
      (s.predicted a i ru = none → exec (.evpPredict r) s = .next ((s.markRan r).predictMiss a)) ∧
      (∀ w, s.predicted a i ru = some w → exec (.evpPredict r) s = .next ((s.markRan r).issueWindow i w)))) ∧
  (∀ (s : State) (a : Act) (i : Item) (ru : Rule) (w : FabricWin), s.predicted a i ru = some w →
    (a.start * 500 + 2) * 8192 ≤ w.tf - w.hw * 8192 ∧ w.tf + w.hw * 8192 ≤ (a.start + a.rcd.span) * 500 * 8192 ∧
    w.line < 64 ∧ w.isOpen = false ∧ w.fired = false ∧
    ∀ v ∈ s.windows, v.line = w.line → w.tf + w.hw * 8192 + v.hw * 8192 < v.tf ∨ v.tf + v.hw * 8192 < w.tf - w.hw * 8192) ∧
  (∀ (s : State) (line : Nat), line < 64 →
    (∀ w, s.windows.find? (fun w => w.line == line && !w.isOpen && decide (w.tf < (s.time + 1 + w.hw) * 8192)) = some w →
      exec (.fabricArmOpen line) s = .next (State.armOpen
        { s with windows := s.windows.map (fun x => if x = w then { x with isOpen := true } else x) } line
        ((w.tf : Int) - (w.hw * 8192 : Nat)) (w.tf + w.hw * 8192 : Nat))) ∧
    (∀ w, s.windows.find? (fun w => w.line == line && w.isOpen && !w.fired && decide (w.tf < (s.time + 1) * 8192)) = some w →
      exec (.fabricFire line) s = .next (State.fire
        { s with windows := s.windows.map (fun x => if x = w then { x with fired := true } else x) } line w.tf)) ∧
    (∀ w, s.windows.find? (fun w => w.line == line && w.isOpen && decide (w.tf + w.hw * 8192 < (s.time + 1) * 8192)) = some w →
      exec (.fabricArmClose line) s = .next (State.putBit
        { s with windows := s.windows.filter (fun x => x != w) } F.ACQ_FAB_ARM_ARM line false)) ∧
    ((∀ w ∈ s.windows, w.line ≠ line) → exec (.fabricArmOpen line) s = .next s ∧ exec (.fabricFire line) s = .next s ∧
      exec (.fabricArmClose line) s = .next s))

/-- ACQ_CONFIG, ACQ_SYNC and ACQ_READOUT (R152, R153, R158, R167, R168, R174 to R176): STOP ends a background capture; APPLY takes a
block whose fields are in range on a channel that is OFF; START zeroes the region and begins to fill, with SEQ and OLDEST at 0;
FORCE takes a trigger at the present tick on an ARMED channel; PAIR joins or parts an even channel and the next; ACQ_SYNC
waits for its tick, at least 200 ticks away, while no channel is PLANNED; ACQ_READOUT copies stored segments and answers how
many. A channel in another state, or a background capture of another context, is ST_BAD_STATE. -/
def Obligations.AcquisitionCommands : Prop :=
  (∀ (s : State) (c q : Nat) (x : Queue) (k : Cmd) (e : HostEnv), envOk e = true → pf k.par 8 1 ≤ 7 →
    let n := pf k.par 8 1
    (Serves s c q 0x50 0 x k →
      (s.bgOther c n = false ∨ c = 0 → exec (.acqConfigStop c q e) s = .next ((s.acqStop n).answered c q k stOk 0)) ∧
      (s.bgOther c n = true → c ≠ 0 → exec (.acqConfigStop c q e) s = .next (s.answered c q k stBadState 0))) ∧
    (∀ s1 b, Serves s c q 0x50 1 x k → pf k.par 16 8 % 64 = 0 → pf k.par 24 4 = 832 → s.acqState n = 0 →
      s.cmdRead e c (pf k.par 16 8) 832 = (.ok b, s1) →
      (acqBlockOk (leNat b) = true → exec (.acqConfigApply c q e) s =
        .next ((s1.setAcq n { s1.acq n with blk := leNat b }).answered c q k stOk 0)) ∧
      (acqBlockOk (leNat b) = false → exec (.acqConfigApply c q e) s = .next (s1.answered c q k stBadParam 0))) ∧
    (Serves s c q 0x50 2 x k → pf k.par 10 1 ≤ 15 →
      let p := (s.acq n).profile (pf k.par 10 1)
      (s.acqState n ≠ 0 → exec (.acqConfigStart c q e) s = .next (s.answered c q k stBadState 0)) ∧
      (s.acqState n = 0 → pBgSrc p ≤ 2 → profileOk p = true →
        (∀ b ∈ (s.acq n).region, s.claimed 4 b = false ∧ ∀ m < 8, m ≠ n → b ∉ (s.acq m).region) →
        segBytes p (pLen p) ≤ (s.acq n).regionLen →
        exec (.acqConfigStart c q e) s = .next ((((((((s.zeroLa (s.acq n).regionLa (s.acq n).regionLen).setAcq n
          { s.acq n with cap := some (Capture.start p), segs := [] }).wr (R.ACQ_CH_SEQ n) 0).wr (R.ACQ_CH_OLDEST n) 0).put
          (F.ACQ_CH_STATE_OWNER n) c).setAcqState n 1)).answered c q k stOk 0))) ∧
    (Serves s c q 0x50 3 x k →
      (∀ y, s.acqState n = 2 → s.bgOther c n = false → (s.acq n).cap = some y →
        let r := s.takeTrigger n y (tickTf s.time) 1
        exec (.acqConfigForce c q e) s =
          .next (((r.2.setAcq n { s.acq n with cap := some r.1 }).setAcqState n 3).answered c q k stOk 0)) ∧
      (s.acqState n ≠ 2 ∨ s.bgOther c n = true → exec (.acqConfigForce c q e) s = .next (s.answered c q k stBadState 0))) ∧
    (Serves s c q 0x50 4 x k → n % 2 = 0 → pf k.par 11 1 ≤ 1 → s.bgOther c n = false → s.acqState n = 0 →
      s.acqState (n + 1) = (if s.paired n then 7 else 0) →
      (s.paired n = (pf k.par 11 1 == 1) → exec (.acqConfigPair c q e) s = .next (s.answered c q k stOk 0)) ∧
      (s.paired n ≠ (pf k.par 11 1 == 1) →
        exec (.acqConfigPair c q e) s = .next ((s.setPair n (pf k.par 11 1 == 1)).answered c q k stOk 0)))) ∧
  (∀ (s : State) (c q : Nat) (x : Queue) (k : Cmd) (e : HostEnv), envOk e = true → Serves s c q 0x52 0 x k →
    let t := if pf k.par 16 8 = 0 then s.time + 200 else pf k.par 16 8
    (t < s.time + 200 → exec (.acqSync c q e) s = .next (s.answered c q k stBadParam 0)) ∧
    (s.time + 200 ≤ t → (∃ n < 8, s.acqState n = 6) → exec (.acqSync c q e) s = .next (s.answered c q k stBadState 0)) ∧
    (s.time + 200 ≤ t → (∀ n < 8, s.acqState n ≠ 6) → exec (.acqSync c q e) s = .next (s.waits c q k (.atTick t)))) ∧
  (∀ (s s1 : State) (c q : Nat) (x : Queue) (k : Cmd) (e : HostEnv) (g g1 : List Seg), envOk e = true →
    Serves s c q 0x53 0 x k → pf k.par 8 1 ≤ 7 → 1 ≤ pf k.par 16 4 → pf k.par 16 4 ≤ 65536 → pf k.par 24 8 % 64 = 0 →
    let n := pf k.par 8 1
    let from_ := (s.acq n).segs.filter (fun y => pf k.par 12 4 == 0xFFFFFFFF || decide (pf k.par 12 4 ≤ y.1))
    (6 ≤ s.acqState n → exec (.acqReadout c q e) s = .next (s.answered c q k stBadState 0)) ∧
    (s.acqState n < 6 → s.bgOther c n = false → s.get (F.ACQ_CH_STATE_OWNER n) = c →
      s.pinned c (pf k.par 24 8) (pf k.par 32 4) 2 = some g →
      s.bringIn e c (pf k.par 24 8) (pf k.par 32 4) = (.ok (), s1) →
      s1.pinned c (pf k.par 24 8) (pf k.par 32 4) 2 = some g1 →
      (from_ = [] → 64 ≤ pf k.par 32 4 →
        exec (.acqReadout c q e) s = .next ((s1.writeSegs (Who.cpx c) g1 []).answered c q k stOk 0)) ∧
      (∀ y l, from_ = y :: l → pf k.par 32 4 < y.2.2 → exec (.acqReadout c q e) s = .next (s.answered c q k stBadParam 0)) ∧
      (∀ y l, from_ = y :: l → y.2.2 ≤ pf k.par 32 4 → pf k.par 16 4 = 1 →
        let r := s1.readBg (Who.cpx c) y.2.1 y.2.2
        (r.1.any (·.2) = true → exec (.acqReadout c q e) s = .next (r.2.answered c q k stPoisoned 0)) ∧
        (r.1.any (·.2) = false →
          exec (.acqReadout c q e) s = .next ((r.2.writeSegs (Who.cpx c) g1 r.1).answered c q k stOk 1)))))

/-- Captures (R153, R158 to R162, R166 to R173): a trigger reaches a PLANNED channel's records, else its background capture: ARMED it
is taken and the channel CAPTURES, FULL or busy it is counted; the fill ends ARMED; a re-armed channel fills again unless PRE is
0; the last point of a record stores it, the next record of the segment or the whole segment; an ACQ_ARM record takes its
recorders in its first beat and writes its block in its last; calibration converges; an SPI transfer starts while none is
busy and ends with the bits received. -/
def Obligations.Captures : Prop :=
  (∀ (s : State) (n src k : Nat) (xs : List (List Int)), n < 8 → src < 7 →
    (s.domOn (17 + n) = false → exec (.acqTrigger n src k xs) s = .next s) ∧
    (s.domOn (17 + n) = true → s.acqState n = 6 → exec (.acqTrigger n src k xs) s = .next (s.plannedTrigger n src k xs)) ∧
    (∀ x num den, s.domOn (17 + n) = true → s.acqState n ≠ 6 → (s.acq n).cap = some x → pBgSrc x.prof = src →
      s.trigTime n src k (pBgLine x.prof) x.prof xs = some (num, den) →
      (s.acqState n = 5 → exec (.acqTrigger n src k xs) s = .next (s.incSat (F.ACQ_CH_CNT1_FULL n))) ∧
      (s.acqState n ≠ 5 → x.heldOff (s.rawPeriod n) num den = true → exec (.acqTrigger n src k xs) s =
        .next ((s.setAcq n { s.acq n with cap := some x.held }).incSat (F.ACQ_CH_CNT0_HOLDOFF n))) ∧
      (s.acqState n ≠ 5 → s.acqState n ≠ 2 → x.heldOff (s.rawPeriod n) num den = false →
        exec (.acqTrigger n src k xs) s = .next (s.incSat (F.ACQ_CH_CNT0_BUSY n))) ∧
      (s.acqState n = 2 → x.heldOff (s.rawPeriod n) num den = false →
        let r := s.takeTrigger n x num den
        exec (.acqTrigger n src k xs) s = .next ((r.2.setAcq n { s.acq n with cap := some r.1 }).setAcqState n 3)))) ∧
  (∀ (s : State) (n : Nat), n < 8 →
    (s.acqState n = 1 → exec (.acqFillDone n) s = .next (s.setAcqState n 2)) ∧
    (s.acqState n ≠ 1 → exec (.acqFillDone n) s = .next s) ∧
    (∀ x, s.acqState n = 4 → (s.acq n).cap = some x →
      exec (.acqRearmDone n) s = .next (s.setAcqState n (if pPre x.prof = 0 then 2 else 1))) ∧
    (s.acqState n ≠ 4 → exec (.acqRearmDone n) s = .next s) ∧
    (s.cal n = 0 → s.domOn (17 + n) = true → exec (.acqCalTracking n) s = .next (s.setCal n 1)) ∧
    (s.cal n ≠ 0 ∨ s.domOn (17 + n) = false → exec (.acqCalTracking n) s = .next s)) ∧
  (∀ (s : State) (n rec_ : Nat) (v : List Int) (x : Capture) (tk : Int), n < 8 → rec_ < 4 → s.acqState n = 3 →
    (s.acq n).cap = some x → x.cur = some tk →
    (tickTf (s.time + 1) ≤ s.captureEnd n x tk → exec (.acqSegmentDone n rec_ v) s = .next s) ∧
    (s.captureEnd n x tk < tickTf (s.time + 1) →
      let y : Capture := { x.store (pLen x.prof) v with nocal := x.nocal || s.cal n != 1 }
      (x.stored + 1 < pCount x.prof → exec (.acqSegmentDone n rec_ v) s =
        .next ((s.setAcq n { s.acq n with cap := some y }).setAcqState n 4)) ∧
      (pCount x.prof ≤ x.stored + 1 →
        exec (.acqSegmentDone n rec_ v) s = .next (s.storeSegment n y (pLen x.prof))))) ∧
  (∀ (s : State) (n rec_ : Nat) (v : List Int) (r : AcqRun) (m m' : Nat) (x : Capture) (tk : Int), n < 8 → rec_ < 4 →
    s.acqState n = 6 → s.acqRuns.find? (fun r => r.recs.any (fun e => e.1 == n && e.2.1 == rec_)) = some r →
    r.recs.find? (fun e => e.1 == n) = some (m, m', x) → x.cur = some tk → s.captureEnd n x tk < tickTf (s.time + 1) →
    ∃ y : Capture, exec (.acqSegmentDone n rec_ v) s =
        .next ((s.setAcqRun (r.setRec n y)).putWork (r.setRec n y) n y (decide (y.stored < pCount y.prof)) true none) ∧
      y.cur = none ∧ y.stored = x.stored + 1 ∧ y.prof = x.prof) ∧
  (∀ (s : State) (r : RecRun) (a : Act) (i : Item), runOk r = true → s.due? r 7 = some a → a.item = some i →
    (s.actDomains a = false → exec (.acqArm r) s =
      .next ((State.faultAct { s with acqRuns := s.acqRuns.filter (fun x => x.run != r) } a).markRan r)) ∧
    (∀ x, s.actDomains a = true → s.acqRuns.find? (fun x => x.run == r) = some x →
      (s.beat = a.start + a.rcd.span - 1 → exec (.acqArm r) s = .next (s.acqFinish a x)) ∧
      (s.beat ≠ a.start + a.rcd.span - 1 → exec (.acqArm r) s = .next s)) ∧
    (s.actDomains a = true → s.acqRuns.find? (fun x => x.run == r) = none →
      (s.beat = a.start → exec (.acqArm r) s = .next (s.acqBegin a i)) ∧
      (s.beat ≠ a.start → exec (.acqArm r) s = .next s))) ∧
  (∀ (s : State) (v : Nat), v < 2 ^ 32 →
    (s.ready = true → s.on F.ACQ_SPI_STAT_BUSY = false →
      ((∀ n < 8, bit (numField (s.rd R.ACQ_SPI_BIND) (s.get F.ACQ_SPI_CFG_CS) 1) n = true → s.acqState n ≠ 6) →
        exec (.acqSpiTx v) s =
          .next ((s.put F.ACQ_SPI_STAT_BUSY 1).emit (.spi (v % 2 ^ (s.get F.ACQ_SPI_CFG_BITS_M1 + 1))))) ∧
      ((∃ n < 8, bit (numField (s.rd R.ACQ_SPI_BIND) (s.get F.ACQ_SPI_CFG_CS) 1) n = true ∧ s.acqState n = 6) →
        exec (.acqSpiTx v) s = .next ((s.put F.ACQ_SPI_STAT_REFUSED 1).raiseAcq 5))) ∧
    (s.on F.ACQ_SPI_STAT_BUSY = true → exec (.acqSpiTx v) s = .next s ∧ ∃ t : State, exec (.spiTransferDone v) s = .next t ∧
      t.get F.ACQ_SPI_STAT_BUSY = 0 ∧ t.get F.ACQ_SPI_STAT_DONE = 1 ∧
      t.rd R.ACQ_SPI_RX = v % 2 ^ (s.get F.ACQ_SPI_CFG_BITS_M1 + 1) ∧ t.mem = s.mem) ∧
    (s.on F.ACQ_SPI_STAT_BUSY = false → exec (.spiTransferDone v) s = .next s))

/-- Filter chains (R175, R178 to R193): DFC_COEF_LOAD stops a RUNNING channel, takes a block in range and answers the CRC-32C of its
coefficients, or starts a STOPPED channel at the next beat; a beat's raw samples pass a RUNNING channel's chain in the beat
after; at a sync tick every RUNNING channel is anchored anew, DFC-sourced segments are cut and ACQ_SYNC ends; an edge on SYNC_IN
while armed sets the sync tick to the next beat boundary. -/
def Obligations.FilterChains : Prop :=
  (∀ (s : State) (c q : Nat) (x : Queue) (k : Cmd) (e : HostEnv), envOk e = true → pf k.par 8 1 ≤ 7 →
    let n := pf k.par 8 1
    (Serves s c q 0x51 0 x k →
      (s.dfcState n = 2 → s.acqState n ≠ 6 → s.bgOther c n = false → (s.acq n).cap = none →
        exec (.dfcCoefLoadStop c q e) s = .next ((s.dfcStop n).answered c q k stOk 0)) ∧
      (s.dfcState n ≠ 2 ∨ s.acqState n = 6 ∨ s.bgOther c n = true →
        exec (.dfcCoefLoadStop c q e) s = .next (s.answered c q k stBadState 0))) ∧
    (∀ s1 b, Serves s c q 0x51 1 x k → pf k.par 16 8 % 64 = 0 → pf k.par 24 4 = 576 → s.dfcState n ≠ 2 → s.acqState n ≠ 7 →
      s.bgOther c n = false → s.cmdRead e c (pf k.par 16 8) 576 = (.ok b, s1) →
      let y := { DfcChan.init with blk := leNat b }
      let crc := crc32c ((b.drop 0x40).take 0x200)
      (dfcBlockOk y = true → dfcRateOk y (s1.rawPerTick n) = true →
        exec (.dfcCoefLoadLoad c q e) s = .next ((s1.dfcApply n y crc).answered c q k stOk crc)) ∧
      (dfcBlockOk y = false ∨ dfcRateOk y (s1.rawPerTick n) = false →
        exec (.dfcCoefLoadLoad c q e) s = .next (s1.answered c q k stBadParam 0))) ∧
    (Serves s c q 0x51 2 x k →
      (s.dfcState n = 1 → s.acqState n ≠ 7 → s.bgOther c n = false →
        (dfcRateOk (s.dfc n) (s.rawPerTick n) = true →
          exec (.dfcCoefLoadStart c q e) s = .next (s.waits c q k (.atBeat (s.beat + 1)))) ∧
        (dfcRateOk (s.dfc n) (s.rawPerTick n) = false →
          exec (.dfcCoefLoadStart c q e) s = .next (s.answered c q k stBadParam 0))) ∧
      (s.dfcState n ≠ 1 → exec (.dfcCoefLoadStart c q e) s = .next (s.answered c q k stBadState 0)))) ∧
  (∀ (s : State) (n : Nat) (v : List Int), n < 8 →
    let rpt := s.rawPerTick n
    let k := s.beat - 1
    let r := dfcFeed (v.take (500 * rpt)) (k * 500 * rpt) (s.dfc n) ⟨[], 0, false⟩
    let y : DfcChan := { r.1 with next := (k + 1) * 500 * rpt }
    (s.dfcState n ≠ 2 ∨ s.beat = 0 → exec (.dfcStreamBlock n v) s = .next s) ∧
    (s.dfcState n = 2 → 1 ≤ s.beat → (s.dfc n).next ≤ k * 500 * rpt → s.acqState n ≠ 6 → r.2.sat = 0 →
      exec (.dfcStreamBlock n v) s = .next ((s.setDfc n y).showDet n y)) ∧
    (s.dfcState n = 2 → 1 ≤ s.beat → (s.dfc n).next ≤ k * 500 * rpt → s.acqState n ≠ 6 → r.2.sat ≠ 0 →
      exec (.dfcStreamBlock n v) s =
        .next ((((s.setDfc n y).showDet n y).incSat (F.DFC_CH_CNT_SAT n) r.2.sat).raiseDfc 0))) ∧
  (∀ (s : State) (cut : List (Nat × Nat × List Int)),
    (s.syncDue = false → exec (.dfcSync cut) s = .next s) ∧
    (s.syncDue = true → exec (.dfcSync cut) s = .next ((s.syncAnchors.syncCuts cut).tickCommands 0x52))) ∧
  (∀ s : State, s.syncAnchors.rd R.ACQ_SYNC_LAST = s.time % 2 ^ 64 ∧ s.syncAnchors.mem = s.mem ∧
    s.syncAnchors.queues = s.queues ∧
    ∀ n < 8, s.dfcState n = 2 → s.syncAnchors.rd (R.DFC_CH_ANCHOR n) = s.time * s.rawPerTick n % 2 ^ 64) ∧
  (∀ (s : State) (rising : Bool),
    exec (.syncInEdge rising) s = .next (s.syncInEdge rising).markerEdge ∧
    (s.on F.DFC_SYNC_CFG_ARM = true → s.syncIn = none → (rising = true ↔ s.get F.DFC_SYNC_CFG_POL = 0) →
      s.rd R.DFC_SYNC_AFTER ≤ s.time →
      s.syncInEdge rising = { s with syncIn := some (ceilDiv (s.time + 2) 500 * 500) }) ∧
    (s.on F.DFC_SYNC_CFG_ARM = false ∨ s.syncIn ≠ none ∨ s.time < s.rd R.DFC_SYNC_AFTER →
      s.syncInEdge rising = s.incSat F.DFC_SYNC_CNT_IGNORED))

/-- PWR_POLICY and PWR_GROUP_SLEEP (R344 to R347): SET writes TARGET, IDLE_US and KEEP and restarts the idle timer, and the domain
stays as it is; WAKE ends at once on a domain that is ON on its functional clock, waits for the wake of another, and is refused
during a window and on a domain whose clock switch failed; AON writes LP_EN; a group request waits while its members are taken
one at a time, each refused one rolling the request back with its reason and its place in the list. -/
def Obligations.PowerPolicy : Prop :=
  (∀ (s : State) (c q : Nat) (x : Queue) (k : Cmd) (e : HostEnv), envOk e = true →
    let d := pf k.par 8 1
    let aim := pf k.par 10 1
    let us := pf k.par 12 4
    let keep := pf k.par 16 16
    (Serves s c q 0x70 0 x k →
      let ok := d ≤ 92 ∧ aim ≤ 2 ∧ (aim = 0 ∨ (domOffers d aim = true ∧ 1 ≤ us ∧ us ≤ 1000000)) ∧
        keep < (if domBanks d = [] then 1 else 2 ^ (domBanks d).length)
      (ok → exec (.pwrPolicySet c q e) s = .next (((((((s.put (F.PMC_DOM_CFG_TARGET d) aim).put (F.PMC_DOM_CFG_IDLE_US d) us).wr
        (R.PMC_DOM_KEEP0 d) keep).wr (R.PMC_DOM_KEEP1 d) (keep / 2 ^ 64)).setDom d
        { s.dom d with idle := s.time })).answered c q k stOk 0)) ∧
      (¬ ok → exec (.pwrPolicySet c q e) s = .next (s.answered c q k stBadParam 0))) ∧
    (Serves s c q 0x70 1 x k →
      (92 < d → exec (.pwrPolicyWake c q e) s = .next (s.answered c q k stBadParam 0)) ∧
      (d ≤ 92 → s.on (F.PMC_DOM_STATE_WINDOW d) = true →
        exec (.pwrPolicyWake c q e) s = .next (s.answered c q k stBadState 0)) ∧
      (d ≤ 92 → s.on (F.PMC_DOM_STATE_WINDOW d) = false →
        (s.domState d = 0 → s.domPhase d = 0 → d = 0 ∨ s.onFio d = false →
          exec (.pwrPolicyWake c q e) s = .next ((s.touchDom d).answered c q k stOk 0)) ∧
        (s.domState d = 0 → s.domPhase d = 0 → d ≠ 0 → s.onFio d = true → (s.dom d).stuck = true →
          exec (.pwrPolicyWake c q e) s = .next (s.answered c q k stFaulted 0)) ∧
        (s.domState d ≠ 0 → (s.demand d).domState d ≠ 0 →
          exec (.pwrPolicyWake c q e) s = .next ((s.demand d).waits c q k (.wake d))))) ∧
    (Serves s c q 0x70 2 x k → (d = 0 → pf k.par 11 1 ≤ 1 → exec (.pwrPolicyAon c q e) s =
        .next ((s.put F.PMC_AON_LP_EN (pf k.par 11 1)).answered c q k stOk 0)) ∧
      (d ≠ 0 ∨ 1 < pf k.par 11 1 → exec (.pwrPolicyAon c q e) s = .next (s.answered c q k stBadParam 0))) ∧
    (Serves s c q 0x72 0 x k →
      let l := groupMembers k.par
      let ok := 1 ≤ d ∧ d ≤ 16 ∧ (pf k.par 9 1 = 1 ∨ pf k.par 9 1 = 2) ∧ (∀ m ∈ l, m ≤ 92) ∧ l.eraseDups.length = l.length
      (¬ ok → exec (.pwrGroupSleep c q e) s = .next (s.answered c q k stBadParam 0)) ∧
      (ok → s.group = none → exec (.pwrGroupSleep c q e) s = .next (State.waits (State.put
        { s with group := some ⟨c, q, k.seq, pf k.par 9 1, l, [], none, none, none, 0, 0⟩ } F.PMC_STATUS_GROUP 1)
        c q k .group)))) ∧
  (∀ (s : State) (d : Nat) (planned : Bool), d ≤ 92 → s.domPhase d = 0 → s.domState d ≠ 0 →
    (s.callDom d planned).domPhase d = 2 ∧ (s.callDom d planned).domState d = s.domState d ∧
    (s.callDom d planned).mem = s.mem ∧ (s.callDom d planned).queues = s.queues) ∧
  (∀ (s : State) (g : Group) (d : Nat) (rest : List Nat),
    (∀ r, s.refuseReason d g.target = r → r ≠ 0 → s.askGroup g (d :: rest) = s.refuseGroup g d r) ∧
    (s.refuseReason d g.target = 0 → s.domPhase d = 0 → s.domState d ≠ g.target → s.domState d ≠ 2 → s.domBusy d = false →
      s.askGroup g (d :: rest) =
        { s.startEntry d g.target with group := some { g with todo := d :: rest, moving := some d, asked := none } }) ∧
    (s.refuseReason d g.target = 0 → s.domPhase d = 0 → s.domState d ≠ g.target → s.domState d ≠ 2 → s.domBusy d = true →
      (g.asked.getD s.time + 10000 ≤ s.time → s.askGroup g (d :: rest) = s.refuseGroup g d 3) ∧
      (s.time < g.asked.getD s.time + 10000 → s.askGroup g (d :: rest) =
        { s with group := some { g with todo := d :: rest, asked := some (g.asked.getD s.time) } })) ∧
    s.askGroup g [] = s.endGroup { g with todo := [] })

/-- A domain's moves (R29, R329 to R332, R338 to R340, R349, R430): an unclaimed domain idle for IDLE_US without a break starts into
its TARGET; an entry ends after its beats, loses what the state loses and counts; a demand calls a sleeping domain, a planned
window holds it back; a wake ends on FIO one beat before its lead, and with the clock switch it is whole; a failed switch keeps
it on FIO, counts, raises detector 0x12 and ends waiting WAKE commands as ST_FAULTED; GLB_DOMRST refuses in order with RESULT or
takes the domain through OFF, and its end clears BUSY. -/
def Obligations.DomainMoves : Prop :=
  (∀ (s : State) (d : Nat), d ≤ 92 →
    (exec (.domainIdleTimeout d) s = .next (if s.get (F.PMC_DOM_CFG_TARGET d) ≠ 0 ∧ s.domState d = 0 ∧ s.domPhase d = 0 ∧
        s.domClaimed d = false ∧ s.domBusy d = false ∧ s.domDependent d = false ∧
        (s.dom d).idle + 100 * s.get (F.PMC_DOM_CFG_IDLE_US d) ≤ s.time
      then s.startEntry d (s.get (F.PMC_DOM_CFG_TARGET d)) else s)) ∧
    (s.domPhase d ≠ 1 ∨ s.time < (s.dom d).t + 500 * domEntry d → exec (.domainEntryDone d) s = .next s) ∧
    (s.domPhase d = 1 → (s.dom d).t + 500 * domEntry d ≤ s.time → s.on F.FMU_STATUS_INJ_ACTIVE = false →
      let u := (((s.accrue d).loseContents d (s.dom d).aim).put (F.PMC_DOM_STATE_STATE d) (s.dom d).aim).put
        (F.PMC_DOM_STATE_PHASE d) 0
      let w := (if (s.dom d).aim = 2 then u.putBit (onFioFld d) (d % 32) true else u).incSat (F.PMC_DOM_CNT_ENTRIES d)
      exec (.domainEntryDone d) s = .next
        (if (s.dom d).reset = true ∨ (s.dom d).demand = true then w.startWake d false else w.groupMoved d)) ∧
    exec (.domainDemand d) s = .next (s.demand d).serveParked ∧
    (s.domPhase d ≠ 2 ∨ s.domState d = 0 ∨ s.time < (s.dom d).t + 500 * ((s.dom d).lead - 1) →
      exec (.domainWakeDone d) s = .next s.serveParked) ∧
    (s.domPhase d = 2 → s.domState d ≠ 0 → (s.dom d).t + 500 * ((s.dom d).lead - 1) ≤ s.time →
      exec (.domainWakeDone d) s = .next
        ((s.put (F.PMC_DOM_STATE_STATE d) 0).putBit (onFioFld d) (d % 32) true).serveParked) ∧
    (s.domState d ≠ 0 ∨ s.onFio d = false → exec (.clkSwitchDone d) s = .next s ∧ exec (.clkSwitchFail d) s = .next s) ∧
    (d ≠ 0 → s.domState d = 0 → s.onFio d = true → (s.dom d).stuck = false →
      (s.domPhase d = 0 → exec (.clkSwitchDone d) s = .next ((s.putBit (onFioFld d) (d % 32) false).endWaits d stOk)) ∧
      (s.domPhase d = 2 → (s.dom d).t + 500 * (s.dom d).lead ≤ s.time → exec (.clkSwitchDone d) s =
        .next ((((s.putBit (onFioFld d) (d % 32) false).endWake d).endWaits d stOk).groupMoved d)) ∧
      (s.domPhase d = 0 → exec (.clkSwitchFail d) s = .next (((((s.incSat F.CLK_SWFAIL_CNT_SWFAIL).raisePmc 1).logDet 0x12 d d none 1
        false).setDom d { s.dom d with stuck := true }).endWaits d stFaulted)))) ∧
  (∀ (s : State) (d : Nat), d ≤ 92 →
    (s.on (F.PMC_DOM_STATE_WINDOW d) = true ∨ (s.dom d).demand = true → s.demand d = s.touchDom d) ∧
    (s.on (F.PMC_DOM_STATE_WINDOW d) = false → s.domPhase d = 0 → s.domState d ≠ 0 → (s.dom d).demand = false →
      s.demand d = (s.touchDom d).startWake d false)) ∧
  (∀ (s : State) (d : Nat), d ≤ 92 → (s.endWake d).domPhase d = 0 ∧ (s.startEntry d 2).domPhase d = 1 ∧
    (s.startEntry d 2).mem = s.mem) ∧
  (∀ (s : State) (d key : Nat), d < 128 → key < 256 →
    (key ≠ 0xA5 → exec (.glbDomrst d key) s = .next s) ∧
    (key = 0xA5 →
      (92 < d ∨ domFixed d = true → exec (.glbDomrst d key) s = .next (s.put F.GLB_DOMRST_RESULT 1)) ∧
      (d ≤ 92 → domFixed d = false →
        (s.domClaimed d = true → exec (.glbDomrst d key) s = .next (s.put F.GLB_DOMRST_RESULT 2)) ∧
        (s.domClaimed d = false → domOffers d 2 = false → exec (.glbDomrst d key) s = .next (s.put F.GLB_DOMRST_RESULT 3)) ∧
        (s.domClaimed d = false → domOffers d 2 = true →
          (s.on (F.PMC_DOM_STATE_WINDOW d) = true → exec (.glbDomrst d key) s = .next (s.put F.GLB_DOMRST_RESULT 4)) ∧
          (s.on (F.PMC_DOM_STATE_WINDOW d) = false →
            (s.on F.GLB_DOMRST_BUSY = true → exec (.glbDomrst d key) s = .next (s.put F.GLB_DOMRST_RESULT 5)) ∧
            (s.on F.GLB_DOMRST_BUSY = false →
              (s.domDependent d = true → exec (.glbDomrst d key) s = .next (s.put F.GLB_DOMRST_RESULT 6)) ∧
              (s.domDependent d = false →
                let w := ((((s.put F.GLB_DOMRST_DOMAIN d).put F.GLB_DOMRST_RESULT 0).put F.GLB_DOMRST_BUSY 1).accrue d).startEntry d 2
                exec (.glbDomrst d key) s = .next (w.setDom d { w.dom d with reset := true })))))))) ∧
  (∀ s : State, let d := s.get F.GLB_DOMRST_DOMAIN
    (s.on F.GLB_DOMRST_BUSY = true → (s.dom d).reset = true → s.domState d = 0 → s.domPhase d = 0 →
      ((s.dom d).stuck = false → s.onFio d = false → exec .domainResetDone s = .next
        ((((s.put F.GLB_DOMRST_BUSY 0).put F.GLB_DOMRST_RESULT 0).setDom d { s.dom d with reset := false }).raiseGlb 0)) ∧
      ((s.dom d).stuck = true → exec .domainResetDone s = .next
        ((((s.put F.GLB_DOMRST_BUSY 0).put F.GLB_DOMRST_RESULT 7).setDom d { s.dom d with reset := false }).raiseGlb 0))) ∧
    (s.on F.GLB_DOMRST_BUSY = false → exec .domainResetDone s = .next s))

/-- The fault log and injections (R363 to R367): FAULT_INJECT arms its detector now or at tick AT and answers the tick, one at a time
and only for a site of its table in a domain that is ON; FAULT_INJECT_CLEAR ends it; FAULT_LOG_READ writes the records of its
source from FIRST_SEQ, each context its own, and answers their number and LOST; a firing writes one record at the end of the
ring, with the device time and the next SEQ, counts and marks its detector. -/
def Obligations.FaultCommands : Prop :=
  (∀ (s : State) (c q : Nat) (x : Queue) (k : Cmd) (e : HostEnv), envOk e = true →
    let det := pf k.par 8 1
    let site := pf k.par 12 4
    let at_ := pf k.par 16 8
    (Serves s c q 0x80 0 x k →
      let ok := det ≤ 0x5F ∧ pf k.par 9 1 ≤ 3 ∧ ¬ (pf k.par 9 1 = 2 ∧ pf k.par 10 2 = 0) ∧ siteOk det site = true
      let free := s.on F.FMU_STATUS_INJ_ACTIVE = false ∧ s.injectPending = false ∧ s.domOn (detDomain det site) = true
      (¬ ok → exec (.faultInject c q e) s = .next (s.answered c q k stBadParam 0)) ∧
      (ok → ¬ free → exec (.faultInject c q e) s = .next (s.answered c q k stBadState 0)) ∧
      (ok → free → at_ ≤ s.time →
        exec (.faultInject c q e) s = .next ((s.armInjection k.par).answered c q k stOk (s.time % 2 ^ 32))) ∧
      (ok → free → s.time < at_ → exec (.faultInject c q e) s = .next (s.waits c q k (.atTick at_)))) ∧
    (Serves s c q 0x80 3 x k → det ≤ 0x5F → siteOk det site = true →
      (s.on F.FMU_STATUS_INJ_ACTIVE = true → s.domOn (detDomain det site) = true →
        exec (.faultInjectClear c q e) s =
          .next ((s.put F.FMU_STATUS_INJ_ACTIVE 0).answered c q k stOk (s.time % 2 ^ 32))) ∧
      (s.on F.FMU_STATUS_INJ_ACTIVE = false → exec (.faultInjectClear c q e) s = .next (s.answered c q k stBadState 0)))) ∧
  (∀ (s s1 : State) (c q : Nat) (x : Queue) (k : Cmd) (e : HostEnv) (g g1 : List Seg), envOk e = true →
    Serves s c q 0x81 0 x k →
    let source := pf k.par 8 1
    let len := pf k.par 24 4
    let dva := pf k.par 16 8
    let earlier (n : Nat) : Bool :=
      pf k.par 12 4 != 0xFFFFFFFF && within ((pf k.par 12 4 + 2 ^ 32 - recSeq n) % 2 ^ 32) 1 (2 ^ 31 - 1)
    let l := (((s1.logSource source).dropWhile earlier).filter (fun n => c == 0 || recCtx n == c)).take (len / 32)
    (1 < source ∨ len < 32 → exec (.faultLogRead c q e) s = .next (s.answered c q k stBadParam 0)) ∧
    (source ≤ 1 → 32 ≤ len → dva % 64 = 0 → s.pinned c dva len 2 = none →
      exec (.faultLogRead c q e) s = .next (s.answered c q k stUnpinned 0)) ∧
    (32 ≤ len → dva % 64 = 0 → s.pinned c dva len 2 = some g → s.bringIn e c dva len = (.ok (), s1) →
      s1.pinned c dva len 2 = some g1 →
      let w := s1.writeSegs (Who.cpx c) g1 (clean (l.flatMap (leBytes 32)))
      (source = 1 → exec (.faultLogRead c q e) s =
        .next (w.answered c q k stOk (l.length + 65536 * w.get F.FMU_LOG_CTL_LOST))) ∧
      (source = 0 →
        let u : State := { w with faultLog := w.faultLog.map (fun r => if l.contains r.1 then (r.1, true) else r) }
        exec (.faultLogRead c q e) s = .next (u.answered c q k stOk (l.length + 65536 * u.get F.FMU_LOG_CTL_LOST))))) ∧
  (∀ (s : State) (r : LogRec), s.faultLog.length < 1024 →
    (s.log r).faultLog = s.faultLog ++ [(s.logNum r, false)] ∧
    (s.log r).get F.FMU_SEQ_SEQ = (s.get F.FMU_SEQ_SEQ + 1) % 2 ^ 32 ∧
    (s.log r).get F.FMU_LOG_CTL_HEAD = (s.get F.FMU_LOG_CTL_HEAD + 1) % 1024 ∧
    (s.log r).mem = s.mem ∧ (s.log r).queues = s.queues ∧ (s.log r).plans = s.plans) ∧
  (∀ (s : State) (r : LogRec), s.faultLog.length = 1024 → (s.log r).faultLog = s.faultLog.drop 1 ++ [(s.logNum r, false)])

/-- What the sensors and detectors do (R153, R322 to R324, R353, R354, R360 to R362, R417, R440, R449): a detector whose site its table gives, in a
domain that is ON, acts at its level, another does nothing; DROOP is detector 0x15 + d, which logs, counts and, but on the
F-die, inserts bubbles; a temperature sample sets the readings, and 125 °C on a die trips; the thermal hold ends once every die
has read below 105 °C for 100 ms. -/
def Obligations.DetectorReactions : Prop :=
  (∀ (s : State) (id site : Nat), id ≤ 0x5F → site < 2 ^ 32 →
    (siteOk id site = false ∨ s.domOn (detDomain id site) = false → exec (.detectorFire id site) s = .next s) ∧
    (siteOk id site = true → s.domOn (detDomain id site) = true →
      exec (.detectorFire id site) s = .next (s.fireDetector id site) ∧
      (4 ≤ id → id ≤ 6 → s.fireDetector id site = s.tamperFault id) ∧
      (id = 7 → s.fireDetector id site = s.tripFault site) ∧
      (0x20 ≤ id → id ≤ 0x3F → s.fireDetector id site = s.engineFault id) ∧
      (0x40 ≤ id → id ≤ 0x4B → s.fireDetector id site = s.unitFault id) ∧
      (id = 0x0B → s.fireDetector id site = s.contextFault id site) ∧
      (0x0C ≤ id → id ≤ 0x0F → s.fireDetector id site = (s.logDet id 0 0 none 1 false).linkLost (id - 0x0C)) ∧
      (id = 0x13 ∨ id = 0x1F ∨ id = 0x10 ∨ id = 0x11 ∨ id = 8 → s.fireDetector id site =
        ((s.logDet id site 0 none 1 false).warmReset 4 id)) ∧
      (0x50 ≤ id → id ≤ 0x57 → s.fireDetector id site = ((s.logDet id 0 0 none 1 false).setCal (id - 0x50) 2).raiseAcq 3))) ∧
  (∀ (s : State) (d : Nat), d < 4 →
    (s.domOn 0 = true → exec (.droop d) s = .next (droop d (s.logDet (0x15 + d) 0 0 none 1 true))) ∧
    droop 0 s = (s.incSat (F.EMU_DROOP_CNT_DROOPS 0)).raiseEmu 4 ∧
    (0 < d → (droop d s).droops = (s.time, d, s.get (F.EMU_DROOP_CFG_LEN d)) :: s.droops)) ∧
  (∀ (s : State) (t : List Int), (Instr.thermalSample t).wellFormed = true → s.on F.GLB_STATUS_THERM_HOLD = false →
    ((∀ x ∈ t, x < 500) → exec (.thermalSample t) s = .next (s.thermal t)) ∧
    (∀ d, findIdx (fun x => decide (500 ≤ x)) 0 t = some d →
      exec (.thermalSample t) s = .next ((s.thermal t).tripFault d))) ∧
  (∀ (s : State) (d : Nat), s.tripFault d =
    (((((s.logDet 7 d 0 none 1 false).incSat F.EMU_TRIP_CNT_TRIPS).warmReset 5 7).put F.GLB_STATUS_THERM_HOLD 1).holdDomains 2)) ∧
  (∀ s : State,
    (∀ t, s.cool = some t → s.on F.GLB_STATUS_THERM_HOLD = true → t + 10000000 ≤ s.time →
      exec .thermHoldEnd s = .next (State.holdDomains { s.put F.GLB_STATUS_THERM_HOLD 0 with cool := none } 0)) ∧
    (∀ t, s.cool = some t → s.time < t + 10000000 → exec .thermHoldEnd s = .next s) ∧
    (s.cool = none → exec .thermHoldEnd s = .next s))

/-- The Herd commands (R380, R381, R388, R389, R394, R395): joining a Herd trains the named links and waits as JOINING, for a device that
is DETACHED; founding one makes it LEADER with its member index and epoch at once; a new epoch is the leader's while no member
reports a Herd plan; leaving waits from its boundary until the Herd plans are gone; HERD_STATUS writes its block; a window is
exported from a range of the context, or withdrawn while no admitted Herd plan pushes into it. A refusal changes nothing. -/
def Obligations.HerdCommands : Prop :=
  (∀ (s : State) (c q : Nat) (x : Queue) (k : Cmd) (e : HostEnv), envOk e = true →
    let m := pf k.par 9 1
    let links := pf k.par 10 1
    let epoch := pf k.par 12 4
    (Serves s c q 0x90 0 x k → m ≤ 7 → 1 ≤ links → links ≤ 15 →
      (s.herdState ≠ 0 → exec (.herdJoinJoin c q e) s = .next (s.answered c q k stHerdState 0)) ∧
      (s.herdState = 0 →
        let t := ((s.trainLinks links).put F.HRD_STATUS_STATE 1).tellAll none [11]
        exec (.herdJoinJoin c q e) s =
          .next ((t.onHerd (fun h => { h with joinT := t.time, checked := false, thetas := [] })).waits c q k .join))) ∧
    (Serves s c q 0x90 1 x k → m ≤ 7 → links ≤ 15 →
      (s.herdState ≠ 0 → exec (.herdJoinFound c q e) s = .next (s.answered c q k stHerdState 0)) ∧
      (s.herdState = 0 → exec (.herdJoinFound c q e) s =
        .next (((((((s.trainLinks links).put F.HRD_STATUS_STATE 3).put F.HRD_STATUS_SELF m).put F.HRD_STATUS_LEADER m).put
          F.HRD_STATUS_COUNT 1).wr R.HRD_EPOCH epoch).answered c q k stOk 0))) ∧
    (Serves s c q 0x90 2 x k → links ≤ 15 →
      (s.isLeader = false → exec (.herdJoinEpoch c q e) s = .next (s.answered c q k stHerdState 0)) ∧
      (s.isLeader = true → s.herd.members.any Member.live = false → s.herdPlans = [] →
        exec (.herdJoinEpoch c q e) s = .next (((s.trainLinks links).wr R.HRD_EPOCH epoch).answered c q k stOk 0))) ∧
    (Serves s c q 0x91 0 x k →
      (s.inHerd = false → exec (.herdLeave c q e) s = .next (s.answered c q k stHerdState 0)) ∧
      (s.inHerd = true →
        let d := s.herd.leaveAt.getD s.leaveBoundary
        exec (.herdLeave c q e) s = .next ((((s.tellAll none [4, s.self, d]).onHerd (fun h =>
          { h with leaveAt := some d })).leaveBeat).waits c q k .leave))) ∧
    (∀ s1 g g1, Serves s c q 0x92 0 x k → pf k.par 16 8 % 64 = 0 → s.pinned c (pf k.par 16 8) 128 2 = some g →
      s.bringIn e c (pf k.par 16 8) 128 = (.ok (), s1) → s1.pinned c (pf k.par 16 8) 128 2 = some g1 →
      exec (.herdStatus c q e) s = .next ((s1.writeSegs (Who.cpx c) g1 (clean s1.herdBlock)).answered c q k stOk 0)) ∧
    (Serves s c q 0x92 0 x k → pf k.par 16 8 % 64 = 0 → s.pinned c (pf k.par 16 8) 128 2 = none →
      exec (.herdStatus c q e) s = .next (s.answered c q k stUnpinned 0)) ∧
    (∀ key r, Serves s c q 0x93 0 x k → m ≤ 63 → pf k.par 16 4 % 64 = 0 → pf k.par 20 4 % 64 = 0 → 64 ≤ pf k.par 20 4 →
      s.inHerd = true → s.rangeById c (pf k.par 12 2) = some (key, r) →
      let flags := pf k.par 11 1
      let off := pf k.par 16 4
      let len := pf k.par 20 4
      (bit (s.rd (R.HRD_EXP m)) 27 = true ∨ r.len < off + len ∨
          (bit flags 2 = true ∧ s.plannedWindow r off len = false) →
        exec (.windowExport c q e) s = .next (s.answered c q k stBadState 0)) ∧
      (bit (s.rd (R.HRD_EXP m)) 27 = false → off + len ≤ r.len →
          (bit flags 2 = true → s.plannedWindow r off len = true) →
        exec (.windowExport c q e) s = .next (((s.wr (R.HRD_EXP m) (pf k.par 12 2 + links * 2 ^ 16 + flags * 2 ^ 24 + 2 ^ 27 +
          c * 2 ^ 32 + off * 2 ^ 64 + len * 2 ^ 96)).tellWindow links m len (flags % 4) (bits flags 2 2)).answered c q k
          stOk 0))) ∧
    (Serves s c q 0x93 1 x k → m ≤ 63 →
      (bit (s.rd (R.HRD_EXP m)) 27 = false ∨ numField (s.rd (R.HRD_EXP m)) 4 1 % 128 ≠ c ∨ s.windowPushed m = true →
        exec (.windowWithdraw c q e) s = .next (s.answered c q k stBadState 0)) ∧
      (bit (s.rd (R.HRD_EXP m)) 27 = true → numField (s.rd (R.HRD_EXP m)) 4 1 % 128 = c → s.windowPushed m = false →
        exec (.windowWithdraw c q e) s = .next (((s.tellWindow (bits (s.rd (R.HRD_EXP m)) 23 16) m 0 0 0).wr
          (R.HRD_EXP m) 0).answered c q k stOk 0)))) ∧
  (∀ s : State,
    (s.on F.HRD_STATUS_LEAVING = false ∨ s.herdPlans ≠ [] → exec .herdLeaveDone s = .next s) ∧
    (s.on F.HRD_STATUS_LEAVING = true → s.herdPlans = [] → s.isLeader = false ∨ s.herd.members = [] →
      exec .herdLeaveDone s = .next (((s.tellAll none [10, s.self]).revokeFrom (fun _ _ => true)).detach).endLeave)) ∧
  (∀ (s : State) (k : Cmd) (x : LeaderInfo),
    (x.fw ≠ s.fwMajorMinor → s.joinChecks k x = some stHerdVersion) ∧
    (x.fw = s.fwMajorMinor → pf k.par 12 4 ≠ x.epoch → s.joinChecks k x = some stHerdState) ∧
    (x.fw = s.fwMajorMinor → pf k.par 12 4 = x.epoch → bit x.used (pf k.par 9 1) = false → popcount x.used < 8 →
      s.planWorks = false → pf k.par 16 32 ≠ 0 → pf k.par 16 32 ≠ x.hash → s.joinChecks k x = some stHerdPlan))

/-- Links of the Herd (R375, R376, R379): training ends with the link UP at the width that its healthy lanes allow, and the device
tells what it is; 400 beats without it put the link DOWN again; two beats without a good flit put a link DOWN; a faulty lane
counts a step, loses the PLANNED flits of the two stopped beats and stops the link, or puts it DOWN where no width is left; RETRAIN is
ignored and counted while a plan claims a slot of the link; the leader's SYNC_OUT goes out at multiples of 100,000 ticks. That
the training gives up after 400 beats is the spec's own sentence about HRD_LINKl_CTL; the messages are the model's own. -/
def Obligations.HerdLinks : Prop :=
  (∀ (s : State) (l : Nat), l < 4 →
    let claimed := s.livePlans.any (fun p => p.2.2.img.claims.any (fun k =>
      k.kind == 6 && (rangeFrom k.first k.count).any (fun n => n / 256 == l)))
    (claimed = true → exec (.hrdLinkRetrain l) s = .next (s.incWrap F.HRD_STATUS_WIGN)) ∧
    (claimed = false → exec (.hrdLinkRetrain l) s = .next (s.train l)) ∧
    (s.train l).get (F.HRD_LINK_STATE_STATE l) = 1 ∧ tfind (s.train l).herd.training l = some s.beat ∧
    (∀ lanes peer peerLink, lanes < 16 → peer < 8 → peerLink < 4 →
      ((tfind s.herd.training l).isNone = true ∨ lanesWidth lanes 4 = 0 →
        exec (.linkTrained l lanes peer peerLink) s = .next s) ∧
      ((tfind s.herd.training l).isSome = true → lanesWidth lanes 4 ≠ 0 →
        let t := ((((s.put (F.HRD_LINK_STATE_LANES l) lanes).put (F.HRD_LINK_STATE_PEER l) peer).put (F.HRD_LINK_STATE_PEER_LINK l)
          peerLink).setWidth l (lanesWidth lanes 4)).onHerd (fun h =>
            { h with training := tdel h.training l, goodBeat := tput h.goodBeat l s.beat })
        (t.inHerd = false → exec (.linkTrained l lanes peer peerLink) s = .next t.joinStep) ∧
        (t.inHerd = true → exec (.linkTrained l lanes peer peerLink) s =
          .next ((t.selfMsgs ++ t.exportMsgs peer).foldl (fun s m => s.tell l m) t).joinStep))) ∧
    (∀ k, tfind s.herd.training l = some k →
      (s.beat < k + 400 → exec (.linkTrainingTimeout l) s = .next s) ∧
      (k + 400 ≤ s.beat → (tfind s.herd.paths l).isSome = true →
        exec (.linkTrainingTimeout l) s = .next ((s.put (F.HRD_LINK_STATE_STATE l) 2).linkLost l)) ∧
      (k + 400 ≤ s.beat → tfind s.herd.paths l = none → exec (.linkTrainingTimeout l) s =
        .next ((s.put (F.HRD_LINK_STATE_STATE l) 0).onHerd (fun h => { h with training := tdel h.training l })))) ∧
    (tfind s.herd.training l = none → exec (.linkTrainingTimeout l) s = .next s) ∧
    (s.linkUp l = true → tget s.herd.goodBeat l 0 + 3 ≤ s.beat → exec (.linkDown l) s = .next (s.linkLost l)) ∧
    (s.linkUp l = false ∨ s.beat < tget s.herd.goodBeat l 0 + 3 → exec (.linkDown l) s = .next s) ∧
    (∀ lane, lane < 4 → (s.linkUp l = false ∨ s.getBit (F.HRD_LINK_STATE_LANES l) lane = false →
        exec (.laneFault l lane) s = .next s) ∧
      (s.linkUp l = true → s.getBit (F.HRD_LINK_STATE_LANES l) lane = true →
        let u := s.putBit (F.HRD_LINK_STATE_LANES l) lane false
        let lost := u.herd.sent.filter (fun x => x.link == l && decide (u.beat ≤ x.beat) && decide (x.beat ≤ u.beat + 1))
        let t := (lost.foldl (fun s x => s.loseFlit x) u).incSat (F.HRD_LINK_CNT2_DEGRADE l)
        (lanesWidth (t.get (F.HRD_LINK_STATE_LANES l)) (s.linkWidth l / 2) = 0 →
          exec (.laneFault l lane) s = .next (t.linkLost l)) ∧
        (lanesWidth (t.get (F.HRD_LINK_STATE_LANES l)) (s.linkWidth l / 2) ≠ 0 → exec (.laneFault l lane) s =
          .next (t.onHerd (fun h => { h with stopped := tput h.stopped l (t.beat + 1),
                                             goodBeat := tput h.goodBeat l (t.beat + 1) })))))) ∧
  (∀ s : State,
    (s.isLeader = true → s.on F.HRD_CFG_SYNC_OUT_EN = true → s.time % 100000 = 0 →
      exec .syncOutPulse s = .next (s.emit .syncOut)) ∧
    (s.isLeader = false ∨ s.on F.HRD_CFG_SYNC_OUT_EN = false ∨ s.time % 100000 ≠ 0 → exec .syncOutPulse s = .next s)) ∧
  (∀ lanes w, lanes < 16 → lanesWidth lanes w ≤ w ∧ lanesWidth lanes w ≤ 4 ∧ (lanesWidth 15 4 = 4) ∧ lanesWidth lanes 0 = 0)

/-- Flits of the Herd (R371, R374, R386, R388, R391): a flit with a bad CRC is answered with NAK and nothing more, a good one is acted on by its
type; a PLANNED flit writes its window, or is dropped and counted where the window does not allow it; a NAKed or unacknowledged
flit is replayed and counted, after 8 replays its link's detector fires; a flit with no good copy by the end of the tail of the
next beat is lost and its item is INCOMPLETE; an unacknowledged RESULT is UNDELIVERED; HERD_XFER sends its bytes in the slots it
claims, or its items are INCOMPLETE where slots or link are gone. How a CONTROL message and an acknowledgement are laid out is
the model's own. -/
def Obligations.HerdFlits : Prop :=
  (∀ (s : State) (l : Nat) (f : Flit) (e : HostEnv), l < 4 → envOk e = true →
    (s.linkUp l = false ∨ s.linkStopped l = true → exec (.flitReceive l f e) s = .next s) ∧
    (s.linkUp l = true → s.linkStopped l = false → f.crcOk = false →
      exec (.flitReceive l f e) s = .next (s.emit (.flit l 0 [1, (s.lastGood l + 1) % 4096]))) ∧
    (s.linkUp l = true → s.linkStopped l = false → f.crcOk = true →
      let t := s.onHerd (fun h => { h with goodBeat := tput h.goodBeat l s.beat })
      exec (.flitReceive l f e) s = .next (t.takeFlit l f.typ e f.body) ∧
      (∀ seq slot w off d, t.takeFlit l 1 e (seq :: slot :: w :: off :: d) = (t.ack l seq).windowWrite l w off d true) ∧
      (∀ msg, t.takeFlit l 3 e msg = t.control l msg) ∧ (∀ msg, t.takeFlit l 4 e msg = t.timeFlit l msg))) ∧
  (∀ (s : State) (l w off : Nat) (d : List Nat) (planned : Bool),
    (s.windowOk l w off d.length 2 planned = false → s.windowWrite l w off d planned = s.incSat F.HRD_CNT_REJECT) ∧
    (s.windowOk l w off d.length 2 true = true → s.windowWrite l w off d true =
      s.planWrite (linkWho l true) (cutSegs (s.windowSegs w) off d.length) (flitBytes d))) ∧
  (∀ (s : State) (l id : Nat) (x : SentFlit), l < 4 →
    (s.herd.sent.find? (fun x => x.link == l && x.seq == id && (x.nak || s.tailOver x.beat)) = some x →
      (8 ≤ x.replays → exec (.flitReplay l id) s = .next (s.fireDetector (0x0C + l) 0)) ∧
      (x.replays < 8 → exec (.flitReplay l id) s = .next (((s.onHerd (fun h => { h with sent := h.sent.map (fun y =>
        if y.link == l && y.seq == id then { y with replays := y.replays + 1, nak := false } else y) })).incSat
          (F.HRD_LINK_CNT_REPLAY l)).emit (.flit l 1 x.body)))) ∧
    (s.herd.sent.find? (fun x => x.link == l && x.seq == id && (x.nak || s.tailOver x.beat)) = none →
      exec (.flitReplay l id) s = .next s) ∧
    (s.herd.sent.find? (fun x => x.link == l && x.slot == id && s.tailOver (x.beat + 1)) = some x →
      let t := (s.onHerd (fun h => { h with sent := h.sent.filter (fun y =>
        !(y.link == x.link && y.seq == x.seq)) })).incSat (F.HRD_LINK_CNT_LOST x.link)
      exec (.flitLost l id) s = .next
        (if x.run.item = true then t.incompleteItems (fun i => i.c == x.run.c && i.id == x.run.n) else t)) ∧
    (s.herd.sent.find? (fun x => x.link == l && x.slot == id && s.tailOver (x.beat + 1)) = none →
      exec (.flitLost l id) s = .next s)) ∧
  (∀ (s : State) (id dev : Nat), dev < 8 →
    (∀ f, s.herd.forwards.find? (fun f => f.id == id && f.dest == dev && s.tailOver (f.beat + 1)) = some f →
      exec (.resultUndelivered id dev) s = .next ((s.onHerd (fun h =>
        { h with forwards := h.forwards.filter (fun x => x != f) })).undelivered s.self f)) ∧
    (s.herd.forwards.find? (fun f => f.id == id && f.dest == dev && s.tailOver (f.beat + 1)) = none →
      exec (.resultUndelivered id dev) s = .next s)) ∧
  (∀ (s : State) (home : Nat) (f : Forward), s.isLeader = true →
    s.undelivered home f = s.logUndelivered f.id home f.dest f.cls f.result (500 * f.beat)) ∧
  (∀ (s : State) (r : RecRun) (a : Act), runOk r = true → s.due? r 9 = some a →
    let l := a.rcd.xLink
    let slots := a.plan.img.slotsOf a.rcd l
    (a.start ≠ s.beat → exec (.herdXfer r) s = .next s) ∧
    (a.start = s.beat → s.actDomains a = false → exec (.herdXfer r) s = .next ((s.faultAct a).markRan r)) ∧
    (a.start = s.beat → s.actDomains a = true →
      (s.linkUp l = false ∨ s.peer l ≠ a.rcd.xMember ∨ (∃ x ∈ slots, 50 * s.linkWidth l ≤ x.1) →
        exec (.herdXfer r) s = .next ((s.incompleteAct a).markRan r)) ∧
      (∀ b, s.linkUp l = true → s.peer l = a.rcd.xMember → (∀ x ∈ slots, x.1 < 50 * s.linkWidth l) →
        s.actBuf a a.rcd.inBuf = some b →
        let x := s.readBuf (a.who (0x9000 + l)) b 0 a.rcd.xLen
        exec (.herdXfer r) s = .next (((((x.2.consume a (x.1.any (·.2) || b.revoked)).noteRun (0x9000 + l) r).sendParts a r x.1
          (a.xferParts slots))).markRan r))))

/-- Firmware commands (R401, R402, R405 to R408): FW_DOWNLOAD erases what it must of the inactive slot and writes the bytes there; FW_VERIFY
writes the slot's marker for an authentic image and erases it for another, with what is wrong as status; FW_ACTIVATE makes a
trial record of three attempts for a slot whose marker and image hold, and a reset after its reply if asked; FW_CONFIRM ends the
trial of the running slot and raises the security version. During a trial the first three are ST_BAD_STATE. -/
def Obligations.Firmware : Prop :=
  (∀ (s : State) (c q : Nat) (x : Queue) (k : Cmd) (e : HostEnv), envOk e = true →
    let slot := s.inactiveSlot
    (Serves s c q 0xA0 0 x k →
      let src := pf k.par 8 8
      let off := pf k.par 16 4
      let len := pf k.par 20 4
      let ok := src % 64 = 0 ∧ off % 4096 = 0 ∧ len % 64 = 0 ∧ 64 ≤ len ∧ off + len ≤ 0x7FF000
      (¬ ok → exec (.fwDownload c q e) s = .next (s.answered c q k stBadParam 0)) ∧
      (ok → s.pinned c src len 1 = none → exec (.fwDownload c q e) s = .next (s.answered c q k stUnpinned 0)) ∧
      (ok → (s.pinned c src len 1).isSome = true →
        (s.bootRec.trial = true → exec (.fwDownload c q e) s = .next (s.answered c q k stBadState 0)) ∧
        (∀ b s1, s.bootRec.trial = false → s.cmdRead e c src len = (.ok b, s1) →
          (bit (pf k.par 24 1) 0 = true → exec (.fwDownload c q e) s =
            .next (((s1.flashErase (slotAt slot) 0x800000).flashWrite (slotAt slot + off) b).answered c q k stOk 0)) ∧
          (bit (pf k.par 24 1) 0 = false → exec (.fwDownload c q e) s =
            .next (((s1.flashErase (markerAt slot) 4096).flashWrite (slotAt slot + off) b).answered c q k stOk 0))))) ∧
    (Serves s c q 0xA1 0 x k →
      (s.bootRec.trial = true → exec (.fwVerify c q e) s = .next (s.answered c q k stBadState 0)) ∧
      (s.bootRec.trial = false →
        (s.imgFormatOk slot = false → exec (.fwVerify c q e) s =
          .next ((s.flashErase (markerAt slot) 4096).answered c q k stImageBad 0)) ∧
        (s.imgFormatOk slot = true → s.imgSigned slot = false → exec (.fwVerify c q e) s =
          .next ((s.flashErase (markerAt slot) 4096).answered c q k stAuthFail 0)) ∧
        (s.authentic slot = true → exec (.fwVerify c q e) s = .next ((s.writeMarker slot).answered c q k stOk
          (s.imgField slot 0xC 3 + (s.imgField slot 6 1 % 2) * 2 ^ 24 + (s.imgField slot 0x10 4 % 128) * 2 ^ 25))))) ∧
    (Serves s c q 0xA2 0 x k →
      let rst := bit (pf k.par 8 1) 0
      (s.bootRec.trial = true ∨ s.markerOk slot = false ∨ (rst = true ∧ s.planWorks = true) →
        exec (.fwActivate c q e) s = .next (s.answered c q k stBadState 0)) ∧
      (s.bootRec.trial = false → s.markerOk slot = true → (rst = true → s.planWorks = false) →
        (s.markerMatches slot = false → exec (.fwActivate c q e) s = .next (s.answered c q k stImageBad 0)) ∧
        (s.markerMatches slot = true → s.authentic slot = false →
          exec (.fwActivate c q e) s = .next (s.answered c q k stAuthFail 0)) ∧
        (s.markerMatches slot = true → s.authentic slot = true →
          (rst = false → exec (.fwActivate c q e) s = .next ((s.newRecord slot true 3).answered c q k stOk 0)) ∧
          (rst = true → exec (.fwActivate c q e) s =
            .next (State.answered { s.newRecord slot true 3 with resetAfter := some k.seq } c q k stOk 0))))) ∧
    (Serves s c q 0xA3 0 x k →
      (∀ f, s.fw = some f → s.bootRec.trial = true → s.bootRec.active = f.slot →
        let t := s.newRecord f.slot false 0
        exec (.fwConfirm c q e) s =
          .next (State.answered { t with svn := max t.svn f.svn } c q k stOk (max t.svn f.svn))) ∧
      (∀ f, s.fw = some f → s.bootRec.trial = false ∨ s.bootRec.active ≠ f.slot →
        exec (.fwConfirm c q e) s = .next (s.answered c q k stBadState 0)))) ∧
  (∀ (s : State) (a : Nat) (d : Bytes), (s.flashWrite a d).mem = s.mem ∧ (s.flashWrite a d).regs = s.regs ∧
    (s.flashErase a d.length).mem = s.mem ∧ (s.flashErase a d.length).svn = s.svn)

/-- Keys, debug and fuses (R397, R410, R413 to R417, R419): KEY_LOAD opens the blob under the device's wrapping key into its slot, KEY_CLEAR empties
it, KEY_WRAP seals the key given with a fresh vector and wipes it, none of load and wrap while debug is unlocked; UNLOCK checks
lockout, live plans and signature in this order, and success brings a warm reset with DBG set, a failure counts, the third
locks out, and every attempt that fails or is refused draws a new nonce; REVOKE takes an unrevoked root whose image neither runs nor stands in the other slot; PROV_LOCK is
one way; a tamper detector counts, sets TAMPER and resets; the TAP answers its instructions. How the TAP numbers its instructions
is the model's own. -/
def Obligations.KeysAndFuses : Prop :=
  (∀ (s : State) (slot : Nat), slot < 16 →
    let b := s.regBytes R.KSU_BLOB 16
    let t := s.put F.KSU_KEYCTL_SLOT slot
    (t.dbg = true → exec (.ksuKeyLoad slot) s = .next (t.keyDone 2)) ∧
    (t.dbg = false → t.regBytes R.KSU_BLOB 16 = b →
      (gcmOpen kwk ((b.drop 4).take 12) (b.take 4) ((b.drop 16).take 32) (b.drop 48) = none →
        exec (.ksuKeyLoad slot) s = .next (t.keyDone 1)) ∧
      (∀ key, gcmOpen kwk ((b.drop 4).take 12) (b.take 4) ((b.drop 16).take 32) (b.drop 48) = some key →
        let u : State := { t with keys := tput t.keys slot (leField b 0 4, leNat key) }
        exec (.ksuKeyLoad slot) s =
          .next (((u.putBit F.KSU_KEYVALID_VALID slot true).wr (R.KSU_KEYID slot) (leField b 0 4)).keyDone 0))) ∧
    (let u : State := { t with keys := tdel s.keys slot }
     exec (.ksuKeyClear slot) s =
       .next (((u.putBit F.KSU_KEYVALID_VALID slot false).wr (R.KSU_KEYID slot) 0).keyDone 0)) ∧
    (t.dbg = true ∨ s.provLock = true → exec (.ksuKeyWrap slot) s = .next (t.keyDone 2)) ∧
    (t.dbg = false → s.provLock = false →
      let id := leBytes 4 (t.rd R.KSU_KEYIN_ID)
      let iv := freeBytes s.fresh 12
      let r := gcmSeal kwk iv id (t.regBytes R.KSU_KEYIN 8)
      let u : State := { t with fresh := s.fresh + 12 }
      exec (.ksuKeyWrap slot) s = .next (((u.setRegBytes R.KSU_BLOB 16 (id ++ iv ++ r.1 ++ r.2)).clearRegs
        ((rangeFrom 0 8).map R.KSU_KEYIN)).keyDone 0))) ∧
  (∀ (s : State) (keysel : Nat), keysel < 2 →
    let t := s.put F.KSU_DBG_CTL_KEYSEL keysel
    let pub := t.regBytes R.KSU_DBG_PUB 24
    let sig := t.regBytes R.KSU_DBG_SIG 24
    let ok := Config.debugDigest (t.get F.KSU_DBG_CTL_KEYSEL) = some (sha384 pub) ∧ ecdsaOk pub sig (sha384 t.unlockText) = true
    (t.on F.KSU_STATUS_DBG_LOCKOUT = true → exec (.ksuDbgUnlock keysel) s = .next ((t.put F.KSU_DBG_CTL_RESULT 2).newNonce)) ∧
    (t.on F.KSU_STATUS_DBG_LOCKOUT = false → t.livePlans ≠ [] →
      exec (.ksuDbgUnlock keysel) s = .next ((t.put F.KSU_DBG_CTL_RESULT 3).newNonce)) ∧
    (t.on F.KSU_STATUS_DBG_LOCKOUT = false → t.livePlans = [] →
      (ok → exec (.ksuDbgUnlock keysel) s =
        .next (((t.put F.KSU_DBG_CTL_RESULT 0).put F.KSU_STATUS_DBG 1).warmReset 7 0xFF)) ∧
      (¬ ok →
        let u := ((t.put F.KSU_DBG_CTL_RESULT 1).incSat F.KSU_DBG_CTL_FAILS).raiseKsu 2
        exec (.ksuDbgUnlock keysel) s = .next
          (if 3 ≤ u.get F.KSU_DBG_CTL_FAILS then (u.put F.KSU_STATUS_DBG_LOCKOUT 1).newNonce else u.newNonce)))) ∧
  (∀ (s : State) (v : Nat) (f : FwInfo), v < 2 ^ 32 →
    (s.fw = some f → (bits v 15 8 ≠ 0x5A ∨ bits v 1 0 = f.key → exec (.ksuRevoke v) s = .next s) ∧
      (bits v 15 8 = 0x5A → bits v 1 0 ≠ f.key → s.bootable (1 - f.slot) = false →
        exec (.ksuRevoke v) s = .next { s with rootRev := s.rootRev ||| 2 ^ bits v 1 0 })) ∧
    (bit v 0 = true →
      exec (.ksuProvLock v) s = .next (State.put { s with provLock := true } F.KSU_LOCKCTL_PROV_LOCK 1)) ∧
    (bit v 0 = false → exec (.ksuProvLock v) s = .next s)) ∧
  (∀ (s : State) (det : Nat), 4 ≤ det → det < 7 →
    let t := (s.logDet det 0 0 none 1 false).incSat
      (if det = 4 then F.KSU_TAMPER_VOLT else if det = 5 then F.KSU_TAMPER_CLK else F.KSU_TAMPER_TEMP)
    exec (.tamper det) s = .next (((t.put F.KSU_STATUS_TAMPER 1).warmReset 6 det).raiseKsu 0)) ∧
  (∀ (s : State) (dr : Nat),
    exec (.tapInstruction 0 dr) s = .next (State.emit { s with tapIr := 0, tapHigh := false } (.tap 0)) ∧
    exec (.tapInstruction 1 dr) s = .next (State.emit { s with tapIr := 1, tapHigh := false } (.tap 0x14832001)) ∧
    (∀ ir, ir = 4 ∨ ir = 5 →
      exec (.tapInstruction ir dr) s = .next (State.emit { s with tapIr := ir, tapHigh := true } (.tap 0))) ∧
    exec (.tapInstruction 6 dr) s = .next (State.dbgKey { s with tapIr := 6, tapHigh := false } dr))

/-- Resets and the boot (R90, R324, R342, R420 to R424, R426 to R429, R439, R440): a power-on reset keeps only what lies outside every reset; PERST# asserted
holds the boot, deasserted starts it at stage 1; a warm reset keeps device time, the always-on records and, but for a PF reset,
the PCIe configuration, counts, names its cause and starts at stage 2, or at stage 1 where the root PLL relocks; each boot stage
ends with its own results, a failure holds the boot with its code, and nothing happens while the boot is held. -/
def Obligations.ResetsAndBoot : Prop :=
  (∀ s : State,
    exec .powerOn s = .next (s.outlast.setCause 0 0xFF 0) ∧
    (let t : State := ({ s.outlast with perst := s.perst }.setCause 1 0xFF 0).put F.PMC_AON_BOR 1 |>.put F.PMC_EVENT_BOR 1
     exec .aonBrownOut s = .next (if s.perst = true then t else t.bootFrom 1)) ∧
    exec .perstAssert s = .next (State.setCause { s.keepAon with perst := true } 2 0xFF 0) ∧
    (s.perst = true → exec .perstDeassert s = .next (State.bootFrom { s with perst := false } 1)) ∧
    (s.perst = false → exec .perstDeassert s = .next s) ∧
    (s.perst = false → exec .pfFlr s = .next (s.warmReset 3 0xFF)) ∧ (s.perst = true → exec .pfFlr s = .next s) ∧
    (∀ rail, rail < 16 → exec (.railReturn rail) s = .next { s with railsBad := s.railsBad.filter (· != rail) })) ∧
  (∀ (s : State) (cause det : Nat), cause < 9 → det < 256 →
    (s.perst = false → 3 ≤ cause →
      exec (.warmDeviceReset cause det) s = .next (s.warmReset cause (if 4 ≤ cause ∧ cause ≤ 6 then det else 0xFF))) ∧
    (s.perst = true ∨ cause < 3 → exec (.warmDeviceReset cause det) s = .next s)) ∧
  (∀ (s : State) (cause det : Nat), cause < 9 → det < 256 → ∃ t : State, s.warmReset cause det = t ∧
    t.time = s.time ∧ t.flash = s.flash ∧ t.svn = s.svn ∧ t.rootRev = s.rootRev ∧ t.mem = State.reset.mem ∧ t.plans = [] ∧
    t.queues = [] ∧ t.items = [] ∧ t.keys = [] ∧ t.pending = s.pending ∧
    t.get F.GLB_STATUS_STAGE = (if cause = 4 ∧ (det = 0x10 ∨ det = 0x11) then 1 else 2) ∧
    t.get F.GLB_STATUS_WARM = 1 ∧ t.get F.GLB_RSTCAUSE_CAUSE = cause ∧ t.get F.GLB_RSTCAUSE_DETECTOR = det) ∧
  (∀ (s : State) (b : BootEnv),
    (s.bootHeld = true ∨ s.on F.GLB_STATUS_ERR = true → exec (.bootStageDone b) s = .next s) ∧
    (s.bootHeld = false → s.on F.GLB_STATUS_ERR = false →
      (s.get F.GLB_STATUS_STAGE = 1 →
        (b.ok = true → exec (.bootStageDone b) s = .next s.bootClocks) ∧
        (b.ok = false → exec (.bootStageDone b) s = .next (s.bootError 1))) ∧
      (s.get F.GLB_STATUS_STAGE = 2 →
        (b.ok = true → exec (.bootStageDone b) s = .next s.bootZero) ∧
        (b.ok = false → exec (.bootStageDone b) s = .next (s.bootError 2))) ∧
      (s.get F.GLB_STATUS_STAGE = 3 → exec (.bootStageDone b) s = .next s.bootRomStage) ∧
      (s.get F.GLB_STATUS_STAGE = 4 → exec (.bootStageDone b) s = .next (s.bootFirmware b.vals)) ∧
      (s.get F.GLB_STATUS_STAGE = 5 →
        (b.ok = true → exec (.bootStageDone b) s = .next (s.bootDram (b.vals.getD 0 1 % 4) (b.vals.getD 1 8533))) ∧
        (b.ok = false → exec (.bootStageDone b) s = .next (s.bootError (if b.errCode = 4 then 4 else 3)))) ∧
      (s.get F.GLB_STATUS_STAGE = 6 → exec (.bootStageDone b) s = .next (s.bootTests b.vals)) ∧
      (s.get F.GLB_STATUS_STAGE = 7 → exec (.bootStageDone b) s = .next s.bootFinal) ∧
      (7 < s.get F.GLB_STATUS_STAGE → exec (.bootStageDone b) s = .next s))) ∧
  (∀ s : State, s.bootClocks.time = 0 ∧ s.bootFinal.get F.GLB_STATUS_READY = 1 ∧ s.bootFinal.get F.GLB_RSTCAUSE_LOOP = 0 ∧
    ∀ code, code < 16 → (s.bootError code).on F.GLB_STATUS_ERR = true ∧ (s.bootError code).get F.GLB_STATUS_ERR_CODE = code)

/-- A BAR0 access that R22 discards, of either direction and before READY too, is counted in GLB_BADACC.COUNT, which stops at its largest
value, and its offset and direction are written to GLB_BADADDR and GLB_BADACC.WRITE (R431); memory, queues and plans stay. -/
def Obligations.DiscardedAccess : Prop :=
  ∀ (s : State) (off size : Nat) (w : Bool), off < 67108864 → badAccess off size = true →
    ∃ t : State, exec (.bar0BadAccess off size w) s = .next t ∧ t = bar0BadAccess off w s ∧
      t.get F.GLB_BADACC_COUNT = min (s.get F.GLB_BADACC_COUNT + 1) 0xFFFF ∧ t.get F.GLB_BADACC_WRITE = b2n w ∧
      t.get F.GLB_BADADDR_OFFSET = off ∧ t.mem = s.mem ∧ t.queues = s.queues ∧ t.plans = s.plans

/-- Host accesses to registers (R6, R9, R22, R23, R25, R339, R340, R425): an access of another width or alignment is discarded, in BAR0
counted with its offset and direction; while the window is closed, and at an undefined offset, a read gives zero and a write
does nothing; else the access takes place, at once where the block cannot sleep or answers, after the wake of its domain where
it does not; a write to the low half of a 64-bit register is held until the high half is written. -/
def Obligations.RegisterAccess : Prop :=
  (∀ (s : State) (off size v : Nat), v < 2 ^ (8 * size) →
    (badAccess off size = true → portOk .bar0 off size = true →
      exec (.registerWrite .bar0 off size v) s = .next (bar0BadAccess off true s) ∧
      exec (.registerRead .bar0 off size) s = .next (bar0BadAccess off false s)) ∧
    (∀ c, badAccess off size = true → portOk (.bar2 c) off size = true →
      exec (.registerWrite (.bar2 c) off size v) s = .next s ∧
      exec (.registerRead (.bar2 c) off size) s = .next (s.emit (.read 0)))) ∧
  (∀ (s : State) (port : RegPort) (off size v : Nat), portOk port off size = true → badAccess off size = false →
    v < 2 ^ (8 * size) →
    let h := (locate port off) <|> (if size = 8 then locate port (off + 4) else none)
    (s.barOpen port off = false → exec (.registerWrite port off size v) s = .next s ∧
      exec (.registerRead port off size) s = .next (s.emit (.read 0))) ∧
    (s.barOpen port off = true → h = none → exec (.registerWrite port off size v) s = .next s ∧
      exec (.registerRead port off size) s = .next (s.emit (.read 0))) ∧
    (s.barOpen port off = true → h.bind Hit.domain = none →
      exec (.registerWrite port off size v) s = .next (s.writeAt port off size v) ∧
      exec (.registerRead port off size) s = .next ((s.readAt port off size).2.emit (.read (s.readAt port off size).1))) ∧
    (∀ d, s.barOpen port off = true → h.bind Hit.domain = some d →
      let t := (s.demand d).serveParked
      ((s.demand d).answers d = true →
        exec (.registerWrite port off size v) s = .next (t.writeAt port off size v) ∧
        exec (.registerRead port off size) s = .next ((t.readAt port off size).2.emit (.read (t.readAt port off size).1))) ∧
      ((s.demand d).answers d = false →
        exec (.registerWrite port off size v) s =
          .next { s.demand d with parked := (s.demand d).parked ++ [⟨d, port, off, size, some v⟩] } ∧
        exec (.registerRead port off size) s =
          .next { s.demand d with parked := (s.demand d).parked ++ [⟨d, port, off, size, none⟩] }))) ∧
  (∀ (s : State) (port : RegPort) (off v : Nat) (h : Hit), locate port off = some h → h.desc.width = 64 →
    (h.rel < 4 → s.write4 port off v = { s with holds := tput s.holds h.key v }) ∧
    (4 ≤ h.rel → ∀ low, tfind s.holds h.key = some low →
      s.write4 port off v = State.writeReg { s with holds := tdel s.holds h.key } h (low + v * 2 ^ 32)) ∧
    (4 ≤ h.rel → tfind s.holds h.key = none →
      s.write4 port off v = State.writeReg { s with holds := tdel s.holds h.key } h (s.rd h.reg % 2 ^ 32 + v * 2 ^ 32)))

/-- Access codes (R8, R9): bit by bit, what a write leaves in a field of each code of Table 0.3, what a read returns of it and what
reading leaves; reserved bits read zero and keep what a write brings out of them; and in every register of the tables the fields lie
within the width and apart. -/
def Obligations.AccessCodes : Prop :=
  (∀ (fs : List FieldDesc) (old v n : Nat), fs.Pairwise (fun f g => f.hi < g.lo ∨ g.hi < f.lo) → (∀ f ∈ fs, f.lo ≤ f.hi) →
    (∀ f ∈ fs, f.lo ≤ n → n ≤ f.hi →
      (f.acc = .rw ∨ f.acc = .wo → bit (writeFields fs old v) n = bit v n) ∧
      (f.acc = .w1c → bit (writeFields fs old v) n = (bit old n && !bit v n)) ∧
      (f.acc = .w1s → bit (writeFields fs old v) n = (bit old n || bit v n)) ∧
      (f.acc = .ro ∨ f.acc = .rc → bit (writeFields fs old v) n = bit old n) ∧
      (f.acc = .wo → bit (readMask fs old) n = false) ∧
      (f.acc ≠ .wo → bit (readMask fs old) n = bit old n) ∧
      (f.acc = .rc → bit (clearRc fs old) n = false) ∧
      (f.acc ≠ .rc → bit (clearRc fs old) n = bit old n)) ∧
    ((∀ f ∈ fs, n < f.lo ∨ f.hi < n) → bit (writeFields fs old v) n = bit old n ∧ bit (readMask fs old) n = false)) ∧
  (∀ d ∈ tableGlb ++ tableClk ++ tablePmc ++ tableEmu ++ tableFmu ++ tableKsu ++ tableCpx ++ tableAtu ++ tableDmx ++ tableHrd ++
      tableMemc ++ tableEvp ++ tableAcq ++ tableDfc ++ tableLio ++ tableTine ++ tableChu ++ tablePpu ++ tableFn ++ tableSrm,
    (∀ f ∈ d.fields, f.lo ≤ f.hi ∧ f.hi < d.width) ∧ d.fields.Pairwise (fun f g => f.hi < g.lo ∨ g.hi < f.lo))

/-- A step takes the command at the front of the queue and is that command's effect with the queue's rest. With nothing waiting a tick of
device time passes, but for the last tick of a beat, which a BEAT_BOUNDARY ends: that is the model's choice (assumption log entry
1). -/
def Obligations.StepRunsFront : Prop :=
  (∀ (s : State) (i : Instr) (rest : List Instr), s.pending = i :: rest → step s = exec i { s with pending := rest }) ∧
  (∀ s : State, s.pending = [] → (s.time % 500 = 499 → step s = .next s) ∧
    (s.time % 500 ≠ 499 → s.ready = false → step s = .next { s with time := s.time + 1 }) ∧
    (s.time % 500 ≠ 499 → s.ready = true →
      step s = .next (State.tickWork { s with time := s.time + 1 }).settle))

/-- Every command whose operands name what the spec gives the device takes effect in every state; another names a unit that does not exist,
and that is the only stop. -/
def Obligations.CommandsComplete : Prop :=
  ∀ (i : Instr) (s : State),
    (i.wellFormed = true → ∃ t : State, exec i s = .next t) ∧ (i.wellFormed = false → exec i s = .fault .noSuchUnit)

/-- After reset every register reads the reset value that its table gives, every context is DISABLED, no queue, plan, item or range exists,
memory lists nothing and, like the flash, is in canonical form, every domain is ON and on FIO, the DETECTOR of the reset cause reads 0xFF, and PERST# is asserted with the
boot not begun (R9, R29, R328, R422, Tables 0.3, 4.1, 19.2). A register whose table gives no number reads what the assumption log
names. -/
def Obligations.ResetState : Prop :=
  (∀ r : Reg, State.reset.rd r = r.reset) ∧ (∀ c, c < 128 → (State.reset.ctx c).phase = .disabled) ∧
  (∀ c q, State.reset.queue? c q = none) ∧ (∀ c h, State.reset.plan? c h = none) ∧ State.reset.items = [] ∧
  State.reset.ranges = [] ∧ State.reset.mem = [] ∧ State.reset.pending = [] ∧
  (∀ d, d ≤ 92 → State.reset.domOn d = true ∧ State.reset.onFio d = true) ∧
  State.reset.get F.GLB_RSTCAUSE_DETECTOR = 0xFF ∧ State.reset.get F.GLB_STATUS_STAGE = 0 ∧
  State.reset.get F.GLB_STATUS_READY = 0 ∧ State.reset.perst = true ∧ State.reset.bootHeld = true ∧
  State.reset.get F.EMU_BUDGET_UJ_B = 95000 ∧
  Memory.wf State.reset.mem = true ∧ Memory.wf State.reset.flash = true

/-- Memory (R241, R242, R248 to R250, R253): a read after a write at the same addresses gives the bytes written with the poison they
carried, where the words are whole; every other byte and every register but the error counts stay; a read changes no byte and
leaves the poison; zeroing gives zeros without errors; an address that does not exist takes nothing; and a background access to
a bank that a plan claims takes or gives nothing and is counted. -/
def Obligations.MemoryAccess : Prop :=
  (∀ (s : State) (who : Who) (a : Nat) (d : List PByte), laPlace a ≠ 8 →
    (∀ i, i < d.length → memByte (s.writeLa who a d).mem (a + i) = (d.getD i (0, false)).1) ∧
    (∀ x, x < a ∨ a + d.length ≤ x → memByte (s.writeLa who a d).mem x = memByte s.mem x) ∧
    ((s.writeLa who a d).queues = s.queues ∧ (s.writeLa who a d).plans = s.plans ∧ (s.writeLa who a d).items = s.items ∧
      (s.writeLa who a d).time = s.time) ∧
    (a % 8 = 0 → d.length = 8 → d.all (fun b => !b.2) = true → (s.writeLa who a d).poisonedAt a = false) ∧
    (a % 8 = 0 → d.length = 8 → d.any (·.2) = true → (s.writeLa who a d).poisonedAt a = true)) ∧
  (∀ (s : State) (who : Who) (a : Nat) (d : List PByte), laPlace a = 8 → s.writeLa who a d = s) ∧
  (∀ (s : State) (who : Who) (a n : Nat),
    (s.readLa who a n).1 = (rangeFrom a n).map (fun x => (memByte s.mem x, s.poisonedAt x)) ∧
    (s.readLa who a n).2.mem = s.mem ∧ (s.readLa who a n).2.ecc = s.ecc) ∧
  (∀ (s : State) (a n x : Nat),
    (a ≤ x → x < a + n → memByte (s.zeroLa a n).mem x = 0 ∧ (a % 8 = 0 → n % 8 = 0 → (s.zeroLa a n).poisonedAt x = false)) ∧
    (x < a ∨ a + n ≤ x → memByte (s.zeroLa a n).mem x = memByte s.mem x)) ∧
  (∀ (s : State) (who : Who) (a n : Nat) (d : List PByte), d.length = n → 0 < n →
    a / 0x20000 = (a + n - 1) / 0x20000 → s.bankClaimed a = true →
    s.writeBg who a d = s.incSat (F.SRM_BLK_CNT_BLK (laPlace a)) ∧
    s.readBg who a n = (poisonBytes n, s.incSat (F.SRM_BLK_CNT_BLK (laPlace a))))

/-- Every step keeps the canonical form of the memory and of the flash: addresses strictly rising, no byte listed that an unlisted
address reads as, so that equal contents are equal data. -/
def Obligations.CanonicalMemory : Prop :=
  ∀ s t : State, Memory.wf s.mem = true → Memory.wf s.flash = true → step s = .next t →
    Memory.wf t.mem = true ∧ Memory.wf t.flash = true

/-- One-way state, over every command and the tick (R397, R403, R408, R419): the security version never falls, a revoked root stays revoked, the
provisioning lock stays set through every reset; and no command but the one that a step takes leaves the queue. -/
def Obligations.OneWay : Prop :=
  (∀ s t : State, step s = .next t → s.svn ≤ t.svn ∧ (∀ i, bit s.rootRev i = true → bit t.rootRev i = true) ∧
    (s.provLock = true → t.provLock = true)) ∧
  (∀ (i : Instr) (s t : State), exec i s = .next t → t.pending = s.pending) ∧
  (∀ s t : State, step s = .next t → t.pending = s.pending.drop 1)

end
end

