-- ==== Sys2Proof/Laws/PerInstr.lean ====
section
/-! SUPPORT. What well-formedness says of every command's operands: an opcode row names a context, a local queue and an environment, a
record's command an activity, another the unit it acts on, each in the range that the spec gives. -/

namespace Sys2Proof.Laws.Operand

open Sys2Proof Sys2Proof.Machine

set_option Elab.async false

/-- The record that a command carries out. -/
def record : Instr → Option RecRun
  | .tineRun r => some r
  | .chainOp r => some r
  | .ppuSort r => some r
  | .ppuDetect r => some r
  | .dmxRun r => some r
  | .evpPatch r => some r
  | .evpPredict r => some r
  | .acqArm r => some r
  | .strobe r => some r
  | .herdXfer r => some r
  | .recordShed r => some r
  | .recordOverrun r => some r
  | _ => none

/-- The first unit, context or queue that a command names, and how many the device has. -/
def unit : Instr → Option (Nat × Nat)
  | .fnSqdb x _ _ _ => some (x, 128)
  | .fnCqdb x _ _ => some (x, 128)
  | .fnQ0Ctrl x _ => some (x, 128)
  | .lioEncRelock x => some (x, 4)
  | .lioLoForce x _ => some (x, 16)
  | .acqSpiTx x => some (x, 4294967296)
  | .dmxPauseSet x => some (x, 192)
  | .dmxPauseClear x => some (x, 192)
  | .ksuKeyLoad x => some (x, 16)
  | .ksuKeyClear x => some (x, 16)
  | .ksuKeyWrap x => some (x, 16)
  | .ksuDbgUnlock x => some (x, 2)
  | .ksuRevoke x => some (x, 4294967296)
  | .ksuProvLock x => some (x, 4294967296)
  | .glbDomrst x _ => some (x, 128)
  | .hrdLinkRetrain x => some (x, 4)
  | .bar0BadAccess x _ _ => some (x, 67108864)
  | .bar4Access x _ _ _ => some (x, 268435456)
  | .tapInstruction x _ => some (x, 7)
  | .replyWriteResponse x _ => some (x, 128)
  | .commandTimeout x _ => some (x, 128)
  | .cqCoalesceTimeout x _ => some (x, 128)
  | .planDrained x _ => some (x, 128)
  | .itemCreate x => some (x, 128)
  | .verdictCompose x _ _ => some (x, 128)
  | .itemVerdict x _ _ => some (x, 128)
  | .dmxMove x => some (x, 64)
  | .dmxLoop x => some (x, 64)
  | .dmxWaitBeat x => some (x, 64)
  | .dmxWaitTrig x => some (x, 64)
  | .dmxWaitSem x => some (x, 64)
  | .dmxWaitRelease x => some (x, 64)
  | .dmxWaitTimeout x => some (x, 64)
  | .dmxSignal x => some (x, 64)
  | .dmxEnd x => some (x, 64)
  | .recordLate x => some (x, 64)
  | .descMove x _ => some (x, 192)
  | .descNop x _ => some (x, 192)
  | .dmxPaused x => some (x, 192)
  | .ringFaultServed x _ => some (x, 128)
  | .faultTimeout x _ => some (x, 128)
  | .prgResponse x _ _ _ => some (x, 128)
  | .invalidateStop x => some (x, 192)
  | .walkTimeout x _ => some (x, 128)
  | .encCount x _ _ _ => some (x, 4)
  | .encZEdge x _ _ => some (x, 4)
  | .webStopped x => some (x, 4)
  | .liEdge x _ _ _ => some (x, 8)
  | .liStuck x => some (x, 8)
  | .outputFire x => some (x, 16)
  | .outputPulseEnd x => some (x, 16)
  | .csi2LongPacket x _ => some (x, 4)
  | .csi2ShortPacket x _ => some (x, 4)
  | .mapperWindowClose x => some (x, 4)
  | .mapperSilent x => some (x, 4)
  | .eventProcess x => some (x, 4)
  | .trackCoastTimeout x _ => some (x, 4)
  | .surfaceSweep x _ _ => some (x, 4)
  | .fabricFire x => some (x, 64)
  | .fabricArmClose x => some (x, 64)
  | .acqTrigger x _ _ _ => some (x, 8)
  | .acqFillDone x => some (x, 8)
  | .acqSegmentDone x _ _ => some (x, 8)
  | .acqRearmDone x => some (x, 8)
  | .acqCalTracking x => some (x, 8)
  | .spiTransferDone x => some (x, 4294967296)
  | .dfcStreamBlock x _ => some (x, 8)
  | .droop x => some (x, 4)
  | .detectorFire x _ => some (x, 96)
  | .contextRecovery x _ => some (x, 128)
  | .replacementBegin x _ => some (x, 2)
  | .replacementSwap x => some (x, 2)
  | .rotationStepBegin x => some (x, 2)
  | .shadowCopyDone x => some (x, 2)
  | .spareSwap x => some (x, 2)
  | .engineSelftestDone x _ _ => some (x, 2)
  | .sramScrub x => some (x, 184549376)
  | .domainIdleTimeout x => some (x, 93)
  | .domainEntryDone x => some (x, 93)
  | .domainDemand x => some (x, 93)
  | .domainWakeDone x => some (x, 93)
  | .clkSwitchDone x => some (x, 93)
  | .clkSwitchFail x => some (x, 93)
  | .warmDeviceReset x _ => some (x, 9)
  | .vfEnableSet x => some (x, 128)
  | .flitReceive x _ _ => some (x, 4)
  | .flitLost x _ => some (x, 4)
  | .resultUndelivered _ x => some (x, 8)
  | .laneFault x _ => some (x, 4)
  | .linkDown x => some (x, 4)
  | .linkTrained x _ _ _ => some (x, 4)
  | .fabricArmOpen x => some (x, 64)
  | .trackLeavesFrame x _ => some (x, 4)
  | .linkTrainingTimeout x => some (x, 4)
  | .flitReplay x _ => some (x, 4)
  | .railReturn x => some (x, 16)
  | .dphyStateChange x _ _ _ => some (x, 4)
  | _ => none

/-- Operands of a well-formed command lie in the spec's ranges. -/
def Statement (i : Instr) : Prop :=
  i.wellFormed = true →
    (∀ c q e op sel, opcodeRow i = some (c, q, e, op, sel) → c < 128 ∧ q < 128 ∧ envOk e = true ∧ op < 256) ∧
    (∀ r, record i = some r → r.c < 128 ∧ r.h < 4 ∧ r.idx < 32768) ∧ (∀ x n, unit i = some (x, n) → x < n)

theorem of_opcode {i : Instr} {c q op sel : Nat} {e : HostEnv} (ho : opcodeRow i = some (c, q, e, op, sel))
    (hr : record i = none) (hu : unit i = none) (hop : op < 256)
    (h : i.wellFormed = true → c < 128 ∧ q < 128 ∧ envOk e = true) : Statement i := by
  intro hw
  obtain ⟨h1, h2, h3⟩ := h hw
  refine ⟨?_, by simp [hr], by simp [hu]⟩
  intro c' q' e' op' sel' g
  rw [ho] at g
  cases g
  exact ⟨h1, h2, h3, hop⟩

theorem of_record {i : Instr} {r : RecRun} (ho : opcodeRow i = none) (hr : record i = some r) (hu : unit i = none)
    (h : i.wellFormed = true → runOk r = true) : Statement i := by
  intro hw
  refine ⟨by simp [ho], ?_, by simp [hu]⟩
  intro r' g
  rw [hr] at g
  cases g
  have := h hw
  simp [runOk] at this
  exact ⟨this.1.1, this.1.2, this.2⟩

theorem of_unit {i : Instr} {x n : Nat} (ho : opcodeRow i = none) (hr : record i = none) (hu : unit i = some (x, n))
    (h : i.wellFormed = true → x < n) : Statement i := by
  intro hw
  refine ⟨by simp [ho], by simp [hr], ?_⟩
  intro x' n' g
  rw [hu] at g
  cases g
  exact h hw

theorem of_none {i : Instr} (ho : opcodeRow i = none) (hr : record i = none) (hu : unit i = none) : Statement i :=
  fun _ => ⟨by simp [ho], by simp [hr], by simp [hu]⟩

theorem nop (c : Nat) (q : Nat) (env : HostEnv) : Statement (.nop c q env) :=
  of_opcode rfl rfl rfl (by decide) (fun h => by simpa [Instr.wellFormed, and_assoc] using h)

theorem echo (c : Nat) (q : Nat) (env : HostEnv) : Statement (.echo c q env) :=
  of_opcode rfl rfl rfl (by decide) (fun h => by simpa [Instr.wellFormed, and_assoc] using h)

theorem queryDevice (c : Nat) (q : Nat) (env : HostEnv) : Statement (.queryDevice c q env) :=
  of_opcode rfl rfl rfl (by decide) (fun h => by simpa [Instr.wellFormed, and_assoc] using h)

theorem planLoad (c : Nat) (q : Nat) (env : HostEnv) : Statement (.planLoad c q env) :=
  of_opcode rfl rfl rfl (by decide) (fun h => by simpa [Instr.wellFormed, and_assoc] using h)

theorem planAdmit (c : Nat) (q : Nat) (env : HostEnv) : Statement (.planAdmit c q env) :=
  of_opcode rfl rfl rfl (by decide) (fun h => by simpa [Instr.wellFormed, and_assoc] using h)

theorem planArm (c : Nat) (q : Nat) (env : HostEnv) : Statement (.planArm c q env) :=
  of_opcode rfl rfl rfl (by decide) (fun h => by simpa [Instr.wellFormed, and_assoc] using h)

theorem planStop (c : Nat) (q : Nat) (env : HostEnv) : Statement (.planStop c q env) :=
  of_opcode rfl rfl rfl (by decide) (fun h => by simpa [Instr.wellFormed, and_assoc] using h)

theorem planUnload (c : Nat) (q : Nat) (env : HostEnv) : Statement (.planUnload c q env) :=
  of_opcode rfl rfl rfl (by decide) (fun h => by simpa [Instr.wellFormed, and_assoc] using h)

theorem planStatus (c : Nat) (q : Nat) (env : HostEnv) : Statement (.planStatus c q env) :=
  of_opcode rfl rfl rfl (by decide) (fun h => by simpa [Instr.wellFormed, and_assoc] using h)

theorem modelLoad (c : Nat) (q : Nat) (env : HostEnv) : Statement (.modelLoad c q env) :=
  of_opcode rfl rfl rfl (by decide) (fun h => by simpa [Instr.wellFormed, and_assoc] using h)

theorem modelEvict (c : Nat) (q : Nat) (env : HostEnv) : Statement (.modelEvict c q env) :=
  of_opcode rfl rfl rfl (by decide) (fun h => by simpa [Instr.wellFormed, and_assoc] using h)

theorem modelList (c : Nat) (q : Nat) (env : HostEnv) : Statement (.modelList c q env) :=
  of_opcode rfl rfl rfl (by decide) (fun h => by simpa [Instr.wellFormed, and_assoc] using h)

theorem bufPin (c : Nat) (q : Nat) (env : HostEnv) : Statement (.bufPin c q env) :=
  of_opcode rfl rfl rfl (by decide) (fun h => by simpa [Instr.wellFormed, and_assoc] using h)

theorem bufUnpin (c : Nat) (q : Nat) (env : HostEnv) : Statement (.bufUnpin c q env) :=
  of_opcode rfl rfl rfl (by decide) (fun h => by simpa [Instr.wellFormed, and_assoc] using h)

theorem tlbInvalidate (c : Nat) (q : Nat) (env : HostEnv) : Statement (.tlbInvalidate c q env) :=
  of_opcode rfl rfl rfl (by decide) (fun h => by simpa [Instr.wellFormed, and_assoc] using h)

theorem pageMigrate (c : Nat) (q : Nat) (env : HostEnv) : Statement (.pageMigrate c q env) :=
  of_opcode rfl rfl rfl (by decide) (fun h => by simpa [Instr.wellFormed, and_assoc] using h)

theorem ringCreate (c : Nat) (q : Nat) (env : HostEnv) : Statement (.ringCreate c q env) :=
  of_opcode rfl rfl rfl (by decide) (fun h => by simpa [Instr.wellFormed, and_assoc] using h)

theorem ringDestroy (c : Nat) (q : Nat) (env : HostEnv) : Statement (.ringDestroy c q env) :=
  of_opcode rfl rfl rfl (by decide) (fun h => by simpa [Instr.wellFormed, and_assoc] using h)

theorem dmaProgLoad (c : Nat) (q : Nat) (env : HostEnv) : Statement (.dmaProgLoad c q env) :=
  of_opcode rfl rfl rfl (by decide) (fun h => by simpa [Instr.wellFormed, and_assoc] using h)

theorem acqConfigStop (c : Nat) (q : Nat) (env : HostEnv) : Statement (.acqConfigStop c q env) :=
  of_opcode rfl rfl rfl (by decide) (fun h => by simpa [Instr.wellFormed, and_assoc] using h)

theorem acqConfigApply (c : Nat) (q : Nat) (env : HostEnv) : Statement (.acqConfigApply c q env) :=
  of_opcode rfl rfl rfl (by decide) (fun h => by simpa [Instr.wellFormed, and_assoc] using h)

theorem acqConfigStart (c : Nat) (q : Nat) (env : HostEnv) : Statement (.acqConfigStart c q env) :=
  of_opcode rfl rfl rfl (by decide) (fun h => by simpa [Instr.wellFormed, and_assoc] using h)

theorem acqConfigForce (c : Nat) (q : Nat) (env : HostEnv) : Statement (.acqConfigForce c q env) :=
  of_opcode rfl rfl rfl (by decide) (fun h => by simpa [Instr.wellFormed, and_assoc] using h)

theorem acqConfigPair (c : Nat) (q : Nat) (env : HostEnv) : Statement (.acqConfigPair c q env) :=
  of_opcode rfl rfl rfl (by decide) (fun h => by simpa [Instr.wellFormed, and_assoc] using h)

theorem dfcCoefLoadStop (c : Nat) (q : Nat) (env : HostEnv) : Statement (.dfcCoefLoadStop c q env) :=
  of_opcode rfl rfl rfl (by decide) (fun h => by simpa [Instr.wellFormed, and_assoc] using h)

theorem dfcCoefLoadLoad (c : Nat) (q : Nat) (env : HostEnv) : Statement (.dfcCoefLoadLoad c q env) :=
  of_opcode rfl rfl rfl (by decide) (fun h => by simpa [Instr.wellFormed, and_assoc] using h)

theorem dfcCoefLoadStart (c : Nat) (q : Nat) (env : HostEnv) : Statement (.dfcCoefLoadStart c q env) :=
  of_opcode rfl rfl rfl (by decide) (fun h => by simpa [Instr.wellFormed, and_assoc] using h)

theorem acqSync (c : Nat) (q : Nat) (env : HostEnv) : Statement (.acqSync c q env) :=
  of_opcode rfl rfl rfl (by decide) (fun h => by simpa [Instr.wellFormed, and_assoc] using h)

theorem acqReadout (c : Nat) (q : Nat) (env : HostEnv) : Statement (.acqReadout c q env) :=
  of_opcode rfl rfl rfl (by decide) (fun h => by simpa [Instr.wellFormed, and_assoc] using h)

theorem evpConfigDisable (c : Nat) (q : Nat) (env : HostEnv) : Statement (.evpConfigDisable c q env) :=
  of_opcode rfl rfl rfl (by decide) (fun h => by simpa [Instr.wellFormed, and_assoc] using h)

theorem evpConfigEnable (c : Nat) (q : Nat) (env : HostEnv) : Statement (.evpConfigEnable c q env) :=
  of_opcode rfl rfl rfl (by decide) (fun h => by simpa [Instr.wellFormed, and_assoc] using h)

theorem evpConfigGroups (c : Nat) (q : Nat) (env : HostEnv) : Statement (.evpConfigGroups c q env) :=
  of_opcode rfl rfl rfl (by decide) (fun h => by simpa [Instr.wellFormed, and_assoc] using h)

theorem evpMaskLoad (c : Nat) (q : Nat) (env : HostEnv) : Statement (.evpMaskLoad c q env) :=
  of_opcode rfl rfl rfl (by decide) (fun h => by simpa [Instr.wellFormed, and_assoc] using h)

theorem pwrPolicySet (c : Nat) (q : Nat) (env : HostEnv) : Statement (.pwrPolicySet c q env) :=
  of_opcode rfl rfl rfl (by decide) (fun h => by simpa [Instr.wellFormed, and_assoc] using h)

theorem pwrPolicyWake (c : Nat) (q : Nat) (env : HostEnv) : Statement (.pwrPolicyWake c q env) :=
  of_opcode rfl rfl rfl (by decide) (fun h => by simpa [Instr.wellFormed, and_assoc] using h)

theorem pwrPolicyAon (c : Nat) (q : Nat) (env : HostEnv) : Statement (.pwrPolicyAon c q env) :=
  of_opcode rfl rfl rfl (by decide) (fun h => by simpa [Instr.wellFormed, and_assoc] using h)

theorem energyBudgetSet (c : Nat) (q : Nat) (env : HostEnv) : Statement (.energyBudgetSet c q env) :=
  of_opcode rfl rfl rfl (by decide) (fun h => by simpa [Instr.wellFormed, and_assoc] using h)

theorem pwrGroupSleep (c : Nat) (q : Nat) (env : HostEnv) : Statement (.pwrGroupSleep c q env) :=
  of_opcode rfl rfl rfl (by decide) (fun h => by simpa [Instr.wellFormed, and_assoc] using h)

theorem faultInject (c : Nat) (q : Nat) (env : HostEnv) : Statement (.faultInject c q env) :=
  of_opcode rfl rfl rfl (by decide) (fun h => by simpa [Instr.wellFormed, and_assoc] using h)

theorem faultInjectClear (c : Nat) (q : Nat) (env : HostEnv) : Statement (.faultInjectClear c q env) :=
  of_opcode rfl rfl rfl (by decide) (fun h => by simpa [Instr.wellFormed, and_assoc] using h)

theorem faultLogRead (c : Nat) (q : Nat) (env : HostEnv) : Statement (.faultLogRead c q env) :=
  of_opcode rfl rfl rfl (by decide) (fun h => by simpa [Instr.wellFormed, and_assoc] using h)

theorem selftestRun (c : Nat) (q : Nat) (env : HostEnv) : Statement (.selftestRun c q env) :=
  of_opcode rfl rfl rfl (by decide) (fun h => by simpa [Instr.wellFormed, and_assoc] using h)

theorem herdJoinJoin (c : Nat) (q : Nat) (env : HostEnv) : Statement (.herdJoinJoin c q env) :=
  of_opcode rfl rfl rfl (by decide) (fun h => by simpa [Instr.wellFormed, and_assoc] using h)

theorem herdJoinFound (c : Nat) (q : Nat) (env : HostEnv) : Statement (.herdJoinFound c q env) :=
  of_opcode rfl rfl rfl (by decide) (fun h => by simpa [Instr.wellFormed, and_assoc] using h)

theorem herdJoinEpoch (c : Nat) (q : Nat) (env : HostEnv) : Statement (.herdJoinEpoch c q env) :=
  of_opcode rfl rfl rfl (by decide) (fun h => by simpa [Instr.wellFormed, and_assoc] using h)

theorem herdLeave (c : Nat) (q : Nat) (env : HostEnv) : Statement (.herdLeave c q env) :=
  of_opcode rfl rfl rfl (by decide) (fun h => by simpa [Instr.wellFormed, and_assoc] using h)

theorem herdStatus (c : Nat) (q : Nat) (env : HostEnv) : Statement (.herdStatus c q env) :=
  of_opcode rfl rfl rfl (by decide) (fun h => by simpa [Instr.wellFormed, and_assoc] using h)

theorem windowExport (c : Nat) (q : Nat) (env : HostEnv) : Statement (.windowExport c q env) :=
  of_opcode rfl rfl rfl (by decide) (fun h => by simpa [Instr.wellFormed, and_assoc] using h)

theorem windowWithdraw (c : Nat) (q : Nat) (env : HostEnv) : Statement (.windowWithdraw c q env) :=
  of_opcode rfl rfl rfl (by decide) (fun h => by simpa [Instr.wellFormed, and_assoc] using h)

theorem fwDownload (c : Nat) (q : Nat) (env : HostEnv) : Statement (.fwDownload c q env) :=
  of_opcode rfl rfl rfl (by decide) (fun h => by simpa [Instr.wellFormed, and_assoc] using h)

theorem fwVerify (c : Nat) (q : Nat) (env : HostEnv) : Statement (.fwVerify c q env) :=
  of_opcode rfl rfl rfl (by decide) (fun h => by simpa [Instr.wellFormed, and_assoc] using h)

theorem fwActivate (c : Nat) (q : Nat) (env : HostEnv) : Statement (.fwActivate c q env) :=
  of_opcode rfl rfl rfl (by decide) (fun h => by simpa [Instr.wellFormed, and_assoc] using h)

theorem fwConfirm (c : Nat) (q : Nat) (env : HostEnv) : Statement (.fwConfirm c q env) :=
  of_opcode rfl rfl rfl (by decide) (fun h => by simpa [Instr.wellFormed, and_assoc] using h)

theorem ctxReset (c : Nat) (q : Nat) (env : HostEnv) : Statement (.ctxReset c q env) :=
  of_opcode rfl rfl rfl (by decide) (fun h => by simpa [Instr.wellFormed, and_assoc] using h)

theorem abort (c : Nat) (q : Nat) (env : HostEnv) : Statement (.abort c q env) :=
  of_opcode rfl rfl rfl (by decide) (fun h => by simpa [Instr.wellFormed, and_assoc] using h)

theorem fnSqdb (c : Nat) (q : Nat) (tail : Nat) (env : HostEnv) : Statement (.fnSqdb c q tail env) :=
  of_unit rfl rfl rfl (fun h => by simp [Instr.wellFormed] at h; omega)

theorem fnCqdb (c : Nat) (q : Nat) (head : Nat) : Statement (.fnCqdb c q head) :=
  of_unit rfl rfl rfl (fun h => by simp [Instr.wellFormed] at h; omega)

theorem fnQ0Ctrl (c : Nat) (v : Nat) : Statement (.fnQ0Ctrl c v) :=
  of_unit rfl rfl rfl (fun h => by simp [Instr.wellFormed] at h; omega)

theorem lioEncRelock (n : Nat) : Statement (.lioEncRelock n) :=
  of_unit rfl rfl rfl (fun h => by simp [Instr.wellFormed] at h; omega)

theorem lioLoForce (j : Nat) (len : Nat) : Statement (.lioLoForce j len) :=
  of_unit rfl rfl rfl (fun h => by simp [Instr.wellFormed] at h; omega)

theorem acqSpiTx (v : Nat) : Statement (.acqSpiTx v) :=
  of_unit rfl rfl rfl (fun h => by simp [Instr.wellFormed] at h; omega)

theorem dmxPauseSet (n : Nat) : Statement (.dmxPauseSet n) :=
  of_unit rfl rfl rfl (fun h => by simp [Instr.wellFormed] at h; omega)

theorem dmxPauseClear (n : Nat) : Statement (.dmxPauseClear n) :=
  of_unit rfl rfl rfl (fun h => by simp [Instr.wellFormed] at h; omega)

theorem atuTlbFlush (env : HostEnv) : Statement (.atuTlbFlush env) :=
  of_none rfl rfl rfl

theorem ksuKeyLoad (slot : Nat) : Statement (.ksuKeyLoad slot) :=
  of_unit rfl rfl rfl (fun h => by simp [Instr.wellFormed] at h; omega)

theorem ksuKeyClear (slot : Nat) : Statement (.ksuKeyClear slot) :=
  of_unit rfl rfl rfl (fun h => by simp [Instr.wellFormed] at h; omega)

theorem ksuKeyWrap (slot : Nat) : Statement (.ksuKeyWrap slot) :=
  of_unit rfl rfl rfl (fun h => by simp [Instr.wellFormed] at h; omega)

theorem ksuDbgUnlock (keysel : Nat) : Statement (.ksuDbgUnlock keysel) :=
  of_unit rfl rfl rfl (fun h => by simp [Instr.wellFormed] at h; omega)

theorem ksuRevoke (v : Nat) : Statement (.ksuRevoke v) :=
  of_unit rfl rfl rfl (fun h => by simp [Instr.wellFormed] at h; omega)

theorem ksuProvLock (v : Nat) : Statement (.ksuProvLock v) :=
  of_unit rfl rfl rfl (fun h => by simp [Instr.wellFormed] at h; omega)

theorem glbDomrst (domain : Nat) (key : Nat) : Statement (.glbDomrst domain key) :=
  of_unit rfl rfl rfl (fun h => by simp [Instr.wellFormed] at h; omega)

theorem hrdLinkRetrain (l : Nat) : Statement (.hrdLinkRetrain l) :=
  of_unit rfl rfl rfl (fun h => by simp [Instr.wellFormed] at h; omega)

theorem registerWrite (port : RegPort) (off : Nat) (size : Nat) (v : Nat) : Statement (.registerWrite port off size v) :=
  of_none rfl rfl rfl

theorem bar0BadAccess (off : Nat) (size : Nat) (write : Bool) : Statement (.bar0BadAccess off size write) :=
  of_unit rfl rfl rfl (fun h => by simp [Instr.wellFormed] at h; omega)

theorem bar4Access (off : Nat) (size : Nat) (write : Bool) (v : Nat) : Statement (.bar4Access off size write v) :=
  of_unit rfl rfl rfl (fun h => by simp [Instr.wellFormed] at h; omega)

theorem tapInstruction (ir : Nat) (dr : Nat) : Statement (.tapInstruction ir dr) :=
  of_unit rfl rfl rfl (fun h => by simp [Instr.wellFormed] at h; omega)

theorem replyWriteResponse (c : Nat) (q : Nat) : Statement (.replyWriteResponse c q) :=
  of_unit rfl rfl rfl (fun h => by simp [Instr.wellFormed] at h; omega)

theorem commandTimeout (c : Nat) (q : Nat) : Statement (.commandTimeout c q) :=
  of_unit rfl rfl rfl (fun h => by simp [Instr.wellFormed] at h; omega)

theorem cqCoalesceTimeout (c : Nat) (q : Nat) : Statement (.cqCoalesceTimeout c q) :=
  of_unit rfl rfl rfl (fun h => by simp [Instr.wellFormed] at h; omega)

theorem beatBoundary (env : BeatEnv) : Statement (.beatBoundary env) :=
  of_none rfl rfl rfl

theorem planDrained (c : Nat) (h : Nat) : Statement (.planDrained c h) :=
  of_unit rfl rfl rfl (fun h => by simp [Instr.wellFormed] at h; omega)

theorem itemCreate (c : Nat) : Statement (.itemCreate c) :=
  of_unit rfl rfl rfl (fun h => by simp [Instr.wellFormed] at h; omega)

theorem verdictCompose (c : Nat) (id : Nat) (env : HostEnv) : Statement (.verdictCompose c id env) :=
  of_unit rfl rfl rfl (fun h => by simp [Instr.wellFormed] at h; omega)

theorem itemVerdict (c : Nat) (id : Nat) (env : HostEnv) : Statement (.itemVerdict c id env) :=
  of_unit rfl rfl rfl (fun h => by simp [Instr.wellFormed] at h; omega)

theorem tineRun (run : RecRun) : Statement (.tineRun run) :=
  of_record rfl rfl rfl (fun h => h)

theorem chainOp (run : RecRun) : Statement (.chainOp run) :=
  of_record rfl rfl rfl (fun h => h)

theorem ppuSort (run : RecRun) : Statement (.ppuSort run) :=
  of_record rfl rfl rfl (fun h => h)

theorem ppuDetect (run : RecRun) : Statement (.ppuDetect run) :=
  of_record rfl rfl rfl (fun h => h)

theorem dmxRun (run : RecRun) : Statement (.dmxRun run) :=
  of_record rfl rfl rfl (fun h => h)

theorem evpPatch (run : RecRun) : Statement (.evpPatch run) :=
  of_record rfl rfl rfl (fun h => h)

theorem evpPredict (run : RecRun) : Statement (.evpPredict run) :=
  of_record rfl rfl rfl (fun h => h)

theorem acqArm (run : RecRun) : Statement (.acqArm run) :=
  of_record rfl rfl rfl (fun h => h)

theorem strobe (run : RecRun) : Statement (.strobe run) :=
  of_record rfl rfl rfl (fun h => h)

theorem herdXfer (run : RecRun) : Statement (.herdXfer run) :=
  of_record rfl rfl rfl (fun h => h)

theorem dmxMove (n : Nat) : Statement (.dmxMove n) :=
  of_unit rfl rfl rfl (fun h => by simp [Instr.wellFormed] at h; omega)

theorem dmxLoop (n : Nat) : Statement (.dmxLoop n) :=
  of_unit rfl rfl rfl (fun h => by simp [Instr.wellFormed] at h; omega)

theorem dmxWaitBeat (n : Nat) : Statement (.dmxWaitBeat n) :=
  of_unit rfl rfl rfl (fun h => by simp [Instr.wellFormed] at h; omega)

theorem dmxWaitTrig (n : Nat) : Statement (.dmxWaitTrig n) :=
  of_unit rfl rfl rfl (fun h => by simp [Instr.wellFormed] at h; omega)

theorem dmxWaitSem (n : Nat) : Statement (.dmxWaitSem n) :=
  of_unit rfl rfl rfl (fun h => by simp [Instr.wellFormed] at h; omega)

theorem dmxWaitRelease (n : Nat) : Statement (.dmxWaitRelease n) :=
  of_unit rfl rfl rfl (fun h => by simp [Instr.wellFormed] at h; omega)

theorem dmxWaitTimeout (n : Nat) : Statement (.dmxWaitTimeout n) :=
  of_unit rfl rfl rfl (fun h => by simp [Instr.wellFormed] at h; omega)

theorem dmxSignal (n : Nat) : Statement (.dmxSignal n) :=
  of_unit rfl rfl rfl (fun h => by simp [Instr.wellFormed] at h; omega)

theorem dmxEnd (n : Nat) : Statement (.dmxEnd n) :=
  of_unit rfl rfl rfl (fun h => by simp [Instr.wellFormed] at h; omega)

theorem recordLate (n : Nat) : Statement (.recordLate n) :=
  of_unit rfl rfl rfl (fun h => by simp [Instr.wellFormed] at h; omega)

theorem descMove (n : Nat) (env : HostEnv) : Statement (.descMove n env) :=
  of_unit rfl rfl rfl (fun h => by simp [Instr.wellFormed] at h; omega)

theorem descNop (n : Nat) (env : HostEnv) : Statement (.descNop n env) :=
  of_unit rfl rfl rfl (fun h => by simp [Instr.wellFormed] at h; omega)

theorem dmxPaused (n : Nat) : Statement (.dmxPaused n) :=
  of_unit rfl rfl rfl (fun h => by simp [Instr.wellFormed] at h; omega)

theorem ringFaultServed (c : Nat) (q : Nat) : Statement (.ringFaultServed c q) :=
  of_unit rfl rfl rfl (fun h => by simp [Instr.wellFormed] at h; omega)

theorem faultTimeout (c : Nat) (q : Nat) : Statement (.faultTimeout c q) :=
  of_unit rfl rfl rfl (fun h => by simp [Instr.wellFormed] at h; omega)

theorem prgResponse (c : Nat) (q : Nat) (code : Nat) (env : HostEnv) : Statement (.prgResponse c q code env) :=
  of_unit rfl rfl rfl (fun h => by simp [Instr.wellFormed] at h; omega)

theorem atsInvalidation (pasid : Option Nat) (hva : Nat) (len : Nat) (env : HostEnv) : Statement (.atsInvalidation pasid hva len env) :=
  of_none rfl rfl rfl

theorem invalidateStop (n : Nat) : Statement (.invalidateStop n) :=
  of_unit rfl rfl rfl (fun h => by simp [Instr.wellFormed] at h; omega)

theorem walkTimeout (c : Nat) (q : Nat) : Statement (.walkTimeout c q) :=
  of_unit rfl rfl rfl (fun h => by simp [Instr.wellFormed] at h; omega)

theorem encCount (n : Nat) (a : Bool) (b : Bool) (held : Nat) : Statement (.encCount n a b held) :=
  of_unit rfl rfl rfl (fun h => by simp [Instr.wellFormed] at h; omega)

theorem encZEdge (n : Nat) (z : Bool) (held : Nat) : Statement (.encZEdge n z held) :=
  of_unit rfl rfl rfl (fun h => by simp [Instr.wellFormed] at h; omega)

theorem webStopped (n : Nat) : Statement (.webStopped n) :=
  of_unit rfl rfl rfl (fun h => by simp [Instr.wellFormed] at h; omega)

theorem liEdge (i : Nat) (level : Bool) (held : Nat) (phase : Nat) : Statement (.liEdge i level held phase) :=
  of_unit rfl rfl rfl (fun h => by simp [Instr.wellFormed] at h; omega)

theorem liStuck (i : Nat) : Statement (.liStuck i) :=
  of_unit rfl rfl rfl (fun h => by simp [Instr.wellFormed] at h; omega)

theorem outputFire (j : Nat) : Statement (.outputFire j) :=
  of_unit rfl rfl rfl (fun h => by simp [Instr.wellFormed] at h; omega)

theorem outputPulseEnd (j : Nat) : Statement (.outputPulseEnd j) :=
  of_unit rfl rfl rfl (fun h => by simp [Instr.wellFormed] at h; omega)

theorem csi2LongPacket (p : Nat) (pkt : CsiPacket) : Statement (.csi2LongPacket p pkt) :=
  of_unit rfl rfl rfl (fun h => by simp [Instr.wellFormed] at h; omega)

theorem csi2ShortPacket (p : Nat) (pkt : CsiPacket) : Statement (.csi2ShortPacket p pkt) :=
  of_unit rfl rfl rfl (fun h => by simp [Instr.wellFormed] at h; omega)

theorem mapperWindowClose (p : Nat) : Statement (.mapperWindowClose p) :=
  of_unit rfl rfl rfl (fun h => by simp [Instr.wellFormed] at h; omega)

theorem mapperSilent (p : Nat) : Statement (.mapperSilent p) :=
  of_unit rfl rfl rfl (fun h => by simp [Instr.wellFormed] at h; omega)

theorem eventProcess (p : Nat) : Statement (.eventProcess p) :=
  of_unit rfl rfl rfl (fun h => by simp [Instr.wellFormed] at h; omega)

theorem trackCoastTimeout (p : Nat) (m : Nat) : Statement (.trackCoastTimeout p m) :=
  of_unit rfl rfl rfl (fun h => by simp [Instr.wellFormed] at h; omega)

theorem surfaceSweep (p : Nat) (x : Nat) (y : Nat) : Statement (.surfaceSweep p x y) :=
  of_unit rfl rfl rfl (fun h => by simp [Instr.wellFormed] at h; omega)

theorem fabricFire (line : Nat) : Statement (.fabricFire line) :=
  of_unit rfl rfl rfl (fun h => by simp [Instr.wellFormed] at h; omega)

theorem fabricArmClose (line : Nat) : Statement (.fabricArmClose line) :=
  of_unit rfl rfl rfl (fun h => by simp [Instr.wellFormed] at h; omega)

theorem acqTrigger (ch : Nat) (src : Nat) (k : Nat) (samples : List (List Int)) : Statement (.acqTrigger ch src k samples) :=
  of_unit rfl rfl rfl (fun h => by simp [Instr.wellFormed] at h; omega)

theorem acqFillDone (ch : Nat) : Statement (.acqFillDone ch) :=
  of_unit rfl rfl rfl (fun h => by simp [Instr.wellFormed] at h; omega)

theorem acqSegmentDone (ch : Nat) (rec : Nat) (samples : List Int) : Statement (.acqSegmentDone ch rec samples) :=
  of_unit rfl rfl rfl (fun h => by simp [Instr.wellFormed] at h; omega)

theorem acqRearmDone (ch : Nat) : Statement (.acqRearmDone ch) :=
  of_unit rfl rfl rfl (fun h => by simp [Instr.wellFormed] at h; omega)

theorem acqCalTracking (ch : Nat) : Statement (.acqCalTracking ch) :=
  of_unit rfl rfl rfl (fun h => by simp [Instr.wellFormed] at h; omega)

theorem spiTransferDone (rx : Nat) : Statement (.spiTransferDone rx) :=
  of_unit rfl rfl rfl (fun h => by simp [Instr.wellFormed] at h; omega)

theorem dfcSync (cut : List (Nat × Nat × List Int)) : Statement (.dfcSync cut) :=
  of_none rfl rfl rfl

theorem dfcStreamBlock (ch : Nat) (samples : List Int) : Statement (.dfcStreamBlock ch samples) :=
  of_unit rfl rfl rfl (fun h => by simp [Instr.wellFormed] at h; omega)

theorem syncInEdge (rising : Bool) : Statement (.syncInEdge rising) :=
  of_none rfl rfl rfl

theorem syncOutPulse : Statement (.syncOutPulse) :=
  of_none rfl rfl rfl

theorem recordShed (run : RecRun) : Statement (.recordShed run) :=
  of_record rfl rfl rfl (fun h => h)

theorem recordOverrun (run : RecRun) : Statement (.recordOverrun run) :=
  of_record rfl rfl rfl (fun h => h)

theorem droop (d : Nat) : Statement (.droop d) :=
  of_unit rfl rfl rfl (fun h => by simp [Instr.wellFormed] at h; omega)

theorem thermalSample (t : List Int) : Statement (.thermalSample t) :=
  of_none rfl rfl rfl

theorem thermHoldEnd : Statement (.thermHoldEnd) :=
  of_none rfl rfl rfl

theorem detectorFire (id : Nat) (site : Nat) : Statement (.detectorFire id site) :=
  of_unit rfl rfl rfl (fun h => by simp [Instr.wellFormed] at h; omega)

theorem contextRecovery (c : Nat) (det : Nat) : Statement (.contextRecovery c det) :=
  of_unit rfl rfl rfl (fun h => by simp [Instr.wellFormed] at h; omega)

theorem replacementBegin (e : Nat) (n : Nat) : Statement (.replacementBegin e n) :=
  of_unit rfl rfl rfl (fun h => by simp [Instr.wellFormed] at h; omega)

theorem replacementSwap (e : Nat) : Statement (.replacementSwap e) :=
  of_unit rfl rfl rfl (fun h => by simp [Instr.wellFormed] at h; omega)

theorem rotationStepBegin (e : Nat) : Statement (.rotationStepBegin e) :=
  of_unit rfl rfl rfl (fun h => by simp [Instr.wellFormed] at h; omega)

theorem shadowCopyDone (e : Nat) : Statement (.shadowCopyDone e) :=
  of_unit rfl rfl rfl (fun h => by simp [Instr.wellFormed] at h; omega)

theorem spareSwap (e : Nat) : Statement (.spareSwap e) :=
  of_unit rfl rfl rfl (fun h => by simp [Instr.wellFormed] at h; omega)

theorem engineSelftestDone (e : Nat) (n : Nat) (pass : Bool) : Statement (.engineSelftestDone e n pass) :=
  of_unit rfl rfl rfl (fun h => by simp [Instr.wellFormed] at h; omega)

theorem bankZeroDone : Statement (.bankZeroDone) :=
  of_none rfl rfl rfl

theorem sramScrub (la : Nat) : Statement (.sramScrub la) :=
  of_unit rfl rfl rfl (fun h => by simp [Instr.wellFormed] at h; omega)

theorem domainIdleTimeout (d : Nat) : Statement (.domainIdleTimeout d) :=
  of_unit rfl rfl rfl (fun h => by simp [Instr.wellFormed] at h; omega)

theorem domainEntryDone (d : Nat) : Statement (.domainEntryDone d) :=
  of_unit rfl rfl rfl (fun h => by simp [Instr.wellFormed] at h; omega)

theorem domainDemand (d : Nat) : Statement (.domainDemand d) :=
  of_unit rfl rfl rfl (fun h => by simp [Instr.wellFormed] at h; omega)

theorem domainWakeDone (d : Nat) : Statement (.domainWakeDone d) :=
  of_unit rfl rfl rfl (fun h => by simp [Instr.wellFormed] at h; omega)

theorem clkSwitchDone (d : Nat) : Statement (.clkSwitchDone d) :=
  of_unit rfl rfl rfl (fun h => by simp [Instr.wellFormed] at h; omega)

theorem clkSwitchFail (d : Nat) : Statement (.clkSwitchFail d) :=
  of_unit rfl rfl rfl (fun h => by simp [Instr.wellFormed] at h; omega)

theorem domainResetDone : Statement (.domainResetDone) :=
  of_none rfl rfl rfl

theorem aonBrownOut : Statement (.aonBrownOut) :=
  of_none rfl rfl rfl

theorem powerOn : Statement (.powerOn) :=
  of_none rfl rfl rfl

theorem perstAssert : Statement (.perstAssert) :=
  of_none rfl rfl rfl

theorem perstDeassert : Statement (.perstDeassert) :=
  of_none rfl rfl rfl

theorem warmDeviceReset (cause : Nat) (det : Nat) : Statement (.warmDeviceReset cause det) :=
  of_unit rfl rfl rfl (fun h => by simp [Instr.wellFormed] at h; omega)

theorem bootStageDone (env : BootEnv) : Statement (.bootStageDone env) :=
  of_none rfl rfl rfl

theorem tamper (det : Nat) : Statement (.tamper det) :=
  of_none rfl rfl rfl

theorem vfFlr (n : Nat) (env : HostEnv) : Statement (.vfFlr n env) :=
  of_none rfl rfl rfl

theorem pfFlr : Statement (.pfFlr) :=
  of_none rfl rfl rfl

theorem vfEnableSet (num : Nat) : Statement (.vfEnableSet num) :=
  of_unit rfl rfl rfl (fun h => by simp [Instr.wellFormed] at h; omega)

theorem vfEnableClear (env : HostEnv) : Statement (.vfEnableClear env) :=
  of_none rfl rfl rfl

theorem flitReceive (l : Nat) (flit : Flit) (env : HostEnv) : Statement (.flitReceive l flit env) :=
  of_unit rfl rfl rfl (fun h => by simp [Instr.wellFormed] at h; omega)

theorem flitLost (l : Nat) (slot : Nat) : Statement (.flitLost l slot) :=
  of_unit rfl rfl rfl (fun h => by simp [Instr.wellFormed] at h; omega)

theorem resultUndelivered (id : Nat) (dev : Nat) : Statement (.resultUndelivered id dev) :=
  of_unit rfl rfl rfl (fun h => by simp [Instr.wellFormed] at h; omega)

theorem laneFault (l : Nat) (lane : Nat) : Statement (.laneFault l lane) :=
  of_unit rfl rfl rfl (fun h => by simp [Instr.wellFormed] at h; omega)

theorem linkDown (l : Nat) : Statement (.linkDown l) :=
  of_unit rfl rfl rfl (fun h => by simp [Instr.wellFormed] at h; omega)

theorem linkTrained (l : Nat) (lanes : Nat) (peer : Nat) (peerLink : Nat) : Statement (.linkTrained l lanes peer peerLink) :=
  of_unit rfl rfl rfl (fun h => by simp [Instr.wellFormed] at h; omega)

theorem herdLeaveDone : Statement (.herdLeaveDone) :=
  of_none rfl rfl rfl

theorem registerRead (port : RegPort) (off : Nat) (size : Nat) : Statement (.registerRead port off size) :=
  of_none rfl rfl rfl

theorem fabricArmOpen (line : Nat) : Statement (.fabricArmOpen line) :=
  of_unit rfl rfl rfl (fun h => by simp [Instr.wellFormed] at h; omega)

theorem trackLeavesFrame (p : Nat) (m : Nat) : Statement (.trackLeavesFrame p m) :=
  of_unit rfl rfl rfl (fun h => by simp [Instr.wellFormed] at h; omega)

theorem linkTrainingTimeout (l : Nat) : Statement (.linkTrainingTimeout l) :=
  of_unit rfl rfl rfl (fun h => by simp [Instr.wellFormed] at h; omega)

theorem flitReplay (l : Nat) (id : Nat) : Statement (.flitReplay l id) :=
  of_unit rfl rfl rfl (fun h => by simp [Instr.wellFormed] at h; omega)

theorem priEnable (alloc : Nat) (ats : Bool) : Statement (.priEnable alloc ats) :=
  of_none rfl rfl rfl

theorem railReturn (rail : Nat) : Statement (.railReturn rail) :=
  of_unit rfl rfl rfl (fun h => by simp [Instr.wellFormed] at h; omega)

theorem dphyStateChange (p : Nat) (st : Nat) (lanes : Nat) (deskew : Bool) : Statement (.dphyStateChange p st lanes deskew) :=
  of_unit rfl rfl rfl (fun h => by simp [Instr.wellFormed] at h; omega)

end Sys2Proof.Laws.Operand
end

