-- ==== Sys2Proof/Tests/Slice0.lean ====
section
/-! SUPPORT. Tests. Ill-formed commands that the checks refuse, and for the commands a small state in which they do what the spec
says: each of these theorems shows a state and operands that meet all hypotheses of a clause of a statement, and, where it is short
to say, the result that the rule cited in its name's comment gives. Expected values come from the rules. -/

namespace Sys2Proof.Tests
open Sys2Proof Sys2Proof.Machine
set_option Elab.async false

/-! ## Small states -/

/-- Parameter bytes from (packet offset, value) pairs. -/
def pk (l : List (Nat × Nat)) : Nat := l.foldl (fun a p => a + p.2 <<< (8 * (p.1 - 8))) 0

/-- A waiting packet with LEN 56. -/
def ask (op : Nat) (l : List (Nat × Nat)) : Cmd := ⟨1, 0, op + 56 * 2 ^ 32, pk l, .queued, false⟩

/-- A queue 0 that holds one packet. -/
def qu (k : Cmd) : Queue :=
  ⟨1, true, 8, 8, 4096, 8192, 0, 1, 0, 0, true, 0, 0, 0, 0, 0, 0, 0, [k], 0, 0, false, .running, []⟩

/-- A ready device with contexts 0 and 1 ACTIVE, one pinned HOST range of 64 KiB at DVA 0x100000 and a LOCAL one of 4 KiB. -/
def base : State :=
  { State.reset.put F.GLB_STATUS_READY 1 with
    perst := false, ctxs := [(0, ⟨.active, 0, 0⟩), (1, ⟨.active, 0, 0⟩)],
    ranges := [(0, ⟨0, 7, false, 32, 0x100000, 0x10000, [(0x40000, 0x10000)], 0, 0, 0, [], 0⟩),
               (1, ⟨1, 7, false, 33, 2 ^ 47, 0x1000, [], 0xA000000, 3, 0, [], 0⟩)], gens := [(0, 1), (1, 1)] }

/-- The packet is the oldest on queue 0 of context 0. -/
def put0 (k : Cmd) (s : State := base) : State := { s with queues := tput s.queues 0 (qu k) }

def sent (op : Nat) (l : List (Nat × Nat)) (s : State := base) : State := put0 (ask op l) s

def servesB (s : State) (op sel : Nat) (x : Queue) (k : Cmd) : Bool :=
  decide (s.startable 0 0 = some (x, k)) && k.op == op && (selector op k.par).1 == sel && s.admitted 0 op k &&
  (State.cmdDomains k).all (fun d => s.domOn d) && x.room

theorem serves_of {s : State} {op sel : Nat} {x : Queue} {k : Cmd} (h : servesB s op sel x k = true) :
    Serves s 0 0 op sel x k := by
  simp only [servesB, Bool.and_eq_true, decide_eq_true_eq, List.all_eq_true, beq_iff_eq] at h
  obtain ⟨⟨⟨⟨⟨a, b⟩, c⟩, d⟩, e⟩, f⟩ := h
  exact ⟨by decide, by decide, a, b, c, d, e, f⟩

/-- The row serves this packet. -/
def Meets (op sel : Nat) (l : List (Nat × Nat)) (s : State := base) : Prop :=
  Serves (sent op l s) 0 0 op sel (qu (ask op l)) (ask op l)

theorem meets {op sel : Nat} {l : List (Nat × Nat)} {s : State}
    (h : servesB (sent op l s) op sel (qu (ask op l)) (ask op l) = true) : Meets op sel l s := serves_of h

/-- What an outcome's next state shows. -/
def after {α : Type} (o : Host.Outcome State Fault Refusal) (f : State → α) : Option α :=
  match o with
  | .next t => some (f t)
  | _ => none

/-- Status and DETAIL of the last reply that a state has sent from queue 0. -/
def replyOf (t : State) : Option (Nat × Nat) :=
  match t.out.reverse.find? (fun o => match o with | .hostWrite _ _ _ => true | _ => false) with
  | some (.hostWrite _ b _) => some (leField b 2 2, leField b 4 4)
  | _ => none

def reply (o : Host.Outcome State Fault Refusal) : Option (Option (Nat × Nat)) := after o replyOf

/-- What the command on queue 0 does. -/
def phaseOf (t : State) : Option CmdPhase := (t.queue? 0 0).bind (fun x => x.cmds.head?.map (·.phase))

/-! ## Commands and queues -/

abbrev E : HostEnv := .none

/-- R95: NOP answers ST_OK with DETAIL 0, ECHO its VALUE, QUERY_DEVICE the value of Table 4.12, or ST_BAD_PARAM. -/
theorem test_nop : Meets 0x01 0 [] ∧ reply (exec (.nop 0 0 E) (sent 1 [])) = some (some (stOk, 0)) :=
  ⟨meets (by decide), by decide⟩
theorem test_echo : Meets 0x02 0 [(8, 0xFEDCBA98)] ∧
    reply (exec (.echo 0 0 E) (sent 2 [(8, 0xFEDCBA98)])) = some (some (stOk, 0xFEDCBA98)) := ⟨meets (by decide), by decide⟩
theorem test_query_class : Meets 0x03 0 [(8, 7)] ∧ (sent 3 [(8, 7)]).query 0 7 ≠ none ∧
    reply (exec (.queryDevice 0 0 E) (sent 3 [(8, 4)])) = some (some (stOk, 1 + 128 * 256)) :=
  ⟨meets (by decide), by decide, by decide⟩
theorem test_query_none : Meets 0x03 0 [(8, 8)] ∧
    reply (exec (.queryDevice 0 0 E) (sent 3 [(8, 8)])) = some (some (stBadParam, 0)) := ⟨meets (by decide), by decide⟩

/-- A packet that creates COMMAND queue 127 with two entries each in the pinned range. -/
def mkQueue : List (Nat × Nat) := [(8, 127), (9, 1), (10, 0xFF), (12, 2), (16, 2), (20, 0x100000), (28, 0x101000)]

/-- A second queue of context 0: local number 5 with two NOPs, TAG 0 and 7, waiting. -/
def five : Queue := { qu (ask 1 []) with cmds := [⟨2, 0, 1, 0, .queued, false⟩, ⟨3, 1, 1 + 7 * 2 ^ 16, 0, .queued, false⟩] }
def two (s : State := base) : State := { s with queues := tput s.queues 5 five }

/-- R96, R97: a queue at the last local number, its number as DETAIL; RING_DESTROY waits while it aborts what can be aborted. -/
theorem test_ring_create : Meets 0x40 0 mkQueue ∧ ringFieldsOk (pk mkQueue) = true ∧
    (sent 0x40 mkQueue).queue? 0 127 = none ∧ (sent 0x40 mkQueue).areasPinned 0 (newQueue (pk mkQueue) 0) = true ∧
    reply (exec (.ringCreate 0 0 E) (sent 0x40 mkQueue)) = some (some (stOk, 127)) :=
  ⟨meets (by decide +kernel), by decide, by decide, by decide +kernel, by decide +kernel⟩
theorem test_ring_destroy : Meets 0x41 0 [(8, 5)] two ∧ (sent 0x41 [(8, 5)] two).queue? 0 5 = some five ∧ five.typ ≠ 3 ∧
    after (exec (.ringDestroy 0 0 E) (sent 0x41 [(8, 5)] two)) (fun t => ((t.queue? 0 5).map (·.cmds.map (·.phase)), phaseOf t)) =
      some (some [.committing, .replyPending stAborted 0], some (.executing (.destroying 5))) :=
  ⟨meets (by decide), by decide, by decide, by decide⟩

/-- R83: a command that is found and can end is aborted; none with the TAG, its own queue, and a reply under way. -/
theorem test_abort : Meets 0xB1 0 [(8, 5), (10, 7)] two ∧
    ((sent 0xB1 [(8, 5), (10, 7)] two).queueCmds 0 5).find? (fun y => y.tag == 7) = some ⟨3, 1, 1 + 7 * 2 ^ 16, 0, .queued, false⟩ ∧
    unabortable 1 = false ∧ reply (exec (.abort 0 0 E) (sent 0xB1 [(8, 5), (10, 7)] two)) = some (some (stOk, 0)) :=
  ⟨meets (by decide), by decide, by decide, by decide⟩
theorem test_abort_none : Meets 0xB1 0 [(8, 127), (10, 7)] two ∧ (sent 0xB1 [(8, 127), (10, 7)] two).queueCmds 0 127 = [] ∧
    reply (exec (.abort 0 0 E) (sent 0xB1 [(8, 127), (10, 7)] two)) = some (some (stTooLate, 0)) :=
  ⟨meets (by decide), by decide, by decide⟩
theorem test_abort_own : Meets 0xB1 0 [(8, 0), (10, 0)] ∧
    reply (exec (.abort 0 0 E) (sent 0xB1 [(8, 0), (10, 0)])) = some (some (stTooLate, 0)) := ⟨meets (by decide), by decide⟩
theorem test_abort_committing :
    let s : State := { base with queues := [(5, { five with cmds := [⟨2, 0, 1, 0, .committing, false⟩] })] }
    Meets 0xB1 0 [(8, 5), (10, 0)] s ∧ (sent 0xB1 [(8, 5), (10, 0)] s).queueCmds 0 5 = [⟨2, 0, 1, 0, .committing, false⟩] ∧
    after (exec (.abort 0 0 E) (sent 0xB1 [(8, 5), (10, 0)] s)) phaseOf = some (some (.executing (.abortHeld 2))) :=
  ⟨meets (by decide), by decide, by decide⟩
theorem test_abort_settles : (∃ y ∈ (two).ctxCmds 0, y.2.seq = 3) ∧ (∀ y ∈ (two).ctxCmds 0, y.2.seq ≠ 4) := by decide

/-- R86, R88: an ACTIVE context is reset; a DISABLED one is ST_BAD_PARAM, one in RESETTING ST_BAD_STATE, another's ST_NO_RIGHTS. -/
theorem test_ctx_reset : Meets 0xB0 0 [(8, 1)] ∧ ((sent 0xB0 [(8, 1)]).ctx 1).phase = .active ∧
    (sent 0xB0 [(8, 1)]).ctxCmds 1 = [] ∧
    after (exec (.ctxReset 0 0 E) (sent 0xB0 [(8, 1)])) (fun t => ((t.ctx 1).phase, replyOf t)) = some (.active, some (stOk, 0)) :=
  ⟨meets (by decide), by decide, by decide, by decide⟩
theorem test_ctx_reset_disabled : Meets 0xB0 0 [(8, 127)] ∧
    reply (exec (.ctxReset 0 0 E) (sent 0xB0 [(8, 127)])) = some (some (stBadParam, 0)) := ⟨meets (by decide), by decide⟩
theorem test_ctx_reset_resetting :
    Meets 0xB0 0 [(8, 2)] { base with ctxs := [(0, ⟨.active, 0, 0⟩), (2, ⟨.resetting, 0, 0⟩)] } ∧
    reply (exec (.ctxReset 0 0 E) (sent 0xB0 [(8, 2)] { base with ctxs := [(0, ⟨.active, 0, 0⟩), (2, ⟨.resetting, 0, 0⟩)] })) =
      some (some (stBadState, 0)) := ⟨meets (by decide), by decide⟩
theorem test_ctx_reset_other :
    let s : State := { base with queues := [(128, qu (ask 0xB0 [(8, 0)]))] }
    s.startable 1 0 = some (qu (ask 0xB0 [(8, 0)]), ask 0xB0 [(8, 0)]) ∧ s.admitted 1 0xB0 (ask 0xB0 [(8, 0)]) = true ∧
    reply (exec (.ctxReset 1 0 E) s) = some (some (stNoRights, 0)) := by decide

/-- R74: the tail 3 fetches three packets; a tail past the queue, or behind T, is an overrun. -/
theorem test_sqdb : (two.queue? 0 5) = some five ∧ (two.domOn 4) = true ∧ (3 + five.sqN - five.h) % five.sqN ≥ 1 ∧
    after (exec (.fnSqdb 0 5 3 E) two) (fun t => (t.queue? 0 5).map (fun y => (y.t, y.cmds.length))) = some (some (3, 4)) := by
  decide
theorem test_sqdb_overrun : five.sqN ≤ 8 ∧ (0 + five.sqN - five.h) % five.sqN < (five.t + five.sqN - five.h) % five.sqN ∧
    after (exec (.fnSqdb 0 5 0 E) two) (fun t => (t.rd (R.FN_CTX_ERR 0), t.get (F.FN_OVR_CNT_OVR 0))) =
      some (0x80050000 + stOverrun, 1) := by decide
theorem test_doorbell_no_queue : (two.queue? 0 6) = none ∧
    after (exec (.fnSqdb 0 6 0 E) two) (fun t => t.rd (R.FN_CTX_ERR 0)) = some (0x80060000 + stBadState) ∧
    after (exec (.fnCqdb 0 127 0) two) (fun t => t.rd (R.FN_CTX_ERR 0)) = some (0x807F0000 + stBadState) := by decide
theorem test_doorbell_verdict :
    let s := base.setQueue 0 9 { five with typ := 3 }
    (s.queue? 0 9).map (·.typ) = some 3 ∧ after (exec (.fnSqdb 0 9 1 E) s) (fun t => decide (t = s)) = some true := by decide

/-- R75: a head up to P is taken and a waiting reply goes out; one ahead of P is an overrun. -/
theorem test_cqdb :
    let x : Queue := { five with p := 2, e := 1, cmds := [⟨2, 0, 1, 0, .replyPending 0 5, false⟩] }
    let s := base.setQueue 0 5 x
    s.queue? 0 5 = some x ∧ (x.p + x.cqN - 2) % x.cqN ≤ (x.p + x.cqN - x.e) % x.cqN ∧
    after (exec (.fnCqdb 0 5 2) s) (fun t => ((t.queue? 0 5).map (fun y => (y.e, y.p)), replyOf t)) = some (some (2, 3), some (0, 5)) := by
  decide
theorem test_cqdb_overrun :
    let s := base.setQueue 0 5 { five with p := 2, e := 1 }
    (2 + 8 - 1) % 8 < (2 + 8 - 3) % 8 ∧ after (exec (.fnCqdb 0 5 3) s) (fun t => t.get (F.FN_OVR_CNT_OVR 0)) = some 1 := by decide

/-- R98: ENABLE makes queue 0 when both sizes are above 0, and a clear takes it away when it is empty. -/
theorem test_q0_enable :
    let s := base.wr (R.FN_Q0_SIZE 1) 0x00070003
    s.queue? 1 0 = none ∧ s.get (F.FN_Q0_SIZE_SQ_M1 1) ≠ 0 ∧ s.get (F.FN_Q0_SIZE_CQ_M1 1) ≠ 0 ∧
    after (exec (.fnQ0Ctrl 1 0x0501) s) (fun t => (t.queue? 1 0).map (fun y => (y.sqN, y.cqN, y.vector))) =
      some (some (4, 8, 5)) := by decide
theorem test_q0_size_zero : base.queue? 1 0 = none ∧ bit 1 0 = true ∧ base.get (F.FN_Q0_SIZE_SQ_M1 1) = 0 ∧
    after (exec (.fnQ0Ctrl 1 1) base) (fun t => (t.queue? 1 0, t.get (F.FN_Q0_CTRL_ENABLE 1))) = some (none, 0) := by decide
theorem test_q0_clear : (sent 1 []).queue? 0 0 = some (qu (ask 1 [])) ∧ (qu (ask 1 [])).cmds ≠ [] ∧
    after (exec (.fnQ0Ctrl 0 0x0200) (sent 1 [])) (fun t => (t.queue? 0 0).map (fun y => (y.vector, y.cmds.length))) =
      some (some (2, 1)) ∧
    after (exec (.fnQ0Ctrl 0 0) (base.setQueue 0 0 { qu (ask 1 []) with cmds := [] })) (fun t => t.queue? 0 0) = some none := by
  decide
theorem test_q0_locked : (base.put (F.FN_Q0_CTRL_ENABLE 0) 1).on (F.FN_Q0_CTRL_ENABLE 0) = true ∧
    (locate (.bar2 0) 0x2010).map (fun h => (h.place, h.first == (R.FN_Q0_SIZE 0).key)) = some (0, true) := by decide

/-- R81, R82, R95: commit, timeout, coalescing. -/
theorem test_commit :
    let x : Queue := { five with cmds := [⟨2, 0, 1, 0, .committing, false⟩, ⟨3, 1, 1, 0, .queued, false⟩] }
    let s := base.setQueue 0 5 x
    s.queue? 0 5 = some x ∧ s.resetAfter ≠ some 2 ∧
    after (exec (.replyWriteResponse 0 5) s) (fun t => ((t.queue? 0 5).map (fun y => (y.h, y.cmds.length)), t.get (F.CPX_CTX_CMDS_CMDS 0))) =
      some (some (1, 1), 1) := by decide
theorem test_command_timeout : let k := ask 0x12 [(8, 0)]
    (put0 k).startable 0 0 = some (qu k, k) ∧ k.hostWork = true ∧ (put0 k).admitted 0 k.op k = true ∧ (qu k).room = true ∧
    reply (exec (.commandTimeout 0 0) (put0 k)) = some (some (stTimeout, 0)) := by decide
theorem test_coalesce :
    let x : Queue := { five with coalUs := 1, unsig := 1, unsigT := 0 }
    let s : State := { base.setQueue 0 5 x with time := 100 }
    s.queue? 0 5 = some x ∧ x.unsigT + 100 * x.coalUs ≤ s.time ∧
    after (exec (.cqCoalesceTimeout 0 5) s) (fun t => ((t.queue? 0 5).map (·.unsig), t.out)) = some (some 0, [.msix 0 0]) := by decide
theorem test_reply_entry :
    let x : Queue := { five with p := 7 }
    (base.setQueue 0 5 x).queue? 0 5 = some x ∧ x.p + 1 = x.cqN ∧
    (((base.setQueue 0 5 x).postReply 0 5 ⟨2, 0, 1, 0, .queued, false⟩ 0 0).queue? 0 5).map (fun y => (y.p, y.phase)) =
      some (0, false) := by decide

/-- R70, R79, R404: an unknown opcode, a reserved field, no rights, recovery. -/
theorem test_bad_opcode : let k := ask 0x04 []
    (put0 k).startable 0 0 = some (qu k, k) ∧ opcodes.contains k.op = false ∧
    reply (exec (.nop 0 0 E) (put0 k)) = some (some (stBadOpcode, 0)) := by decide
theorem test_bad_reserved : let k := ask 0x01 [(63, 1)]
    (put0 k).startable 0 0 = some (qu k, k) ∧ paramOk 1 k.par = false ∧
    reply (exec (.nop 0 0 E) (put0 k)) = some (some (stBadParam, 0)) := by decide
theorem test_no_rights : let k := ask 0x71 []
    let s : State := { base with queues := [(128, qu k)] }
    s.startable 1 0 = some (qu k, k) ∧ k.headerOk = true ∧ paramOk k.op k.par = true ∧ s.hasRights 1 k.op = false ∧
    reply (exec (.energyBudgetSet 1 0 E) s) = some (some (stNoRights, 0)) := by decide
theorem test_recovery : let k := ask 0x15 []
    let s := put0 k (base.put F.KSU_STATUS_RECOVERY 1)
    s.startable 0 0 = some (qu k, k) ∧ s.on F.KSU_STATUS_RECOVERY = true ∧ paramOk k.op k.par = true ∧ s.hasRights 0 k.op = true ∧
    reply (exec (.planStatus 0 0 E) s) = some (some (stBadState, 0)) := by decide
theorem test_barrier : let k : Cmd := ⟨9, 0, 1 + 2 * 2 ^ 8, 0, .queued, false⟩
    k.barrier = true ∧ (put0 k two).startable 0 0 = none ∧ (put0 { k with seq := 2 } two).startable 0 0 ≠ none ∧
    after (exec (.nop 0 0 E) (put0 k two)) (fun t => decide (t = put0 k two)) = some true := by decide
theorem test_opcode_row : opcodeRow (.nop 0 0 E) = some (0, 0, E, 1, 0) := by decide

/-- R69, R90, R361. -/
theorem test_vf_enable : base.ready = true ∧
    after (exec (.vfEnableSet 127) base) (fun t => (t.numVfs, (t.ctx 127).phase, (t.ctx 126).phase)) = some (127, .active, .active) := by decide +kernel
theorem test_vf_flr : (base.ctx 1).phase ≠ .disabled ∧ (base.ctx 127).phase = .disabled ∧
    after (exec (.vfFlr 1 E) base) (fun t => (t.ctx 1).phase) = some .disabled ∧
    after (exec (.vfFlr 127 E) base) (fun t => decide (t = base)) = some true := by decide
theorem test_vf_clear : after (exec (.vfEnableClear E) base) (fun t => (t.numVfs, (t.ctx 1).phase, (t.ctx 0).phase)) =
    some (0, .disabled, .active) := by decide +kernel
theorem test_recovery_due : let s : State := { base with recovers := [(1, 95, false)] }
    (1, 95, false) ∈ s.recovers ∧ (s.ctx 1).phase = .active ∧
    after (exec (.contextRecovery 1 95) s) (fun t => (t.recovers.length, t.faultLog.length)) = some (0, 1) := by decide

/-! ## Plans, items, beats -/

/-- The bytes of a plan image of 768 bytes, as a number: one class, one STROBE record on STB0, a trigger rule on Z of encoder 1,
verdict channel 63 with a share of 1, cycles of 10 beats with 2 slots, L = 16 (Tables 3.1 to 3.10); its hash is the SHA-256 of R49. -/
def imgNum : Nat :=
  0x64010100100002000A4883006F9568499C184A3556E99DF57D1DEB67A3E1FB851E23AE3A5321FE56320000000000000300000000014E4C5042 <<< 0 |||
  0x700000000 <<< 512 |||
  0x1000000100000020000000004000000000000000000000200000000030000000100000010000001C00000000200000003000000300000018000000001 <<< 1024 |||
  0x100000020000002C0000000090000000100000020000002800000000600000001000000200000024000000005 <<< 1536 |||
  0x1000D00000000000000010000003F0001000500000000000000000000000000010009 <<< 3072 |||
  0x1 <<< 3584 |||
  0x10000000A0003 <<< 4096 |||
  0x100800000000000010000FFFFFFFFFFFF0000000400010001000100000008 <<< 4608 |||
  0x100000000000000320000006400010203 <<< 5120 |||
  0xFFFF0000FFFF000000000000000000000000000000000000FFFF00000103 <<< 5632

def env : HostEnv := { E with mem := [
  (0x402C0, leBytes 64 0xFFFF0000FFFF000000000000000000000000000000000000FFFF00000103),
  (0x40280, leBytes 64 0x100000000000000320000006400010203),
  (0x40240, leBytes 64 0x100800000000000010000FFFFFFFFFFFF0000000400010001000100000008),
  (0x40200, leBytes 64 0x10000000A0003),
  (0x401C0, leBytes 64 0x1),
  (0x40180, leBytes 64 0x1000D00000000000000010000003F0001000500000000000000000000000000010009),
  (0x400C0, leBytes 64 0x100000020000002C0000000090000000100000020000002800000000600000001000000200000024000000005),
  (0x40080, leBytes 64 0x1000000100000020000000004000000000000000000000200000000030000000100000010000001C00000000200000003000000300000018000000001),
  (0x40040, leBytes 64 0x700000000),
  (0x40000, leBytes 64 0x64010100100002000A4883006F9568499C184A3556E99DF57D1DEB67A3E1FB851E23AE3A5321FE56320000000000000300000000014E4C5042)] }
def img : Bytes := leBytes 768 imgNum

/-- A record of the single item class 3. -/
def rcd (kind : Nat) (n : Nat) : Rec := ⟨kind, 0, 0, n, 1, 1, 4, 0, 0xFFFF, 0xFFFF, 0xFFFF, 65536, 0, 65664⟩

def imOf (claims : List Claim) (recs : List Rec) : PlanImage :=
  { hash := 0x4883006f9568499c184a3556e99df57d1deb67a3e1fb851e23ae3a5321fe5632, len := 768, flags := 0, cyc := 10,
    slots := 2, lat := 16, vmax := 100, enc := 0, epoch := 0, claims := claims, decl := 1, cycRecs := [],
    classes := [⟨3, 10, 0, recs.length⟩], itemRecs := recs, rules := [⟨3, 2, 1, 0, 100, 50, 0, 1⟩], models := [], bufs := [],
    verdicts := [⟨3, 1, 0, 65535, 0, [0, 0, 0, 0], [0, 0, 0, 0], 65535, 0, 65535, 0⟩], rejects := [], herd := 0 }

/-- The image as it reads. -/
def im : PlanImage := imOf [⟨9, 1, 0, 0, 0⟩, ⟨5, 1, 63, 1, 0⟩, ⟨13, 1, 0, 0, 0⟩] [rcd 8 1]

theorem test_image_reads : imageFault img = none ∧ readImage img = im := by decide +kernel

def loadPar : List (Nat × Nat) := [(8, 0x100000), (16, 768)]

/-- R56: the lowest EMPTY handle is DETAIL; R54: a wrong hash is check 0x01; four handles in use is ST_BAD_STATE. -/
theorem test_plan_load : Meets 0x10 0 loadPar ∧
    (match ((sent 0x10 loadPar).cmdRead env 0 0x100000 768).1 with | .ok b => leNat b == imgNum && b.length == 768 | .error _ => false) = true :=
  ⟨meets (by decide +kernel), by decide +kernel⟩
theorem test_plan_load_bad : Meets 0x10 0 [(8, 0x100000), (16, 512)] ∧
    ((sent 0x10 [(8, 0x100000), (16, 512)]).cmdRead E 0 0x100000 512).1 matches .ok _ ∧
    reply (exec (.planLoad 0 0 E) (sent 0x10 [(8, 0x100000), (16, 512)])) = some (some (stImageBad, 0x01000000)) :=
  ⟨meets (by decide +kernel), by decide +kernel, by decide +kernel⟩

def withPlan (p : Plan) (s : State := base) : State := { s with plans := [(0, p)] }
def loadedP : Plan := Plan.loaded im
def admP : Plan := { loadedP with phase := .admitted }
def runP (i : PlanImage := im) : Plan := { Plan.loaded i with phase := .running, anchor := 1000, start := 1000 }
def atBeat (k : Nat) (s : State := base) : State := { s with time := 500 * k }

theorem test_plan_load_full :
    let s : State := { base with plans := [(0, loadedP), (1, loadedP), (2, loadedP), (3, loadedP)] }
    Meets 0x10 0 loadPar s ∧ (∀ h < 4, s.planPhase 0 h ≠ .empty) := ⟨meets (by decide +kernel), by decide +kernel⟩

/-- R54, R57: admission answers the low word of PLAN_HASH; a claim of another live plan is check 0x04. -/
theorem test_plan_admit : Meets 0x11 0 [(8, 0)] (withPlan loadedP) ∧ (withPlan loadedP).admitState 0 0 none = true ∧
    ((sent 0x11 [(8, 0)] (withPlan loadedP)).admission E 0 none loadedP).1 matches .ok _ ∧
    reply (exec (.planAdmit 0 0 E) (sent 0x11 [(8, 0)] (withPlan loadedP))) = some (some (stOk, im.hash % 2 ^ 32)) :=
  ⟨meets (by decide +kernel), by decide +kernel, by decide +kernel, by decide +kernel⟩
theorem test_plan_admit_claimed :
    let s : State := { base with plans := [(3, loadedP), (4, admP)] }
    Meets 0x11 0 [(8, 3)] s ∧ s.admitState 0 3 none = true ∧
    reply (exec (.planAdmit 0 0 E) (sent 0x11 [(8, 3)] s)) = some (some (stResource, 0x04000000)) :=
  ⟨meets (by decide +kernel), by decide +kernel, by decide +kernel⟩
theorem test_plan_admit_state : Meets 0x11 0 [(8, 0)] (withPlan admP) ∧ (withPlan admP).admitState 0 0 none = false ∧
    reply (exec (.planAdmit 0 0 E) (sent 0x11 [(8, 0)] (withPlan admP))) = some (some (stBadState, 0)) :=
  ⟨meets (by decide +kernel), by decide +kernel, by decide +kernel⟩
theorem test_plan_admit_zeroing :
    let p := { loadedP with img := { im with claims := ⟨4, 1, 0, 0, 0⟩ :: im.claims } }
    let s : State := { base with zeroing := [0] }
    0 ∈ s.planBanks p.img ∧ 0 ∈ s.zeroing := by decide +kernel

/-- R58: A is the beat asked for, or the present one plus the lead of 400 beats; a nearer beat is ST_REFUSED_TIME with the lead. -/
theorem test_plan_arm : Meets 0x12 0 [(8, 0), (16, 401)] (withPlan admP (atBeat 1)) ∧ admP.partner = none ∧ im.isHerd = false ∧
    ((atBeat 1).armLead im) = 400 ∧
    reply (exec (.planArm 0 0 E) (sent 0x12 [(8, 0), (16, 401)] (withPlan admP (atBeat 1)))) = some (some (stOk, 401)) ∧
    reply (exec (.planArm 0 0 E) (sent 0x12 [(8, 0)] (withPlan admP (atBeat 1)))) = some (some (stOk, 401)) ∧
    reply (exec (.planArm 0 0 E) (sent 0x12 [(8, 0), (16, 400)] (withPlan admP (atBeat 1)))) = some (some (stTime, 400)) :=
  ⟨meets (by decide +kernel), by decide, by decide +kernel, by decide +kernel, by decide +kernel, by decide +kernel, by decide +kernel⟩
theorem test_plan_arm_loaded : Meets 0x12 0 [(8, 0)] (withPlan loadedP) ∧
    reply (exec (.planArm 0 0 E) (sent 0x12 [(8, 0)] (withPlan loadedP))) = some (some (stBadState, 0)) :=
  ⟨meets (by decide +kernel), by decide +kernel⟩

/-- R64: N of a swap pair is armed for a cycle boundary of P, 10 beats apart from 1,000 on. -/
def pair (k : Nat) : State := { atBeat k with plans := [(0, runP), (1, { admP with partner := some 0 })] }
theorem test_plan_arm_swap : Meets 0x12 0 [(8, 1), (9, 1), (16, 1410)] (pair 1010) ∧ (1410 - 1000) % im.cyc = 0 ∧
    reply (exec (.planArm 0 0 E) (sent 0x12 [(8, 1), (9, 1), (16, 1410)] (pair 1010))) = some (some (stOk, 1410)) ∧
    reply (exec (.planArm 0 0 E) (sent 0x12 [(8, 1), (9, 1), (16, 1411)] (pair 1010))) = some (some (stBadParam, 0)) ∧
    reply (exec (.planArm 0 0 E) (sent 0x12 [(8, 1), (9, 1), (16, 1400)] (pair 1010))) = some (some (stTime, 400)) :=
  ⟨meets (by decide +kernel), by decide +kernel, by decide +kernel, by decide +kernel, by decide +kernel⟩
theorem test_arm_lead : let s := base.put (F.PMC_DOM_STATE_STATE 34) 2
    34 ∈ s.planDomains im ∧ s.domWorks 34 = false ∧ s.domState 34 = 2 ∧ (base.put (F.PMC_DOM_STATE_STATE 34) 1).domState 34 = 1 ∧
    (domLeads 34).2 + 8 ≤ s.armLead im := by decide +kernel

/-- R61: the stop boundary of a plan with A = 1,000 and C = 10 stopped in beat 1,010 is 1,020; an ARMED plan is STOPPED at once. -/
theorem test_plan_stop : Meets 0x13 0 [(8, 0), (9, 1)] (withPlan runP (atBeat 1010)) ∧ (atBeat 1010).swapArmed 0 0 = false ∧
    after (exec (.planStop 0 0 E) (sent 0x13 [(8, 0), (9, 1)] (withPlan runP (atBeat 1010)))) phaseOf =
      some (some (.executing (.atBeat 1020))) ∧
    after (exec (.planStop 0 0 E) (sent 0x13 [(8, 0)] (withPlan { admP with phase := .armed }))) (fun t => t.planPhase 0 0) =
      some .stopped ∧
    reply (exec (.planStop 0 0 E) (sent 0x13 [(8, 0)] (withPlan admP))) = some (some (stBadState, 0)) :=
  ⟨meets (by decide +kernel), by decide +kernel, by decide +kernel, by decide +kernel, by decide +kernel⟩
theorem test_plan_stop_swap :
    let s : State := { atBeat 1010 with plans := [(0, runP), (1, { admP with phase := .armed, partner := some 0, armedSwap := true })] }
    Meets 0x13 0 [(8, 0)] s ∧ s.swapArmed 0 0 = true ∧
    reply (exec (.planStop 0 0 E) (sent 0x13 [(8, 0)] s)) = some (some (stBadState, 0)) :=
  ⟨meets (by decide +kernel), by decide +kernel, by decide +kernel⟩
theorem test_stop_boundary : runP.anchor ≤ (atBeat 1019).beat ∧ 0 < im.cyc ∧ (atBeat 1019).stopBoundary runP = 1020 ∧
    ((withPlan runP).plan? 0 0).map (·.phase) = some .running := by decide +kernel

/-- R56: PLAN_UNLOAD of each kind of handle. -/
theorem test_plan_unload : Meets 0x14 0 [(8, 0)] (withPlan loadedP) ∧
    after (exec (.planUnload 0 0 E) (sent 0x14 [(8, 0)] (withPlan loadedP))) (fun t => t.planPhase 0 0) = some .empty ∧
    after (exec (.planUnload 0 0 E) (sent 0x14 [(8, 0)] (withPlan admP))) (fun t => t.planPhase 0 0) = some .empty ∧
    reply (exec (.planUnload 0 0 E) (sent 0x14 [(8, 0)] (withPlan runP))) = some (some (stBadState, 0)) :=
  ⟨meets (by decide +kernel), by decide +kernel, by decide +kernel, by decide +kernel⟩

/-- R67: the block of a LOADED plan in handle 3 begins with STATE 1 and the handle. -/
theorem test_plan_status :
    let s : State := { base with plans := [(3, loadedP)] }
    Meets 0x15 0 [(8, 3), (16, 0x10FF80)] s ∧ (s.pinned 0 0x10FF80 128 2).isSome = true ∧
    ((sent 0x15 [(8, 3), (16, 0x10FF80)] s).bringIn E 0 0x10FF80 128).1 matches .ok _ ∧
    after (exec (.planStatus 0 0 E) (sent 0x15 [(8, 3), (16, 0x10FF80)] s)) (fun t =>
      t.out.head?.map (fun o => match o with | .hostWrite a b _ => (a, b.length, b.take 2) | _ => (0, 0, []))) =
        some (some (0x4FF80, 128, [1, 3])) :=
  ⟨meets (by decide +kernel), by decide +kernel, by decide +kernel, by decide +kernel⟩

def drainP (cancel : Bool) : Plan := { runP with phase := .draining, stop := 1020, cancel := cancel }
def pendingOut : State := (withPlan (drainP false) (atBeat 1036)).setLineOut 2 ⟨[⟨5, 10, 0, 0, 0, false⟩], none⟩

/-- R61: beat stop + L = 1,036 has come: STOPPED, unless outputs are pending and CANCEL is clear. -/
theorem test_plan_drained : (atBeat 1036).beat = 1020 + im.lat ∧
    (withPlan (drainP false) (atBeat 1036)).itemsLeft 0 0 (drainP false) = false ∧ pendingOut.outputsPending 0 0 = true ∧
    after (exec (.planDrained 0 0) (withPlan (drainP false) (atBeat 1036))) (fun t => t.planPhase 0 0) = some .stopped ∧
    after (exec (.planDrained 0 0) (withPlan (drainP false) (atBeat 1035))) (fun t => t.planPhase 0 0) = some .draining ∧
    after (exec (.planDrained 0 0) pendingOut) (fun t => t.planPhase 0 0) = some .draining ∧
    after (exec (.planDrained 0 0) (withPlan (drainP true) pendingOut)) (fun t => (t.planPhase 0 0, (t.lineOut 2).pend)) =
      some (.stopped, []) := by decide +kernel

/-- R16, R17, R59: an entry that HWM has reached makes an item with the next ID; the second in the gap has no slot. -/
def entryP : Plan := { runP with entries := [⟨0, 0, 5, 0⟩], lastTake := [] }
def hwm5 (p : Plan) : State := { (withPlan p (atBeat 1004)).setEnc 0 { Enc.init with hwm := 5 } with
  ctxs := [(0, ⟨.active, 0xFFFFFFFF, 0⟩)] }
theorem test_item_create : (hwm5 entryP).nextEntry entryP = some ⟨0, 0, 5, 0⟩ := by decide +kernel
theorem test_item_made : after (exec (.itemCreate 0) (hwm5 entryP)) (fun t => (t.items.map (fun i => (i.id, i.slot, i.beat)))) =
      some ([(0xFFFFFFFF, some (0, 0), 1004)]) := by decide +kernel
theorem test_item_next_id : after (exec (.itemCreate 0) (hwm5 entryP)) (fun t => (t.ctx 0).nextItem) = some 0 := by decide +kernel
theorem test_item_gap : after (exec (.itemCreate 0) (hwm5 { entryP with lastTake := [(3, 995)] })) (fun t =>
      (t.items.map (·.slot), t.get (F.CPX_PLN_NI_GAP_NI_GAP 0))) = some ([none], 1) := by decide +kernel

def item : Item := ⟨0, 0, 7, 3, 0, 100, 0, 1004, some (0, 0), false, false, [], none, 0, 0, false⟩
def run0 : RecRun := ⟨0, 0, true, 0, 7⟩

/-- A RUNNING plan with an item of entry beat 1,004 in flight, at a beat; every domain works. -/
def works (s : State := base) : State := ((s.put F.CLK_ONFIO0_ONFIO 0).put F.CLK_ONFIO1_ONFIO 0).put F.CLK_ONFIO2_ONFIO 0
def inFlight (k : Nat) (i : PlanImage := im) (t : Item := item) : State :=
  { works with time := 500 * k, plans := [(0, runP i)], items := [t] }

/-- R18, R51: composed in the last seven beats before b + L, and the verdict in beat b + L = 1,020. -/
theorem test_compose : (inFlight 1013).item? 0 7 = some item ∧ (inFlight 1013).itemPlan item = some runP ∧
    item.beat + im.lat ≤ (inFlight 1013).beat + 7 ∧ item.slot.isSome = true ∧ im.verdicts.find? (fun v => v.cls == 3) ≠ none ∧
    after (exec (.verdictCompose 0 7 E) (inFlight 1013)) (fun t => t.items.map (fun i => i.composed.map (·.result))) =
      some [some 0] ∧
    after (exec (.verdictCompose 0 7 E) (inFlight 1012)) (fun t => t.items.map (·.composed)) = some [none] := by decide +kernel
theorem test_verdict : (inFlight 1020).verdictDue item = true ∧
    ((inFlight 1020).composeItem E runP item).item? 0 7 ≠ none ∧
    after (exec (.itemVerdict 0 7 E) (inFlight 1020)) (fun t => (t.items, t.get (F.FN_VLOST_VLOST 0))) = some ([], 1) ∧
    after (exec (.itemVerdict 0 7 E) (inFlight 1020 im { item with faulted := true })) (fun t =>
      t.get (F.CPX_PLN_FAULTED_FAULTED 0)) = some 1 := by decide +kernel
theorem test_result : ({ item with slot := none } : Item).result = 4 ∧ ({ item with faulted := true, incomplete := true } : Item).result = 5 ∧
    ({ item with incomplete := true } : Item).result = 6 ∧
    ({ item with composed := some ⟨2, [], 0, []⟩ } : Item).result = 2 := by decide
def limits : VerdictRule := ⟨3, 3, 1, 0, 0, [-5, 0, 0, 0], [5, 0, 0, 0], 0, 0, 0, 0⟩
theorem test_judge : limits.judge [-5] = 0 ∧ limits.judge [5] = 0 ∧ limits.judge [6] = 3 ∧ limits.judge [-6] = 3 := by decide

/-- R35: device time goes to the next multiple of 500; before READY nothing else happens; a die that differs fires 0x13. -/
theorem test_boundary : after (exec (.beatBoundary ⟨0, []⟩) { State.reset with time := 499 }) (fun t => t.time) = some 500 ∧
    (State.reset).ready = false ∧ base.ready = true ∧
    after (exec (.beatBoundary ⟨0, []⟩) { base with time := 500 }) (fun t => t.time) = some 1000 ∧
    after (exec (.beatBoundary ⟨0, [3]⟩) { base with time := 999 }) (fun t => t.get F.GLB_RSTCAUSE_DETECTOR) = some 0x13 := by
  decide +kernel
theorem test_plan_starts : after (exec (.beatBoundary ⟨0, []⟩)
    (withPlan { admP with phase := .armed, anchor := 1000, start := 1000 } { works with time := 499999 })) (fun t => t.planPhase 0 0) =
      some .running := by decide +kernel
theorem test_swap : let n : Plan := { admP with phase := .armed, anchor := 1410, start := 1410, armedSwap := true, partner := some 0 }
    let s : State := { works with time := 704999, plans := [(0, { runP with lastTake := [(3, 1405)] }), (1, n)] }
    s.plan? 0 0 ≠ none ∧ n.armedSwap = true ∧ n.partner = some 0 ∧
    after (exec (.beatBoundary ⟨0, []⟩) s) (fun t => (t.planPhase 0 0, t.planPhase 0 1, (t.plan? 0 1).map (·.lastTake))) =
      some (.draining, .running, some [(3, 1405)]) := by decide +kernel

/-- R319 to R321: with bubbles planned and no slack the record is shed; at the end of ISSUE it is stopped. -/
def tineIm : PlanImage := imOf [⟨1, 1, 0, 0, 0⟩] [{ rcd 1 1 with issue := 2 }]
def bubbles (k : Nat) : State := { inFlight k tineIm with betas := [(1005, 256)], time := 500 * k + 100 }
theorem test_shed : runOk run0 = true ∧ ((bubbles 1005).act? run0).map (fun a => (a.start, a.rcd.kind, a.ran, (bubbles 1005).slackSpent a)) =
      some (1005, 1, false, true) ∧
    after (exec (.recordShed run0) (bubbles 1005)) (fun t => (t.items.map (·.faulted), t.get F.EMU_MISS_MISS,
      bits (t.rd (R.FN_CTX_ERR 0)) 15 0)) = some ([true], 1, stDeadline) := by decide +kernel
theorem test_overrun : ((inFlight 1007 tineIm).act? run0).map (fun a => (a.start + a.rcd.issue, a.allowed)) = some (1007, true) ∧
    after (exec (.recordOverrun run0) (inFlight 1007 tineIm)) (fun t => (t.items.map (fun i => (i.faulted, i.ran)), t.get F.EMU_MISS_MISS)) =
      some ([(true, [0])], 1) := by decide +kernel

/-- R325: a budget at the edges of its ranges waits for the next beat; one below the admitted sum is ST_REFUSED_ENERGY. -/
def budget (b : Nat) : List (Nat × Nat) := [(8, b), (12, 1), (16, 9), (20, 64)]
theorem test_budget : Meets 0x71 0 (budget 750) ∧ (sent 0x71 (budget 750)).energyNeed 1 9 ≤ 750 ∧
    after (exec (.energyBudgetSet 0 0 E) (sent 0x71 (budget 750))) phaseOf = some (some (.executing (.atBeat 1))) :=
  ⟨meets (by decide +kernel), by decide +kernel, by decide +kernel⟩
theorem test_budget_low :
    let s := withPlan { admP with img := { im with decl := 2000 } }
    Meets 0x71 0 (budget 9) s ∧ 9 < s.energyNeed 1 9 ∧
    (reply (exec (.energyBudgetSet 0 0 E) (sent 0x71 (budget 9) s))).map (·.map (·.1)) = some (some stEnergy) :=
  ⟨meets (by decide +kernel), by decide +kernel, by decide +kernel⟩

/-! ## Ranges, translation, DMA -/

/-- Context 0 with identity translation over the first GiB of addresses, and DRAM of size code 1 on each channel. -/
def open0 : State :=
  ((base.put (F.ATU_CTX_CFG_SOURCE 0) 3).wr (R.ATU_CTX_WIN_LEN 0) 0x40000000).put (F.MEMC_CH_CFG_SIZE 0) 1

/-- R266, R280: a HOST range of one page, identity-translated: the lowest free slot 2 with generation 1, one run. -/
def pinHostPar : List (Nat × Nat) := [(8, 0), (9, 7), (16, 0x3FFFF000), (24, 0x1000)]
theorem test_pin_host : Meets 0x30 0 pinHostPar open0 ∧ open0.pinRefusal 0 (pk pinHostPar) = none ∧ open0.freeSlot 0 = some 2 ∧
    (open0.hostRuns E 0 0x3FFFF000 0x1000 7).1 matches .ok [(0x3FFFF000, 0x1000)] ∧
    reply (exec (.bufPin 0 0 E) (sent 0x30 pinHostPar open0)) = some (some (stOk, 2 + 32 + 0x10000)) :=
  ⟨meets (by decide +kernel), by decide +kernel, by decide +kernel, by decide +kernel, by decide +kernel⟩
theorem test_pin_field : Meets 0x30 0 [(8, 0), (9, 0), (16, 0), (24, 1)] open0 ∧
    reply (exec (.bufPin 0 0 E) (sent 0x30 [(8, 0), (9, 0), (16, 0), (24, 1)] open0)) = some (some (stBadParam, 0)) :=
  ⟨meets (by decide +kernel), by decide +kernel⟩
/-- R266: a page that its source does not translate (SOURCE 2 and no answer) is its index with ABSENT. -/
theorem test_pin_absent : let s := open0.put (F.ATU_CTX_CFG_SOURCE 0) 2
    Meets 0x30 0 pinHostPar s ∧ s.pinRefusal 0 (pk pinHostPar) = none ∧
    reply (exec (.bufPin 0 0 E) (sent 0x30 pinHostPar s)) = some (some (stUnpinned, rsnAbsent * 2 ^ 24)) :=
  ⟨meets (by decide +kernel), by decide +kernel, by decide +kernel⟩
/-- R267: a LOCAL range in channel 3 begins at the start of its data region; in SRAM at the bank named. -/
def pinLocalPar : List (Nat × Nat) := [(8, 1), (9, 3), (10, 3), (16, 2 ^ 47 + 0x10000), (24, 0x10000)]
theorem test_pin_local : Meets 0x30 0 pinLocalPar open0 ∧ open0.pinRefusal 0 (pk pinLocalPar) = none ∧
    open0.place 3 0x10000 = some (dramLa 3) ∧
    reply (exec (.bufPin 0 0 E) (sent 0x30 pinLocalPar open0)) = some (some (stOk, 2 + 32 + 0x10000)) :=
  ⟨meets (by decide +kernel), by decide +kernel, by decide +kernel, by decide +kernel⟩
theorem test_pin_local_full : Meets 0x30 0 pinLocalPar ∧ base.pinRefusal 0 (pk pinLocalPar) = none ∧ base.place 3 0x10000 = none ∧
    reply (exec (.bufPin 0 0 E) (sent 0x30 pinLocalPar)) = some (some (stMemory, 0)) :=
  ⟨meets (by decide +kernel), by decide +kernel, by decide +kernel, by decide +kernel⟩
def pinBankPar : List (Nat × Nat) := [(8, 1), (9, 3), (10, 4), (12, 0x7F), (16, 2 ^ 47 + 0x10000), (24, 0x20000)]
theorem test_pin_bank : Meets 0x30 0 pinBankPar ∧ base.pinRefusal 0 (pk pinBankPar) = none ∧
    after (exec (.bufPin 0 0 E) (sent 0x30 pinBankPar { base with zeroing := [0x7F] })) (fun t =>
      (t.zeroing, (tfind t.ranges 2).map (·.la))) = some ([], some 0xFE0000) :=
  ⟨meets (by decide +kernel), by decide +kernel, by decide +kernel⟩
/-- R276: a MIGR range of two pages with a pool of one. -/
def pinMigrPar : List (Nat × Nat) := [(8, 2), (9, 3), (10, 1), (12, 1), (16, 0x200000), (24, 0x2000)]
theorem test_pin_migr : Meets 0x30 0 pinMigrPar open0 ∧ open0.pinRefusal 0 (pk pinMigrPar) = none ∧
    open0.place 1 4096 = some (dramLa 1) ∧
    reply (exec (.bufPin 0 0 E) (sent 0x30 pinMigrPar open0)) = some (some (stOk, 2 + 32)) :=
  ⟨meets (by decide +kernel), by decide +kernel, by decide +kernel, by decide +kernel⟩
/-- R278: a REMOTE range through import table 0 to window 63 of member 7 on link 3. -/
def herdState : State := { ((open0.put F.HRD_STATUS_STATE 2).put (F.HRD_LINK_STATE_STATE 3) 2).put (F.HRD_LINK_STATE_PEER 3) 7 with
  herd := { Herd.none with exports := [⟨7, 63, 0x10000, 3, false⟩] } }
def pinRemotePar : List (Nat × Nat) := [(8, 3), (9, 3), (10, 7), (12, 63), (16, 2 ^ 47 + 0x10000), (24, 0x10000)]
theorem test_pin_remote : Meets 0x30 0 pinRemotePar herdState ∧ herdState.pinRefusal 0 (pk pinRemotePar) = none ∧
    (herdState.linkTo 7).isSome = true ∧
    after (exec (.bufPin 0 0 E) (sent 0x30 pinRemotePar herdState)) (fun t => ((tfind t.imports 0).map (·.device), replyOf t)) =
      some (some 7, some (stOk, 2 + 32)) :=
  ⟨meets (by decide +kernel), by decide +kernel, by decide +kernel, by decide +kernel⟩

/-- R282, R281: TLB_INVALIDATE answers its counts, BUF_UNPIN frees a slot; SOURCE 2, a range in use, an unknown ID. -/
def tlb1 : State := { open0 with tlb := [⟨0, 12, 0x100, 1, 0x100000, 7⟩] }
theorem test_tlb_invalidate : Meets 0x32 0 [(8, 1), (16, 0x100000), (24, 0x1000)] tlb1 ∧ tlb1.get (F.ATU_CTX_CFG_SOURCE 0) ≠ 2 ∧
    reply (exec (.tlbInvalidate 0 0 E) (sent 0x32 [(8, 1), (16, 0x100000), (24, 0x1000)] tlb1)) = some (some (stOk, 0x10000)) :=
  ⟨meets (by decide +kernel), by decide +kernel, by decide +kernel⟩
theorem test_tlb_source : let s := tlb1.put (F.ATU_CTX_CFG_SOURCE 0) 2
    Meets 0x32 0 [] s ∧ reply (exec (.tlbInvalidate 0 0 E) (sent 0x32 [] s)) = some (some (stBadState, 0)) :=
  ⟨meets (by decide +kernel), by decide +kernel⟩
theorem test_unpin : Meets 0x31 0 [(8, 33)] ∧ (base.rangeById 0 33).map (·.1) = some 1 ∧
    after (exec (.bufUnpin 0 0 E) (sent 0x31 [(8, 33)])) (fun t => (t.ranges.map (·.1), replyOf t)) = some ([0], some (stOk, 0)) :=
  ⟨meets (by decide +kernel), by decide +kernel, by decide +kernel⟩
theorem test_unpin_stale : Meets 0x31 0 [(8, 1)] ∧ base.rangeById 0 1 = none ∧
    reply (exec (.bufUnpin 0 0 E) (sent 0x31 [(8, 1)])) = some (some (stBadParam, 0)) :=
  ⟨meets (by decide +kernel), by decide +kernel, by decide +kernel⟩
theorem test_unpin_queue : let s := base.setQueue 0 5 { five with phys := false, sqAddr := 0x100000 }
    Meets 0x31 0 [(8, 32)] s ∧ s.rangeQueued 0 ⟨0, 7, false, 32, 0x100000, 0x10000, [(0x40000, 0x10000)], 0, 0, 0, [], 0⟩ = true ∧
    reply (exec (.bufUnpin 0 0 E) (sent 0x31 [(8, 32)] s)) = some (some (stBadState, 0)) :=
  ⟨meets (by decide +kernel), by decide +kernel, by decide +kernel⟩
/-- R277: one page brought into a pool of one; two at once are ST_REFUSED_MEMORY; a page at home moves no more. -/
def migr1 : State := { open0 with ranges := (2, ⟨2, 3, false, 34, 0x200000, 0x2000, [], dramLa 1, 1, 1, [], 0⟩) :: open0.ranges }
theorem test_page_migrate : Meets 0x33 0 [(8, 34), (10, 0), (16, 0x201000), (24, 1)] migr1 ∧
    reply (exec (.pageMigrate 0 0 E) (sent 0x33 [(8, 34), (10, 0), (16, 0x201000), (24, 1)] migr1)) = some (some (stOk, 0)) ∧
    reply (exec (.pageMigrate 0 0 E) (sent 0x33 [(8, 34), (10, 1), (16, 0x200000), (24, 2)] migr1)) = some (some (stMemory, 0)) :=
  ⟨meets (by decide +kernel), by decide +kernel, by decide +kernel⟩

/-- R309: an END alone is a program; LEN 0 deletes it; an unknown opcode names its instruction. -/
def prog0 : State := { base with progs := [(5, ⟨0, [.fin]⟩)] }
theorem test_prog_load : Meets 0x42 0 [(8, 0x100000), (16, 7), (18, 1)] ∧ (checkProg 1 (List.replicate 32 0)) matches .ok [.fin] ∧
    (reply (exec (.dmaProgLoad 0 0 E) (sent 0x42 [(8, 0x100000), (16, 7), (18, 1)]))) =
      some (some (stOk, crc32c (List.replicate 32 0))) := ⟨meets (by decide +kernel), by decide +kernel, by decide +kernel⟩
theorem test_prog_delete : Meets 0x42 0 [(8, 0), (16, 5), (18, 0)] prog0 ∧ prog0.progNamed 0 5 = false ∧
    after (exec (.dmaProgLoad 0 0 E) (sent 0x42 [(8, 0), (16, 5), (18, 0)] prog0)) (fun t => (t.progs.length, replyOf t)) =
      some (0, some (stOk, 0)) := ⟨meets (by decide +kernel), by decide +kernel, by decide +kernel⟩
theorem test_prog_bad : let e : HostEnv := { E with mem := [(0x40000, [9])] }
    (checkProg 1 (9 :: List.replicate 31 0)) matches .error 0 ∧
    reply (exec (.dmaProgLoad 0 0 e) (sent 0x42 [(8, 0x100000), (16, 7), (18, 1)])) = some (some (stImageBad, 0)) := by
  decide +kernel

/-- A DMX_RUN record on channel 0 with its program in the channel's store, at a beat. -/
def dmxIm : PlanImage := imOf [⟨5, 1, 0, 1, 0⟩] [{ rcd 5 1 with op0 := 5 }]
def chanS (code : List DInstr) (k : Nat) (x : ChanRun := ⟨run0, code, 0, 0, 0, [], none, 0⟩) : State :=
  { inFlight k dmxIm with chans := [(0, x)] }
theorem test_dmx_run : let s : State := { inFlight 1005 dmxIm with chanProgs := [⟨0, 0, 5, ⟨0, [.fin]⟩⟩] }
    (s.due? run0 5).isSome = true ∧ s.chan? 0 = none ∧
    after (exec (.dmxRun run0) s) (fun t => (t.chan? 0).map (·.pc)) = some (some 0) := by decide +kernel
/-- R295: LOOP of COUNT 2 goes back once with SO and DO advanced, then restores them; COUNT 1 never does. -/
def loopCode : List DInstr := [.signal 1, .loop 0 2 64 128, .fin]
def loopAt (so dofs : Int) (ls : List (Nat × Nat × Int × Int)) : State := chanS loopCode 1005 ⟨run0, loopCode, 1, so, dofs, ls, none, 0⟩
theorem test_dmx_loop : ((loopAt 0 0 []).chanAt 0).map (fun y => y.1.pc) = some 1 ∧
    after (exec (.dmxLoop 0) (loopAt 0 0 [])) (fun t => (t.chan? 0).map (fun x => (x.pc, x.so, x.dofs))) =
      some (some (0, 64, 128)) := by decide +kernel
theorem test_dmx_loop_entered : after (exec (.dmxLoop 0) (loopAt 0 0 [])) (fun t => (t.chan? 0).map (·.loops)) =
    some (some [(1, 1, 0, 0)]) := by decide +kernel
theorem test_dmx_loop_ends : after (exec (.dmxLoop 0) (loopAt 64 128 [(1, 1, 0, 0)])) (fun t =>
    (t.chan? 0).map (fun x => (x.pc, x.so, x.dofs))) = some (some (2, 0, 0)) := by decide +kernel
def moveCode : List DInstr := [.move 0 1 false 0 0 0 8 0 0 0 0 0 1 0, .fin]
theorem test_dmx_move : ((chanS moveCode 1005).chanAt 0).map (fun y => y.2.2) = moveCode.head? ∧
    after (exec (.dmxMove 0) (chanS moveCode 1005)) (fun t => (t.chan? 0).map (·.pc)) = some (some 1) := by decide +kernel
/-- R291: bit-plane 0 of eight bytes, the first the least significant bit. -/
theorem test_bit_plane : bitPlane 0 (clean [1, 0, 0, 0, 0, 0, 0, 1]) = [(0x81, false)] ∧
    (Xfer.line ⟨0, 0, 0, 2, 1, 0, 0, 0, false⟩ [clean [1, 2]]) = [clean [1, 2]] := by decide

/-- R295: WAIT BEAT in its beat, WAIT SEM at exactly its value, WAIT TRIG always waits; SIGNAL stops at 65,535; END counts. -/
theorem test_wait_beat : after (exec (.dmxWaitBeat 0) (chanS [.wait 0 2 0 0] 1007)) (fun t => (t.chan? 0).map (·.pc)) = some (some 1) ∧
    after (exec (.dmxWaitBeat 0) (chanS [.wait 0 2 0 0] 1006)) (fun t => (t.chan? 0).map (fun x => (x.pc, x.waiting))) =
      some (some (0, some 503000)) := by decide +kernel
theorem test_wait_sem : let s := (chanS [.wait 2 63 3 10] 1006)
    after (exec (.dmxWaitSem 0) (s.put (F.DMX_SEM_VALUE 63) 3)) (fun t => ((t.chan? 0).map (·.pc), t.get (F.DMX_SEM_VALUE 63))) =
      some (some 1, 0) ∧
    after (exec (.dmxWaitSem 0) (s.put (F.DMX_SEM_VALUE 63) 2)) (fun t => ((t.chan? 0).map (·.pc), t.get (F.DMX_SEM_VALUE 63))) =
      some (some 0, 2) := by decide +kernel
theorem test_wait_trig : after (exec (.dmxWaitTrig 0) (chanS [.wait 1 7 0 10] 1006)) (fun t => (t.chan? 0).map (fun x => (x.pc, x.waiting))) =
    some (some (0, some 503000)) := by decide +kernel
def waitingAt (i : DInstr) (t k : Nat) : State := chanS [i, .fin] k ⟨run0, [i, .fin], 0, 0, 0, [], some t, 0⟩
theorem test_wait_release :
    after (exec (.dmxWaitRelease 0) ((waitingAt (.wait 1 7 0 10) 502600 1006).setLineIn 7 { LineIn.init with capT := some 502601 }))
      (fun t => (t.chan? 0).map (·.pc)) = some (some 1) ∧
    after (exec (.dmxWaitRelease 0) ((waitingAt (.wait 2 0 1 10) 502600 1006).put (F.DMX_SEM_VALUE 0) 1))
      (fun t => (t.chan? 0).map (·.pc)) = some (some 1) := by decide +kernel
theorem test_wait_timeout :
    after (exec (.dmxWaitTimeout 0) (waitingAt (.wait 1 7 0 800) 502900 1006)) (fun t =>
      ((t.chan? 0).isSome, t.items.map (·.incomplete), t.get (F.DMX_CH_CNT2_TMO 0))) = some (false, [true], 1) ∧
    after (exec (.dmxWaitTimeout 0) (waitingAt (.wait 2 7 1 800) 502900 1006)) (fun t => t.items.map (·.faulted)) = some [true] ∧
    after (exec (.dmxWaitTimeout 0) (waitingAt (.wait 1 7 0 801) 502900 1006)) (fun t => (t.chan? 0).isSome) = some true := by
  decide +kernel
theorem test_signal : after (exec (.dmxSignal 0) ((chanS [.signal 5, .fin] 1006).put (F.DMX_SEM_VALUE 0) 65533)) (fun t =>
    ((t.chan? 0).map (·.pc), t.get (F.DMX_SEM_VALUE 0))) = some (some 1, 65535) := by decide +kernel
theorem test_end : after (exec (.dmxEnd 0) (chanS [.fin] 1006)) (fun t => ((t.chan? 0).isSome, t.get (F.DMX_CH_DONE_DONE 0))) =
    some (false, 1) := by decide +kernel
theorem test_late : after (exec (.recordLate 0) (chanS [.fin] 1009)) (fun t => (t.items.map (·.faulted), t.get (F.DMX_CH_CNT2_LATE 0))) =
      some ([true], 1) ∧
    after (exec (.recordLate 0) (chanS [.fin] 1008)) (fun t => t.items.map (·.faulted)) = some [false] := by decide +kernel

/-- A DMA ring on local queue 1 of context 0, on channel 191, with one descriptor. -/
def desc (raw : Nat) (ph : DescPhase := .held) : Desc := ⟨0, some raw, ph, [], [], 0, 0⟩
def ringQ (d : List Desc) (r : RingPhase := .running) : Queue :=
  { qu (ask 1 []) with typ := 2, t := 1, cmds := [], chan := 191, ring := r, descs := d }
def ringS (d : Desc) (r : RingPhase := .running) : State := base.setQueue 0 1 (ringQ [d] r)
/-- A MOVE of one line of 8 bytes from host 0x40000 to host 0x40100, OWN set. -/
def moveRaw : Nat := 1 + 1 <<< 8 + 1 <<< 48 + 8 <<< 64 + 0x100000 <<< 128 + 0x100100 <<< 192
def entryStatus (t : State) : Option Nat :=
  match t.out.reverse.find? (fun o => match o with | .hostWrite _ _ _ => true | _ => false) with
  | some (.hostWrite _ b _) => some (leField b 5 1)
  | _ => none

/-- R303, R304: a good MOVE starts; a NOP ends OK; OWN clear is NOT_OWNED; a reserved bit is BAD; a failed translation is FAULT. -/
theorem test_desc_start : (desc moveRaw).ok = true ∧ (ringS (desc moveRaw)).activeRing 191 = none ∧
    ((ringS (desc moveRaw)).pickRing 191).map (fun y => y.2.2.2) = some (desc moveRaw) ∧
    after (exec (.descMove 191 E) (ringS (desc moveRaw))) (fun t => (t.queue? 0 1).map (fun y => y.descs.map (·.phase))) =
      some (some [.running]) := by decide +kernel
theorem test_desc_finish : let d : Desc := ⟨0, some moveRaw, .running, [[.host 0x40000 8]], [[.host 0x40100 8]], 2, 0⟩
    ((ringS d).activeRing 191).isSome = true ∧
    after (exec (.descMove 191 { E with mem := [(0x40000, [1, 2, 3])] }) (ringS d)) (fun t => (t.out.head?, entryStatus t)) =
      some (some (.hostWrite 0x40100 [1, 2, 3, 0, 0, 0, 0, 0] false), some 0) := by decide +kernel
theorem test_desc_nop : (desc 256).opc = 0 ∧
    after (exec (.descNop 191 E) (ringS (desc 256))) (fun t => (entryStatus t, (t.queue? 0 1).map (fun y => (y.h, y.descs)))) =
      some (some 0, some (1, [])) := by decide +kernel
theorem test_desc_not_owned : (desc 1).owned = false ∧
    after (exec (.descMove 191 E) (ringS (desc 1))) (fun t => (entryStatus t, (t.queue? 0 1).map (·.ring))) =
      some (some 2, some .stopped) := by decide +kernel
theorem test_desc_bad : (desc (0x101 + 1 <<< 320)).ok = false ∧
    after (exec (.descMove 191 E) (ringS (desc (0x101 + 1 <<< 320)))) entryStatus = some (some 1) := by decide +kernel
theorem test_desc_failed : after (exec (.descMove 191 E) (ringS (desc moveRaw (.failed 2 0x5000)))) entryStatus = some (some 3) := by
  decide +kernel
/-- R306: a program channel's PAUSE is ignored and counted; a ring channel's is set, and it reaches PAUSED. -/
theorem test_pause : after (exec (.dmxPauseSet 63) base) (fun t => t.get F.DMX_STATUS_WIGN) = some 1 ∧
    after (exec (.dmxPauseClear 63) base) (fun t => t.get F.DMX_STATUS_WIGN) = some 1 ∧
    after (exec (.dmxPauseSet 64) base) (fun t => t.get (F.DMX_CH_CTL_PAUSE 64)) = some 1 ∧
    after (exec (.dmxPauseClear 191) (base.put (F.DMX_CH_CTL_PAUSE 191) 1)) (fun t => t.get (F.DMX_CH_CTL_PAUSE 191)) = some 0 ∧
    after (exec (.dmxPaused 191) (base.put (F.DMX_CH_CTL_PAUSE 191) 1)) (fun t => t.get (F.DMX_CH_STAT_STATE 191)) = some 4 := by
  decide +kernel

/-- R275: after FTMO ms a fault fails with TIMEOUT; R274: a served one lets the ring run. -/
def faulty : State := (ringS (desc moveRaw (.faulted rsnAbsent 0x5000 0 true)) .waiting).put (F.ATU_CTX_CFG_FTMO 0) 1
theorem test_fault_timeout : (faulty.queue? 0 1).map (fun x => x.descs.length) = some 1 ∧
    after (exec (.faultTimeout 0 1) { faulty with time := 100000 }) (fun t => (entryStatus t, t.rd (R.ATU_CTX_LASTR 0))) =
      some (some 3, rsnTimeout + 256) ∧
    after (exec (.faultTimeout 0 1) { faulty with time := 99999 }) entryStatus = some none := by decide +kernel
theorem test_fault_served : ((ringS (desc moveRaw) .waiting).queue? 0 1).map (·.ring) = some .waiting ∧
    after (exec (.ringFaultServed 0 1) (ringS (desc moveRaw) .waiting)) (fun t => (t.queue? 0 1).map (·.ring)) =
      some (some .running) ∧
    after (exec (.ringFaultServed 0 1) faulty) (fun t => (t.queue? 0 1).map (·.ring)) = some (some .waiting) := by decide +kernel
theorem test_walk_timeout : let s := (open0.setQueue 0 1 (ringQ [desc moveRaw .fresh])).put (F.ATU_CTX_CFG_SOURCE 0) 1
    (s.nextFresh 0 1).map (fun y => y.1.typ) = some 2 ∧
    after (exec (.walkTimeout 0 1) s) (fun t => (t.get F.ATU_CNT_WALK_ERR_CNT, (t.queue? 0 1).map (fun y => y.descs.map (·.phase)))) =
      some (1, some [.failed rsnWalk 0x100000]) := by decide +kernel
/-- R264: Response Failure denies what is pending and stops Page Requests; a response when none is out changes nothing. -/
theorem test_prg_response : let s := faulty.put F.ATU_PRI_OUT 1
    s.get F.ATU_PRI_OUT ≠ 0 ∧
    after (exec (.prgResponse 0 1 15 E) s) (fun t => (t.get F.ATU_PRI_OUT, t.get F.ATU_STATUS_PRI_STOPPED, entryStatus t)) =
      some (0, 1, some 3) ∧
    after (exec (.prgResponse 0 1 0 E) faulty) (fun t => decide (t = faulty)) = some true ∧
    after (exec (.prgResponse 5 127 2 E) s) (fun t => t.get F.ATU_PRI_OUT) = some 0 := by decide +kernel
theorem test_pri_enable : after (exec (.priEnable 512 true) base) (fun t => (t.get F.ATU_PRI_ALLOC, t.atsOn)) = some (512, true) := by
  decide +kernel
/-- R272: an invalidation that covers no window is answered at once; one that covers a HOST range revokes it at the next beat. -/
theorem test_ats : base.atsSpans none 0 (2 ^ 64 - 1) = [] ∧
    after (exec (.atsInvalidation none 0 (2 ^ 64 - 1) E) base) (·.out) = some [.invalidateDone none] := by decide +kernel
theorem test_ats_revokes : let s := open0.put (F.ATU_CTX_CFG_SOURCE 0) 2
    after (exec (.atsInvalidation none 0x100000 1 E) s) (·.revoking) = some [0] ∧
    (tfind ({ s with revoking := [0] } : State).revokeBeat.ranges 0).map (·.revoked) = some true := by decide +kernel
theorem test_invalidate_stop :
    let d : Desc := ⟨0, some moveRaw, .running, [[.host 0x40000 8]], [[.host 0x40100 8]], 2, 0⟩
    let s : State := { (open0.put (F.ATU_CTX_CFG_SOURCE 0) 2).setQueue 0 1 (ringQ [d]) with time := 1000000, atsPend := [⟨none, 0x100000, 1, 0⟩] }
    (s.activeRing 191).isSome = true ∧ after (exec (.invalidateStop 191) s) entryStatus = some (some 3) := by decide +kernel
theorem test_tlb_flush : tlb1.rings = [] ∧ after (exec (.atuTlbFlush E) tlb1) (·.tlb) = some [] := by decide +kernel

/-- R243, R252, R25. -/
theorem test_bank_zero : after (exec .bankZeroDone { base with zeroing := [2], mem := [(0x40000, 1), (0x60000, 1)] }) (fun t =>
    (t.zeroing, t.mem)) = some ([], [(0x60000, 1)]) := by decide +kernel
theorem test_scrub : let s : State := { base.put (F.SRM_SCRUB_CFG_EN 0) 1 with ecc := [(8, .ce 3)] }
    s.on (F.SRM_SCRUB_CFG_EN 0) = true ∧ s.bankHeld 0 = false ∧ s.domOn (bankDomain 0) = true ∧
    after (exec (.sramScrub 15) s) (fun t => (t.ecc, t.get (F.SRM_CE_CNT_CE 0))) = some ([], 1) := by decide +kernel
theorem test_bar4 : base.dbg = false ∧ after (exec (.bar4Access 0 4 false 0) { base with mem := [(0, 7)] }) (·.out) = some [.read 0] ∧
    after (exec (.bar4Access 3 1 true 9) (base.put F.KSU_STATUS_DBG 1)) (·.mem) = some [(3, 9)] ∧
    after (exec (.bar4Access 0 4 false 0) { base.put F.KSU_STATUS_DBG 1 with mem := [(3, 9)] }) (·.out) = some [.read 0x09000000] := by
  decide +kernel

/-! ## Models, engines, chain units, post-processing, spares -/

/-- A model image of one 1x1 INT8 layer (Tables 9.2 and 9.3): weight 3, multiplier 2, shift 1. -/
def modelBytes : Bytes :=
  leBytes 16 (0x4C444D42 + 1 <<< 32 + 192 <<< 64 + 1 <<< 96) ++ leBytes 48 128 ++ leBytes 64 (3 + 2 <<< 40 + 1 <<< 56) ++
  leBytes 64 (0x11110101 + 1 <<< 64 + 1 <<< 80 + 1 <<< 96 + 1 <<< 112 + 2 <<< 136 + 2 <<< 144 + 64 <<< 160 + 9 <<< 192)
def layer1 : Layer := ⟨1, 1, 1, 1, 1, 1, 0, 0, 0, 0, 1, 1, 1, 1, 0, 2, 2, 0, 64, 9, 0⟩
theorem test_model_checks : (match checkModel modelBytes with | .ok l => decide (l = [layer1]) | .error _ => false) = true ∧
    (match checkModel (modelBytes.drop 1) with | .ok _ => false | .error e => e == (stImageBad, 0)) = true := by decide +kernel
def model (id : Nat) : Model := ⟨0, id, 192, 0x1234, [layer1], false, modelBytes, [0]⟩
def modelPar : List (Nat × Nat) := [(8, 0x100000), (16, 192), (20, 9)]
theorem test_model_load : Meets 0x20 0 modelPar ∧ base.model? 0 9 = none ∧
    ((sent 0x20 modelPar).cmdRead { E with mem := [(0x40000, modelBytes)] } 0 0x100000 192).1 matches .ok _ :=
  ⟨meets (by decide +kernel), by decide +kernel, by decide +kernel⟩
theorem test_model_load_bad : reply (exec (.modelLoad 0 0 E) (sent 0x20 modelPar)) = some (some (stImageBad, 0)) := by decide +kernel
theorem test_model_load_key : Meets 0x20 0 [(8, 0x100000), (16, 208), (24, 1), (25, 15)] ∧
    ((sent 0x20 [(8, 0x100000), (16, 208), (24, 1), (25, 15)]).cmdRead E 0 0x100000 208).1 matches .ok _ ∧
    (reply (exec (.modelLoad 0 0 E) (sent 0x20 [(8, 0x100000), (16, 208), (24, 1), (25, 15)]))).map (·.isSome) = some true :=
  ⟨meets (by decide +kernel), by decide +kernel, by decide +kernel⟩
def modelled (s : State := base) : State := { s with models := [model 9] }
/-- R217: an unknown ID, a referenced model, a free one. -/
theorem test_model_evict : Meets 0x21 0 [(8, 9)] modelled ∧ modelled.modelUsed 0 9 = false ∧
    after (exec (.modelEvict 0 0 E) (sent 0x21 [(8, 9)] modelled)) (·.models) = some [] ∧
    reply (exec (.modelEvict 0 0 E) (sent 0x21 [(8, 8)] modelled)) = some (some (stBadParam, 0)) ∧
    reply (exec (.modelEvict 0 0 E) (sent 0x21 [(8, 9)]
      (withPlan { admP with img := { im with models := [⟨9, 192, 0x1234⟩] } } modelled))) = some (some (stBadState, 0)) :=
  ⟨meets (by decide +kernel), by decide +kernel, by decide +kernel, by decide +kernel, by decide +kernel⟩
theorem test_model_list : Meets 0x22 0 [(8, 0x100040), (16, 16)] modelled ∧ modelled.pinned 0 0x100040 16 2 = some [.host 0x40040 16] ∧
    (modelled.bringIn E 0 0x100040 16).1 matches .ok () ∧
    reply (exec (.modelList 0 0 E) (sent 0x22 [(8, 0x100040), (16, 16)] modelled)) = some (some (stOk, 0x10001)) ∧
    after (exec (.modelList 0 0 E) (sent 0x22 [(8, 0x100040), (16, 16)] modelled)) (fun t => t.out.head?) = some (some
      (.hostWrite 0x40040 [9, 0, 0, 0, 192, 0, 0, 0, 0x34, 0x12, 0, 0, 1, 0, 0, 0] false)) :=
  ⟨meets (by decide +kernel), by decide +kernel, by decide +kernel, by decide +kernel, by decide +kernel⟩

/-- One record of a unit, its operands in the LOCAL range: granule 0 in, granule 4 and what follows out. -/
def unitRec (kind op0 op1 op2 : Nat) : Rec := ⟨kind, 0, 0, 1, 1, 1, 4, 64, 0, 0, 1, op0, op1, op2⟩
def unitIm (claim : Nat) (r : Rec) : PlanImage :=
  { imOf [⟨claim, 1, 0, 0, 0⟩] [r] with bufs := [⟨33, 1, 0, 256⟩, ⟨33, 2, 256, 256⟩, ⟨33, 1, 0, 768⟩], models := [⟨9, 192, 0x1234⟩] }
def unitS (claim : Nat) (r : Rec) (data : List Host.Cell) (k : Nat := 1005) : State :=
  { inFlight k (unitIm claim r) with mem := data, models := [model 9] }

/-- R205 to R209: 3 * 5 * 2 / 2 = 15 is written, LASTCYC is 96 + 64; a fenced engine does not run it; a record longer than its
ISSUE beats is left. -/
def tineR (issue : Nat) : Rec := { unitRec 1 0 0x10000 0 with issue := issue }
def tineS : State := unitS 1 (tineR 1) [(0xA000000, 5)]
theorem test_tine_due : runOk run0 = true ∧ (tineS.due? run0 1).map (fun a => (tineS.actDomains a, a.plan.img.recUnit a.rcd 1,
    (tineS.recModel 0 a.plan.img a.rcd).isSome, (tineS.actBuf a 0).isSome && (tineS.actBuf a 1).isSome)) = some (true, 0, true, true) ∧
    tineS.engSick 0 0 = false := by decide +kernel
theorem test_tine : after (exec (.tineRun run0) tineS) (fun t => (t.mem, t.rd (R.TINE_LASTCYC 0 0), t.items.map (·.ran))) =
    some ([(0xA000000, 5), (0xA000100, 15)], 160, [[0]]) := by decide +kernel
theorem test_tine_fenced : (tineS.onDie 0 (fun d => { d with fenced := [0] })).engSick 0 0 = true ∧
    after (exec (.tineRun run0) (tineS.onDie 0 (fun d => { d with fenced := [0] }))) (fun t => (t.mem, t.items.map (·.faulted))) =
      some ([(0xA000000, 5)], [true]) := by decide +kernel
theorem test_tine_long : let s := unitS 1 (tineR 0) []
    (s.due? run0 1).isSome = true ∧ after (exec (.tineRun run0) s) (fun t => decide (t = s)) = some true := by decide +kernel

/-- R222, R227: LOAD UINT8, ADD const 7, STORE UINT8 of two bytes; 48 + 8 * 3 + 2 cycles; a failed unit does not run it. -/
def progBytes : Bytes := leBytes 64 (0x50484342 + 3 <<< 32) ++
  leBytes 128 (1 + 1 <<< 8 + (3 + 1 <<< 16) <<< 128 + 11 <<< 256) ++ leBytes 576 7
def chainS : State := { unitS 2 (unitRec 2 (2 + 2 <<< 16) 0xFFFF 0) [(0xA000000, 5), (0xA000001, 250)] with
  copies := [⟨0, 0x1000, 2, progBytes, false⟩] }
theorem test_chain_valid : ChainProg.valid progBytes 2 = true ∧ ((chainS.due? run0 2).map (fun a => (chainS.actDomains a,
    (chainS.copy? 0 0 0x1000 a.rcd.prog).isSome))) = some (true, true) ∧ chainS.unitFailed 0x1000 1005 = false := by decide +kernel
theorem test_chain : after (exec (.chainOp run0) chainS) (fun t => (t.mem.drop 2, t.rd (R.CHU_LASTCYC 0 0), t.get (F.CHU_SAT_SAT 0 0))) =
    some ([(0xA000100, 12), (0xA000101, 127)], 74, 1) := by decide +kernel
theorem test_chain_failed : after (exec (.chainOp run0) { chainS with failFrom := [(0x1000, 1005)] }) (fun t => t.items.map (·.faulted)) =
    some [true] := by decide +kernel

/-- R231: of the scores 1, 7, 7, -3 the two largest are 7 (index 1) and 7 (index 2); ascending the first are -3 and 1. -/
def scores : List Host.Cell := [(0xA000000, 1), (0xA000002, 7), (0xA000004, 7), (0xA000006, 0xFD), (0xA000007, 0xFF)]
def sortS (order : Nat) : State := unitS 3 (unitRec 3 (4 + order <<< 24) 2 0) scores
theorem test_sort_due : ((sortS 0).due? run0 3).map (fun a => ((sortS 0).actDomains a, (sortS 0).sortCyc run0 a)) =
    some (true, 64 + 1 + 3 + 2) := by decide +kernel
theorem test_sort : after (exec (.ppuSort run0) (sortS 0)) (fun t => t.mem.drop 5) =
    some [(0xA000100, 7), (0xA000102, 7), (0xA000140, 1), (0xA000142, 2)] := by decide +kernel
theorem test_sort_ascending : after (exec (.ppuSort run0) (sortS 1)) (fun t => t.mem.drop 5) =
    some [(0xA000100, 0xFD), (0xA000101, 0xFF), (0xA000102, 1), (0xA000140, 3)] := by decide +kernel
theorem test_sort_failed : after (exec (.ppuSort run0) { sortS 0 with failFrom := [(0x2000, 1000)] }) (fun t => t.items.map (·.faulted)) =
    some [true] := by decide +kernel

/-- R234 to R236: two anchors of 8 by 8 at the same place with deltas 0: the better of the two is kept, the other suppressed. -/
def anchorBytes : Bytes := leBytes 16 (20 + 20 <<< 16 + 8 <<< 32 + 8 <<< 48 + (20 + 20 <<< 16 + 8 <<< 32 + 8 <<< 48) <<< 64)
def detS : State := { unitS 3 (unitRec 4 (2 + 2 <<< 16) (2 + 128 <<< 16) (2 <<< 16)) [(0xA000000, 3), (0xA000002, 9)] with
  copies := [⟨0, 0x2000, 2, anchorBytes, false⟩] }
theorem test_detect_due : (detS.due? run0 4).map (fun a => (detS.actDomains a, (detS.copy? 0 0 0x2000 a.rcd.anch).isSome)) =
    some (true, true) := by decide +kernel
theorem test_detect : after (exec (.ppuDetect run0) detS) (fun t => t.mem.drop 2) = some [(0xA000100, 1), (0xA000102, 2),
    (0xA000140, 16), (0xA000142, 16), (0xA000144, 24), (0xA000146, 24), (0xA000148, 9), (0xA00014A, 1), (0xA00014C, 1)] := by decide +kernel
theorem test_detect_failed : after (exec (.ppuDetect run0) { detS with failFrom := [(0x2000, 1000)] }) (fun t => t.items.map (·.faulted)) =
    some [true] := by decide +kernel

/-- R213, R214: the spare of die 0 shadows its next target; the copy takes 8,192 ticks; at the swap it takes over the target's number. -/
def dueS : State := base.onDie 0 (fun d => { d with due := true })
theorem test_rotation_begin : dueS.nextTarget 0 = some 0 ∧ dueS.on (F.TINE_ROTCFG_ROT_EN 0) = true ∧ dueS.spareIdle 0 = true ∧
    dueS.engineBoundary (dueS.logicalOf 0 0) = true ∧
    after (exec (.rotationStepBegin 0) dueS) (fun t => (t.engRole 0 (dueS.spareOf 0), (t.engDie 0).target)) = some (2, some 0) ∧
    after (exec (.rotationStepBegin 1) dueS) (fun t => decide (t = dueS)) = some true := by decide +kernel
def shadowS (done : Bool) : State := { dueS with time := 9000 }.onDie 0
  (fun d => { d with due := false, target := some 0, copying := some 0, copyT := 808, copied := done })
theorem test_copy_done : (shadowS false).time = 808 + 8192 ∧
    after (exec (.shadowCopyDone 0) (shadowS false)) (fun t => (t.engDie 0).copied) = some true ∧
    after (exec (.shadowCopyDone 0) { shadowS false with time := 8999 }) (fun t => (t.engDie 0).copied) = some false := by decide +kernel
theorem test_swap_spare : (shadowS true).engineBoundary ((shadowS true).logicalOf 0 0) = true ∧ (shadowS true).spareOf 0 = 15 ∧
    (shadowS true).logicalOf 0 0 = 0 ∧
    after (exec (.spareSwap 0) (shadowS true)) (fun t => (t.get (F.TINE_MAP_PHYS 0 0), t.engRole 0 15, t.engRole 0 0, t.spareOf 0)) =
      some (15, 0, 3, 0) := by decide +kernel
theorem test_replacement_begin : let s := base.onDie 1 (fun d => { d with fenced := [4] })
    s.spareIdle 1 = true ∧ s.engineBoundary (s.logicalOf 1 4) = true ∧
    after (exec (.replacementBegin 1 4) s) (fun t => (t.engDie 1).copying) = some (some 4) ∧
    after (exec (.replacementBegin 1 5) s) (fun t => decide (t = s)) = some true := by decide +kernel
theorem test_replacement_swap : let s := base.onDie 1 (fun d => { d with fenced := [4], copying := some 4, copied := true })
    s.engineBoundary (s.logicalOf 1 4) = true ∧ after (exec (.replacementSwap 1) s) (fun t => (t.engRole 1 4, t.engRole 1 15,
      t.get (F.TINE_SPARE_VALID 1), t.get (F.TINE_MAP_PHYS 1 4))) = some (4, 0, 0, 15) := by decide +kernel
theorem test_selftest_done : let s := { base with time := 100000 }.onDie 0 (fun d => { d with tests := [(3, 0, 0)] })
    s.injecting 0x5E = false ∧ ((s.engDie 0).tests.find? (fun y => y.1 == 3 && decide (y.2.1 + 100000 ≤ s.time))) = some (3, 0, 0) ∧
    (s.setBist 0 3 true).get (F.TINE_BIST_PASS 0 3) = 1 ∧ (s.setBist 0 3 false).get (F.TINE_BIST_PASS 0 3) = 0 ∧
    after (exec (.engineSelftestDone 0 4 true) s) (fun t => decide (t = s)) = some true := by decide +kernel
theorem test_selftest_run : Meets 0x82 0 [(9, 31)] ∧ base.engineClaimed 1 15 = false ∧ base.engRole 1 15 = 1 ∧ (base.engDie 1).tests = [] ∧
    after (exec (.selftestRun 0 0 E) (sent 0x82 [(9, 31)])) phaseOf = some (some (.executing .selftest)) ∧
    after (exec (.selftestRun 0 0 E) (sent 0x82 [(8, 1), (9, 7)])) phaseOf = some (some (.executing (.atBeat 20))) ∧
    reply (exec (.selftestRun 0 0 E) (sent 0x82 [(8, 2)] (withPlan { admP with img := { im with claims := [⟨3, 1, 0, 0, 0⟩] } }))) =
      some (some (stBadState, 0)) ∧
    reply (exec (.selftestRun 0 0 E) (sent 0x82 [] (withPlan { admP with img := tineIm }))) = some (some (stBadState, 0)) :=
  ⟨meets (by decide +kernel), by decide +kernel, by decide +kernel, by decide +kernel, by decide +kernel, by decide +kernel,
   by decide +kernel, by decide +kernel⟩

/-! ## Encoders, line inputs, outputs, strobes -/

/-- Encoder 1 counts with FILT 0. -/
def encS (e : Enc := Enc.init) (t : Nat := 9) : State :=
  { (((base.putBit F.LIO_STATUS_STOPPED 1 false).put (F.LIO_ENC_CFG_EN 1) 1).put (F.LIO_ENC_CFG_FILT 1) 0).setEnc 1 e with time := t }

/-- R101: edges of one of A and B, of both, too short ones, and a disabled encoder; a count up or down, and a reversal. -/
theorem test_count : encS.padIn = true ∧ encS.on (F.LIO_ENC_CFG_EN 1) = true ∧ encS.encLost 1 = false ∧
    (encS.enc 1).a = false ∧ (encS.enc 1).b = false ∧ encS.get (F.LIO_ENC_CFG_FILT 1) = 0 ∧
    after (exec (.encCount 1 true false 0) encS) (fun t => decide (t = encS)) = some true ∧
    after (exec (.encCount 1 true true 1) encS) (fun t => ((t.enc 1).pos, t.get (F.LIO_ENC_STAT_QLVL 1))) = some (0, 1) ∧
    after (exec (.encCount 0 true false 99) encS) (fun t => ((t.enc 0).pos, (t.enc 0).a)) = some (0, true) := by decide +kernel
theorem test_count_up : ((encS.countOne 1 true).enc 1).pos = 1 ∧ ((encS.countOne 1 false).enc 1).pos = -1 ∧
    ((encS { Enc.init with pos := 2 ^ 63 - 1 }).countOne 1 true |>.enc 1).pos = -2 ^ 63 ∧
    ((encS { Enc.init with dir := some false }).countOne 1 true).get (F.LIO_ENC_CNT_REVERSALS 1) = 1 := by decide +kernel
/-- R103: QERR_LIM 1 loses the encoder at the first error; RELOCK sets POS to HWM. -/
def lostS : State := (encS { Enc.init with pos := 3, hwm := 8 }).putBit F.LIO_STATUS_LOST 1 true
theorem test_lost : (encS.put (F.LIO_ENC_CFG_QERR_LIM 1) 1 |>.quadError 1).encLost 1 = true ∧ lostS.ready = true ∧ lostS.encLost 1 = true ∧
    lostS.herdState ≠ 2 ∧ after (exec (.lioEncRelock 1) lostS) (fun t => ((t.enc 1).pos, t.encLost 1)) = some (8, false) := by decide +kernel
/-- R107: a Z edge in ENC Z_POL 0 is rising; POS not behind HWM makes a mark, whose rule on SOURCE 2 lists an entry. -/
def zS (pos hwm : Int) : State := { (encS { Enc.init with pos := pos, hwm := hwm }).put (F.LIO_ENC_CFG_Z_EN 1) 1 with plans := [(0, runP)] }
theorem test_z : (zS 5 5).on (F.LIO_ENC_CFG_Z_EN 1) = true ∧ (zS 5 5).on (F.LIO_ENC_CFG_Z_POL 1) = false ∧
    after (exec (.encZEdge 1 true 1) (zS 5 5)) (fun t => (t.rd (R.LIO_ENC_ZPOS 1), (t.plan? 0 0).map (fun p => p.entries.map (·.pos)))) =
      some (5, some [105]) ∧
    after (exec (.encZEdge 1 true 1) (zS 5 6)) (fun t => (t.rd (R.LIO_ENC_ZPOS 1), (t.plan? 0 0).map (fun p => p.entries.map (·.pos)))) =
      some (5, some []) ∧
    after (exec (.encZEdge 1 false 1) (zS 5 5)) (fun t => decide (t = zS 5 5)) = some true := by decide +kernel
/-- R104: STOP_US microseconds of 100 ticks after the last count. -/
theorem test_stopped : let s := (encS Enc.init 500).put (F.LIO_ENC_STOP_STOP_US 1) 5
    after (exec (.webStopped 1) s) (fun t => t.getBit F.LIO_STATUS_STOPPED 1) = some true ∧
    after (exec (.webStopped 1) { s with time := 499 }) (fun t => decide (t.time = 499 ∧ t.getBit F.LIO_STATUS_STOPPED 1 = false)) =
      some true := by decide +kernel

/-- R108: FILT 0, MIN_US 0, EDGE 0: a rise at CLK_P cycle 3 of tick 9 is captured at tick 9. -/
def liS (edge : Nat) (l : LineIn := LineIn.init) : State :=
  { (((encS.put (F.LIO_LI_CFG_FILT 7) 0).put (F.LIO_LI_CFG_EDGE 7) edge).put (F.LIO_LI_CFG_MIN_US 7) 0).setLineIn 7 l with time := 90 }
theorem test_edge : (liS 0).padIn = true ∧ (liS 0).get (F.LIO_LI_CFG_EDGE 7) = 0 ∧ (liS 0).on (F.LIO_LI_CFG_POL 7) = false ∧
    after (exec (.liEdge 7 true 1 3) (liS 0)) (fun t => (t.rd (R.LIO_LI_LAST 7), (t.lineIn 7).active)) = some (90, true) ∧
    after (exec (.liEdge 7 true 1 3) (liS 1)) (fun t => (t.rd (R.LIO_LI_LAST 7), (t.lineIn 7).active)) = some (0, true) ∧
    after (exec (.liEdge 7 true 0 3) (liS 0)) (fun t => (t.lineIn 7).active) = some false := by decide +kernel
theorem test_edge_end : let l : LineIn := ⟨true, 80, none, none, 0⟩
    after (exec (.liEdge 7 false 1 3) ((liS 0 l).putBit F.LIO_STATUS_STUCK 7 true)) (fun t => (t.getBit F.LIO_STATUS_STUCK 7,
      (t.lineIn 7).active)) = some (false, false) ∧
    after (exec (.liEdge 7 false 1 3) ((liS 0 l).put (F.LIO_LI_CFG_MIN_US 7) 1)) (fun t => (t.lineIn 7).short) = some 1 := by decide +kernel
theorem test_stuck : let s := { liS 0 ⟨true, 0, none, none, 0⟩ with time := 100001 }.put (F.LIO_LI_CFG_MAX_MS 7) 1
    after (exec (.liStuck 7) s) (fun t => t.getBit F.LIO_STATUS_STUCK 7) = some true ∧
    after (exec (.liStuck 7) { s with time := 100000 }) (fun t => t.getBit F.LIO_STATUS_STUCK 7) = some false := by decide +kernel

/-- R111, R112: the due entry fires its pulse two ticks on, and is removed; a second pulse joins. -/
def outS : State := encS.setLineOut 15 ⟨[⟨5, 10, 1, 0, 0, true⟩, ⟨6, 1, 1, 0, 0, false⟩], none⟩
theorem test_fire : findIdx (outS.entryDue ·) 0 (outS.lineOut 15).pend = some 0 ∧
    after (exec (.outputFire 15) outS) (fun t => ((t.lineOut 15).pend.length, (t.lineOut 15).pulseEnd)) = some (1, some 21) ∧
    after (exec (.outputFire 14) outS) (fun t => decide (t = outS)) = some true := by decide +kernel
theorem test_pulse_end : let s := encS.setLineOut 0 ⟨[], some 9⟩
    after (exec (.outputPulseEnd 0) s) (fun t => (t.lineOut 0).pulseEnd) = some none ∧
    after (exec (.outputPulseEnd 0) { s with time := 8 }) (fun t => (t.lineOut 0).pulseEnd) = some (some 9) := by decide +kernel
theorem test_force : encS.claimed 8 15 = false ∧ encS.ready = true ∧
    after (exec (.lioLoForce 15 1000000) encS) (fun t => ((t.lineOut 15).pulseEnd, t.get (F.LIO_LO_FIRED_FIRED 15))) =
      some (some 1000011, 1) ∧
    after (exec (.lioLoForce 15 1000001) encS) (fun t => decide (t = encS)) = some true ∧
    (encS.setLineOut 0 ⟨[], some 10⟩).pulseActive 0 = true ∧
    (encS.setLineOut 0 ⟨[], some 10⟩ |>.firePulse 0 5).get (F.LIO_LO_CNT1_MERGE 0) = 1 := by decide +kernel
/-- R117, R118: COUNT 1, PERIOD 1, WIDTH 128 from the record's beat (REF 0), or from the FIRE of line 2 (REF 1). -/
def strobeIm (ref : Nat) : PlanImage := imOf [⟨9, 1, 0, 0, 0⟩] [{ rcd 8 1 with op0 := 65536 + ref }]
theorem test_strobe : ((inFlight 1005).due? run0 8).map (fun a => (a.start, (inFlight 1005).actDomains a)) = some (1005, true) ∧
    after (exec (.strobe run0) (inFlight 1005)) (·.out) = some [.strobe 0 (502500 * 8192) 128 1 1] := by decide +kernel
theorem test_strobe_fire : let s : State := { inFlight 1005 (strobeIm 0x24) with fabric := [⟨2, true, 777, 777, 1005⟩] }
    after (exec (.strobe run0) s) (·.out) = some [.strobe 0 777 128 1 1] := by decide +kernel
theorem test_strobe_off : ((inFlight 1005).put (F.PMC_DOM_STATE_STATE 34) 2).beat = 1005 ∧
    after (exec (.strobe run0) ((inFlight 1005).put (F.PMC_DOM_STATE_STATE 34) 2)) (fun t => t.items.map (·.faulted)) = some [true] := by
  decide +kernel

/-! ## Event ports -/

/-- A port block (Tables 6.7 to 6.10): 64 by 32 pixels, DT 0x30, rate 80, every group disabled. -/
def evpBlk (roi : Nat := 0) : Nat := 0x10000 + 64 <<< 32 + 32 <<< 48 + 80 <<< 64 + 1 <<< 128 + 2 <<< 136 + 1 <<< 144 + 2 <<< 152 +
  6 <<< 160 + 1 <<< 168 + 1 <<< 416 + 1 <<< 448 + (if roi = 0 then 1 <<< 512 else 0) +
  (([0, 1, 2, 3, 4, 5, 6, 7, 8, 9, 10, 11, 12, 13, 14, 15] : List Nat).map (fun g => 1 <<< (8 * (0xC0 + 32 * g)))).foldl (· + ·) 0
def portPar (p op : Nat) : List (Nat × Nat) := [(8, p), (9, op), (16, 0x100000), (24, 1024)]
def portEnv : HostEnv := { E with mem := [(0x40000, leBytes 64 (evpBlk % 2 ^ 512)), (0x40040, [1])] ++
  (([3, 4, 5, 6, 7, 8, 9, 10] : List Nat).map (fun k => (0x40000 + 64 * k, leBytes 64 (1 + 1 <<< 256)))) }
theorem test_port_block : blockOk { EvpPort.init with blk := evpBlk } = true ∧ blockOk EvpPort.init = false := by decide +kernel
theorem test_port_disable : Meets 0x60 0 [(8, 3)] ∧ base.portInUse 3 = false ∧
    reply (exec (.evpConfigDisable 0 0 E) (sent 0x60 [(8, 3)])) = some (some (stOk, 0)) ∧
    reply (exec (.evpConfigDisable 0 0 E) (sent 0x60 [(8, 3)] (withPlan { admP with img := { im with claims := [⟨12, 1, 3, 0, 0⟩] } }))) =
      some (some (stBadState, 0)) := ⟨meets (by decide +kernel), by decide +kernel, by decide +kernel, by decide +kernel⟩
theorem test_port_enable : Meets 0x60 1 (portPar 3 1) ∧
    (match ((sent 0x60 (portPar 3 1)).cmdRead portEnv 0 0x100000 1024).1 with | .ok b => leNat b == evpBlk | .error _ => false) = true ∧
    (base.portEnable 3 evpBlk).portOn 3 = true ∧ (base.portEnable 3 evpBlk).get (F.EVP_P_SIZE_WIDTH 3) = 64 :=
  ⟨meets (by decide +kernel), by decide +kernel, by decide +kernel, by decide +kernel⟩
def portS (f : EvpPort → EvpPort := id) : State := (base.putBit F.EVP_STATUS_EN 3 true).setPort 3 (f { EvpPort.init with blk := evpBlk, seenTh := true })
theorem test_port_groups : Meets 0x60 2 (portPar 3 2) portS ∧ portS.portInUse 3 = false ∧
    (match ((sent 0x60 (portPar 3 2) portS).cmdRead portEnv 0 0x100000 1024).1 with | .ok b => leNat b == evpBlk | .error _ => false) = true :=
  ⟨meets (by decide +kernel), by decide +kernel, by decide +kernel⟩
def maskPar : List (Nat × Nat) := [(8, 3), (9, 1), (16, 0x100000), (24, 256)]
theorem test_mask : Meets 0x61 0 maskPar portS ∧ portS.portOn 3 = true ∧ ceilDiv ((portS.port 3).width * (portS.port 3).height) 8 = 256 ∧
    ((sent 0x61 maskPar portS).cmdRead E 0 0x100000 256).1 matches .ok _ :=
  ⟨meets (by decide +kernel), by decide +kernel, by decide +kernel, by decide +kernel⟩
theorem test_mask_pixel : after (exec (.evpMaskLoad 0 0 { E with mem := [(0x40000, [2])] }) (sent 0x61 maskPar portS)) (fun t =>
    (t.masked 3 1 0, t.masked 3 0 0)) = some (true, false) := by decide +kernel
/-- R121, R122: a TIME_HIGH word and an event word of a good packet enter the FIFO; a bad header or CRC drops the packet. -/
def pkt (ecc : Nat) (crc : Bool) : CsiPacket := ⟨0x30, 0, ecc, crc, leBytes 8 (0x80000001 + (1 <<< 19 + 1 <<< 8) <<< 32)⟩
theorem test_packet : portS.portOn 3 = true ∧ portS.domOn 32 = true ∧
    after (exec (.csi2LongPacket 3 (pkt 0 true)) portS) (fun t => ((t.port 3).fifo.map (·.1), t.get (F.EVP_P_IN_IN 3))) =
      some ([0x80000001, 0x80100], 1) ∧
    after (exec (.csi2LongPacket 3 (pkt 2 true)) portS) (fun t => ((t.port 3).fifo.length, t.get (F.EVP_P_CNT_N 3 3))) = some (0, 1) ∧
    after (exec (.csi2LongPacket 3 (pkt 0 false)) portS) (fun t => ((t.port 3).crcWait, t.get (F.EVP_P_CNT_N 3 4))) = some (true, 1) ∧
    after (exec (.csi2LongPacket 0 (pkt 0 true)) portS) (fun t => decide (t = portS)) = some true := by decide +kernel
theorem test_short_packet : after (exec (.csi2ShortPacket 3 (pkt 1 true)) portS) (fun t => t.get (F.EVP_P_CNT_N 3 5)) = some 1 ∧
    after (exec (.csi2ShortPacket 3 (pkt 0 true)) portS) (fun t => decide (t = portS)) = some true := by decide +kernel
theorem test_phy : after (exec (.dphyStateChange 3 2 4 true) base) (fun t => (t.get (F.EVP_P_PHY_STATE 3), t.get (F.EVP_P_PHY_LANES 3),
    t.getBit F.EVP_STATUS_HS 3)) = some (2, 4, true) := by decide +kernel
/-- R40, R43: after 102,400 ticks of silence; the sixteenth good window locks; a slope of 100 ticks per microsecond is DRIFT 0. -/
def mapS (st good : Nat) (m : Mapper) : State := { ((base.put (F.CLK_SMAP_STATE_STATE 3) st).put (F.CLK_SMAP_STATE_GOOD_WIN 3) good).setMapper 3 m with time := 202400 }
def mapper : Mapper := ⟨1024, 1024, 100000, 100000, 0, some (0, 1000, 200000), [(0, 100000)], [(0, 100000, 0)], false, 0⟩
theorem test_silent : after (exec (.mapperSilent 3) (mapS 2 16 mapper)) (fun t => (t.get (F.CLK_SMAP_STATE_STATE 3),
    t.get (F.CLK_SMAP_STATE_REASON 3))) = some (3, 3) ∧
    after (exec (.mapperSilent 3) { mapS 2 16 mapper with time := 202399 }) (fun t => t.get (F.CLK_SMAP_STATE_STATE 3)) = some 2 := by
  decide +kernel
theorem test_window : (mapS 1 15 mapper).get (F.CLK_SMAP_STATE_STATE 3) = 1 ∧
    after (exec (.mapperWindowClose 3) (mapS 1 15 mapper)) (fun t => (t.get (F.CLK_SMAP_STATE_STATE 3), t.rd (R.CLK_SMAP_OFFSET 3),
      t.rd (R.CLK_SMAP_DRIFT 3))) = some (2, 100000, 0) ∧
    after (exec (.mapperWindowClose 3) (mapS 1 3 mapper)) (fun t => (t.get (F.CLK_SMAP_STATE_STATE 3), t.get (F.CLK_SMAP_STATE_GOOD_WIN 3))) =
      some (1, 4) ∧
    after (exec (.mapperWindowClose 3) (mapS 1 3 { mapper with s := 991 })) (fun t => t.get (F.CLK_SMAP_STATE_GOOD_WIN 3)) = some 3 := by
  decide +kernel
theorem test_locked : (mapS 2 16 mapper).locked 3 = true := by decide +kernel

/-! ## The event pipeline -/

def fifoS (w : Nat) (st : Nat := 2) : State :=
  ((base.put (F.CLK_SMAP_STATE_STATE 3) st).putBit F.EVP_STATUS_EN 3 true).setPort 3
    { EvpPort.init with blk := evpBlk, fifo := [(w, false)], exitS := 1000, exitRaw := 1000, mapper := mapper, cleared := true }
/-- R127, R129: the exit time, an event that is only counted, a masked pixel, an event that leaves its time in the surface. -/
theorem test_event : after (exec (.eventProcess 3) (fifoS 0x80000020)) (fun t => ((t.port 3).exitS, (t.port 3).fifo.length)) =
      some (1024, 0) ∧
    after (exec (.eventProcess 3) (fifoS 0x80100 1)) (fun t => (t.port 3).rate) = some 1 ∧
    after (exec (.eventProcess 3) ((fifoS 0x80100).setCell 3 1 1 0 0xFFFF |>.setCell 3 1 1 1 0xFFFF)) (fun t => t.get (F.EVP_P_CNT_N 3 6)) =
      some 1 ∧
    after (exec (.eventProcess 0) (fifoS 0)) (fun t => decide (t = fifoS 0)) = some true := by decide +kernel
theorem test_event_surface : (fifoS 0x80108).locked 3 = true ∧ (fifoS 0x80108).masked 3 1 1 = false ∧
    (fifoS 0x80108).cell 3 1 1 0 = 0xFFFE ∧
    after (exec (.eventProcess 3) (fifoS 0x80108)) (fun t => t.cell 3 1 1 0) = some ((100000 + 100 * 1001) / 100 % 65534) := by decide +kernel
/-- Table 6.4: a track of group 0, whose COAST_US is 0, coasts, then is freed; one outside the frame is freed. -/
def trackS (st : Nat) (x : Int) : State := portS (fun q => { q with tracks := [(255, ⟨st, 0, 3, x, 0, 0, 0, 0, 0⟩)] })
theorem test_coast : tfind ((trackS 2 16).port 3).tracks 255 ≠ none ∧
    after (exec (.trackCoastTimeout 3 255) (trackS 2 16)) (fun t => (tfind (t.port 3).tracks 255).map (·.st)) = some (some 3) ∧
    after (exec (.trackCoastTimeout 3 255) (trackS 3 16)) (fun t => (t.port 3).tracks) = some [] := by decide +kernel
theorem test_leaves_frame : (trackS 1 16).time = 0 ∧ after (exec (.trackLeavesFrame 3 255) (trackS 1 (-1))) (fun t => (t.port 3).tracks.length) =
    some 1 := by decide +kernel
/-- R131: a cell 32,768 units old is emptied; a poisoned word is rewritten empty. -/
theorem test_sweep : let s := { fifoS 0 with time := 100 * 32768 }.setCell 3 0 0 1 0
    after (exec (.surfaceSweep 3 0 0) s) (fun t => t.cell 3 0 0 1) = some 0xFFFE ∧
    after (exec (.surfaceSweep 3 0 0) { s with time := 100 * 32767 }) (fun t => t.cell 3 0 0 1) = some 0 ∧
    after (exec (.surfaceSweep 0 0 0) s) (fun t => decide (t = s)) = some true := by decide +kernel
theorem test_sweep_poisoned : let s : State := { fifoS 0 with ecc := [(surfLa 3 2 0 / 8 * 8, .ue 0x3C)] }
    s.poisonedAt (surfLa 3 2 0) = true ∧ after (exec (.surfaceSweep 3 2 0) s) (fun t => (t.ecc, t.cell 3 3 0 1)) = some ([], 0xFFFE) := by
  decide +kernel

/-- R138, R140: a patch record on port 3; its profile 0 has one cell of 1 by 1; the web moves. -/
def patchR (mode : Nat) : Rec := ⟨6, 0, 0, 1, 1, 1, 4, 0, 0xFFFF, 0xFFFF, 0, mode, 0, 1⟩
def patchIm (mode : Nat) : PlanImage := { imOf [⟨12, 1, 3, 0, 0⟩] [patchR mode] with bufs := [⟨33, 2, 0, 64⟩] }
def moving : Enc := { Enc.init with pos := 500, hwm := 500, hist := [(502400, 500), (0, 100)] }
def patchS (k : Nat) (mode : Nat := 0) (bs : List Builder := []) : State :=
  { (((inFlight k (patchIm mode)).put (F.CLK_SMAP_STATE_STATE 3) 2).setEnc 0 moving).setPort 3
    { EvpPort.init with blk := evpBlk + (1 + 1 <<< 8 + 1 <<< 32 + 1 <<< 48) <<< (8 * 0x2C0) } with builders := bs }
def builder : Builder := ⟨run0, 3, 0, 502500, 500, 400, 8000, 1 + 1 <<< 8 + 1 <<< 32 + 1 <<< 48, 100, 0, 0, 1008, [(0, ⟨2, 1, 502501, 0⟩)]⟩
theorem test_patch_start : ((patchS 1005).due? run0 6).map (fun a => (bits a.rcd.op0 0 0, (patchS 1005).actDomains a, a.start)) =
      some (0, true, 1005) ∧
    after (exec (.evpPatch run0) (patchS 1005)) (fun t => t.builders.map (fun b => (b.port, b.last))) = some [(3, 1008)] ∧
    after (exec (.evpPatch run0) (patchS 1007 0 [builder])) (fun t => t.builders.length) = some 1 := by decide +kernel
theorem test_patch_end : after (exec (.evpPatch run0) (patchS 1008 0 [builder])) (fun t => (t.mem, t.items.map (·.ran))) =
    some ([(0xA000000, 2), (0xA000001, 1), (0xA000002, 1)], [[0]]) := by decide +kernel
/-- R143, R144: half-window 1 tick, at the mark plus 100 counts at 400 counts in 8,000 ticks (t_f = 502,000 + 2,000). -/
def predS (v : Int) (st : Nat := 2) : State :=
  { (patchS 1005 1).setEnc 0 { moving with hist := [(502400, 500), (0, 500 - v)] } with
    items := [{ item with markT := 502000 * 8192 }], plans := [(0, runP { patchIm 1 with rules := [⟨3, 2, 3, 0, 100, 0, 0, 1⟩] })] } |>.put
      (F.CLK_SMAP_STATE_STATE 3) st
theorem test_predict : ((predS 400).due? run0 6).map (fun a => (a.start, (a.plan.img.rules[item.rule]?).map (fun ru =>
      ((predS 400).predictBlind a ru, (predS 400).predicted a { item with markT := 502000 * 8192 } ru)))) =
      some (1005, some (false, some ⟨0, 0, 7, 504000 * 8192, 1, false, false⟩)) ∧
    after (exec (.evpPredict run0) (predS 400)) (fun t => (t.windows.map (·.tf), t.get F.EVP_PRED_CNT_ISSUED)) =
      some ([504000 * 8192], 1) := by decide +kernel
theorem test_predict_miss : after (exec (.evpPredict run0) (predS 0)) (fun t => (t.get F.EVP_PRED_MISS_PRED_MISS, t.items.map (·.incomplete))) =
    some (1, [true]) := by decide +kernel
theorem test_predict_blind : let s : State := { predS 400 0 with plans := [(0, runP { patchIm 1 with rules := [⟨3, 0, 3, 0, 100, 0, 0, 1⟩] })] }
    after (exec (.evpPredict run0) s) (fun t => (t.get F.EVP_PRED_MISS_PRED_MISS, t.items.map (·.incomplete))) = some (0, [true]) := by
  decide +kernel
def winS (t : Nat) (o f : Bool) : State := { base with time := t, windows := [⟨63, 0, 7, 1000 * 8192, 10, o, f⟩] }
theorem test_arm_open : (winS 990 false false).windows.find? (fun w => w.line == 63 && !w.isOpen && decide (w.tf < (990 + 1 + w.hw) * 8192)) ≠ none ∧
    after (exec (.fabricArmOpen 63) (winS 990 false false)) (fun t => t.getBit F.ACQ_FAB_ARM_ARM 63) = some true ∧
    after (exec (.fabricArmOpen 63) (winS 989 false false)) (fun t => t.getBit F.ACQ_FAB_ARM_ARM 63) = some false := by decide +kernel
theorem test_fabric_fire : after (exec (.fabricFire 63) (winS 1000 true false)) (fun t => t.get F.ACQ_FAB_FIRES_FIRES) = some 1 ∧
    after (exec (.fabricFire 63) (winS 1000 true true)) (fun t => t.get F.ACQ_FAB_FIRES_FIRES) = some 0 ∧
    after (exec (.fabricFire 62) (winS 1000 true false)) (fun t => t.get F.ACQ_FAB_FIRES_FIRES) = some 0 := by decide +kernel
theorem test_arm_close : after (exec (.fabricArmClose 63) (winS 1010 true true)) (·.windows) = some [] := by decide +kernel

/-! ## Acquisition -/

/-- A profile (Table 7.6): EDGE, rising, level 0, LEN 64, DEC 1, COUNT 1. -/
def prof (src : Nat := 0) (n : Nat := 1) : Nat := src <<< 88 + 64 <<< 192 + 1 <<< 256 + n <<< 288
/-- A channel block (Table 7.5): one bank from bank 0, profile 0. -/
def acqBlk : Nat := 1 <<< 48 + prof <<< 512
def acqS (st : Nat) (cap : Option Capture := some (Capture.start prof)) (segs : List (Nat × Nat × Nat) := []) : State :=
  { (base.put (F.ACQ_CH_STATE_STATE 7) st).setAcq 7 ⟨acqBlk, cap, segs⟩ with time := 10 }
def planned (s : State) : State := { s with plans := [(0, { admP with img := { im with claims := [⟨11, 1, 7, 0, 0⟩] } })] }
theorem test_acq_block : acqBlockOk acqBlk = true ∧ acqBlockOk (acqBlk + 1 <<< 40) = false ∧ profileOk prof = true ∧
    profileOk (prof 0 2) = false := by decide +kernel
theorem test_acq_stop : Meets 0x50 0 [(8, 7)] (acqS 2) ∧ (acqS 2).bgOther 0 7 = false ∧
    after (exec (.acqConfigStop 0 0 E) (sent 0x50 [(8, 7)] (acqS 2))) (fun t => t.acqState 7) = some 0 :=
  ⟨meets (by decide +kernel), by decide +kernel, by decide +kernel⟩
def applyPar : List (Nat × Nat) := [(8, 7), (9, 1), (16, 0x100000), (24, 832)]
theorem test_acq_apply : Meets 0x50 1 applyPar (acqS 0 none) ∧ (acqS 0 none).acqState 7 = 0 ∧
    (match ((sent 0x50 applyPar (acqS 0 none)).cmdRead { E with mem := [(0x40000, leBytes 64 (1 <<< 48)), (0x40040, leBytes 48 prof)] }
      0 0x100000 832).1 with | .ok b => leNat b == acqBlk | .error _ => false) = true :=
  ⟨meets (by decide +kernel), by decide +kernel, by decide +kernel⟩
theorem test_acq_start : Meets 0x50 2 [(8, 7), (9, 2)] (acqS 0 none) ∧ (acqS 0 none).claimed 4 0 = false ∧
    segBytes prof 64 ≤ ((acqS 0 none).acq 7).regionLen ∧
    after (exec (.acqConfigStart 0 0 E) (sent 0x50 [(8, 7), (9, 2)] (acqS 0 none))) (fun t => t.acqState 7) = some 1 ∧
    reply (exec (.acqConfigStart 0 0 E) (sent 0x50 [(8, 7), (9, 2)] (acqS 1))) = some (some (stBadState, 0)) :=
  ⟨meets (by decide +kernel), by decide +kernel, by decide +kernel, by decide +kernel, by decide +kernel⟩
theorem test_acq_force : Meets 0x50 3 [(8, 7), (9, 3)] (acqS 2) ∧
    after (exec (.acqConfigForce 0 0 E) (sent 0x50 [(8, 7), (9, 3)] (acqS 2))) (fun t => (t.acqState 7, t.rd (R.ACQ_CH_TRIG 7))) =
      some (3, 10 * 8192) ∧
    reply (exec (.acqConfigForce 0 0 E) (sent 0x50 [(8, 7), (9, 3)] (acqS 1))) = some (some (stBadState, 0)) :=
  ⟨meets (by decide +kernel), by decide +kernel, by decide +kernel⟩
theorem test_acq_pair : Meets 0x50 4 [(8, 6), (9, 4), (11, 1)] ∧ base.acqState 7 = (if base.paired 6 then 7 else 0) ∧
    after (exec (.acqConfigPair 0 0 E) (sent 0x50 [(8, 6), (9, 4), (11, 1)])) (fun t => (t.paired 6, t.acqState 7, t.rawPerTick 6)) =
      some (true, 7, 32) ∧
    reply (exec (.acqConfigPair 0 0 E) (sent 0x50 [(8, 6), (9, 4)])) = some (some (stOk, 0)) :=
  ⟨meets (by decide +kernel), by decide +kernel, by decide +kernel, by decide +kernel⟩
/-- R175: at least 200 ticks ahead, and no channel PLANNED. -/
theorem test_acq_sync : Meets 0x52 0 [(16, 200)] ∧ (∀ n < 8, base.acqState n ≠ 6) ∧
    after (exec (.acqSync 0 0 E) (sent 0x52 [(16, 200)])) phaseOf = some (some (.executing (.atTick 200))) ∧
    reply (exec (.acqSync 0 0 E) (sent 0x52 [(16, 199)])) = some (some (stBadParam, 0)) ∧
    reply (exec (.acqSync 0 0 E) (sent 0x52 [] (planned base))) = some (some (stBadState, 0)) :=
  ⟨meets (by decide +kernel), by decide +kernel, by decide +kernel, by decide +kernel, by decide +kernel⟩
def readPar (l : Nat) : List (Nat × Nat) := [(8, 7), (12, 0xFFFFFFFF), (16, 1), (24, 0x100000), (32, l)]
def segS : State := acqS 4 none [(0, 0, 192)]
theorem test_acq_readout : Meets 0x53 0 (readPar 192) segS ∧ (segS.pinned 0 0x100000 192 2).isSome = true ∧
    segS.get (F.ACQ_CH_STATE_OWNER 7) = 0 ∧ (segS.bringIn E 0 0x100000 192).1 matches .ok () ∧
    reply (exec (.acqReadout 0 0 E) (sent 0x53 (readPar 192) segS)) = some (some (stOk, 1)) ∧
    reply (exec (.acqReadout 0 0 E) (sent 0x53 (readPar 191) segS)) = some (some (stBadParam, 0)) ∧
    reply (exec (.acqReadout 0 0 E) (sent 0x53 (readPar 64) (acqS 1))) = some (some (stOk, 0)) :=
  ⟨meets (by decide +kernel), by decide +kernel, by decide +kernel, by decide +kernel, by decide +kernel, by decide +kernel,
   by decide +kernel⟩
theorem test_acq_readout_bad : reply (exec (.acqReadout 0 0 E) (sent 0x53 (readPar 192) (planned segS))) = some (some (stBadState, 0)) ∧
    reply (exec (.acqReadout 0 0 E) (sent 0x53 (readPar 192) { segS with ecc := [(0, .ue 0x3C)] })) = some (some (stPoisoned, 0)) := by
  decide +kernel

/-- R154, R158, R160, R166: the samples -5, 5 cross the level; in each channel state. -/
def cross : List (List Int) := [[], [], [], [], [], [], [], [-5, 5]]
theorem test_trigger : (acqS 2).domOn 24 = true ∧ ((acqS 2).trigTime 7 0 1 0 prof cross).isSome = true ∧
    after (exec (.acqTrigger 7 0 1 cross) (acqS 2)) (fun t => (t.acqState 7, t.rd (R.ACQ_CH_TRIG 7))) = some (3, 256) ∧
    after (exec (.acqTrigger 7 0 1 cross) (acqS 5)) (fun t => t.get (F.ACQ_CH_CNT1_FULL 7)) = some 1 ∧
    after (exec (.acqTrigger 7 0 1 cross) (acqS 1)) (fun t => t.get (F.ACQ_CH_CNT0_BUSY 7)) = some 1 ∧
    after (exec (.acqTrigger 7 0 1 cross) (acqS 2 (some { Capture.start (prof + 2 <<< 16) with holdN := 1 }))) (fun t =>
      t.get (F.ACQ_CH_CNT0_HOLDOFF 7)) = some 1 := by decide +kernel
theorem test_trigger_off : let s := (acqS 2).put (F.PMC_DOM_STATE_STATE 24) 2
    s.domOn 24 = false ∧ after (exec (.acqTrigger 7 0 1 cross) s) (fun t => decide (t = s)) = some true ∧
    (planned (acqS 2)).acqState 7 = 6 ∧ after (exec (.acqTrigger 7 0 1 cross) (planned (acqS 2))) (fun t => t.acqRuns) = some [] := by
  decide +kernel
theorem test_fill : after (exec (.acqFillDone 7) (acqS 1)) (fun t => t.acqState 7) = some 2 ∧
    after (exec (.acqFillDone 7) (acqS 3)) (fun t => t.acqState 7) = some 3 ∧
    after (exec (.acqRearmDone 7) (acqS 4)) (fun t => t.acqState 7) = some 2 ∧
    after (exec (.acqRearmDone 7) (acqS 4 (some (Capture.start (prof + 1 <<< 224))))) (fun t => t.acqState 7) = some 1 ∧
    after (exec (.acqRearmDone 7) (acqS 2)) (fun t => t.acqState 7) = some 2 := by decide +kernel
theorem test_tracking : base.cal 7 = 0 ∧ after (exec (.acqCalTracking 7) base) (fun t => t.cal 7) = some 1 ∧
    after (exec (.acqCalTracking 7) (base.setCal 7 2)) (fun t => t.cal 7) = some 2 := by decide +kernel
/-- R161, R166: 64 points of 512/8,192 tick end after 4 ticks; with COUNT 1 the segment is stored, with 2 the channel re-arms. -/
def run64 (n : Nat) : Capture := { Capture.start (prof 0 n) with cur := some 0 }
theorem test_segment : (acqS 3 (some (run64 1))).captureEnd 7 (run64 1) 0 = 32768 ∧
    after (exec (.acqSegmentDone 7 0 []) (acqS 3 (some (run64 1)))) (fun t => (t.acqState 7, (t.acq 7).segs, t.rd (R.ACQ_CH_SEQ 7))) =
      some (4, [(0, 0, 192)], 1) ∧
    after (exec (.acqSegmentDone 7 0 []) (acqS 3 (some (run64 2)))) (fun t => (t.acqState 7, (t.acq 7).cap.map (·.stored))) =
      some (4, some 1) ∧
    after (exec (.acqSegmentDone 7 0 []) { acqS 3 (some (run64 1)) with time := 3 }) (fun t => (t.acq 7).segs) = some [] := by decide +kernel
theorem test_segment_planned : let r : AcqRun := ⟨run0, 1005, 1008, 0x80, 0, 0, 0, none, none, [(7, 3, run64 1)]⟩
    let s := { planned (acqS 0) with acqRuns := [r] }
    s.acqState 7 = 6 ∧ after (exec (.acqSegmentDone 7 3 []) s) (fun t => t.acqRuns.map (fun r => r.recs.map (fun e => e.2.2.stored))) =
      some [[1]] := by decide +kernel
/-- R169 to R171: in its first beat the record takes recorder 0 of channel 7, in its last it gives it back. -/
def armR : Rec := ⟨7, 0, 0, 1, 1, 1, 4, 0, 0xFFFF, 0xFFFF, 0xFFFF, 0x80, 0, 0⟩
def armS (k : Nat) : State := inFlight k (imOf [⟨11, 1, 7, 0, 0⟩] [armR])
def atWork (k : Nat) : State := { armS k with acqRuns := [⟨run0, 1005, 1008, 0x80, 0, 0, 0, none, none, []⟩] }
theorem test_arm : ((armS 1005).due? run0 7).map (fun a => (a.start, (armS 1005).actDomains a)) = some (1005, true) ∧
    after (exec (.acqArm run0) (armS 1005)) (fun t => t.acqRuns.map (fun r => r.recs.map (fun e => (e.1, e.2.1)))) = some [[(7, 0)]] ∧
    after (exec (.acqArm run0) (armS 1006)) (·.acqRuns) = some [] ∧
    after (exec (.acqArm run0) (atWork 1008)) (fun t => (t.acqRuns, t.items.map (·.ran))) = some ([], [[0]]) ∧
    after (exec (.acqArm run0) (atWork 1007)) (fun t => t.acqRuns.length) = some 1 := by decide +kernel
theorem test_arm_off : after (exec (.acqArm run0) ((armS 1005).put (F.PMC_DOM_STATE_STATE 24) 2)) (fun t => t.items.map (·.faulted)) =
    some [true] := by decide +kernel
/-- R173. -/
theorem test_spi : base.on F.ACQ_SPI_STAT_BUSY = false ∧ after (exec (.acqSpiTx 0xFFFFFFFF) base) (fun t => (t.get F.ACQ_SPI_STAT_BUSY,
    t.out.length)) = some (1, 1) ∧
    after (exec (.acqSpiTx 1) (planned (base.wr R.ACQ_SPI_BIND 0xFFFFFFFF))) (fun t => (t.get F.ACQ_SPI_STAT_REFUSED, t.out)) = some (1, []) ∧
    after (exec (.acqSpiTx 1) (base.put F.ACQ_SPI_STAT_BUSY 1)) (fun t => t.out) = some [] ∧
    after (exec (.spiTransferDone 1) (base.put F.ACQ_SPI_STAT_BUSY 1)) (fun t => (t.get F.ACQ_SPI_STAT_DONE, t.rd R.ACQ_SPI_RX)) =
      some (1, 1) := by decide +kernel

/-! ## Filter chains -/

/-- A DFC block (Table 8.4): R 2, FD 1, 3 symmetric taps of 131,071, ENV_K 1. -/
def dfcBlk : Nat := 2 + 1 <<< 24 + 3 <<< 32 + 1 <<< 48 + 1 <<< 96 + (131071 + 131071 <<< 32) <<< 512
def dfcS (st : Nat) (t : Nat := 0) : State :=
  { (base.put (F.DFC_CH_STATE_STATE 7) st).setDfc 7 { DfcChan.init with blk := dfcBlk, grids := [0] } with time := t }
def dfcPar (op : Nat) : List (Nat × Nat) := [(8, 7), (9, op), (16, 0x100000), (24, 576)]
theorem test_dfc_stop : Meets 0x51 0 [(8, 7)] (dfcS 2) ∧ (dfcS 2).dfcState 7 = 2 ∧
    after (exec (.dfcCoefLoadStop 0 0 E) (sent 0x51 [(8, 7)] (dfcS 2))) (fun t => t.dfcState 7) = some 1 ∧
    reply (exec (.dfcCoefLoadStop 0 0 E) (sent 0x51 [(8, 7)] (dfcS 1))) = some (some (stBadState, 0)) :=
  ⟨meets (by decide +kernel), by decide +kernel, by decide +kernel, by decide +kernel⟩
theorem test_dfc_load : Meets 0x51 1 (dfcPar 1) ∧ dfcBlockOk { DfcChan.init with blk := dfcBlk } = true ∧
    dfcRateOk { DfcChan.init with blk := dfcBlk } (base.rawPerTick 7) = true ∧ dfcBlockOk DfcChan.init = false ∧
    (match ((sent 0x51 (dfcPar 1)).cmdRead { E with mem := [(0x40000, leBytes 64 (dfcBlk % 2 ^ 512)),
      (0x40040, leBytes 8 (131071 + 131071 <<< 32))] } 0 0x100000 576).1 with | .ok b => leNat b == dfcBlk | .error _ => false) = true :=
  ⟨meets (by decide +kernel), by decide +kernel, by decide +kernel, by decide +kernel, by decide +kernel⟩
theorem test_dfc_start : Meets 0x51 2 [(8, 7), (9, 2)] (dfcS 1) ∧ dfcRateOk ((dfcS 1).dfc 7) ((dfcS 1).rawPerTick 7) = true ∧
    after (exec (.dfcCoefLoadStart 0 0 E) (sent 0x51 [(8, 7), (9, 2)] (dfcS 1))) phaseOf = some (some (.executing (.atBeat 1))) ∧
    reply (exec (.dfcCoefLoadStart 0 0 E) (sent 0x51 [(8, 7), (9, 2)] (dfcS 2))) = some (some (stBadState, 0)) :=
  ⟨meets (by decide +kernel), by decide +kernel, by decide +kernel, by decide +kernel⟩
/-- R179 to R182: full scale through the chain: 2,047 * 256 * 3 * 131,071 / 2^21 is above 32,767 when the
CIC and the taps have filled. -/
theorem test_dfc_block : after (exec (.dfcStreamBlock 7 []) (dfcS 2 500)) (fun t => ((t.dfc 7).next, t.get (F.DFC_CH_CNT_SAT 7))) =
      some (8000, 0) ∧
    (dfcFeed (List.replicate 24 2047) 0 ((dfcS 2 500).dfc 7) ⟨[], 0, false⟩).2.sat = 10 ∧
    after (exec (.dfcStreamBlock 7 []) (dfcS 1 500)) (fun t => (t.dfc 7).next) = some 0 := by decide +kernel
/-- R179: the CIC has unit gain: a constant 100 leaves it as 100 * 256. -/
theorem test_cic : (comb 3200 [0, 0, 0, 0, 0]).1 = 3200 ∧ cicShift 2 = 5 ∧ roundAway (3200 * 256) 5 = 100 * 256 := by decide +kernel
theorem test_dfc_sync : let s : State := { dfcS 2 1000 with syncIn := some 1000 }
    s.syncDue = true ∧ after (exec (.dfcSync []) s) (fun t => t.rd (R.DFC_CH_ANCHOR 7)) = some 16000 ∧
    after (exec (.dfcSync []) { s with time := 999 }) (fun t => t.rd (R.DFC_CH_ANCHOR 7)) = some 0 := by decide +kernel
/-- R191: an edge seen by tick 999 sets the sync tick 1,500 (tick 1,001 rounded up), unless not armed. -/
theorem test_sync_in : let s := { base.put F.DFC_SYNC_CFG_ARM 1 with time := 999 }
    s.get F.DFC_SYNC_CFG_POL = 0 ∧ s.rd R.DFC_SYNC_AFTER ≤ s.time ∧
    after (exec (.syncInEdge true) s) (·.syncIn) = some (some 1500) ∧
    after (exec (.syncInEdge true) base) (fun t => (t.syncIn, t.get F.DFC_SYNC_CNT_IGNORED)) = some (none, 1) := by decide +kernel

/-! ## Power and faults -/

/-- Chain unit 0 of die 0 (domain 53) in a state, with every domain on its functional clock. -/
def domS (st : Nat := 0) (d : Nat := 53) : State := works.put (F.PMC_DOM_STATE_STATE d) st
/-- R346: SET of OFF after 1 microsecond; a domain above 92 and a bank that the domain does not have are BAD_PARAM. -/
theorem test_policy : Meets 0x70 0 [(8, 53), (10, 2), (12, 1)] ∧ domOffers 53 2 = true ∧
    after (exec (.pwrPolicySet 0 0 E) (sent 0x70 [(8, 53), (10, 2), (12, 1)])) (fun t => (t.get (F.PMC_DOM_CFG_TARGET 53), t.domState 53)) =
      some (2, 0) ∧
    reply (exec (.pwrPolicySet 0 0 E) (sent 0x70 [(8, 93)])) = some (some (stBadParam, 0)) ∧
    reply (exec (.pwrPolicySet 0 0 E) (sent 0x70 [(8, 53), (16, 1)])) = some (some (stBadParam, 0)) :=
  ⟨meets (by decide +kernel), by decide +kernel, by decide +kernel, by decide +kernel, by decide +kernel⟩
def wakePar : List (Nat × Nat) := [(8, 53), (9, 1)]
theorem test_wake : Meets 0x70 1 wakePar domS ∧ reply (exec (.pwrPolicyWake 0 0 E) (sent 0x70 wakePar domS)) = some (some (stOk, 0)) ∧
    ((domS 2).demand 53).domState 53 = 2 ∧
    after (exec (.pwrPolicyWake 0 0 E) (sent 0x70 wakePar (domS 2))) phaseOf = some (some (.executing (.wake 53))) ∧
    reply (exec (.pwrPolicyWake 0 0 E) (sent 0x70 wakePar (domS.put (F.PMC_DOM_STATE_WINDOW 53) 1))) = some (some (stBadState, 0)) ∧
    reply (exec (.pwrPolicyWake 0 0 E) (sent 0x70 wakePar (base.setDom 53 { base.dom 53 with stuck := true }))) =
      some (some (stFaulted, 0)) :=
  ⟨meets (by decide +kernel), by decide +kernel, by decide +kernel, by decide +kernel, by decide +kernel, by decide +kernel⟩
theorem test_aon : Meets 0x70 2 [(9, 2), (11, 1)] ∧
    after (exec (.pwrPolicyAon 0 0 E) (sent 0x70 [(9, 2), (11, 1)])) (fun t => t.get F.PMC_AON_LP_EN) = some 1 ∧
    reply (exec (.pwrPolicyAon 0 0 E) (sent 0x70 [(8, 1), (9, 2)])) = some (some (stBadParam, 0)) :=
  ⟨meets (by decide +kernel), by decide +kernel, by decide +kernel⟩
theorem test_group : Meets 0x72 0 [(8, 1), (9, 2), (16, 53)] ∧
    after (exec (.pwrGroupSleep 0 0 E) (sent 0x72 [(8, 1), (9, 2), (16, 53)])) phaseOf = some (some (.executing .group)) ∧
    reply (exec (.pwrGroupSleep 0 0 E) (sent 0x72 [(8, 2), (9, 2), (16, 53), (17, 53)])) = some (some (stBadParam, 0)) :=
  ⟨meets (by decide +kernel), by decide +kernel, by decide +kernel⟩
/-- R344: a fixed domain refuses (reason 1), a free one starts its entry, a busy one waits, for 20 beats. -/
def grp (asked : Option Nat) : Group := ⟨0, 0, 1, 2, [], [], none, asked, none, 0, 0⟩
def busyS : State := { works.put (F.ACQ_CH_STATE_STATE 0) 1 with time := 10000 }
theorem test_ask : works.refuseReason 0 2 = 1 ∧ works.refuseReason 53 2 = 0 ∧ works.domBusy 53 = false ∧
    (works.askGroup (grp none) [53]).domPhase 53 = 1 ∧ busyS.refuseReason 17 2 = 0 ∧ busyS.domBusy 17 = true ∧
    (busyS.askGroup (grp none) [17]).group.map (·.asked) = some (some 10000) ∧
    (busyS.askGroup (grp (some 0)) [17]).get F.PMC_LASTREF_REASON = 3 ∧
    (works.askGroup (grp none) [0]).get F.PMC_LASTREF_REASON = 1 := by decide +kernel
theorem test_call : (domS 2).domPhase 53 = 0 ∧ ((domS 2).callDom 53 true).domPhase 53 = 2 := by decide +kernel

/-- R332: idle for IDLE_US, entry of one beat, state OFF. -/
def idleS (t : Nat) : State := { (works.put (F.PMC_DOM_CFG_TARGET 53) 2).put (F.PMC_DOM_CFG_IDLE_US 53) 1 with time := t }
theorem test_idle : (idleS 100).domClaimed 53 = false ∧ (idleS 100).domBusy 53 = false ∧ (idleS 100).domDependent 53 = false ∧
    after (exec (.domainIdleTimeout 53) (idleS 100)) (fun t => t.domPhase 53) = some 1 ∧
    after (exec (.domainIdleTimeout 53) (idleS 99)) (fun t => t.domPhase 53) = some 0 := by decide +kernel
def moveS (ph st : Nat) (t : Nat) (x : Dom) : State := { (domS st).put (F.PMC_DOM_STATE_PHASE 53) ph with time := t }.setDom 53 x
theorem test_entry : let s (t : Nat) := moveS 1 0 t ⟨2, 0, 0, false, 0, 0, false, false⟩
    (s 500).on F.FMU_STATUS_INJ_ACTIVE = false ∧ domEntry 53 = 1 ∧
    after (exec (.domainEntryDone 53) (s 500)) (fun t => (t.domState 53, t.domPhase 53, t.get (F.PMC_DOM_CNT_ENTRIES 53))) =
      some (2, 0, 1) ∧
    after (exec (.domainEntryDone 53) (s 499)) (fun t => (t.domState 53, t.domPhase 53)) = some (0, 1) := by decide +kernel
/-- R340: a demand starts the wake; R339: one beat before the lead the domain is ON and on FIO. -/
theorem test_demand : (domS 2).on (F.PMC_DOM_STATE_WINDOW 53) = false ∧ ((domS 2).dom 53).demand = false ∧
    after (exec (.domainDemand 53) (domS 2)) (fun t => t.domPhase 53) = some 2 ∧
    after (exec (.domainDemand 53) ((domS 2).put (F.PMC_DOM_STATE_WINDOW 53) 1)) (fun t => t.domPhase 53) = some 0 := by decide +kernel
theorem test_woken : let s (t : Nat) := moveS 2 2 t ⟨2, 0, 0, false, 0, 2, false, false⟩
    after (exec (.domainWakeDone 53) (s 500)) (fun t => (t.domState 53, t.onFio 53)) = some (0, true) ∧
    after (exec (.domainWakeDone 53) (s 499)) (fun t => t.domState 53) = some 2 := by decide +kernel
theorem test_switch : (base.dom 53).stuck = false ∧ base.onFio 53 = true ∧
    after (exec (.clkSwitchDone 53) base) (fun t => t.onFio 53) = some false ∧
    after (exec (.clkSwitchFail 53) base) (fun t => ((t.dom 53).stuck, t.get F.CLK_SWFAIL_CNT_SWFAIL)) = some (true, 1) ∧
    after (exec (.clkSwitchDone 53) works) (fun t => decide (t = works)) = some true := by decide +kernel
theorem test_switch_wake : let s : State := (moveS 2 0 1000 ⟨2, 0, 0, false, 0, 2, false, false⟩).putBit (onFioFld 53) (53 % 32) true
    (s.dom 53).t + 500 * (s.dom 53).lead ≤ s.time ∧ after (exec (.clkSwitchDone 53) s) (fun t => t.domPhase 53) = some 0 := by decide +kernel
/-- R430: each RESULT, and the reset itself. -/
theorem test_domrst : after (exec (.glbDomrst 53 0xA4) base) (fun t => decide (t = base)) = some true ∧
    after (exec (.glbDomrst 93 0xA5) base) (fun t => t.get F.GLB_DOMRST_RESULT) = some 1 ∧
    after (exec (.glbDomrst 53 0xA5) (withPlan { admP with img := { im with claims := [⟨2, 1, 0, 0, 0⟩] } })) (fun t =>
      t.get F.GLB_DOMRST_RESULT) = some 2 ∧
    after (exec (.glbDomrst 4 0xA5) base) (fun t => t.get F.GLB_DOMRST_RESULT) = some 3 ∧
    after (exec (.glbDomrst 53 0xA5) (base.put (F.PMC_DOM_STATE_WINDOW 53) 1)) (fun t => t.get F.GLB_DOMRST_RESULT) = some 4 ∧
    after (exec (.glbDomrst 53 0xA5) (base.put F.GLB_DOMRST_BUSY 1)) (fun t => t.get F.GLB_DOMRST_RESULT) = some 5 ∧
    after (exec (.glbDomrst 28 0xA5) base) (fun t => t.get F.GLB_DOMRST_RESULT) = some 6 := by decide +kernel
theorem test_domrst_starts : base.domDependent 53 = false ∧
    after (exec (.glbDomrst 53 0xA5) base) (fun t => (t.get F.GLB_DOMRST_BUSY, t.get F.GLB_DOMRST_DOMAIN, t.domPhase 53)) =
      some (1, 53, 1) := by decide +kernel
theorem test_domrst_done : let s (b : State) := ((b.put F.GLB_DOMRST_BUSY 1).put F.GLB_DOMRST_DOMAIN 53).setDom 53 { b.dom 53 with reset := true }
    after (exec .domainResetDone (s works)) (fun t => (t.get F.GLB_DOMRST_BUSY, t.get F.GLB_DOMRST_RESULT)) = some (0, 0) ∧
    after (exec .domainResetDone ((s base).setDom 53 { base.dom 53 with reset := true, stuck := true })) (fun t =>
      (t.get F.GLB_DOMRST_BUSY, t.get F.GLB_DOMRST_RESULT)) = some (0, 7) ∧
    after (exec .domainResetDone base) (fun t => decide (t = base)) = some true := by decide +kernel

/-- R364 to R366. -/
def injS : State := { base.put F.FMU_STATUS_INJ_ACTIVE 1 with time := 7 }
theorem test_inject : Meets 0x80 0 [(8, 0x5F)] ∧ siteOk 0x20 2047 = true ∧ siteOk 0x20 2048 = false ∧ base.injectPending = false ∧
    base.domOn (detDomain 0x20 0) = true ∧
    after (exec (.faultInject 0 0 E) (sent 0x80 [(8, 0x20)])) (fun t => (t.on F.FMU_STATUS_INJ_ACTIVE, replyOf t)) =
      some (true, some (stOk, 0)) ∧
    after (exec (.faultInject 0 0 E) (sent 0x80 [(8, 0x20), (16, 9)])) phaseOf = some (some (.executing (.atTick 9))) ∧
    reply (exec (.faultInject 0 0 E) (sent 0x80 [(8, 0x60)])) = some (some (stBadParam, 0)) ∧
    reply (exec (.faultInject 0 0 E) (sent 0x80 [(8, 0x20)] injS)) = some (some (stBadState, 0)) :=
  ⟨meets (by decide +kernel), by decide +kernel, by decide +kernel, by decide +kernel, by decide +kernel, by decide +kernel,
   by decide +kernel, by decide +kernel, by decide +kernel⟩
theorem test_inject_clear : Meets 0x80 3 [(8, 0x20), (9, 3)] injS ∧
    after (exec (.faultInjectClear 0 0 E) (sent 0x80 [(8, 0x20), (9, 3)] injS)) (fun t => (t.on F.FMU_STATUS_INJ_ACTIVE, replyOf t)) =
      some (false, some (stOk, 7)) ∧
    reply (exec (.faultInjectClear 0 0 E) (sent 0x80 [(8, 0x20), (9, 3)])) = some (some (stBadState, 0)) :=
  ⟨meets (by decide +kernel), by decide +kernel, by decide +kernel⟩
def rec1 : LogRec := { det := 0x20, kind := 1, level := 2 }
def logPar (src dva len : Nat) : List (Nat × Nat) := [(8, src), (12, 0xFFFFFFFF), (16, dva), (24, len)]
theorem test_log_read : Meets 0x81 0 (logPar 0 0x100000 64) (base.log rec1) ∧ ((base.log rec1).pinned 0 0x100000 64 2).isSome = true ∧
    ((base.log rec1).bringIn E 0 0x100000 64).1 matches .ok () ∧
    reply (exec (.faultLogRead 0 0 E) (sent 0x81 (logPar 0 0x100000 64) (base.log rec1))) = some (some (stOk, 1)) ∧
    reply (exec (.faultLogRead 0 0 E) (sent 0x81 (logPar 1 0x100000 64))) = some (some (stOk, 0)) ∧
    reply (exec (.faultLogRead 0 0 E) (sent 0x81 (logPar 2 0x100000 64))) = some (some (stBadParam, 0)) ∧
    reply (exec (.faultLogRead 0 0 E) (sent 0x81 (logPar 0 0x200000 64))) = some (some (stUnpinned, 0)) :=
  ⟨meets (by decide +kernel), by decide +kernel, by decide +kernel, by decide +kernel, by decide +kernel, by decide +kernel,
   by decide +kernel⟩
theorem test_log : (base.log rec1).faultLog.length = 1 ∧ (base.log rec1).get F.FMU_SEQ_SEQ = (base.get F.FMU_SEQ_SEQ + 1) ∧
    ({ base with faultLog := List.replicate 1024 (0, false) } : State).faultLog.length = 1024 := by decide +kernel

/-- R353, R354, R417: a site that is none, a domain that is OFF, and detectors of each class. -/
theorem test_detector : after (exec (.detectorFire 0x20 2048) base) (fun t => decide (t = base)) = some true ∧
    after (exec (.detectorFire 0x40 0) (domS 2)) (fun t => decide (t = domS 2)) = some true ∧
    after (exec (.detectorFire 0x20 5) base) (fun t => (t.engDie 0).fenced) = some [0] ∧
    after (exec (.detectorFire 4 0) base) (fun t => t.get F.KSU_STATUS_TAMPER) = some 1 ∧
    after (exec (.detectorFire 7 0) base) (fun t => t.get F.GLB_STATUS_THERM_HOLD) = some 1 ∧
    after (exec (.detectorFire 0x50 0) base) (fun t => t.cal 0) = some 2 ∧
    after (exec (.detectorFire 0x13 3) base) (fun t => t.get F.GLB_RSTCAUSE_DETECTOR) = some 0x13 := by decide +kernel
theorem test_detector_link : after (exec (.detectorFire 0x0C 0) base) (fun t => t.get (F.HRD_LINK_STATE_STATE 0)) = some 0 ∧
    after (exec (.detectorFire 0x0B 191) base) (fun t => t.recovers.length) = some 0 := by decide +kernel
/-- R322: the F-die counts, a C-die takes LEN bubbles. -/
theorem test_droop : after (exec (.droop 0) base) (fun t => (t.get (F.EMU_DROOP_CNT_DROOPS 0), t.droops)) = some (1, []) ∧
    after (exec (.droop 3) base) (fun t => t.droops.length) = some 1 := by decide +kernel
theorem test_thermal : (Instr.thermalSample [0, 499, 0, 0]).wellFormed = true ∧
    after (exec (.thermalSample [0, 499, 0, 0]) base) (fun t => t.on F.GLB_STATUS_THERM_HOLD) = some false ∧
    after (exec (.thermalSample [0, 500, 0, 0]) base) (fun t => t.on F.GLB_STATUS_THERM_HOLD) = some true := by decide +kernel
theorem test_hold_end : let s (t : Nat) : State := { base.put F.GLB_STATUS_THERM_HOLD 1 with cool := some 5, time := t }
    after (exec .thermHoldEnd (s 10000005)) (fun t => (t.on F.GLB_STATUS_THERM_HOLD, t.cool)) = some (false, none) ∧
    after (exec .thermHoldEnd (s 10000004)) (fun t => t.cool) = some (some 5) ∧
    after (exec .thermHoldEnd base) (fun t => decide (t = base)) = some true := by decide +kernel

/-! ## The Herd -/

/-- Link 3 to member 5 is UP at four lanes; the device has a place in the Herd. -/
def herdS (st : Nat := 3) : State :=
  ((((works.put (F.HRD_LINK_STATE_STATE 3) 2).put (F.HRD_LINK_STATE_WIDTH 3) 2).put (F.HRD_LINK_STATE_PEER 3) 5).put
    (F.HRD_LINK_STATE_LANES 3) 15).put F.HRD_STATUS_STATE st
theorem test_join : Meets 0x90 0 [(9, 7), (10, 15)] ∧ base.herdState = 0 ∧
    after (exec (.herdJoinJoin 0 0 E) (sent 0x90 [(9, 7), (10, 15)])) (fun t => (t.herdState, phaseOf t)) =
      some (1, some (.executing .join)) ∧
    reply (exec (.herdJoinJoin 0 0 E) (sent 0x90 [(9, 7), (10, 15)] herdS)) = some (some (stHerdState, 0)) :=
  ⟨meets (by decide +kernel), by decide +kernel, by decide +kernel, by decide +kernel⟩
theorem test_found : Meets 0x90 1 [(8, 1), (9, 7), (12, 9)] ∧
    after (exec (.herdJoinFound 0 0 E) (sent 0x90 [(8, 1), (9, 7), (12, 9)])) (fun t => (t.herdState, t.self, t.rd R.HRD_EPOCH)) =
      some (3, 7, 9) ∧
    reply (exec (.herdJoinFound 0 0 E) (sent 0x90 [(8, 1)] herdS)) = some (some (stHerdState, 0)) :=
  ⟨meets (by decide +kernel), by decide +kernel, by decide +kernel⟩
theorem test_epoch : Meets 0x90 2 [(8, 2), (12, 4)] herdS ∧ herdS.isLeader = true ∧ herdS.herdPlans = [] ∧
    after (exec (.herdJoinEpoch 0 0 E) (sent 0x90 [(8, 2), (12, 4)] herdS)) (fun t => t.rd R.HRD_EPOCH) = some 4 ∧
    reply (exec (.herdJoinEpoch 0 0 E) (sent 0x90 [(8, 2)])) = some (some (stHerdState, 0)) :=
  ⟨meets (by decide +kernel), by decide +kernel, by decide +kernel, by decide +kernel, by decide +kernel⟩
theorem test_leave : Meets 0x91 0 [] herdS ∧ herdS.inHerd = true ∧
    after (exec (.herdLeave 0 0 E) (sent 0x91 [] herdS)) phaseOf = some (some (.executing .leave)) ∧
    reply (exec (.herdLeave 0 0 E) (sent 0x91 [])) = some (some (stHerdState, 0)) :=
  ⟨meets (by decide +kernel), by decide +kernel, by decide +kernel, by decide +kernel⟩
theorem test_herd_status : Meets 0x92 0 [(16, 0x100000)] ∧ (base.pinned 0 0x100000 128 2).isSome = true ∧
    (base.bringIn E 0 0x100000 128).1 matches .ok () ∧
    reply (exec (.herdStatus 0 0 E) (sent 0x92 [(16, 0x100000)])) = some (some (stOk, 0)) ∧
    reply (exec (.herdStatus 0 0 E) (sent 0x92 [(16, 0x200000)])) = some (some (stUnpinned, 0)) :=
  ⟨meets (by decide +kernel), by decide +kernel, by decide +kernel, by decide +kernel, by decide +kernel⟩
/-- R388: window 63 over 64 bytes at the end of the LOCAL range of 4 KiB; one granule further it is past the range. -/
def expPar (off : Nat) : List (Nat × Nat) := [(9, 63), (10, 32), (11, 3), (12, 33), (16, off), (20, 64)]
theorem test_export : Meets 0x93 0 (expPar 0xFC0) herdS ∧ (herdS.rangeById 0 33).isSome = true ∧
    after (exec (.windowExport 0 0 E) (sent 0x93 (expPar 0xFC0) herdS)) (fun t => bit (t.rd (R.HRD_EXP 63)) 27) = some true ∧
    reply (exec (.windowExport 0 0 E) (sent 0x93 (expPar 0x1000) herdS)) = some (some (stBadState, 0)) :=
  ⟨meets (by decide +kernel), by decide +kernel, by decide +kernel, by decide +kernel⟩
def expS (fl : Nat := 3) : State := herdS.wr (R.HRD_EXP 63) (33 + 32 * 2 ^ 16 + fl * 2 ^ 24 + 2 ^ 27 + 64 * 2 ^ 96)
theorem test_withdraw : Meets 0x93 1 [(8, 1), (9, 63)] expS ∧ expS.windowPushed 63 = false ∧
    after (exec (.windowWithdraw 0 0 E) (sent 0x93 [(8, 1), (9, 63)] expS)) (fun t => t.rd (R.HRD_EXP 63)) = some 0 ∧
    reply (exec (.windowWithdraw 0 0 E) (sent 0x93 [(8, 1), (9, 62)] expS)) = some (some (stBadState, 0)) :=
  ⟨meets (by decide +kernel), by decide +kernel, by decide +kernel, by decide +kernel⟩
theorem test_leave_done : after (exec .herdLeaveDone ((herdS 2).put F.HRD_STATUS_LEAVING 1)) (fun t => t.herdState) = some 0 ∧
    after (exec .herdLeaveDone (herdS 2)) (fun t => decide (t = herdS 2)) = some true := by decide +kernel
def joinK : Cmd := ask 0x90 [(9, 1), (12, 6)]
theorem test_join_checks : base.joinChecks joinK ⟨0, 7, 6, 1, 0, 0, 0, 0, 0⟩ = some stHerdVersion ∧
    base.joinChecks joinK ⟨0, 0, 5, 1, 0, 0, 0, 0, 0⟩ = some stHerdState ∧
    base.joinChecks joinK ⟨0, 0, 6, 1, 0, 0, 0, 0, 0⟩ = none ∧
    base.joinChecks (ask 0x90 [(9, 1), (12, 6), (16, 3)]) ⟨0, 0, 6, 1, 4, 2, 0, 0, 0⟩ = some stHerdPlan := by decide +kernel

def training (k : Nat) (paths : List (Nat × Nat) := []) : State :=
  { base.put (F.HRD_LINK_STATE_STATE 3) 1 with time := 500 * k, herd := { Herd.none with training := [(3, 0)], paths := paths } }
theorem test_retrain : after (exec (.hrdLinkRetrain 3) herdS) (fun t => t.get (F.HRD_LINK_STATE_STATE 3)) = some 1 ∧
    after (exec (.hrdLinkRetrain 3) (withPlan { admP with img := { im with claims := [⟨6, 1, 768, 1, 0⟩] } } herdS)) (fun t =>
      (t.get (F.HRD_LINK_STATE_STATE 3), t.get F.HRD_STATUS_WIGN)) = some (2, 1) := by decide +kernel
theorem test_trained : after (exec (.linkTrained 3 7 5 0) (training 5)) (fun t => (t.linkUp 3, t.linkWidth 3, t.peer 3)) =
      some (true, 2, 5) ∧
    after (exec (.linkTrained 3 0 5 0) (training 5)) (fun t => decide (t = training 5)) = some true ∧
    after (exec (.linkTrained 3 15 5 0) ((training 5).put F.HRD_STATUS_STATE 3)) (fun t => decide (0 < t.out.length)) = some true := by
  decide +kernel
theorem test_training_timeout : after (exec (.linkTrainingTimeout 3) (training 400)) (fun t => (t.get (F.HRD_LINK_STATE_STATE 3),
      t.herd.training)) = some (0, []) ∧
    after (exec (.linkTrainingTimeout 3) (training 399)) (fun t => t.herd.training.length) = some 1 ∧
    after (exec (.linkTrainingTimeout 3) (training 400 [(3, 0)])) (fun t => t.herd.training) = some [] ∧
    after (exec (.linkTrainingTimeout 2) (training 400)) (fun t => decide (t = training 400)) = some true := by decide +kernel
theorem test_link_down : after (exec (.linkDown 3) { herdS with time := 1500 }) (fun t => t.linkUp 3) = some false ∧
    after (exec (.linkDown 3) { herdS with time := 1499 }) (fun t => t.linkUp 3) = some true := by decide +kernel
theorem test_lane : after (exec (.laneFault 3 3) herdS) (fun t => (t.get (F.HRD_LINK_CNT2_DEGRADE 3), t.linkStopped 3, t.linkUp 3)) =
      some (1, true, true) ∧
    after (exec (.laneFault 3 3) ((herdS.put (F.HRD_LINK_STATE_LANES 3) 8).put (F.HRD_LINK_STATE_WIDTH 3) 0)) (fun t => t.linkUp 3) =
      some false ∧
    after (exec (.laneFault 0 3) herdS) (fun t => decide (t = herdS)) = some true := by decide +kernel
theorem test_sync_out : after (exec .syncOutPulse { herdS.put F.HRD_CFG_SYNC_OUT_EN 1 with time := 100000 }) (·.out) = some [.syncOut] ∧
    after (exec .syncOutPulse { herdS.put F.HRD_CFG_SYNC_OUT_EN 1 with time := 100001 }) (·.out) = some [] := by decide +kernel

/-- R371, R374: a bad CRC is answered with NAK of the next number; a PLANNED flit into window 63 is written. -/
theorem test_flit : after (exec (.flitReceive 3 ⟨false, 1, []⟩ E) herdS) (·.out) = some [.flit 3 0 [1, 1]] ∧
    (expS 6).windowOk 3 63 2 1 2 true = true ∧
    after (exec (.flitReceive 3 ⟨true, 1, [4, 0, 63, 2, 0xAB]⟩ E) (expS 6)) (·.mem) = some [(0xA000002, 0xAB)] ∧
    after (exec (.flitReceive 3 ⟨true, 1, [4, 0, 63, 64, 0xAB]⟩ E) (expS 6)) (fun t => (t.mem, t.get F.HRD_CNT_REJECT)) = some ([], 1) ∧
    after (exec (.flitReceive 0 ⟨true, 1, []⟩ E) herdS) (fun t => decide (t = herdS)) = some true := by decide +kernel
def sentS (k replays : Nat) : State :=
  { inFlight k with herd := { Herd.none with sent := [⟨3, 9, 1000, 77, [1, 2], run0, replays, false⟩] }, time := 500 * k + 498 }
theorem test_replay : (sentS 1000 0).tailOver 1000 = true ∧
    after (exec (.flitReplay 3 77) (sentS 1000 0)) (fun t => (t.out, t.get (F.HRD_LINK_CNT_REPLAY 3))) = some ([.flit 3 1 [1, 2]], 1) ∧
    after (exec (.flitReplay 3 77) (sentS 1000 8)) (fun t => t.faultLog.length) = some 1 ∧
    after (exec (.flitReplay 3 78) (sentS 1000 0)) (·.out) = some [] := by decide +kernel
theorem test_flit_lost : after (exec (.flitLost 3 9) (sentS 1001 0)) (fun t => (t.herd.sent, t.get (F.HRD_LINK_CNT_LOST 3),
      t.items.map (·.incomplete))) = some ([], 1, [true]) ∧
    after (exec (.flitLost 3 9) (sentS 1000 0)) (fun t => t.herd.sent.length) = some 1 := by decide +kernel
theorem test_undelivered : let s (k : Nat) : State := { herdS with herd := { Herd.none with forwards := [⟨7, 3, 5, 1, 1000, none⟩] }, time := 500 * k + 498 }
    after (exec (.resultUndelivered 7 5) (s 1001)) (fun t => t.herd.forwards) = some [] ∧
    after (exec (.resultUndelivered 7 5) (s 1000)) (fun t => t.herd.forwards.length) = some 1 := by decide +kernel
/-- R386: 4 bytes in slot 0 of link 3 to window 2 of member 5; without the link the item is INCOMPLETE. -/
def xferIm : PlanImage := { imOf [⟨6, 1, 768, 64, 0⟩] [⟨9, 0, 0, 1, 1, 1, 4, 0, 0xFFFF, 0, 0xFFFF, 5 + 3 <<< 4 + 2 <<< 8, 4, 0⟩] with
  bufs := [⟨33, 1, 0, 64⟩] }
def xferS (k : Nat) : State := { herdS with time := 500 * k, plans := [(0, runP xferIm)], items := [item] }
theorem test_xfer : ((xferS 1005).due? run0 9).map (fun a => (a.start, (xferS 1005).actDomains a, a.plan.img.slotsOf a.rcd 3)) =
      some (1005, true, [(0, 64)]) ∧
    after (exec (.herdXfer run0) (xferS 1005)) (fun t => (t.herd.sent.map (fun x => (x.link, x.slot)), t.items.map (·.ran))) =
      some ([(3, 0)], [[0]]) ∧
    after (exec (.herdXfer run0) ((xferS 1005).put (F.HRD_LINK_STATE_STATE 3) 0)) (fun t => t.items.map (·.incomplete)) = some [true] ∧
    after (exec (.herdXfer run0) (xferS 1006)) (fun t => t.items.map (·.ran)) = some [[]] := by decide +kernel
theorem test_xfer_off : after (exec (.herdXfer run0) ((xferS 1005).put (F.PMC_DOM_STATE_STATE 14) 2)) (fun t => t.items.map (·.faulted)) =
    some [true] := by decide +kernel

/-! ## Firmware, keys, fuses -/

def fwPar (src off len fl : Nat) : List (Nat × Nat) := [(8, src), (16, off), (20, len), (24, fl)]
def trial : State := base.newRecord 1 true 3
def fw0 : FwInfo := ⟨0, 0x10203, 0, 5, 0⟩
theorem test_download : Meets 0xA0 0 (fwPar 0x100000 0 64 0) ∧ base.bootRec.trial = false ∧
    ((sent 0xA0 (fwPar 0x100000 0 64 0)).cmdRead E 0 0x100000 64).1 matches .ok _ ∧
    reply (exec (.fwDownload 0 0 E) (sent 0xA0 (fwPar 0x100000 0x7FE000 4096 0))) = some (some (stOk, 0)) ∧
    reply (exec (.fwDownload 0 0 E) (sent 0xA0 (fwPar 0x100000 0x7FF000 64 0))) = some (some (stBadParam, 0)) ∧
    reply (exec (.fwDownload 0 0 E) (sent 0xA0 (fwPar 0x200000 0 64 1))) = some (some (stUnpinned, 0)) :=
  ⟨meets (by decide +kernel), by decide +kernel, by decide +kernel, by decide +kernel, by decide +kernel, by decide +kernel⟩
theorem test_trial : trial.bootRec.trial = true ∧ trial.bootRec.active = 1 ∧ trial.bootRec.attempts = 3 ∧
    reply (exec (.fwDownload 0 0 E) (sent 0xA0 (fwPar 0x100000 0 64 1) trial)) = some (some (stBadState, 0)) ∧
    reply (exec (.fwVerify 0 0 E) (sent 0xA1 [] trial)) = some (some (stBadState, 0)) := by decide +kernel
theorem test_verify : Meets 0xA1 0 [] ∧ base.imgFormatOk base.inactiveSlot = false ∧
    reply (exec (.fwVerify 0 0 E) (sent 0xA1 [])) = some (some (stImageBad, 0)) :=
  ⟨meets (by decide +kernel), by decide +kernel, by decide +kernel⟩
theorem test_activate : Meets 0xA2 0 [] ∧ base.markerOk base.inactiveSlot = false ∧
    reply (exec (.fwActivate 0 0 E) (sent 0xA2 [])) = some (some (stBadState, 0)) :=
  ⟨meets (by decide +kernel), by decide +kernel, by decide +kernel⟩
theorem test_confirm : Meets 0xA3 0 [] { trial with fw := some { fw0 with slot := 1 } } ∧
    after (exec (.fwConfirm 0 0 E) (sent 0xA3 [] { trial with fw := some { fw0 with slot := 1 } })) (fun t =>
      (t.svn, t.bootRec.trial, replyOf t)) = some (5, false, some (stOk, 5)) ∧
    reply (exec (.fwConfirm 0 0 E) (sent 0xA3 [] { base with fw := some fw0 })) = some (some (stBadState, 0)) :=
  ⟨meets (by decide +kernel), by decide +kernel, by decide +kernel⟩
/-- R410: no load or wrap in debug; CLEAR empties slot 15; WRAP needs PROV_LOCK clear. -/
def dbgS : State := base.put F.KSU_STATUS_DBG 1
theorem test_key_load : after (exec (.ksuKeyLoad 15) dbgS) (fun t => t.get F.KSU_KEYCTL_RESULT) = some 2 ∧
    (base.put F.KSU_KEYCTL_SLOT 15).dbg = false ∧ (base.put F.KSU_KEYCTL_SLOT 15).regBytes R.KSU_BLOB 16 = base.regBytes R.KSU_BLOB 16 := by
  decide +kernel
theorem test_key_clear : after (exec (.ksuKeyClear 15) { base with keys := [(15, (1, 2)), (3, (4, 5))] }) (·.keys) = some [(3, (4, 5))] := by
  decide +kernel
theorem test_key_wrap : after (exec (.ksuKeyWrap 15) { base with provLock := true }) (fun t => t.get F.KSU_KEYCTL_RESULT) = some 2 ∧
    base.provLock = false ∧ (base.put F.KSU_KEYCTL_SLOT 15).dbg = false := by decide +kernel
theorem test_unlock : after (exec (.ksuDbgUnlock 1) (base.put F.KSU_STATUS_DBG_LOCKOUT 1)) (·.fresh) = some (base.fresh + 32) ∧
    ((base.put F.KSU_STATUS_DBG_LOCKOUT 1).put F.KSU_DBG_CTL_KEYSEL 1).on F.KSU_STATUS_DBG_LOCKOUT = true ∧
    after (exec (.ksuDbgUnlock 1) (withPlan admP)) (·.fresh) = some ((withPlan admP).fresh + 32) ∧
    ((withPlan admP).put F.KSU_DBG_CTL_KEYSEL 1).livePlans ≠ [] ∧
    ((withPlan admP).put F.KSU_DBG_CTL_KEYSEL 1).on F.KSU_STATUS_DBG_LOCKOUT = false ∧
    (base.put F.KSU_DBG_CTL_KEYSEL 1).livePlans = [] ∧ (base.put F.KSU_DBG_CTL_KEYSEL 1).on F.KSU_STATUS_DBG_LOCKOUT = false := by
  decide +kernel
theorem test_revoke : let s : State := { base with fw := some fw0 }
    s.bootable (1 - fw0.slot) = false ∧ after (exec (.ksuRevoke 0x5A03) s) (·.rootRev) = some 8 ∧
    after (exec (.ksuRevoke 0x5A00) s) (·.rootRev) = some 0 ∧ after (exec (.ksuRevoke 0x5B03) s) (·.rootRev) = some 0 := by decide +kernel
theorem test_prov_lock : after (exec (.ksuProvLock 1) base) (·.provLock) = some true ∧
    after (exec (.ksuProvLock 2) base) (·.provLock) = some false := by decide +kernel
theorem test_tamper : after (exec (.tamper 6) base) (fun t => (t.get F.KSU_STATUS_TAMPER, t.get F.GLB_RSTCAUSE_CAUSE, t.get F.KSU_TAMPER_TEMP)) =
    some (1, 6, 1) := by decide +kernel
theorem test_tap : after (exec (.tapInstruction 1 0) base) (·.out) = some [.tap 0x14832001] ∧
    after (exec (.tapInstruction 5 0) base) (fun t => (t.tapHigh, t.loPad 0)) = some (true, .boundary) ∧
    after (exec (.tapInstruction 0 0) base) (fun t => t.tapHigh) = some false := by decide +kernel

/-! ## Resets and boot -/

theorem test_resets : after (exec .powerOn { base with svn := 3, time := 9 }) (fun t => (t.svn, t.time, t.perst, t.get F.GLB_RSTCAUSE_CAUSE)) =
      some (3, 0, true, 0) ∧
    after (exec .perstAssert base) (fun t => (t.perst, t.get F.GLB_RSTCAUSE_CAUSE)) = some (true, 2) ∧
    after (exec .perstDeassert State.reset) (fun t => (t.perst, t.get F.GLB_STATUS_STAGE)) = some (false, 1) ∧
    after (exec .perstDeassert base) (fun t => decide (t = base)) = some true := by decide +kernel
theorem test_resets_more : after (exec .pfFlr base) (fun t => (t.get F.GLB_RSTCAUSE_CAUSE, t.numVfs)) = some (3, 0) ∧
    after (exec .pfFlr State.reset) (fun t => decide (t = State.reset)) = some true ∧
    after (exec .aonBrownOut base) (fun t => (t.get F.PMC_AON_BOR, t.get F.GLB_STATUS_STAGE)) = some (1, 1) ∧
    after (exec (.railReturn 15) { base with railsBad := [15, 2] }) (·.railsBad) = some [2] := by decide +kernel
/-- R426, R428: a warm reset keeps time, names its cause and detector and starts at stage 2; the root PLL's detector at 1. -/
theorem test_warm : after (exec (.warmDeviceReset 8 3) { base with time := 77 }) (fun t => (t.time, t.get F.GLB_STATUS_STAGE,
      t.get F.GLB_RSTCAUSE_CAUSE, t.get F.GLB_RSTCAUSE_DETECTOR)) = some (77, 2, 8, 0xFF) ∧
    after (exec (.warmDeviceReset 4 0x10) base) (fun t => t.get F.GLB_STATUS_STAGE) = some 1 ∧
    after (exec (.warmDeviceReset 2 0) base) (fun t => decide (t = base)) = some true := by decide +kernel
def stageS (k : Nat) : State := { State.reset.put F.GLB_STATUS_STAGE k with perst := false }
theorem test_boot : (stageS 1).bootHeld = false ∧ (stageS 1).on F.GLB_STATUS_ERR = false ∧ State.reset.bootHeld = true ∧
    after (exec (.bootStageDone ⟨true, 0, []⟩) (stageS 1)) (fun t => t.get F.GLB_STATUS_STAGE) = some 2 ∧
    after (exec (.bootStageDone ⟨false, 0, []⟩) (stageS 1)) (fun t => t.get F.GLB_STATUS_ERR_CODE) = some 1 ∧
    (stageS 2).get F.GLB_STATUS_STAGE = 2 ∧
    after (exec (.bootStageDone ⟨false, 4, []⟩) (stageS 5)) (fun t => t.get F.GLB_STATUS_ERR_CODE) = some 4 ∧
    after (exec (.bootStageDone ⟨true, 0, [0, 8533]⟩) (stageS 5)) (fun t => t.get F.GLB_STATUS_STAGE) = some 6 := by decide +kernel
theorem test_boot_end : after (exec (.bootStageDone ⟨true, 0, []⟩) (stageS 7)) (fun t => t.ready) = some true ∧
    after (exec (.bootStageDone ⟨true, 0, []⟩) State.reset) (fun t => decide (t = State.reset)) = some true ∧
    after (exec (.bootStageDone ⟨true, 0, []⟩) (stageS 8)) (fun t => t.ready) = some false := by decide +kernel

/-! ## Registers, memory, the step -/

theorem test_bad_access : badAccess 2 4 = true ∧ badAccess 4 8 = true ∧ badAccess 8 8 = false ∧ portOk (.bar2 127) 2 4 = true ∧
    portOk .bar0 2 4 = true ∧
    after (exec (.bar0BadAccess 2 4 true) State.reset) (fun t => (t.get F.GLB_BADACC_COUNT, t.get F.GLB_BADACC_WRITE,
      t.get F.GLB_BADADDR_OFFSET)) = some (1, 1, 2) ∧
    after (exec (.registerRead (.bar2 0) 2 4) base) (·.out) = some [.read 0] := by decide +kernel
/-- R22, R25: a closed window and an undefined offset give zero. -/
theorem test_register : base.barOpen .bar0 0 = true ∧ State.reset.barOpen .bar0 0x1600000 = false ∧
    after (exec (.registerRead .bar0 0x1600000 4) State.reset) (·.out) = some [.read 0] ∧
    ((locate .bar0 0x1600000) <|> none).isSome = true := by decide +kernel
theorem test_register_undefined : ((locate .bar0 0x3FFFFF0) <|> (none : Option Hit)).isNone = true ∧
    after (exec (.registerRead .bar0 0x3FFFFF0 4) base) (·.out) = some [.read 0] := by decide +kernel
theorem test_register_write : (locate .bar0 0x1600124).bind Hit.domain = none ∧
    after (exec (.registerWrite .bar0 0x1600124 4 77) base) (fun t => t.rd (R.LIO_ENC_BTLIM 0)) = some 77 ∧
    after (exec (.registerRead .bar0 0x1600124 4) base) (·.out) = some [.read 1000000] := by decide +kernel
/-- R340: a register of chain unit 0 waits for domain 53. -/
theorem test_register_parked : (locate .bar0 0x2400000).bind Hit.domain = some 53 ∧ (base.demand 53).answers 53 = true ∧
    ((domS 2).demand 53).answers 53 = false ∧
    after (exec (.registerRead .bar0 0x2400000 4) (domS 2)) (fun t => t.parked.length) = some 1 := by decide +kernel
/-- R23: the low half of DFC_SYNC_AFTER is held until the high half is written. -/
def held : State := { base with holds := [(((locate .bar0 0x1400018).map Hit.key).getD 0, 5)] }
theorem test_register_halves : (locate .bar0 0x1400018).map (fun h => (h.desc.width, h.rel)) = some (64, 0) ∧
    (locate .bar0 0x140001C).map (fun h => (h.desc.width, h.rel)) = some (64, 4) ∧
    (base.write4 .bar0 0x1400018 5).holds = held.holds ∧ (held.write4 .bar0 0x140001C 1).rd R.DFC_SYNC_AFTER = 5 + 2 ^ 32 ∧
    (base.write4 .bar0 0x140001C 1).rd R.DFC_SYNC_AFTER = 2 ^ 32 := by decide +kernel
theorem test_access : bit (writeFields [⟨3, 0, .rw, 0⟩, ⟨7, 4, .w1c, 0⟩] 0xF0 0x35) 4 = false ∧
    writeFields [⟨3, 0, .rw, 0⟩, ⟨7, 4, .w1c, 0⟩, ⟨11, 8, .w1s, 0⟩, ⟨15, 12, .ro, 0⟩] 0xF5FA 0xAA35 = 0xFFC5 ∧
    readMask [⟨3, 0, .wo, 0⟩, ⟨7, 4, .rc, 0⟩] 0xFF = 0xF0 ∧ clearRc [⟨3, 0, .rw, 0⟩, ⟨7, 4, .rc, 0⟩] 0xFF = 0x0F := by decide +kernel
theorem test_step : after (step { base with pending := [.syncOutPulse, .powerOn] }) (·.pending) = some [.powerOn] ∧
    after (step State.reset) (·.time) = some 1 ∧ after (step { State.reset with time := 499 }) (·.time) = some 499 ∧
    after (step base) (·.time) = some 1 := by decide +kernel
theorem test_canonical : Memory.wf (State.reset.writeLa ⟨0x8000, 0, false, 0⟩ 8 (clean [1, 0, 2])).mem = true ∧
    (State.reset.writeLa ⟨0x8000, 0, false, 0⟩ 8 (clean [1, 0, 2])).mem = [(8, 1), (10, 2)] ∧
    ((State.reset.writeLa ⟨0x8000, 0, false, 0⟩ 8 (clean [1, 0, 2])).writeLa ⟨0x8000, 0, false, 0⟩ 8 (clean [0])).mem = [(10, 2)] ∧
    laPlace 8 ≠ 8 ∧ laPlace 0x100000000000 = 8 := by decide +kernel
theorem test_claimed_bank : let s := withPlan { admP with img := { im with claims := [⟨4, 1, 0, 0, 0⟩] } }
    s.bankClaimed 8 = true ∧ (s.writeBg ⟨0x8000, 0, false, 0⟩ 8 (clean [1])).mem = [] := by decide +kernel
/-- SHA-256 of "abc" and CRC-32C of "123456789", from their standards. -/
theorem test_digests : (sha256 [0x61, 0x62, 0x63]).take 4 = [0xBA, 0x78, 0x16, 0xBF] ∧
    crc32c [0x31, 0x32, 0x33, 0x34, 0x35, 0x36, 0x37, 0x38, 0x39] = 0xE3069283 := by decide +kernel
theorem test_words : decodeTableWord 32 0 = none ∧ base.withFetchWord 32 0 = base := by decide +kernel

/-! ## Well-formed commands: at the edge of every operand, and one step beyond each (R22, R25, R56, R69, R71 and the ranges of the units) -/

def badMem : HostEnv := { E with mem := [(2 ^ 64, [])] }
theorem test_env : !([{ E with mem := [(2 ^ 64, [])] }, { E with poison := [2 ^ 64] }, { E with noResp := [2 ^ 64] },
    { E with ats := [⟨2 ^ 64, 0, true, 1⟩] }, { E with ats := [⟨0, 2 ^ 64, true, 1⟩] }, { E with far := [(2 ^ 54, [])] }] : List HostEnv).any envOk := by
  decide
theorem test_formed0 : ([
    .nop 127 127 E, .echo 127 127 E, .queryDevice 127 127 E, .planLoad 127 127 E, .planAdmit 127 127 E, .planArm 127 127 E,
    .planStop 127 127 E, .planUnload 127 127 E, .planStatus 127 127 E, .modelLoad 127 127 E, .modelEvict 127 127 E,
    .modelList 127 127 E, .bufPin 127 127 E, .bufUnpin 127 127 E, .tlbInvalidate 127 127 E, .pageMigrate 127 127 E,
    .ringCreate 127 127 E, .ringDestroy 127 127 E, .dmaProgLoad 127 127 E, .acqConfigStop 127 127 E, .acqConfigApply 127 127 E,
    .acqConfigStart 127 127 E, .acqConfigForce 127 127 E, .acqConfigPair 127 127 E, .dfcCoefLoadStop 127 127 E,
    .dfcCoefLoadLoad 127 127 E, .dfcCoefLoadStart 127 127 E, .acqSync 127 127 E, .acqReadout 127 127 E,
    .evpConfigDisable 127 127 E, .evpConfigEnable 127 127 E, .evpConfigGroups 127 127 E, .evpMaskLoad 127 127 E,
    .pwrPolicySet 127 127 E, .pwrPolicyWake 127 127 E, .pwrPolicyAon 127 127 E, .energyBudgetSet 127 127 E,
    .pwrGroupSleep 127 127 E, .faultInject 127 127 E, .faultInjectClear 127 127 E] : List Instr).all (fun i => i.wellFormed) = true := by decide +kernel
theorem test_formed1 : ([
    .faultLogRead 127 127 E, .selftestRun 127 127 E, .herdJoinJoin 127 127 E, .herdJoinFound 127 127 E,
    .herdJoinEpoch 127 127 E, .herdLeave 127 127 E, .herdStatus 127 127 E, .windowExport 127 127 E, .windowWithdraw 127 127 E,
    .fwDownload 127 127 E, .fwVerify 127 127 E, .fwActivate 127 127 E, .fwConfirm 127 127 E, .ctxReset 127 127 E,
    .abort 127 127 E, .fnSqdb 127 127 65535 E, .fnCqdb 127 127 65535, .fnQ0Ctrl 127 4294967295, .lioEncRelock 3,
    .lioLoForce 15 1048575, .acqSpiTx 4294967295, .dmxPauseSet 191, .dmxPauseClear 191, .atuTlbFlush E, .ksuKeyLoad 15,
    .ksuKeyClear 15, .ksuKeyWrap 15, .ksuDbgUnlock 1, .ksuRevoke 4294967295, .ksuProvLock 4294967295, .glbDomrst 127 255,
    .hrdLinkRetrain 3, .registerWrite (.bar2 127) 1048572 4 (2 ^ (8 * 4) - 1), .bar0BadAccess 67108863 2 false,
    .bar4Access 268435455 8 false (2 ^ (8 * 8) - 1), .tapInstruction 6 0, .replyWriteResponse 127 127, .commandTimeout 127 127,
    .cqCoalesceTimeout 127 127, .beatBoundary ⟨0, [3]⟩] : List Instr).all (fun i => i.wellFormed) = true := by decide +kernel
theorem test_formed2 : ([
    .planDrained 127 3, .itemCreate 127, .verdictCompose 127 4294967295 E, .itemVerdict 127 4294967295 E,
    .tineRun ⟨127, 3, true, 32767, 0⟩, .chainOp ⟨127, 3, true, 32767, 0⟩, .ppuSort ⟨127, 3, true, 32767, 0⟩,
    .ppuDetect ⟨127, 3, true, 32767, 0⟩, .dmxRun ⟨127, 3, true, 32767, 0⟩, .evpPatch ⟨127, 3, true, 32767, 0⟩,
    .evpPredict ⟨127, 3, true, 32767, 0⟩, .acqArm ⟨127, 3, true, 32767, 0⟩, .strobe ⟨127, 3, true, 32767, 0⟩,
    .herdXfer ⟨127, 3, true, 32767, 0⟩, .dmxMove 63, .dmxLoop 63, .dmxWaitBeat 63, .dmxWaitTrig 63, .dmxWaitSem 63,
    .dmxWaitRelease 63, .dmxWaitTimeout 63, .dmxSignal 63, .dmxEnd 63, .recordLate 63, .descMove 191 E, .descNop 191 E,
    .dmxPaused 191, .ringFaultServed 127 127, .faultTimeout 127 127, .prgResponse 127 127 15 E,
    .atsInvalidation none (2 ^ 64 - 1) (2 ^ 64 - 1) E, .invalidateStop 191, .walkTimeout 127 127, .encCount 3 false false 0,
    .encZEdge 3 false 0, .webStopped 3, .liEdge 7 false 0 3, .liStuck 7, .outputFire 15, .outputPulseEnd 15] : List Instr).all (fun i => i.wellFormed) = true := by decide +kernel
theorem test_formed3 : ([
    .csi2LongPacket 3 ⟨0, 0, 0, true, []⟩, .csi2ShortPacket 3 ⟨0, 0, 0, true, []⟩, .mapperWindowClose 3, .mapperSilent 3,
    .eventProcess 3, .trackCoastTimeout 3 255, .surfaceSweep 3 1279 799, .fabricFire 63, .fabricArmClose 63,
    .acqTrigger 7 6 0 [], .acqFillDone 7, .acqSegmentDone 7 3 [], .acqRearmDone 7, .acqCalTracking 7,
    .spiTransferDone 4294967295, .dfcSync [], .dfcStreamBlock 7 [], .syncInEdge false, .syncOutPulse,
    .recordShed ⟨127, 3, true, 32767, 0⟩, .recordOverrun ⟨127, 3, true, 32767, 0⟩, .droop 3, .thermalSample [0, 0, 0, 0],
    .thermHoldEnd, .detectorFire 95 0, .contextRecovery 127 95, .replacementBegin 1 15, .replacementSwap 1,
    .rotationStepBegin 1, .shadowCopyDone 1, .spareSwap 1, .engineSelftestDone 1 15 false, .bankZeroDone, .sramScrub 184549375,
    .domainIdleTimeout 92, .domainEntryDone 92, .domainDemand 92, .domainWakeDone 92, .clkSwitchDone 92, .clkSwitchFail 92] : List Instr).all (fun i => i.wellFormed) = true := by decide +kernel
theorem test_formed4 : ([
    .domainResetDone, .aonBrownOut, .powerOn, .perstAssert, .perstDeassert, .warmDeviceReset 8 255,
    .bootStageDone ⟨true, 0, []⟩, .tamper 6, .vfFlr 127 E, .pfFlr, .vfEnableSet 127, .vfEnableClear E,
    .flitReceive 3 ⟨true, 0, []⟩ E, .flitLost 3 0, .resultUndelivered 0 7, .laneFault 3 3, .linkDown 3, .linkTrained 3 15 7 3,
    .herdLeaveDone, .registerRead (.bar2 127) 1048572 4, .fabricArmOpen 63, .trackLeavesFrame 3 255, .linkTrainingTimeout 3,
    .flitReplay 3 0, .priEnable 512 false, .railReturn 15, .dphyStateChange 3 3 4 false] : List Instr).all (fun i => i.wellFormed) = true := by decide +kernel
theorem test_ill_formed0 : ([
    .nop 128 127 E, .nop 127 128 E, .nop 127 127 badMem, .echo 128 127 E, .echo 127 128 E, .echo 127 127 badMem,
    .queryDevice 128 127 E, .queryDevice 127 128 E, .queryDevice 127 127 badMem, .planLoad 128 127 E, .planLoad 127 128 E,
    .planLoad 127 127 badMem, .planAdmit 128 127 E, .planAdmit 127 128 E, .planAdmit 127 127 badMem, .planArm 128 127 E,
    .planArm 127 128 E, .planArm 127 127 badMem, .planStop 128 127 E, .planStop 127 128 E, .planStop 127 127 badMem,
    .planUnload 128 127 E, .planUnload 127 128 E, .planUnload 127 127 badMem, .planStatus 128 127 E, .planStatus 127 128 E,
    .planStatus 127 127 badMem, .modelLoad 128 127 E, .modelLoad 127 128 E, .modelLoad 127 127 badMem, .modelEvict 128 127 E,
    .modelEvict 127 128 E, .modelEvict 127 127 badMem, .modelList 128 127 E, .modelList 127 128 E, .modelList 127 127 badMem,
    .bufPin 128 127 E, .bufPin 127 128 E, .bufPin 127 127 badMem, .bufUnpin 128 127 E] : List Instr).all (fun i => !i.wellFormed) = true := by decide +kernel
theorem test_ill_formed1 : ([
    .bufUnpin 127 128 E, .bufUnpin 127 127 badMem, .tlbInvalidate 128 127 E, .tlbInvalidate 127 128 E,
    .tlbInvalidate 127 127 badMem, .pageMigrate 128 127 E, .pageMigrate 127 128 E, .pageMigrate 127 127 badMem,
    .ringCreate 128 127 E, .ringCreate 127 128 E, .ringCreate 127 127 badMem, .ringDestroy 128 127 E, .ringDestroy 127 128 E,
    .ringDestroy 127 127 badMem, .dmaProgLoad 128 127 E, .dmaProgLoad 127 128 E, .dmaProgLoad 127 127 badMem,
    .acqConfigStop 128 127 E, .acqConfigStop 127 128 E, .acqConfigStop 127 127 badMem, .acqConfigApply 128 127 E,
    .acqConfigApply 127 128 E, .acqConfigApply 127 127 badMem, .acqConfigStart 128 127 E, .acqConfigStart 127 128 E,
    .acqConfigStart 127 127 badMem, .acqConfigForce 128 127 E, .acqConfigForce 127 128 E, .acqConfigForce 127 127 badMem,
    .acqConfigPair 128 127 E, .acqConfigPair 127 128 E, .acqConfigPair 127 127 badMem, .dfcCoefLoadStop 128 127 E,
    .dfcCoefLoadStop 127 128 E, .dfcCoefLoadStop 127 127 badMem, .dfcCoefLoadLoad 128 127 E, .dfcCoefLoadLoad 127 128 E,
    .dfcCoefLoadLoad 127 127 badMem, .dfcCoefLoadStart 128 127 E, .dfcCoefLoadStart 127 128 E] : List Instr).all (fun i => !i.wellFormed) = true := by decide +kernel
theorem test_ill_formed2 : ([
    .dfcCoefLoadStart 127 127 badMem, .acqSync 128 127 E, .acqSync 127 128 E, .acqSync 127 127 badMem, .acqReadout 128 127 E,
    .acqReadout 127 128 E, .acqReadout 127 127 badMem, .evpConfigDisable 128 127 E, .evpConfigDisable 127 128 E,
    .evpConfigDisable 127 127 badMem, .evpConfigEnable 128 127 E, .evpConfigEnable 127 128 E, .evpConfigEnable 127 127 badMem,
    .evpConfigGroups 128 127 E, .evpConfigGroups 127 128 E, .evpConfigGroups 127 127 badMem, .evpMaskLoad 128 127 E,
    .evpMaskLoad 127 128 E, .evpMaskLoad 127 127 badMem, .pwrPolicySet 128 127 E, .pwrPolicySet 127 128 E,
    .pwrPolicySet 127 127 badMem, .pwrPolicyWake 128 127 E, .pwrPolicyWake 127 128 E, .pwrPolicyWake 127 127 badMem,
    .pwrPolicyAon 128 127 E, .pwrPolicyAon 127 128 E, .pwrPolicyAon 127 127 badMem, .energyBudgetSet 128 127 E,
    .energyBudgetSet 127 128 E, .energyBudgetSet 127 127 badMem, .pwrGroupSleep 128 127 E, .pwrGroupSleep 127 128 E,
    .pwrGroupSleep 127 127 badMem, .faultInject 128 127 E, .faultInject 127 128 E, .faultInject 127 127 badMem,
    .faultInjectClear 128 127 E, .faultInjectClear 127 128 E, .faultInjectClear 127 127 badMem] : List Instr).all (fun i => !i.wellFormed) = true := by decide +kernel
theorem test_ill_formed3 : ([
    .faultLogRead 128 127 E, .faultLogRead 127 128 E, .faultLogRead 127 127 badMem, .selftestRun 128 127 E,
    .selftestRun 127 128 E, .selftestRun 127 127 badMem, .herdJoinJoin 128 127 E, .herdJoinJoin 127 128 E,
    .herdJoinJoin 127 127 badMem, .herdJoinFound 128 127 E, .herdJoinFound 127 128 E, .herdJoinFound 127 127 badMem,
    .herdJoinEpoch 128 127 E, .herdJoinEpoch 127 128 E, .herdJoinEpoch 127 127 badMem, .herdLeave 128 127 E,
    .herdLeave 127 128 E, .herdLeave 127 127 badMem, .herdStatus 128 127 E, .herdStatus 127 128 E, .herdStatus 127 127 badMem,
    .windowExport 128 127 E, .windowExport 127 128 E, .windowExport 127 127 badMem, .windowWithdraw 128 127 E,
    .windowWithdraw 127 128 E, .windowWithdraw 127 127 badMem, .fwDownload 128 127 E, .fwDownload 127 128 E,
    .fwDownload 127 127 badMem, .fwVerify 128 127 E, .fwVerify 127 128 E, .fwVerify 127 127 badMem, .fwActivate 128 127 E,
    .fwActivate 127 128 E, .fwActivate 127 127 badMem, .fwConfirm 128 127 E, .fwConfirm 127 128 E, .fwConfirm 127 127 badMem,
    .ctxReset 128 127 E] : List Instr).all (fun i => !i.wellFormed) = true := by decide +kernel
theorem test_ill_formed4 : ([
    .ctxReset 127 128 E, .ctxReset 127 127 badMem, .abort 128 127 E, .abort 127 128 E, .abort 127 127 badMem,
    .fnSqdb 128 127 65535 E, .fnSqdb 127 128 65535 E, .fnSqdb 127 127 65536 E, .fnSqdb 127 127 65535 badMem,
    .fnCqdb 128 127 65535, .fnCqdb 127 128 65535, .fnCqdb 127 127 65536, .fnQ0Ctrl 128 4294967295, .fnQ0Ctrl 127 4294967296,
    .lioEncRelock 4, .lioLoForce 16 1048575, .lioLoForce 15 1048576, .acqSpiTx 4294967296, .dmxPauseSet 192, .dmxPauseClear 192,
    .atuTlbFlush badMem, .ksuKeyLoad 16, .ksuKeyClear 16, .ksuKeyWrap 16, .ksuDbgUnlock 2, .ksuRevoke 4294967296,
    .ksuProvLock 4294967296, .glbDomrst 128 255, .glbDomrst 127 256, .hrdLinkRetrain 4,
    .registerWrite (.bar2 128) 1048572 4 (2 ^ (8 * 4) - 1), .registerWrite (.bar2 127) 1048573 4 (2 ^ (8 * 4) - 1),
    .registerWrite (.bar2 127) 1048572 0 (2 ^ (8 * 4) - 1), .registerWrite (.bar2 127) 0 9 (2 ^ (8 * 4) - 1),
    .registerWrite .bar0 67108861 4 (2 ^ (8 * 4) - 1), .registerWrite (.bar2 127) 1048572 4 (2 ^ (8 * 4)),
    .bar0BadAccess 67108864 2 false, .bar0BadAccess 8 4 false, .bar4Access 268435456 8 false (2 ^ (8 * 8) - 1),
    .bar4Access 268435455 3 false (2 ^ (8 * 8) - 1)] : List Instr).all (fun i => !i.wellFormed) = true := by decide +kernel
theorem test_ill_formed5 : ([
    .bar4Access 268435455 8 false (2 ^ (8 * 8)), .tapInstruction 7 0, .replyWriteResponse 128 127, .replyWriteResponse 127 128,
    .commandTimeout 128 127, .commandTimeout 127 128, .cqCoalesceTimeout 128 127, .cqCoalesceTimeout 127 128,
    .beatBoundary ⟨0, [4]⟩, .planDrained 128 3, .planDrained 127 4, .itemCreate 128, .verdictCompose 128 4294967295 E,
    .verdictCompose 127 4294967296 E, .verdictCompose 127 4294967295 badMem, .itemVerdict 128 4294967295 E,
    .itemVerdict 127 4294967296 E, .itemVerdict 127 4294967295 badMem, .tineRun ⟨128, 3, true, 0, 0⟩,
    .tineRun ⟨0, 4, true, 0, 0⟩, .tineRun ⟨0, 0, true, 32768, 0⟩, .chainOp ⟨128, 3, true, 0, 0⟩, .chainOp ⟨0, 4, true, 0, 0⟩,
    .chainOp ⟨0, 0, true, 32768, 0⟩, .ppuSort ⟨128, 3, true, 0, 0⟩, .ppuSort ⟨0, 4, true, 0, 0⟩,
    .ppuSort ⟨0, 0, true, 32768, 0⟩, .ppuDetect ⟨128, 3, true, 0, 0⟩, .ppuDetect ⟨0, 4, true, 0, 0⟩,
    .ppuDetect ⟨0, 0, true, 32768, 0⟩, .dmxRun ⟨128, 3, true, 0, 0⟩, .dmxRun ⟨0, 4, true, 0, 0⟩, .dmxRun ⟨0, 0, true, 32768, 0⟩,
    .evpPatch ⟨128, 3, true, 0, 0⟩, .evpPatch ⟨0, 4, true, 0, 0⟩, .evpPatch ⟨0, 0, true, 32768, 0⟩,
    .evpPredict ⟨128, 3, true, 0, 0⟩, .evpPredict ⟨0, 4, true, 0, 0⟩, .evpPredict ⟨0, 0, true, 32768, 0⟩,
    .acqArm ⟨128, 3, true, 0, 0⟩] : List Instr).all (fun i => !i.wellFormed) = true := by decide +kernel
theorem test_ill_formed6 : ([
    .acqArm ⟨0, 4, true, 0, 0⟩, .acqArm ⟨0, 0, true, 32768, 0⟩, .strobe ⟨128, 3, true, 0, 0⟩, .strobe ⟨0, 4, true, 0, 0⟩,
    .strobe ⟨0, 0, true, 32768, 0⟩, .herdXfer ⟨128, 3, true, 0, 0⟩, .herdXfer ⟨0, 4, true, 0, 0⟩,
    .herdXfer ⟨0, 0, true, 32768, 0⟩, .dmxMove 64, .dmxLoop 64, .dmxWaitBeat 64, .dmxWaitTrig 64, .dmxWaitSem 64,
    .dmxWaitRelease 64, .dmxWaitTimeout 64, .dmxSignal 64, .dmxEnd 64, .recordLate 64, .descMove 192 E, .descMove 191 badMem,
    .descNop 192 E, .descNop 191 badMem, .dmxPaused 192, .ringFaultServed 128 127, .ringFaultServed 127 128,
    .faultTimeout 128 127, .faultTimeout 127 128, .prgResponse 128 127 15 E, .prgResponse 127 128 15 E,
    .prgResponse 127 127 16 E, .prgResponse 127 127 15 badMem, .atsInvalidation none (2 ^ 64) (2 ^ 64 - 1) E,
    .atsInvalidation none (2 ^ 64 - 1) (2 ^ 64) E, .atsInvalidation none (2 ^ 64 - 1) (2 ^ 64 - 1) badMem, .invalidateStop 192,
    .walkTimeout 128 127, .walkTimeout 127 128, .encCount 4 false false 0, .encZEdge 4 false 0, .webStopped 4] : List Instr).all (fun i => !i.wellFormed) = true := by decide +kernel
theorem test_ill_formed7 : ([
    .liEdge 8 false 0 3, .liEdge 7 false 0 4, .liStuck 8, .outputFire 16, .outputPulseEnd 16,
    .csi2LongPacket 4 ⟨0, 0, 0, true, []⟩, .csi2ShortPacket 4 ⟨0, 0, 0, true, []⟩, .mapperWindowClose 4, .mapperSilent 4,
    .eventProcess 4, .trackCoastTimeout 4 255, .trackCoastTimeout 3 256, .surfaceSweep 4 1279 799, .surfaceSweep 3 1280 799,
    .surfaceSweep 3 1279 800, .fabricFire 64, .fabricArmClose 64, .acqTrigger 8 6 0 [], .acqTrigger 7 7 0 [], .acqFillDone 8,
    .acqSegmentDone 8 3 [], .acqSegmentDone 7 4 [], .acqRearmDone 8, .acqCalTracking 8, .spiTransferDone 4294967296,
    .dfcStreamBlock 8 [], .recordShed ⟨128, 3, true, 0, 0⟩, .recordShed ⟨0, 4, true, 0, 0⟩, .recordShed ⟨0, 0, true, 32768, 0⟩,
    .recordOverrun ⟨128, 3, true, 0, 0⟩, .recordOverrun ⟨0, 4, true, 0, 0⟩, .recordOverrun ⟨0, 0, true, 32768, 0⟩, .droop 4,
    .thermalSample [0, 0, 0], .thermalSample [0, 0, 0, 0, 0], .detectorFire 96 0, .contextRecovery 128 95,
    .contextRecovery 127 96, .replacementBegin 2 15, .replacementBegin 1 16] : List Instr).all (fun i => !i.wellFormed) = true := by decide +kernel
theorem test_ill_formed8 : ([
    .replacementSwap 2, .rotationStepBegin 2, .shadowCopyDone 2, .spareSwap 2, .engineSelftestDone 2 15 false,
    .engineSelftestDone 1 16 false, .sramScrub 184549376, .domainIdleTimeout 93, .domainEntryDone 93, .domainDemand 93,
    .domainWakeDone 93, .clkSwitchDone 93, .clkSwitchFail 93, .warmDeviceReset 9 255, .warmDeviceReset 8 256, .tamper 3,
    .tamper 7, .vfFlr 0 E, .vfFlr 128 E, .vfFlr 127 badMem, .vfEnableSet 128, .vfEnableClear badMem,
    .flitReceive 4 ⟨true, 0, []⟩ E, .flitReceive 3 ⟨true, 0, []⟩ badMem, .flitLost 4 0, .resultUndelivered 0 8, .laneFault 4 3,
    .laneFault 3 4, .linkDown 4, .linkTrained 4 15 7 3, .linkTrained 3 16 7 3, .linkTrained 3 15 8 3, .linkTrained 3 15 7 4,
    .registerRead (.bar2 128) 1048572 4, .registerRead (.bar2 127) 1048573 4, .registerRead (.bar2 127) 1048572 0,
    .registerRead (.bar2 127) 0 9, .registerRead .bar0 67108861 4, .fabricArmOpen 64, .trackLeavesFrame 4 255] : List Instr).all (fun i => !i.wellFormed) = true := by decide +kernel
theorem test_ill_formed9 : ([
    .trackLeavesFrame 3 256, .linkTrainingTimeout 4, .flitReplay 4 0, .priEnable 513 false, .railReturn 16,
    .dphyStateChange 4 3 4 false, .dphyStateChange 3 4 4 false, .dphyStateChange 3 3 5 false] : List Instr).all (fun i => !i.wellFormed) = true := by decide +kernel
theorem test_ill_formed_stops : after (exec (.nop 128 0 E) base) (fun _ => true) = none := by decide +kernel
end Sys2Proof.Tests
end

/-! ## Access codes (R8, R9, Table 0.3)

The three folds over a register's fields are read off bit by bit: each touches, of a number, only the bits of the field it is at,
so where no two fields share a bit the fold leaves in a bit what its one field leaves there, and outside every field nothing changes. -/

namespace Sys2Proof.Machine

/-! ### Bits of fields -/

theorem bit_eq_testBit (x n : Nat) : bit x n = x.testBit n := by
  simp [bit, Nat.testBit_eq_decide_div_mod_eq, Nat.shiftRight_eq_div_pow, beq_eq_decide]

theorem bit_bits (x hi lo n : Nat) : bit (bits x hi lo) n = (decide (n < hi + 1 - lo) && bit x (lo + n)) := by
  simp [bits, bit_eq_testBit, Nat.testBit_mod_two_pow, Nat.testBit_shiftRight]

/-- Bit `n` of a number lies in its field `[hi:lo]` at `n - lo`. -/
theorem bit_bits_sub {x hi lo n : Nat} (hlo : lo ≤ n) (hhi : n ≤ hi) : bit (bits x hi lo) (n - lo) = bit x n := by
  simp [bit_bits, show n - lo < hi + 1 - lo by omega, show lo + (n - lo) = n by omega]

/-- Replacing a field gives its bits the new value's and leaves every other bit. -/
theorem bit_putBits (x hi lo v n : Nat) (h : lo ≤ hi) :
    bit (putBits x hi lo v) n = if lo ≤ n ∧ n ≤ hi then bit v (n - lo) else bit x n := by
  have hlow : x % 2 ^ lo < 2 ^ lo := Nat.mod_lt _ (Nat.two_pow_pos _)
  have hmid : v % 2 ^ (hi + 1 - lo) < 2 ^ (hi + 1 - lo) := Nat.mod_lt _ (Nat.two_pow_pos _)
  have hsplit : putBits x hi lo v =
      2 ^ lo * (2 ^ (hi + 1 - lo) * (x / 2 ^ (hi + 1)) + v % 2 ^ (hi + 1 - lo)) + x % 2 ^ lo := by
    have e : 2 ^ (hi + 1) = 2 ^ lo * 2 ^ (hi + 1 - lo) := by rw [← Nat.pow_add]; congr 1; omega
    rw [putBits_eq x hi lo v h, Nat.mul_comm _ (2 ^ (hi + 1)), e]; ring
  simp only [bit_eq_testBit]
  rw [hsplit, Nat.testBit_two_pow_mul_add _ hlow, Nat.testBit_two_pow_mul_add _ hmid]
  simp only [Nat.testBit_mod_two_pow, Nat.testBit_div_two_pow]
  rcases Nat.lt_or_ge n lo with hlo | hlo
  · simp [hlo, Nat.not_le.mpr hlo]
  rcases Nat.lt_or_ge hi n with hhi | hhi
  · simp [Nat.not_lt.mpr hlo, Nat.not_le.mpr hhi, show ¬n - lo < hi + 1 - lo by omega,
      show n - lo - (hi + 1 - lo) + (hi + 1) = n by omega]
  · simp [Nat.not_lt.mpr hlo, hlo, hhi, show n - lo < hi + 1 - lo by omega]

theorem bit_putBits_inside {x hi lo v n : Nat} (hlo : lo ≤ n) (hhi : n ≤ hi) : bit (putBits x hi lo v) n = bit v (n - lo) :=
  (bit_putBits x hi lo v n (hlo.trans hhi)).trans (if_pos ⟨hlo, hhi⟩)

theorem bit_putBits_outside {x hi lo v n : Nat} (h : lo ≤ hi) (hn : n < lo ∨ hi < n) : bit (putBits x hi lo v) n = bit x n :=
  (bit_putBits x hi lo v n h).trans (if_neg (by omega))

/-- Bits `[hi:lo]` of `v` put into the same field of `x` keep their places. -/
theorem bit_putBits_bits {x hi lo v n : Nat} (hlo : lo ≤ n) (hhi : n ≤ hi) :
    bit (putBits x hi lo (bits v hi lo)) n = bit v n := by
  rw [bit_putBits_inside hlo hhi, bit_bits_sub hlo hhi]

/-- Taking from a number the bits that it shares with a mask clears exactly these. -/
theorem bit_sub_and (x m n : Nat) : bit (x - (x &&& m)) n = (bit x n && !bit m n) := by
  simp only [bit_eq_testBit]
  have hle : x &&& m ≤ x := Nat.and_le_left
  have hdiv : (x &&& m) / 2 = x / 2 &&& m / 2 := Nat.and_div_two
  have hone : (x &&& m) % 2 = 1 ↔ x % 2 = 1 ∧ m % 2 = 1 := Nat.and_mod_two_eq_one
  induction n generalizing x m with
  | zero =>
    have hpar : (x - (x &&& m)) % 2 = 1 ↔ x % 2 = 1 ∧ ¬m % 2 = 1 := by omega
    simp only [Nat.testBit_zero, hpar, Bool.decide_and, decide_not]
  | succ n ih =>
    have hhalf : (x - (x &&& m)) / 2 = x / 2 - (x / 2 &&& m / 2) := by omega
    simp only [Nat.testBit_succ, hhalf]
    exact ih _ _ Nat.and_le_left Nat.and_div_two Nat.and_mod_two_eq_one

theorem bit_or (x y n : Nat) : bit (x ||| y) n = (bit x n || bit y n) := by
  simp [bit_eq_testBit, Nat.testBit_or]

@[simp] theorem bit_zero (n : Nat) : bit 0 n = false := by simp [bit]

theorem bit_two_pow_sub_one (w n : Nat) : bit (2 ^ w - 1) n = decide (n < w) := by
  rw [bit_eq_testBit, Nat.testBit_two_pow_sub_one]

/-! ### Folds over fields -/

/-- A bit that lies in no field keeps its value through a fold of changes each of which stays inside its field. -/
theorem bit_foldl_of_outside {g : Nat → FieldDesc → Nat} {fs : List FieldDesc} {n : Nat}
    (hout : ∀ x, ∀ f ∈ fs, n < f.lo ∨ f.hi < n → bit (g x f) n = bit x n) (hn : ∀ f ∈ fs, n < f.lo ∨ f.hi < n)
    (x : Nat) : bit (fs.foldl g x) n = bit x n := by
  induction fs generalizing x with
  | nil => rfl
  | cons e es ih =>
    obtain ⟨hoe, hoes⟩ := List.forall_mem_cons.mp (fun f hf x => hout x f hf)
    obtain ⟨hne, hnes⟩ := List.forall_mem_cons.mp hn
    exact (ih (fun x f hf => hoes f hf x) hnes (g x e)).trans (hoe x hne)

/-- A bit of one of disjoint fields is, after the fold, what that field's change makes of it. -/
theorem bit_foldl_of_mem {g : Nat → FieldDesc → Nat} {φ : FieldDesc → Bool → Bool}
    {fs : List FieldDesc} {f : FieldDesc} {n : Nat}
    (hdis : fs.Pairwise (fun f g => f.hi < g.lo ∨ g.hi < f.lo))
    (hout : ∀ x, ∀ f ∈ fs, n < f.lo ∨ f.hi < n → bit (g x f) n = bit x n)
    (hin : ∀ x, ∀ f ∈ fs, f.lo ≤ n → n ≤ f.hi → bit (g x f) n = φ f (bit x n))
    (hf : f ∈ fs) (hlo : f.lo ≤ n) (hhi : n ≤ f.hi) (x : Nat) : bit (fs.foldl g x) n = φ f (bit x n) := by
  induction fs generalizing x with
  | nil => simp at hf
  | cons e es ih =>
    obtain ⟨hee, hes⟩ := List.pairwise_cons.mp hdis
    have houts : ∀ x, ∀ f ∈ es, n < f.lo ∨ f.hi < n → bit (g x f) n = bit x n :=
      fun x d hd => hout x d (List.mem_cons_of_mem _ hd)
    rcases List.mem_cons.mp hf with rfl | hf
    · have hrest : ∀ d ∈ es, n < d.lo ∨ d.hi < n := fun d hd => by have := hee d hd; omega
      exact (bit_foldl_of_outside houts hrest (g x f)).trans (hin x f List.mem_cons_self hlo hhi)
    · have hskip : n < e.lo ∨ e.hi < n := by have := hee f hf; omega
      rw [List.foldl_cons, ih hes houts (fun x d hd => hin x d (List.mem_cons_of_mem _ hd)) hf,
        hout x e List.mem_cons_self hskip]

/-! ### Writes, reads and what reading leaves -/

/-- What a write of `new` leaves in a bit that holds `old`, by the access code (R8). -/
def Access.written (a : Access) (old new : Bool) : Bool :=
  match a with
  | .rw | .wo => new
  | .w1c => old && !new
  | .w1s => old || new
  | .ro | .rc => old

theorem bit_writeFields_singleton_outside {f : FieldDesc} (hf : f.lo ≤ f.hi) {n : Nat} (hn : n < f.lo ∨ f.hi < n)
    (old v : Nat) : bit (writeFields [f] old v) n = bit old n := by
  cases h : f.acc <;> simp [writeFields, h, bit_putBits_outside hf hn]

/-- A write of one field leaves in that field's bits what its access code says. -/
theorem bit_writeFields_singleton {f : FieldDesc} {n : Nat} (hlo : f.lo ≤ n) (hhi : n ≤ f.hi) (old v : Nat) :
    bit (writeFields [f] old v) n = f.acc.written (bit old n) (bit v n) := by
  cases h : f.acc <;>
    simp [writeFields, h, Access.written, bit_putBits_inside hlo hhi, bit_sub_and, bit_or, bit_bits_sub hlo hhi]

section
variable {fs : List FieldDesc} {f : FieldDesc} {n : Nat}

/-- A write leaves in a bit of a field what the field's access code says (R8). -/
theorem bit_writeFields_of_mem (hdis : fs.Pairwise (fun f g => f.hi < g.lo ∨ g.hi < f.lo)) (hle : ∀ f ∈ fs, f.lo ≤ f.hi)
    (hf : f ∈ fs) (hlo : f.lo ≤ n) (hhi : n ≤ f.hi) (old v : Nat) :
    bit (writeFields fs old v) n = f.acc.written (bit old n) (bit v n) :=
  bit_foldl_of_mem (φ := fun f b => f.acc.written b (bit v n)) hdis
    (fun x d hd hn => bit_writeFields_singleton_outside (hle d hd) hn x v)
    (fun x _ _ hl hh => bit_writeFields_singleton hl hh x v) hf hlo hhi old

theorem bit_writeFields_of_reserved (hle : ∀ f ∈ fs, f.lo ≤ f.hi) (hn : ∀ f ∈ fs, n < f.lo ∨ f.hi < n) (old v : Nat) :
    bit (writeFields fs old v) n = bit old n :=
  bit_foldl_of_outside (fun x d hd hn => bit_writeFields_singleton_outside (hle d hd) hn x v) hn old

/-- A read returns the bits of every field but a WO one (R8). -/
theorem bit_readMask_of_mem (hdis : fs.Pairwise (fun f g => f.hi < g.lo ∨ g.hi < f.lo)) (hle : ∀ f ∈ fs, f.lo ≤ f.hi)
    (hf : f ∈ fs) (hlo : f.lo ≤ n) (hhi : n ≤ f.hi) (v : Nat) :
    bit (readMask fs v) n = if f.acc = .wo then false else bit v n := by
  rw [← bit_zero n]
  refine bit_foldl_of_mem (φ := fun f b => if f.acc = .wo then b else bit v n) hdis ?_ ?_ hf hlo hhi 0
  · intro x d hd hn
    rw [apply_ite (bit · n), bit_putBits_outside (hle d hd) hn, ite_self]
  · intro x d _ hl hh
    rw [apply_ite (bit · n), bit_putBits_bits hl hh]

/-- Reserved bits read zero (R9). -/
theorem bit_readMask_of_reserved (hle : ∀ f ∈ fs, f.lo ≤ f.hi) (hn : ∀ f ∈ fs, n < f.lo ∨ f.hi < n) (v : Nat) :
    bit (readMask fs v) n = false := by
  rw [← bit_zero n]
  refine bit_foldl_of_outside ?_ hn 0
  intro x d hd hn
  rw [apply_ite (bit · n), bit_putBits_outside (hle d hd) hn, ite_self]

/-- Reading leaves zero in an RC field and every other field as it is (R8). -/
theorem bit_clearRc_of_mem (hdis : fs.Pairwise (fun f g => f.hi < g.lo ∨ g.hi < f.lo)) (hle : ∀ f ∈ fs, f.lo ≤ f.hi)
    (hf : f ∈ fs) (hlo : f.lo ≤ n) (hhi : n ≤ f.hi) (v : Nat) :
    bit (clearRc fs v) n = if f.acc = .rc then false else bit v n := by
  refine bit_foldl_of_mem (φ := fun f b => if f.acc = .rc then false else b) hdis ?_ ?_ hf hlo hhi v
  · intro x d hd hn
    rw [apply_ite (bit · n), bit_putBits_outside (hle d hd) hn, ite_self]
  · intro x d _ hl hh
    rw [apply_ite (bit · n), bit_putBits_inside hl hh, bit_zero]

end

/-- Settles O54: a write, a read and what reading leaves are folds over disjoint fields, so each bit follows its own field's code;
that the fields of the tables are disjoint and within the width is evaluated over their rows. -/
theorem accessCodes : Obligations.AccessCodes := by
  refine ⟨fun fs old v n hdis hle => ⟨fun f hf hlo hhi => ?_, fun hn => ?_⟩, by decide +kernel⟩
  · rw [bit_writeFields_of_mem hdis hle hf hlo hhi, bit_readMask_of_mem hdis hle hf hlo hhi,
      bit_clearRc_of_mem hdis hle hf hlo hhi]
    cases f.acc <;> simp [Access.written]
  · exact ⟨bit_writeFields_of_reserved hle hn old v, bit_readMask_of_reserved hle hn old⟩

end Sys2Proof.Machine

/-! ## Host accesses to registers (R6, R9, R22, R23, R25, R339, R340, R425)

What `State.access` does in each of its cases, for a read and a write at once: `State.perform` tells the two apart. -/

namespace Sys2Proof.Machine

/-! ### An access carried out -/

/-- The register that an access of `size` bytes reaches: at its offset, or for 8 bytes at the offset of its high word (R22). -/
def hitAt (port : RegPort) (off size : Nat) : Option Hit :=
  locate port off <|> (if size = 8 then locate port (off + 4) else none)

section
variable {port : RegPort} {off size : Nat}

theorem locate_eq_none_of_hitAt (h : hitAt port off size = none) :
    locate port off = none ∧ (size = 8 → locate port (off + 4) = none) := by
  simpa [hitAt] using h

theorem State.write4_of_undefined (s : State) (v : Nat) (h : locate port off = none) : s.write4 port off v = s := by
  simp [State.write4, h]

theorem State.read4_of_undefined (s : State) (h : locate port off = none) : s.read4 port off = (0, s) := by
  simp [State.read4, h]

/-- A write at an undefined offset does nothing (R9). -/
theorem State.writeAt_of_undefined (s : State) (v : Nat) (h : hitAt port off size = none) : s.writeAt port off size v = s := by
  obtain ⟨hlo, hhi⟩ := locate_eq_none_of_hitAt h
  by_cases h8 : size = 8
  · simp [State.writeAt, h8, hlo, s.write4_of_undefined _ (hhi h8)]
  · simp [State.writeAt, h8, s.write4_of_undefined _ hlo]

/-- A read at an undefined offset gives zero (R9). -/
theorem State.readAt_of_undefined (s : State) (h : hitAt port off size = none) : s.readAt port off size = (0, s) := by
  obtain ⟨hlo, hhi⟩ := locate_eq_none_of_hitAt h
  by_cases h8 : size = 8
  · simp [State.readAt, h8, hlo, s.read4_of_undefined (hhi h8)]
  · simp [State.readAt, h8, s.read4_of_undefined hlo]

/-- A write to the low half of a 64-bit register is held (R23). -/
theorem State.write4_low (s : State) (v : Nat) {h : Hit} (hl : locate port off = some h) (hw : h.desc.width = 64)
    (hr : h.rel < 4) : s.write4 port off v = { s with holds := tput s.holds h.key v } := by
  simp [State.write4, hl, hw, hr]

/-- A write to the high half of a 64-bit register takes the low half that is held, or the one that the register has (R23). -/
theorem State.write4_high (s : State) (v : Nat) {h : Hit} (hl : locate port off = some h) (hw : h.desc.width = 64)
    (hr : 4 ≤ h.rel) : s.write4 port off v =
      State.writeReg { s with holds := tdel s.holds h.key } h
        ((tfind s.holds h.key).getD (s.rd h.reg % 2 ^ 32) + v * 2 ^ 32) := by
  simp [State.write4, hl, hw, Nat.not_lt.mpr hr]

/-! ### The cases of an access -/

variable (s : State) (v : Option Nat)

theorem State.access_bad_bar0 (h : badAccess off size = true) :
    s.access .bar0 off size v = bar0BadAccess off v.isSome s := by
  simp [State.access, h]

theorem State.access_bad_bar2 (c : Nat) (h : badAccess off size = true) :
    s.access (.bar2 c) off size v = if v.isNone then s.emit (.read 0) else s := by
  simp [State.access, h]

/-- While the window is closed a read gives zero and a write does nothing (R425, R69). -/
theorem State.access_closed (hb : badAccess off size = false) (ho : s.barOpen port off = false) :
    s.access port off size v = if v.isNone then s.emit (.read 0) else s := by
  simp [State.access, hb, ho]

/-- An access to a block that cannot sleep takes place at once. -/
theorem State.access_awake (hb : badAccess off size = false) (ho : s.barOpen port off = true)
    (hd : (hitAt port off size).bind Hit.domain = none) : s.access port off size v = s.perform ⟨0, port, off, size, v⟩ := by
  unfold hitAt at hd
  simp only [State.access, hb, ho, hd, Bool.false_eq_true, Bool.true_eq_false, if_false]

/-- An access to a block whose domain answers the demand takes place after those that waited for it (R340). -/
theorem State.access_answers {d : Nat} (hb : badAccess off size = false) (ho : s.barOpen port off = true)
    (hd : (hitAt port off size).bind Hit.domain = some d) (ha : (s.demand d).answers d = true) :
    s.access port off size v = (s.demand d).serveParked.perform ⟨d, port, off, size, v⟩ := by
  unfold hitAt at hd
  simp only [State.access, hb, ho, hd, ha, Bool.false_eq_true, Bool.true_eq_false, if_false, if_true]

/-- An access to a block whose domain does not answer waits for its wake (R339, R340). -/
theorem State.access_parks {d : Nat} (hb : badAccess off size = false) (ho : s.barOpen port off = true)
    (hd : (hitAt port off size).bind Hit.domain = some d) (ha : (s.demand d).answers d = false) :
    s.access port off size v = { s.demand d with parked := (s.demand d).parked ++ [⟨d, port, off, size, v⟩] } := by
  unfold hitAt at hd
  simp only [State.access, hb, ho, hd, ha, Bool.false_eq_true, Bool.true_eq_false, if_false]

end

/-! ### The commands -/

section
variable {port : RegPort} {off size v : Nat} (s : State)

theorem exec_registerWrite_access (hp : portOk port off size = true) (hv : v < 2 ^ (8 * size)) :
    exec (.registerWrite port off size v) s = .next (s.access port off size (some v)) :=
  exec_registerWrite s port off size v (by simp [Instr.wellFormed, hp, hv])

theorem exec_registerRead_access (hp : portOk port off size = true) :
    exec (.registerRead port off size) s = .next (s.access port off size none) :=
  exec_registerRead s port off size (by simpa [Instr.wellFormed] using hp)

end

/-- Settles O53: each clause is one case of `State.access`, or of the write of half a 64-bit register. -/
theorem registerAccess : Obligations.RegisterAccess := by
  refine ⟨fun s off size v hv => ⟨fun hb hp => ?_, fun c hb hp => ?_⟩, fun s port off size v hp hb hv => ?_,
    fun s port off v h hl hw => ⟨s.write4_low v hl hw, fun hr low hf => ?_, fun hr hf => ?_⟩⟩
  · simp [exec_registerWrite_access s hp hv, exec_registerRead_access s hp, State.access_bad_bar0 s _ hb]
  · simp [exec_registerWrite_access s hp hv, exec_registerRead_access s hp, State.access_bad_bar2 s _ c hb]
  · simp only [exec_registerWrite_access s hp hv, exec_registerRead_access s hp, Host.Outcome.next.injEq]
    refine ⟨fun ho => ?_, fun ho hn => ?_, fun ho hd => ?_, fun d ho hd => ⟨fun ha => ?_, fun ha => ?_⟩⟩
    · simp [State.access_closed s _ hb ho]
    · have hd : (hitAt port off size).bind Hit.domain = none := by rw [hitAt, hn]; rfl
      simp [State.access_awake s _ hb ho hd, State.perform, s.writeAt_of_undefined v hn, s.readAt_of_undefined hn]
    · simp [State.access_awake s _ hb ho hd, State.perform]
    · simp [State.access_answers s _ hb ho hd ha, State.perform]
    · simp [State.access_parks s _ hb ho hd ha]
  · rw [s.write4_high v hl hw hr, hf, Option.getD_some]
  · rw [s.write4_high v hl hw hr, hf, Option.getD_none]

end Sys2Proof.Machine

/-! ## The state after reset (R9, R29, R328, R422) -/

namespace Sys2Proof.Machine

/-- After reset a register holds the reset value that its table gives. -/
theorem State.rd_reset (r : Reg) : State.reset.rd r = r.reset := (rfl)

/-- After reset every domain is ON. -/
theorem State.domOn_reset (d : Nat) : State.reset.domOn d = true := by
  have hstate : State.reset.get (F.PMC_DOM_STATE_STATE d) = bits (domStateReset d) 1 0 := rfl
  rw [State.domOn, hstate, domStateReset]
  split <;> decide

/-- After reset every domain is on FIO: the three registers of Table 2.10 hold a one for each of the 93 domains (R29). -/
theorem State.onFio_reset {d : Nat} (hd : d ≤ 92) : State.reset.onFio d = true := by
  have h0 : State.reset.get F.CLK_ONFIO0_ONFIO = 2 ^ 32 - 1 := by decide
  have h1 : State.reset.get F.CLK_ONFIO1_ONFIO = 2 ^ 32 - 1 := by decide
  have h2 : State.reset.get F.CLK_ONFIO2_ONFIO = 2 ^ 29 - 1 := by decide
  rw [State.onFio, State.getBit, onFioFld]
  split_ifs with h32 h64
  · rw [h0, bit_two_pow_sub_one, decide_eq_true]; omega
  · rw [h1, bit_two_pow_sub_one, decide_eq_true]; omega
  · rw [h2, bit_two_pow_sub_one, decide_eq_true]; omega

/-- Settles O57: the registers hold nothing but their reset values and every list of the state is empty. -/
theorem resetState : Obligations.ResetState := by
  refine ⟨State.rd_reset, fun _ _ => rfl, fun _ _ => rfl, fun _ _ => rfl, rfl, rfl, rfl, rfl,
    fun d hd => ⟨State.domOn_reset d, State.onFio_reset hd⟩, ?_⟩
  decide

end Sys2Proof.Machine

/-! ## The verdict of an item (R18, R51)

Each function of `Machine/Items.lean` gets its equation for the case in which it acts; the obligation is these equations. -/

namespace Sys2Proof.Machine

/-! ### Composition (R51) -/

theorem mem_rangeFrom {a n k : Nat} : k ∈ rangeFrom a n ↔ a ≤ k ∧ k < a + n := by
  induction n generalizing a with
  | zero => simp [rangeFrom]
  | succ n ih => rw [rangeFrom, List.mem_cons, ih]; omega

/-- The first `nscores` scores lie within their limits. -/
def VerdictRule.Within (v : VerdictRule) (l : List Int) : Prop :=
  ∀ n < v.nscores, v.low.getD n 0 ≤ l.getD n 0 ∧ l.getD n 0 ≤ v.high.getD n 0

theorem VerdictRule.judge_of_within {v : VerdictRule} {l : List Int} (h : v.Within l) : v.judge l = 0 := by
  refine if_pos (List.all_eq_true.mpr fun k hk => ?_)
  obtain ⟨-, hlt⟩ := mem_rangeFrom.mp hk
  simpa using h k (by omega)

theorem VerdictRule.judge_of_not_within {v : VerdictRule} {l : List Int} (h : ¬ v.Within l) : v.judge l = v.failResult := by
  refine if_neg fun hall => h fun n hn => ?_
  simpa using List.all_eq_true.mp hall n (mem_rangeFrom.mpr (by omega))

theorem VerdictRule.not_within_of_outside {v : VerdictRule} {l : List Int}
    (h : ∃ n < v.nscores, l.getD n 0 < v.low.getD n 0 ∨ v.high.getD n 0 < l.getD n 0) : ¬ v.Within l := by
  obtain ⟨n, hn, hout⟩ := h
  intro hin
  have hlimits := hin n hn
  omega

section
variable {s : State} {e : HostEnv} {c id : Nat} {i : Item} {p : Plan}

/-- An item with a slot that has not been composed is composed by the first verdict rule of its class. -/
theorem State.composeItem_of_rule {v : VerdictRule} (hslot : i.slot.isSome = true) (hnew : i.composed = none)
    (hrule : p.img.verdicts.find? (fun v => v.cls == i.cls) = some v) : s.composeItem e p i = s.compose e p i v := by
  simp [State.composeItem, Option.isNone_eq_false_iff.mpr hslot, hnew, hrule]

theorem verdictCompose_in_window (hitem : s.item? c id = some i) (hplan : s.itemPlan i = some p)
    (hlo : i.beat + p.img.lat ≤ s.beat + 7) (hhi : s.beat < i.beat + p.img.lat) :
    verdictCompose c id e s = s.composeItem e p i := by
  simp [verdictCompose, hitem, hplan, hlo, hhi]

/-! ### The record in beat b + L (R18) -/

/-- ITEM_VERDICT names the first due item of its context: the item as composition leaves it gets its verdict. -/
theorem itemVerdict_of_first_due {j : Item} (hdue : s.items.find? (fun i => i.c == c && s.verdictDue i) = some i)
    (hid : i.id = id) (hplan : s.itemPlan i = some p) (hitem : (s.composeItem e p i).item? c id = some j) :
    itemVerdict c id e s = (s.composeItem e p i).issueVerdict j p := by
  simp [itemVerdict, hdue, hid, hplan, hitem]

/-- No item with the context and ID of the one that got its verdict is left. -/
theorem State.issueVerdict_ends_item {k : Item} (hk : k ∈ (s.issueVerdict i p).items) : ¬ (k.c = i.c ∧ k.id = i.id) := by
  have hkeep := (List.mem_filter.mp hk).2
  rw [not_and_or]
  simpa using hkeep

end

/-! ### The result, in the order of the codes that replace the composer's (R51) -/

section
variable {i : Item}

theorem Item.result_not_inspected (h : i.slot = none) : i.result = 4 := by simp [Item.result, h]

variable (hslot : i.slot ≠ none)
include hslot

theorem Item.result_faulted (hf : i.faulted = true) : i.result = 5 := by simp [Item.result, hslot, hf]

theorem Item.result_incomplete (hf : i.faulted = false) (hi : i.incomplete = true) : i.result = 6 := by
  simp [Item.result, hslot, hf, hi]

theorem Item.result_composed (hf : i.faulted = false) (hi : i.incomplete = false) {w : Composed} (hw : i.composed = some w) :
    i.result = w.result := by
  simp [Item.result, hslot, hf, hi, hw]

end

/-- Settles O21: both commands are well formed, so each clause is one equation above. -/
theorem Settled.itemVerdict : Obligations.ItemVerdict := by
  refine ⟨?compose, ?verdict, fun _ _ _ _ => State.issueVerdict_ends_item, ?result, ?judge⟩
  case compose =>
    intro s c id e i p v hc hid he hitem hplan hlo hhi hslot hnew hrule
    rw [exec_verdictCompose s c id e (by simpa [Instr.wellFormed, hc, he] using hid),
      verdictCompose_in_window hitem hplan hlo hhi, State.composeItem_of_rule hslot hnew hrule]
  case verdict =>
    intro s c id e i j p hc hid he hdue hname hplan hitem
    rw [exec_itemVerdict s c id e (by simpa [Instr.wellFormed, hc, he] using hid),
      itemVerdict_of_first_due hdue hname hplan hitem]
  case result =>
    exact fun i => ⟨Item.result_not_inspected, Item.result_faulted, Item.result_incomplete,
      fun _ hslot hf hi => Item.result_composed hslot hf hi⟩
  case judge =>
    exact fun v l => ⟨VerdictRule.judge_of_within, fun hout =>
      VerdictRule.judge_of_not_within (VerdictRule.not_within_of_outside hout)⟩

end Sys2Proof.Machine

/-! ## Fields of a register and tables of the state

Rules that the three sections below share, beside those of `Laws`: fields of one register, a bit of a field, and tables read
after a write. -/

namespace Sys2Proof.Machine

/-- Numbers that agree in every bit of `[hi:lo]` have the same field there. -/
theorem bits_congr {x y hi lo : Nat} (h : ∀ n, lo ≤ n → n ≤ hi → bit x n = bit y n) : bits x hi lo = bits y hi lo := by
  refine Nat.eq_of_testBit_eq fun n => ?_
  rw [← bit_eq_testBit, ← bit_eq_testBit, bit_bits, bit_bits]
  by_cases hn : n < hi + 1 - lo
  · rw [h (lo + n) (by omega) (by omega)]
  · simp [hn]

/-- A field keeps its value when another field of its register is written. -/
theorem State.get_put_disjoint (s : State) {f g : Fld} (v : Nat) (hreg : g.reg = f.reg) (hf : f.lo ≤ f.hi)
    (hg : g.hi < g.reg.width) (hdis : g.hi < f.lo ∨ f.hi < g.lo) : (s.put f v).get g = s.get g := by
  rw [State.get, State.get, State.put, hreg, State.rd_wr_same]
  rw [hreg] at hg
  refine bits_congr fun n hlo hhi => ?_
  have hn : n < f.reg.width := by omega
  rw [bit_eq_testBit, Nat.testBit_mod_two_pow, ← bit_eq_testBit, bit_putBits_outside hf (by omega)]
  simp [hn]

/-- A bit of a field reads back what was written to it. -/
theorem State.getBit_putBit_same (s : State) (f : Fld) {n : Nat} (b : Bool) (hf : f.lo ≤ f.hi) (hw : f.hi < f.reg.width)
    (hn : n < f.hi + 1 - f.lo) : (s.putBit f n b).getBit f n = b := by
  rw [State.getBit, State.putBit, State.get_put_same _ _ _ hf hw, bit_eq_testBit, Nat.testBit_mod_two_pow, ← bit_eq_testBit,
    bit_putBits_inside le_rfl le_rfl]
  cases b <;> simp [hn, b2n, bit]

theorem State.get_putBit_ne (s : State) {f g : Fld} (n : Nat) (b : Bool) (h : g.reg.key ≠ f.reg.key) :
    (s.putBit f n b).get g = s.get g :=
  s.get_put_ne _ h

@[simp] theorem State.plan?_setPlan_ne (s : State) {c h m : Nat} (p : Plan) (hm : m ≠ h) :
    (s.setPlan c h p).plan? c m = s.plan? c m :=
  tfind_tput_ne _ _ (by omega)

@[simp] theorem State.port_setPort_same (s : State) (p : Nat) (x : EvpPort) : (s.setPort p x).port p = x :=
  tget_tput_same _ _ _ _

@[simp] theorem State.dom_setDom_same (s : State) (d : Nat) (x : Dom) : (s.setDom d x).dom d = x :=
  tget_tput_same _ _ _ _

@[simp] theorem State.get_setPort (s : State) (p : Nat) (x : EvpPort) (f : Fld) : (s.setPort p x).get f = s.get f := (rfl)

@[simp] theorem State.get_setDom (s : State) (d : Nat) (x : Dom) (f : Fld) : (s.setDom d x).get f = s.get f := (rfl)

end Sys2Proof.Machine

/-! ## The beat boundary (R34, R35, R58, R62, R64) -/

namespace Sys2Proof.Machine

section
variable {s : State} {e : BeatEnv}

/-- Before READY only the time moves (R35). -/
theorem beatBoundary_of_not_ready (hr : s.ready = false) :
    beatBoundary e s = { s with time := (s.time / 500 + 1) * 500 } :=
  if_neg (Bool.eq_false_iff.mp hr)

/-- From READY the beat-locked work runs at the new time, then the copies of device time are compared (R34). -/
theorem beatBoundary_of_ready (hr : s.ready = true) :
    beatBoundary e s = (State.beatWork { s with time := (s.time / 500 + 1) * 500 } e).compareTimes e.timeDiff :=
  if_pos hr

theorem State.compareTimes_agree : s.compareTimes [] = s := (rfl)

theorem State.compareTimes_differ (d : Nat) (l : List Nat) : s.compareTimes (d :: l) = s.fireDetector 0x13 d := (rfl)

end

/-! ### A plan that starts (R58, R62) -/

/-- A Herd plan that starts on a member has its encoder offset set (R385). -/
def State.offsetDue (s : State) (p : Plan) : State :=
  if p.whole.isHerd && s.herdState == 2 then s.onHerd (fun x => { x with ofsDue := true }) else s

section
variable {s : State} {c h : Nat} {p : Plan}

@[simp] theorem State.offsetDue_plan? (m : Nat) : (s.offsetDue p).plan? c m = s.plan? c m := by
  unfold State.offsetDue; split <;> rfl

@[simp] theorem State.offsetDue_mem : (s.offsetDue p).mem = s.mem := by unfold State.offsetDue; split <;> rfl

@[simp] theorem State.offsetDue_items : (s.offsetDue p).items = s.items := by unfold State.offsetDue; split <;> rfl

theorem State.drainPlan_of_running {m k : Nat} {cancel : Bool} {old : Plan} (hold : s.plan? c m = some old)
    (hrun : old.phase = .running) :
    s.drainPlan c m k cancel = s.setPlan c m { old with phase := .draining, stop := k, cancel := cancel } := by
  rw [State.drainPlan, State.onPlan_some _ _ hold, if_pos hrun]

/-- A plan that replaces none becomes RUNNING. -/
theorem State.startPlan_alone (hswap : p.armedSwap = false ∨ p.partner = none) :
    s.startPlan c h p = (s.setPlan c h { p with phase := .running, armedSwap := false }).offsetDue p := by
  rcases hswap with hswap | hswap <;> simp [State.startPlan, State.offsetDue, hswap]

/-- At a swap the old plan drains from the new one's start and hands over its class gaps (R64). -/
theorem State.startPlan_swap {m : Nat} {old : Plan} (hm : m < 4) (hswap : p.armedSwap = true) (hpart : p.partner = some m)
    (hold : s.plan? c m = some old) : s.startPlan c h p =
      ((s.drainPlan c m p.start false).setPlan c h
        { p with phase := .running, armedSwap := false, lastTake := old.lastTake }).offsetDue p := by
  simp [State.startPlan, State.offsetDue, hswap, hpart, hm, hold]

end

/-- Settles O22: BEAT_BOUNDARY is well formed for a list of dies, and a plan that starts has or has not a plan to replace. -/
theorem Settled.beatBoundary : Obligations.BeatBoundary := by
  refine ⟨?boundary, ?alone, ?swap⟩
  case boundary =>
    intro s e hdies u
    rw [exec_beatBoundary s e (by simpa [Instr.wellFormed] using hdies)]
    refine ⟨fun hr => ?_, fun hr hsame => ?_, fun d l hr hdiff => ?_⟩
    · rw [beatBoundary_of_not_ready hr]
    · rw [beatBoundary_of_ready hr, hsame, State.compareTimes_agree]
    · rw [beatBoundary_of_ready hr, hdiff, State.compareTimes_differ]
  case alone =>
    intro s c h p hswap
    rw [State.startPlan_alone hswap]
    exact ⟨_, (State.offsetDue_plan? h).trans (State.plan?_setPlan_same _ c h _), rfl, rfl, rfl, by simp, by simp⟩
  case swap =>
    intro s c h m p old _ hm hne hswap hpart hold hrun
    rw [State.startPlan_swap hm hswap hpart hold, State.drainPlan_of_running hold hrun]
    exact ⟨_, (State.offsetDue_plan? h).trans (State.plan?_setPlan_same _ c h _), rfl, rfl, by simp [hne]⟩

end Sys2Proof.Machine

/-! ## Event ports (R40, R43, R45, R46, R120 to R122, R145 to R147) -/

namespace Sys2Proof.Machine

/-! ### EVP_CONFIG and EVP_MASK_LOAD (R147) -/

/-- A command whose read succeeds works on the bytes. -/
theorem State.withRead_of_ok {s s1 : State} {e : HostEnv} {c dva n : Nat} {b : Bytes} (f : Bytes → State → CmdOut)
    (hread : s.cmdRead e c dva n = (.ok b, s1)) : s.withRead e c dva n f = f b s1 := by
  simp [State.withRead, hread]

section
variable {s s1 : State} {c : Nat} {e : HostEnv} {k : Cmd} {b : Bytes}

theorem cmdEvpDisable_frees (hp : pf k.par 8 1 ≤ 3) (hsel : pf k.par 9 1 ≤ 2) (hlen : pf k.par 24 4 = 0)
    (huse : s.portInUse (pf k.par 8 1) = false) : cmdEvpDisable k s = okay (s.portDisable (pf k.par 8 1)) := by
  simp [cmdEvpDisable, Nat.not_lt.mpr hp, Nat.not_lt.mpr hsel, hlen, huse]

/-- A port that a live plan uses stays. -/
theorem cmdEvpDisable_of_in_use (hp : pf k.par 8 1 ≤ 3) (hsel : pf k.par 9 1 ≤ 2) (hlen : pf k.par 24 4 = 0)
    (huse : s.portInUse (pf k.par 8 1) = true) : cmdEvpDisable k s = refuse s stBadState := by
  simp [cmdEvpDisable, Nat.not_lt.mpr hp, Nat.not_lt.mpr hsel, hlen, huse]

/-- A block that was read is used when its fields are in range, else refused. -/
theorem evpBlock_of_read (f : Nat → State → CmdOut) (hp : pf k.par 8 1 ≤ 3) (hsel : pf k.par 9 1 ≤ 2)
    (halign : pf k.par 16 8 % 64 = 0) (hlen : pf k.par 24 4 = 1024) (huse : s.portInUse (pf k.par 8 1) = false)
    (hread : s.cmdRead e c (pf k.par 16 8) 1024 = (.ok b, s1)) :
    evpBlock c e k s f =
      if blockOk { EvpPort.init with blk := leNat b } then f (leNat b) s1 else refuse s1 stBadParam := by
  simp [evpBlock, Nat.not_lt.mpr hp, Nat.not_lt.mpr hsel, halign, hlen, huse, State.withRead_of_ok _ hread]

theorem cmdEvpMaskLoad_loads (hp : pf k.par 8 1 ≤ 3) (hop : pf k.par 9 1 ≤ 1) (halign : pf k.par 16 8 % 64 = 0)
    (hon : s.portOn (pf k.par 8 1) = true) (huse : s.portInUse (pf k.par 8 1) = false)
    (hlen : pf k.par 24 4 = ceilDiv ((s.port (pf k.par 8 1)).width * (s.port (pf k.par 8 1)).height) 8)
    (hread : s.cmdRead e c (pf k.par 16 8) (pf k.par 24 4) = (.ok b, s1)) :
    cmdEvpMaskLoad c e k s = okay (s1.loadMask (pf k.par 8 1) (pf k.par 9 1) b) := by
  rw [hlen] at hread
  simp [cmdEvpMaskLoad, Nat.not_lt.mpr hp, Nat.not_lt.mpr hop, halign, hon, huse, hlen, State.withRead_of_ok _ hread]

end

/-! ### Packets and lanes (R120 to R122) -/

/-- A port hears packets: it is enabled and its lanes' domain is ON. -/
def State.portHears (s : State) (p : Nat) : Bool := s.portOn p && s.domOn (29 + p)

section
variable {s : State} {p : Nat} {k : CsiPacket}

theorem csiLong_of_deaf (h : s.portHears p = false) : csiLong p k s = s :=
  if_neg (Bool.eq_false_iff.mp h)

theorem csiShort_of_deaf (h : s.portHears p = false) : csiShort p k s = s := by
  unfold State.portHears at h
  simp [csiShort, h]

variable (h : s.portHears p = true)
include h

/-- A packet whose header cannot be corrected, or names another channel or data type, is counted and dropped (R121). -/
theorem csiLong_wrong_header
    (hk : 2 ≤ k.ecc ∨ (k.ecc = 0 ∧ (k.vc ≠ (s.port p).flag 9 8 ∨ k.dt < 0x30 ∨ 0x38 ≤ k.dt))) :
    csiLong p k s = s.evpCount p 3 := by
  have hecc : k.ecc ≠ 1 := by omega
  refine (if_pos h).trans ?_
  simp only [hecc, if_false]
  refine if_pos ?_
  rcases hk with hk | ⟨-, hk | hk | hk⟩ <;> simp [hk]

/-- A packet whose header is right is dropped whole with a wrong CRC, else its words are taken in order (R122). -/
theorem csiLong_right_header (hecc : k.ecc = 0) (hvc : k.vc = (s.port p).flag 9 8) (hlo : 0x30 ≤ k.dt) (hhi : k.dt < 0x38)
    (htype : bit ((s.port p).flag 23 16) (k.dt - 0x30) = true) (hlen : k.payload.length % 4 = 0) : csiLong p k s =
    if k.crcOk = false then ((s.evpCount p 4).raiseEvp 1).setPort p { s.port p with crcWait := true, gap := true }
    else (payloadWords (k.payload.length / 4) k.payload).foldl (fun t w => t.csiWord p w) s := by
  refine (if_pos h).trans ?_
  simp [hecc, hvc, Nat.not_lt.mpr hlo, Nat.not_le.mpr hhi, htype, hlen]

theorem csiShort_eq : csiShort p k s = if k.ecc = 1 then s.evpCount p 5 else s := by
  unfold State.portHears at h
  simp [csiShort, h]

end

section
variable (s : State) (p v : Nat)

@[simp] theorem State.phyState_put_lanes :
    (s.put (F.EVP_P_PHY_LANES p) v).get (F.EVP_P_PHY_STATE p) = s.get (F.EVP_P_PHY_STATE p) :=
  s.get_put_disjoint v rfl (by simp [F.EVP_P_PHY_LANES]) (by simp [F.EVP_P_PHY_STATE, R.EVP_P_PHY]) (.inl Nat.one_lt_two)

@[simp] theorem State.phyState_put_deskew :
    (s.put (F.EVP_P_PHY_DESKEW p) v).get (F.EVP_P_PHY_STATE p) = s.get (F.EVP_P_PHY_STATE p) :=
  s.get_put_disjoint v rfl le_rfl (by simp [F.EVP_P_PHY_STATE, R.EVP_P_PHY]) (by simp [F.EVP_P_PHY_STATE, F.EVP_P_PHY_DESKEW])

@[simp] theorem State.phyLanes_put_deskew :
    (s.put (F.EVP_P_PHY_DESKEW p) v).get (F.EVP_P_PHY_LANES p) = s.get (F.EVP_P_PHY_LANES p) :=
  s.get_put_disjoint v rfl le_rfl (by simp [F.EVP_P_PHY_LANES, R.EVP_P_PHY]) (by simp [F.EVP_P_PHY_LANES, F.EVP_P_PHY_DESKEW])

end

/-- What the lanes do shows in the port's register and in EVP_STATUS (R120). -/
theorem dphyState_shows {s : State} {p st lanes : Nat} {deskew : Bool} (hp : p < 4) (hst : st < 4) (hlanes : lanes < 5)
    (hon : s.domOn (29 + p) = true) :
    (dphyState p st lanes deskew s).get (F.EVP_P_PHY_STATE p) = st ∧
    (dphyState p st lanes deskew s).get (F.EVP_P_PHY_LANES p) = lanes ∧
    (dphyState p st lanes deskew s).get (F.EVP_P_PHY_DESKEW p) = b2n deskew ∧
    (dphyState p st lanes deskew s).getBit F.EVP_STATUS_HS p = (st == 2) ∧
    (dphyState p st lanes deskew s).mem = s.mem ∧ (dphyState p st lanes deskew s).ports = s.ports := by
  have hkey : (R.EVP_P_PHY p).key ≠ R.EVP_STATUS.key := by simp [R.EVP_P_PHY, R.EVP_STATUS]; omega
  have hwidth : (R.EVP_P_PHY p).width = 32 := rfl
  rw [dphyState, if_pos hon]
  refine ⟨?stateField, ?lanesField, ?skewField, State.getBit_putBit_same _ _ _ (by decide) (by decide) hp, by simp, by simp⟩
  case stateField =>
    rw [State.get_putBit_ne _ _ _ hkey, State.phyState_put_deskew, State.phyState_put_lanes,
      State.get_put_same _ (F.EVP_P_PHY_STATE p) _ (Nat.zero_le _) (by simp [F.EVP_P_PHY_STATE, hwidth])]
    exact Nat.mod_eq_of_lt hst
  case lanesField =>
    rw [State.get_putBit_ne _ _ _ hkey, State.phyLanes_put_deskew,
      State.get_put_same _ (F.EVP_P_PHY_LANES p) _ (by simp [F.EVP_P_PHY_LANES]) (by simp [F.EVP_P_PHY_LANES, hwidth])]
    exact Nat.mod_eq_of_lt (hlanes.trans (by simp [F.EVP_P_PHY_LANES]))
  case skewField =>
    rw [State.get_putBit_ne _ _ _ hkey,
      State.get_put_same _ (F.EVP_P_PHY_DESKEW p) _ le_rfl (by simp [F.EVP_P_PHY_DESKEW, hwidth])]
    cases deskew <;> rfl

/-! ### The mapper (R40, R43, R46) -/

section
variable {s : State} {p : Nat}

/-- A mapper that runs and heard nothing for 1,024 µs leaves LOCKED or starts over (R43). -/
theorem mapperSilent_desyncs (hrun : s.get (F.CLK_SMAP_STATE_STATE p) = 1 ∨ s.get (F.CLK_SMAP_STATE_STATE p) = 2)
    (hlate : (s.port p).mapper.tick + 102400 ≤ s.time) :
    mapperSilent p s = (s.setMapper p { (s.port p).mapper with tick := s.time }).desync p 3 := by
  simp [mapperSilent, hrun, hlate]

theorem mapperSilent_stays (h : (s.get (F.CLK_SMAP_STATE_STATE p) ≠ 1 ∧ s.get (F.CLK_SMAP_STATE_STATE p) ≠ 2) ∨
    s.time < (s.port p).mapper.tick + 102400) : mapperSilent p s = s := by
  refine if_neg ?_
  simp only [Bool.and_eq_true, Bool.or_eq_true, decide_eq_true_eq]
  omega

theorem mapperWindowClose_stays (h : (s.get (F.CLK_SMAP_STATE_STATE p) ≠ 1 ∧ s.get (F.CLK_SMAP_STATE_STATE p) ≠ 2) ∨
    (s.port p).mapper.restart = true ∨ (s.port p).mapper.s < (s.port p).mapper.win + 992) : mapperWindowClose p s = s := by
  refine if_neg ?_
  simp only [Bool.and_eq_true, Bool.or_eq_true, Bool.not_eq_true', decide_eq_true_eq]
  rintro ⟨⟨hrun, hrestart⟩, hend⟩
  rcases h with hstop | hrestart' | hearly
  · omega
  · simp [hrestart'] at hrestart
  · omega

/-- The points that a window is fitted to: its least observation, at sensor time `y` and device time `t`, and those before. -/
def Mapper.fitted (m : Mapper) (y t : Nat) : List (Nat × Nat) := ((y, t) :: m.mins).take 16

/-- The mapping taken at the end of a window (R40, R46). -/
def State.remap (s : State) (p y t : Nat) : State :=
  let m := (s.port p).mapper
  let d := driftOf (fitSlope (m.fitted y t))
  let off : Int := (t : Int) - mapTime 0 d y
  ((s.wr (R.CLK_SMAP_OFFSET p) (uint 64 off)).wr (R.CLK_SMAP_DRIFT p) (uint 32 d)).setMapper p
    { m with mins := m.fitted y t, least := none, win := m.win + 1024, maps := ((m.win + 1024, off, d) :: m.maps).take 4 }

theorem State.remap_goodWin (y t : Nat) :
    (s.remap p y t).get (F.CLK_SMAP_STATE_GOOD_WIN p) = s.get (F.CLK_SMAP_STATE_GOOD_WIN p) := by
  have hoff : (R.CLK_SMAP_STATE p).key ≠ (R.CLK_SMAP_OFFSET p).key := by simp [R.CLK_SMAP_STATE, R.CLK_SMAP_OFFSET]
  have hdrift : (R.CLK_SMAP_STATE p).key ≠ (R.CLK_SMAP_DRIFT p).key := by simp [R.CLK_SMAP_STATE, R.CLK_SMAP_DRIFT]
  exact (State.get_wr_ne _ _ hdrift).trans (State.get_wr_ne _ _ hoff)

/-- A window that closes while acquiring, its drift in range, counts as good; the sixteenth locks the mapper (R43, R46). -/
theorem mapperWindowClose_acquiring {y t : Nat} {o : Int} (hst : s.get (F.CLK_SMAP_STATE_STATE p) = 1)
    (hrestart : (s.port p).mapper.restart = false) (hend : (s.port p).mapper.win + 992 ≤ (s.port p).mapper.s)
    (hleast : (s.port p).mapper.least = some (o, y, t))
    (hhi : driftOf (fitSlope ((s.port p).mapper.fitted y t)) ≤ 200000)
    (hlo : -200000 ≤ driftOf (fitSlope ((s.port p).mapper.fitted y t))) :
    mapperWindowClose p s =
      let g := min 16 (s.get (F.CLK_SMAP_STATE_GOOD_WIN p) + 1)
      let u := (s.remap p y t).put (F.CLK_SMAP_STATE_GOOD_WIN p) g
      if g = 16 then (u.put (F.CLK_SMAP_STATE_STATE p) 2).putBit F.EVP_STATUS_LOCKED p true else u := by
  rw [← State.remap_goodWin y t]
  refine (if_pos (by simp [hst, hrestart, hend])).trans ?_
  simp only [hleast]
  refine (if_neg ?_).trans (if_pos hst)
  simp only [Bool.or_eq_true, decide_eq_true_eq, gt_iff_lt, not_or, not_lt]
  exact ⟨hhi, hlo⟩

end

/-! ### Leaving LOCKED (R43, R45) -/

/-- The work that a port abandons as it leaves LOCKED: the items that need it are INCOMPLETE, its tracks are gone (R45). -/
def State.dropPortWork (s : State) (p : Nat) : State :=
  let s := s.incompleteItems (fun i => i.slot.isSome && s.itemNeeds p (s.port p).mapper.good i)
  let s := s.builders.foldl (fun s b =>
    if b.port = p then s.incompleteItems (fun i => i.c == b.run.c && i.id == b.run.n) else s) s
  s.setPort p { s.port p with tracks := [], prevMark := [] }

theorem State.portUnlock_eq (s : State) (p : Nat) :
    s.portUnlock p = ((s.dropPortWork p).putBit F.EVP_STATUS_LOCKED p false).clearSurface p := (rfl)

section
variable (s : State) (p : Nat)

/-- The builders' items are all that the fold over them changes. -/
theorem State.dropPortWork_keeps {α : Type} (g : State → α) (hitems : ∀ t f, g (State.incompleteItems t f) = g t)
    (hport : ∀ t x, g (State.setPort t p x) = g t) : g (s.dropPortWork p) = g s := by
  refine (hport _ _).trans ((foldl_keeps g _ (fun t b => ?_) _ _).trans (hitems _ _))
  split
  · exact hitems _ _
  · rfl

theorem State.portUnlock_mem : (s.portUnlock p).mem = s.mem := by
  rw [State.portUnlock_eq]
  exact s.dropPortWork_keeps p State.mem (fun _ _ => rfl) (fun _ _ => rfl)

theorem State.portUnlock_tracks : ((s.portUnlock p).port p).tracks = [] := by
  rw [State.portUnlock_eq, State.clearSurface, State.port_setPort_same]
  exact congrArg EvpPort.tracks (State.port_setPort_same _ p _)

@[simp] theorem State.get_clearSurface (f : Fld) : (s.clearSurface p).get f = s.get f := (rfl)

theorem State.get_portUnlock {f : Fld} (hf : f.reg.key ≠ R.EVP_STATUS.key) : (s.portUnlock p).get f = s.get f := by
  rw [State.portUnlock_eq, State.get_clearSurface, State.get_putBit_ne _ _ _ hf]
  exact s.dropPortWork_keeps p (State.get · f) (fun _ _ => rfl) (fun _ _ => rfl)

theorem State.portUnlock_clears_locked (hp : p < 4) : (s.portUnlock p).getBit F.EVP_STATUS_LOCKED p = false := by
  rw [State.portUnlock_eq, State.getBit, State.get_clearSurface, ← State.getBit]
  exact State.getBit_putBit_same _ _ _ (by decide) (by decide) hp

theorem State.desync_of_locked {reason : Nat} (h : s.locked p = true) : s.desync p reason =
    (((s.put (F.CLK_SMAP_STATE_STATE p) 3).put (F.CLK_SMAP_STATE_REASON p) reason).incSat
      (F.CLK_SMAP_CNT_DESYNC_CNT p)).portUnlock p :=
  if_pos h

@[simp] theorem State.smapState_put_reason (v : Nat) :
    (s.put (F.CLK_SMAP_STATE_REASON p) v).get (F.CLK_SMAP_STATE_STATE p) = s.get (F.CLK_SMAP_STATE_STATE p) :=
  s.get_put_disjoint v rfl (by simp [F.CLK_SMAP_STATE_REASON]) (by simp [F.CLK_SMAP_STATE_STATE, R.CLK_SMAP_STATE])
    (by simp [F.CLK_SMAP_STATE_STATE, F.CLK_SMAP_STATE_REASON])

/-- A mapper that loses its lock is in DESYNC, with the reason (R43, R46). -/
theorem State.desync_shows {reason : Nat} (hp : p < 4) (hreason : reason < 4) (h : s.locked p = true) :
    (s.desync p reason).get (F.CLK_SMAP_STATE_STATE p) = 3 ∧
    (s.desync p reason).get (F.CLK_SMAP_STATE_REASON p) = reason := by
  have hstatus : (R.CLK_SMAP_STATE p).key ≠ R.EVP_STATUS.key := by simp [R.CLK_SMAP_STATE, R.EVP_STATUS]; omega
  have hcnt : (R.CLK_SMAP_STATE p).key ≠ (R.CLK_SMAP_CNT p).key := by simp [R.CLK_SMAP_STATE, R.CLK_SMAP_CNT]
  have hwidth : (R.CLK_SMAP_STATE p).width = 32 := rfl
  rw [s.desync_of_locked p h]
  refine ⟨(State.get_portUnlock _ p hstatus).trans ((State.get_put_ne _ _ hcnt).trans ?state),
    (State.get_portUnlock _ p hstatus).trans ((State.get_put_ne _ _ hcnt).trans ?reason)⟩
  case state =>
    rw [State.smapState_put_reason,
      State.get_put_same _ (F.CLK_SMAP_STATE_STATE p) _ (Nat.zero_le _) (by simp [F.CLK_SMAP_STATE_STATE, hwidth])]
    rfl
  case reason =>
    rw [State.get_put_same _ (F.CLK_SMAP_STATE_REASON p) _ (by simp [F.CLK_SMAP_STATE_REASON])
      (by simp [F.CLK_SMAP_STATE_REASON, hwidth])]
    exact Nat.mod_eq_of_lt (hreason.trans (by simp [F.CLK_SMAP_STATE_REASON]))

end

/-- Settles O37: the commands, packets and mapper events are well formed for a port, so each clause is one lemma above. -/
theorem eventPorts : Obligations.EventPorts := by
  refine ⟨?commands, ?packets, ?lanes, ?mapper, ?unlock⟩
  case commands =>
    intro s c q x k e he p
    refine ⟨fun hk hp hlen => ⟨fun huse => ?_, fun huse => ?_⟩,
      fun s1 b hk hp halign hlen huse hread => ⟨fun hok => ?_, fun hbad => ?_⟩,
      fun s1 b hk hp halign hlen huse hread hok => ?_, fun s1 b hk hp hop halign hon huse hlen hread => ?_⟩
    · have hsel : pf k.par 9 1 = 0 := hk.row
      exact exec_evpConfigDisable_answers he hk (cmdEvpDisable_frees hp (by omega) hlen huse)
    · have hsel : pf k.par 9 1 = 0 := hk.row
      exact exec_evpConfigDisable_answers he hk (cmdEvpDisable_of_in_use hp (by omega) hlen huse)
    · have hsel : pf k.par 9 1 = 1 := hk.row
      exact exec_evpConfigEnable_answers he hk
        ((evpBlock_of_read _ hp (by omega) halign hlen huse hread).trans (if_pos hok))
    · have hsel : pf k.par 9 1 = 1 := hk.row
      exact exec_evpConfigEnable_answers he hk
        ((evpBlock_of_read _ hp (by omega) halign hlen huse hread).trans (if_neg (Bool.eq_false_iff.mp hbad)))
    · have hsel : pf k.par 9 1 = 2 := hk.row
      exact exec_evpConfigGroups_answers he hk
        ((evpBlock_of_read _ hp (by omega) halign hlen huse hread).trans (if_pos hok))
    · exact exec_evpMaskLoad_answers he hk (cmdEvpMaskLoad_loads hp hop halign hon huse hlen hread)
  case packets =>
    intro s p k hp
    have hwell : decide (p < 4) = true := decide_eq_true hp
    rw [exec_csi2LongPacket s p k hwell, exec_csi2ShortPacket s p k hwell]
    refine ⟨fun hoff => ?_, fun hon hdom => ?_⟩
    · have hdeaf : s.portHears p = false := Bool.and_eq_false_iff.mpr hoff
      rw [csiLong_of_deaf hdeaf, csiShort_of_deaf hdeaf]
      exact ⟨rfl, rfl⟩
    · have hears : s.portHears p = true := by simp [State.portHears, hon, hdom]
      refine ⟨fun hk => ?_, fun hecc hvc hlo hhi htype hlen => ⟨fun hcrc => ?_, fun hcrc => ?_⟩,
        fun hecc => ?_, fun hecc => ?_⟩
      · rw [csiLong_wrong_header hears hk]
      · rw [csiLong_right_header hears hecc hvc hlo hhi htype hlen, if_pos hcrc]
      · rw [csiLong_right_header hears hecc hvc hlo hhi htype hlen, if_neg (by simp [hcrc])]
      · rw [csiShort_eq hears, if_pos hecc]
      · rw [csiShort_eq hears, if_neg hecc]
  case lanes =>
    intro s p st lanes deskew hp hst hlanes hon
    obtain ⟨hstate, hlane, hskew, hhs, hmem, hports⟩ := dphyState_shows (deskew := deskew) hp hst hlanes hon
    exact ⟨_, exec_dphyStateChange s p st lanes deskew (by simp [Instr.wellFormed, hp, hst, hlanes]), hstate, hlane, hskew,
      by rw [hhs, beq_iff_eq], hmem, hports⟩
  case mapper =>
    intro s p hp m st
    have hwell : decide (p < 4) = true := decide_eq_true hp
    rw [exec_mapperSilent s p hwell, exec_mapperWindowClose s p hwell]
    refine ⟨fun hrun hlate => ?_, fun h => ?_, fun h => ?_, fun o y t hst hrestart hend hleast => ?_⟩
    · rw [mapperSilent_desyncs hrun hlate]
    · rw [mapperSilent_stays h]
    · rw [mapperWindowClose_stays h]
    · intro mins d off u hhi hlo
      rw [mapperWindowClose_acquiring hst hrestart hend hleast hhi hlo]
      refine ⟨fun hgood => ?_, fun hgood => ?_⟩
      · rw [Nat.min_eq_right (by omega)]
        exact congrArg _ (if_neg (by omega))
      · rw [Nat.min_eq_left (by omega)]
        exact congrArg _ (if_pos rfl)
  case unlock =>
    intro s p reason hp hreason hlocked
    obtain ⟨hstate, hshows⟩ := s.desync_shows p hp hreason hlocked
    rw [s.desync_of_locked p hlocked] at hstate hshows ⊢
    exact ⟨hstate, hshows, State.portUnlock_tracks _ p, State.portUnlock_clears_locked _ p hp,
      (State.portUnlock_mem _ p).trans (by simp)⟩

end Sys2Proof.Machine

/-! ## Moves of a power domain (R29, R329 to R332, R338 to R340, R349, R430) -/

namespace Sys2Proof.Machine

/-! ### What the domain's record and registers keep -/

section
variable (s : State) (d : Nat)

/-- A domain's record is read from the table of domains and the time of the last device reset. -/
theorem State.dom_congr {t : State} (hdoms : t.doms = s.doms) (hreset : t.resetT = s.resetT) :
    t.dom d = s.dom d := by
  rw [State.dom, State.dom, hdoms, hreset]

@[simp] theorem State.dom_wr (r : Reg) (v : Nat) : (s.wr r v).dom d = s.dom d :=
  s.dom_congr d (s.wr_doms ..) (s.wr_resetT ..)

@[simp] theorem State.dom_put (f : Fld) (v : Nat) : (s.put f v).dom d = s.dom d :=
  s.dom_congr d (s.put_doms ..) (s.put_resetT ..)

@[simp] theorem State.dom_incSat (f : Fld) (n : Nat) : (s.incSat f n).dom d = s.dom d :=
  s.dom_congr d (s.incSat_doms ..) (s.incSat_resetT ..)

@[simp] theorem State.dom_incWrap (f : Fld) (n : Nat) : (s.incWrap f n).dom d = s.dom d :=
  s.dom_congr d (s.incWrap_doms ..) (s.incWrap_resetT ..)

@[simp] theorem State.dom_emit (o : Out) : (s.emit o).dom d = s.dom d := s.dom_congr d (by simp) (by simp)

@[simp] theorem State.dom_signal (fn vec : Nat) : (s.signal fn vec).dom d = s.dom d := by
  unfold State.signal
  split
  · exact State.dom_emit _ _ _
  · rfl

@[simp] theorem State.dom_raise (ev en irq : Reg) (n : Nat) : (s.raise ev en irq n).dom d = s.dom d := by
  unfold State.raise
  dsimp only
  split
  · exact State.dom_signal _ _ _ _
  · rfl

@[simp] theorem State.dom_raisePmc (n : Nat) : (s.raisePmc n).dom d = s.dom d := State.dom_raise ..

@[simp] theorem State.dom_raiseFmu (n : Nat) : (s.raiseFmu n).dom d = s.dom d := State.dom_raise ..

@[simp] theorem State.dom_setFaultLog (l : List (Nat × Bool)) : State.dom { s with faultLog := l } d = s.dom d := (rfl)

@[simp] theorem State.dom_logRoom : s.logRoom.dom d = s.dom d := by
  unfold State.logRoom
  split
  · rfl
  · dsimp only
    rw [apply_ite (State.dom · d)]
    simp

@[simp] theorem State.dom_log (r : LogRec) : (s.log r).dom d = s.dom d := by
  unfold State.log
  dsimp only
  split
  all_goals exact (State.dom_congr s.logRoom d (by simp) (by simp)).trans (s.dom_logRoom d)

@[simp] theorem State.dom_useInjection (det : Nat) : (s.useInjection det).dom d = s.dom d := by
  unfold State.useInjection State.endInjection
  split
  · rfl
  · split
    · exact State.dom_put ..
    · dsimp only
      rw [apply_ite (State.dom · d)]
      simp
    · rfl

/-- A detector's firing is logged and counted, and leaves every domain as it is. -/
@[simp] theorem State.dom_logDet (id site sub : Nat) (run : Option RecRun) (kind : Nat) (masked : Bool) :
    (s.logDet id site sub run kind masked).dom d = s.dom d := by
  simp [State.logDet]

/-- The three residency registers of a domain lie together (R349). -/
theorem resReg_key (st : Nat) : (resReg d st).key = 0x21018 + d * 0x40 + 8 * min st 2 := by
  unfold resReg
  split_ifs <;> simp only [R.PMC_DOM_RES_ON, R.PMC_DOM_RES_RET, R.PMC_DOM_RES_OFF] <;> omega

/-- Only residency registers are written as residency is brought up to date. -/
theorem State.get_accrue {f : Fld} (hf : f.reg.key < 0x21018 + d * 0x40 ∨ 0x21028 + d * 0x40 < f.reg.key) :
    (s.accrue d).get f = s.get f := by
  refine State.get_wr_ne _ _ ?_
  rw [resReg_key]
  omega

/-- The idle timer is no register. -/
@[simp] theorem State.get_touchDom (f : Fld) : (s.touchDom d).get f = s.get f := by
  unfold State.touchDom; split <;> rfl

@[simp] theorem State.touchDom_demand : ((s.touchDom d).dom d).demand = (s.dom d).demand := by
  unfold State.touchDom
  split
  · rfl
  · rw [State.dom_setDom_same]

end

/-! ### Entry (R329 to R332) -/

section
variable {s : State} {d : Nat}

theorem domainIdleTimeout_eq : domainIdleTimeout d s =
    if s.get (F.PMC_DOM_CFG_TARGET d) ≠ 0 ∧ s.domState d = 0 ∧ s.domPhase d = 0 ∧ s.domClaimed d = false ∧
      s.domBusy d = false ∧ s.domDependent d = false ∧
      (s.dom d).idle + 100 * s.get (F.PMC_DOM_CFG_IDLE_US d) ≤ s.time
    then s.startEntry d (s.get (F.PMC_DOM_CFG_TARGET d)) else s :=
  if_congr (by simp [and_assoc]) rfl rfl

theorem domainEntryDone_stays (h : s.domPhase d ≠ 1 ∨ s.time < (s.dom d).t + 500 * domEntry d) : domainEntryDone d s = s :=
  if_pos (by simpa using h)

/-- The domain in the state that its entry led to, where no injection is active: contents lost, on FIO when OFF, counted. -/
def State.entered (s : State) (d : Nat) : State :=
  let u := (((s.accrue d).loseContents d (s.dom d).aim).put (F.PMC_DOM_STATE_STATE d) (s.dom d).aim).put
    (F.PMC_DOM_STATE_PHASE d) 0
  (if (s.dom d).aim = 2 then u.putBit (onFioFld d) (d % 32) true else u).incSat (F.PMC_DOM_CNT_ENTRIES d)

theorem domainEntryDone_enters (hd : d ≤ 92) (hphase : s.domPhase d = 1) (htime : (s.dom d).t + 500 * domEntry d ≤ s.time)
    (hinj : s.on F.FMU_STATUS_INJ_ACTIVE = false) : domainEntryDone d s =
      if (s.dom d).reset = true ∨ (s.dom d).demand = true then (s.entered d).startWake d false
      else (s.entered d).groupMoved d := by
  have hkey : F.FMU_STATUS_INJ_ACTIVE.reg.key < 0x21018 + d * 0x40 ∨ 0x21028 + d * 0x40 < F.FMU_STATUS_INJ_ACTIVE.reg.key := by
    simp only [F.FMU_STATUS_INJ_ACTIVE, R.FMU_STATUS]; omega
  have hinj' : (s.accrue d).on F.FMU_STATUS_INJ_ACTIVE = false := by
    rw [State.on, State.get_accrue _ _ hkey]; exact hinj
  refine (if_neg (by simp [hphase, htime])).trans ?_
  simp only [hinj', Bool.false_and, Bool.false_eq_true, if_false, Bool.or_eq_true]
  rfl

/-! ### Demand and wake (R338 to R340) -/

/-- A demand is held back by a planned window, and one that is made already is not made again (R340). -/
theorem State.demand_held (h : s.on (F.PMC_DOM_STATE_WINDOW d) = true ∨ (s.dom d).demand = true) :
    s.demand d = s.touchDom d := by
  have hwin : (s.touchDom d).on (F.PMC_DOM_STATE_WINDOW d) = s.on (F.PMC_DOM_STATE_WINDOW d) := by simp [State.on]
  refine if_pos ?_
  simpa [hwin] using h

/-- A demand calls a domain that sleeps. -/
theorem State.demand_wakes (hwin : s.on (F.PMC_DOM_STATE_WINDOW d) = false) (hphase : s.domPhase d = 0)
    (hstate : s.domState d ≠ 0) (hdem : (s.dom d).demand = false) : s.demand d = (s.touchDom d).startWake d false := by
  have hwin' : (s.touchDom d).on (F.PMC_DOM_STATE_WINDOW d) = false := by simpa [State.on] using hwin
  have hphase' : (s.touchDom d).domPhase d = 0 := by simpa [State.domPhase] using hphase
  have hstate' : (s.touchDom d).domState d ≠ 0 := by simpa [State.domState] using hstate
  simp [State.demand, State.callDom, hwin', hphase', hstate', hdem]

theorem domainWakeDone_stays (h : s.domPhase d ≠ 2 ∨ s.domState d = 0 ∨ s.time < (s.dom d).t + 500 * ((s.dom d).lead - 1)) :
    domainWakeDone d s = s :=
  if_pos (by simpa [or_assoc] using h)

/-- One beat before its lead the domain is ON, on FIO (R29, R339). -/
theorem domainWakeDone_wakes (hphase : s.domPhase d = 2) (hstate : s.domState d ≠ 0)
    (htime : (s.dom d).t + 500 * ((s.dom d).lead - 1) ≤ s.time) :
    domainWakeDone d s = (s.put (F.PMC_DOM_STATE_STATE d) 0).putBit (onFioFld d) (d % 32) true :=
  if_neg (by simp [hphase, hstate, htime])

/-! ### Clock switch (R29, R339) -/

theorem clkSwitchDone_stays (h : s.domState d ≠ 0 ∨ s.onFio d = false) : clkSwitchDone d s = s := by
  refine if_pos ?_
  rcases h with h | h <;> simp [h]

theorem clkSwitchFail_stays (h : s.domState d ≠ 0 ∨ s.onFio d = false) : clkSwitchFail d s = s := by
  refine if_pos ?_
  rcases h with h | h <;> simp [h]

section
variable (hd : d ≠ 0) (hstate : s.domState d = 0) (hfio : s.onFio d = true) (hstuck : (s.dom d).stuck = false)
include hd hstate hfio hstuck

theorem clkSwitchDone_of_on (hphase : s.domPhase d = 0) :
    clkSwitchDone d s = (s.putBit (onFioFld d) (d % 32) false).endWaits d stOk := by
  simp [clkSwitchDone, hd, hstate, hfio, hstuck, hphase]

/-- A wake ends with the clock switch, at its lead. -/
theorem clkSwitchDone_of_waking (hphase : s.domPhase d = 2) (htime : (s.dom d).t + 500 * (s.dom d).lead ≤ s.time) :
    clkSwitchDone d s = (((s.putBit (onFioFld d) (d % 32) false).endWake d).endWaits d stOk).groupMoved d := by
  simp [clkSwitchDone, hd, hstate, hfio, hstuck, hphase, htime]

/-- A failed switch is counted and fires detector 0x12, and the domain stays on FIO. -/
theorem clkSwitchFail_of_on (hphase : s.domPhase d = 0) : clkSwitchFail d s =
    ((((s.incSat F.CLK_SWFAIL_CNT_SWFAIL).raisePmc 1).logDet 0x12 d d none 1 false).setDom d
      { s.dom d with stuck := true }).endWaits d stFaulted := by
  simp [clkSwitchFail, hd, hstate, hfio, hstuck, hphase]

end

/-! ### Phases -/

theorem State.domPhase_put_phase (s : State) (d : Nat) {v : Nat} (hv : v < 4) :
    (s.put (F.PMC_DOM_STATE_PHASE d) v).domPhase d = v := by
  rw [State.domPhase, State.get_put_same _ (F.PMC_DOM_STATE_PHASE d) _ (by simp [F.PMC_DOM_STATE_PHASE])
    (by simp [F.PMC_DOM_STATE_PHASE, R.PMC_DOM_STATE])]
  exact Nat.mod_eq_of_lt hv

theorem State.domPhase_endWake (s : State) (d : Nat) : (s.endWake d).domPhase d = 0 := by
  have hkey : (R.PMC_DOM_STATE d).key ≠ R.PMC_STATUS.key := by simp [R.PMC_DOM_STATE, R.PMC_STATUS]; omega
  exact (State.get_touchDom _ d _).trans
    ((State.get_put_ne _ _ hkey).trans (State.domPhase_put_phase (s.accrue d) d (by decide)))

theorem State.domPhase_startEntry (s : State) (d aim : Nat) : (s.startEntry d aim).domPhase d = 1 :=
  State.domPhase_put_phase s d (by decide)

/-! ### Domain reset (R430) -/

theorem glbDomrst_wrong_key {key : Nat} (hkey : key ≠ 0xA5) : glbDomrst d key s = s := if_pos hkey

/-- The RESULT of a domain reset that is refused, in the order of the checks; 0 for one that is taken (R430). -/
def State.domrstRefusal (s : State) (d : Nat) : Nat :=
  if 92 < d || domFixed d then 1
  else if s.domClaimed d then 2
  else if domOffers d 2 = false then 3
  else if s.on (F.PMC_DOM_STATE_WINDOW d) then 4
  else if s.on F.GLB_DOMRST_BUSY then 5
  else if s.domDependent d then 6
  else 0

theorem glbDomrst_refused {r : Nat} (h : s.domrstRefusal d = r) (hr : r ≠ 0) :
    glbDomrst d 0xA5 s = s.put F.GLB_DOMRST_RESULT r := by
  subst h
  exact (if_neg (fun h => h rfl)).trans (if_pos (bne_iff_ne.mpr hr))

/-- A domain reset that is taken goes through OFF (R430). -/
theorem glbDomrst_taken (h : s.domrstRefusal d = 0) : glbDomrst d 0xA5 s =
    let w := ((((s.put F.GLB_DOMRST_DOMAIN d).put F.GLB_DOMRST_RESULT 0).put F.GLB_DOMRST_BUSY 1).accrue d).startEntry d 2
    w.setDom d { w.dom d with reset := true } :=
  (if_neg (fun h => h rfl)).trans (if_neg (fun hr => bne_iff_ne.mp hr h))

theorem domainResetDone_stays (h : s.on F.GLB_DOMRST_BUSY = false) : domainResetDone s = s :=
  if_neg (by simp [h])

/-- The reset ends once the domain is ON again, on its functional clock or with a switch that failed (R430). -/
theorem domainResetDone_ends (hdom : s.get F.GLB_DOMRST_DOMAIN = d) (hbusy : s.on F.GLB_DOMRST_BUSY = true)
    (hreset : (s.dom d).reset = true) (hstate : s.domState d = 0) (hphase : s.domPhase d = 0)
    (hclock : (s.dom d).stuck = true ∨ s.onFio d = false) : domainResetDone s =
      (((s.put F.GLB_DOMRST_BUSY 0).put F.GLB_DOMRST_RESULT (if (s.dom d).stuck then 7 else 0)).setDom d
        { s.dom d with reset := false }).raiseGlb 0 := by
  subst hdom
  exact if_pos (by simpa [hbusy, hreset, hstate, hphase] using hclock)

end

/-- Settles O43: the events are well formed for the 93 domains, so each clause is one lemma above. -/
theorem domainMoves : Obligations.DomainMoves := by
  refine ⟨?events, fun s d _ => ⟨State.demand_held, State.demand_wakes⟩,
    fun s d _ => ⟨s.domPhase_endWake d, s.domPhase_startEntry d 2, rfl⟩, ?reset, ?resetDone⟩
  case events =>
    intro s d hd
    have hwell : decide (d < 93) = true := decide_eq_true (by omega)
    rw [exec_domainIdleTimeout s d hwell, exec_domainEntryDone s d hwell, exec_domainDemand s d hwell,
      exec_domainWakeDone s d hwell, exec_clkSwitchDone s d hwell, exec_clkSwitchFail s d hwell]
    refine ⟨?_, fun h => ?_, fun hphase htime hinj => ?_, rfl, fun h => ?_, fun hphase hstate htime => ?_, fun h => ?_,
      fun hne hstate hfio hstuck => ⟨fun hphase => ?_, fun hphase htime => ?_, fun hphase => ?_⟩⟩
    · rw [domainIdleTimeout_eq]
    · rw [domainEntryDone_stays h]
    · exact congrArg _ (domainEntryDone_enters hd hphase htime hinj)
    · rw [wakeDoneServed, domainWakeDone_stays h]
    · rw [wakeDoneServed, domainWakeDone_wakes hphase hstate htime]
    · rw [clkSwitchDone_stays h, clkSwitchFail_stays h]
      exact ⟨rfl, rfl⟩
    · rw [clkSwitchDone_of_on hne hstate hfio hstuck hphase]
    · rw [clkSwitchDone_of_waking hne hstate hfio hstuck hphase htime]
    · rw [clkSwitchFail_of_on hne hstate hfio hstuck hphase]
  case reset =>
    intro s d key hd hkey
    rw [exec_glbDomrst s d key (by simp [Instr.wellFormed, hd, hkey])]
    refine ⟨fun hwrong => by rw [glbDomrst_wrong_key hwrong], ?_⟩
    rintro rfl
    refine ⟨fun hfixed => ?_, fun hlast hmoves => ⟨fun hcl => ?_, fun hcl hoff => ?_, fun hcl hoff => ⟨fun hwin => ?_,
      fun hwin => ⟨fun hbusy => ?_, fun hbusy => ⟨fun hdep => ?_, fun hdep => ?_⟩⟩⟩⟩⟩
    · rw [glbDomrst_refused (if_pos (by simpa using hfixed)) one_ne_zero]
    · rw [glbDomrst_refused (r := 2) (by simp [State.domrstRefusal, *]) two_ne_zero]
    · rw [glbDomrst_refused (r := 3) (by simp [State.domrstRefusal, *]) three_ne_zero]
    · rw [glbDomrst_refused (r := 4) (by simp [State.domrstRefusal, *]) four_ne_zero]
    · rw [glbDomrst_refused (r := 5) (by simp [State.domrstRefusal, *]) (by decide)]
    · rw [glbDomrst_refused (r := 6) (by simp [State.domrstRefusal, *]) (by decide)]
    · exact congrArg _ (glbDomrst_taken (by simp [State.domrstRefusal, *]))
  case resetDone =>
    intro s d
    rw [exec_domainResetDone s rfl]
    refine ⟨fun hbusy hreset hstate hphase => ⟨fun hstuck hfio => ?_, fun hstuck => ?_⟩, fun h => ?_⟩
    · rw [domainResetDone_ends rfl hbusy hreset hstate hphase (.inr hfio), if_neg (by simpa using hstuck)]
    · rw [domainResetDone_ends rfl hbusy hreset hstate hphase (.inl hstuck), if_pos hstuck]
    · rw [domainResetDone_stays h]

end Sys2Proof.Machine

/-! ## The plan commands (R48, R54, R56 to R58, R61, R64, R243)

Each command gets an equation for every case in which its obligation speaks of it; a command that its row serves then ends as the
equation says. -/

namespace Sys2Proof.Machine

/-! ### PLAN_LOAD (R48, R54, R56) -/

/-- No handle of a context is found EMPTY when all four are in use. -/
theorem State.find?_empty_eq_none {s : State} {c : Nat} (h : ∀ m < 4, s.planPhase c m ≠ .empty) :
    (rangeFrom 0 4).find? (fun m => s.planPhase c m == .empty) = none := by
  rw [List.find?_eq_none]
  intro m hm
  obtain ⟨-, hlt⟩ := mem_rangeFrom.mp hm
  simpa using h m (by omega)

/-- What PLAN_LOAD answers to an image of `n` bytes that it has read. -/
def State.takeImage (s : State) (c n : Nat) (b : Bytes) : CmdOut :=
  match imageFault b with
  | some i => refuse s stImageBad (2 ^ 24 + i)
  | none =>
    match (rangeFrom 0 4).find? (fun h => s.planPhase c h == .empty) with
    | none => refuse s stBadState
    | some h =>
      if 64 * 2 ^ 20 < s.planStore + n then refuse s stMemory
      else okay (s.setPlan c h (Plan.loaded (readImage b))) h

theorem cmdPlanLoad_of_read {s s1 : State} {c : Nat} {k : Cmd} {e : HostEnv} {b : Bytes} (hlo : 0x200 ≤ pf k.par 16 4)
    (hhi : pf k.par 16 4 ≤ 16 * 2 ^ 20) (hread : s.cmdRead e c (pf k.par 8 8) (pf k.par 16 4) = (.ok b, s1)) :
    cmdPlanLoad c e k s = s1.takeImage c (pf k.par 16 4) b := by
  have hlen : within (pf k.par 16 4) 0x200 (16 * 2 ^ 20) = true := by simpa [within] using ⟨hlo, hhi⟩
  exact (if_neg (ne_false_of_eq_true hlen)).trans (State.withRead_of_ok _ hread)

section
variable {s : State} {c n : Nat} {b : Bytes}

theorem State.takeImage_of_fault {i : Nat} (hfault : imageFault b = some i) :
    s.takeImage c n b = refuse s stImageBad (2 ^ 24 + i) := by
  unfold State.takeImage
  simp only [hfault]

variable (hok : imageFault b = none)
include hok

theorem State.takeImage_of_no_handle (hfull : ∀ m < 4, s.planPhase c m ≠ .empty) :
    s.takeImage c n b = refuse s stBadState := by
  unfold State.takeImage
  simp only [hok, State.find?_empty_eq_none hfull]

variable {h : Nat} (hfree : (rangeFrom 0 4).find? (fun m => s.planPhase c m == .empty) = some h)
include hfree

theorem State.takeImage_loads (hroom : s.planStore + n ≤ 64 * 2 ^ 20) :
    s.takeImage c n b = okay (s.setPlan c h (Plan.loaded (readImage b))) h := by
  unfold State.takeImage
  simp only [hok, hfree]
  exact if_neg (Nat.not_lt.mpr hroom)

theorem State.takeImage_of_full_store (hfull : 64 * 2 ^ 20 < s.planStore + n) :
    s.takeImage c n b = refuse s stMemory := by
  unfold State.takeImage
  simp only [hok, hfree]
  exact if_pos hfull

end

/-- Settles O14: the image that was read has a fault or has none, and then a handle is EMPTY or none is. -/
theorem Settled.planLoad : Obligations.PlanLoad := by
  intro s s1 c q x k e b he hs hlo hhi hread
  have hload := cmdPlanLoad_of_read hlo hhi hread
  refine ⟨fun i hfault => ?_, fun h hok hfree => ⟨fun hroom => ?_, fun hfull => ?_⟩, fun hok hfull => ?_⟩
  · exact exec_planLoad_answers he hs (hload.trans (State.takeImage_of_fault hfault))
  · exact exec_planLoad_answers he hs (hload.trans (State.takeImage_loads hok hfree hroom))
  · exact exec_planLoad_answers he hs (hload.trans (State.takeImage_of_full_store hok hfree hfull))
  · exact exec_planLoad_answers he hs (hload.trans (State.takeImage_of_no_handle hok hfull))

/-! ### PLAN_ADMIT (R54, R56, R57, R243) -/

section
variable {s s1 : State} {c : Nat} {k : Cmd} {e : HostEnv} {p : Plan} {im : PlanImage}
  (hh : pf k.par 8 1 ≤ 3) (hmode : pf k.par 9 1 ≤ 1) (hmate : pf k.par 10 1 ≤ 3) (hp : s.plan? c (pf k.par 8 1) = some p)
include hh hmode hmate hp

theorem cmdPlanAdmit_of_bad_state (hstate : s.admitState c (pf k.par 8 1) (admitMate k.par) = false) :
    cmdPlanAdmit c e k s = refuse s stBadState := by
  simp [cmdPlanAdmit, hh.not_gt, hmode.not_gt, hmate.not_gt, hp, hstate]

variable (hstate : s.admitState c (pf k.par 8 1) (admitMate k.par) = true)
include hstate

theorem cmdPlanAdmit_of_failed_check {y : Nat × Nat} (hadm : s.admission e c (admitMate k.par) p = (.error y, s1)) :
    cmdPlanAdmit c e k s = refuse s1 y.1 y.2 := by
  simp [cmdPlanAdmit, hh.not_gt, hmode.not_gt, hmate.not_gt, hp, hstate, hadm]

variable (hadm : s.admission e c (admitMate k.par) p = (.ok im, s1))
include hadm

theorem cmdPlanAdmit_admits (hzero : ∀ b ∈ s1.planBanks im, b ∉ s1.zeroing) :
    cmdPlanAdmit c e k s = okay (s1.setPlan c (pf k.par 8 1)
      (p.admitted im (admitMate k.par) (s1.spareFree 0 && s1.spareFree 1))) (p.whole.hash % 2 ^ 32) := by
  have hnone : ¬ ∃ b ∈ s1.planBanks im, b ∈ s1.zeroing := by simpa using hzero
  simp [cmdPlanAdmit, hh.not_gt, hmode.not_gt, hmate.not_gt, hp, hstate, hadm, hnone]

/-- The command that finds a claimed bank still being zeroed begins to wait for it (R243). -/
theorem cmdPlanAdmit_waits (hzero : ∃ b ∈ s1.planBanks im, b ∈ s1.zeroing) (hnew : k.phase ≠ .executing .zeroing) :
    cmdPlanAdmit c e k s = .wait .zeroing s1 := by
  simp [cmdPlanAdmit, hh.not_gt, hmode.not_gt, hmate.not_gt, hp, hstate, hadm, hzero, hnew]

end

/-- Settles O15: the handle's state is one that PLAN_ADMIT needs or not, and then a check fails or the banks decide. -/
theorem Settled.planAdmit : Obligations.PlanAdmit := by
  intro s s1 c q x k e p he hs hh hmode hmate hp
  refine ⟨fun hstate => ?_, fun hstate => ⟨fun y hadm => ?_, fun im hadm => ⟨fun hzero => ?_, fun hzero hnew => ?_⟩⟩⟩
  · exact exec_planAdmit_answers he hs (cmdPlanAdmit_of_bad_state hh hmode hmate hp hstate)
  · exact exec_planAdmit_answers he hs (cmdPlanAdmit_of_failed_check hh hmode hmate hp hstate hadm)
  · exact exec_planAdmit_answers he hs (cmdPlanAdmit_admits hh hmode hmate hp hstate hadm hzero)
  · exact exec_planAdmit_waits he hs (cmdPlanAdmit_waits hh hmode hmate hp hstate hadm hzero hnew)

/-! ### PLAN_ARM (R58, R64) -/

section
variable {s : State} {e : HostEnv} {c h req : Nat} {p old : Plan}

theorem State.not_member_of_alone_or_leader (h : p.img.isHerd = false ∨ s.isLeader = true) :
    ¬ (p.img.isHerd = true ∧ s.isLeader = false) := by
  rcases h with h | h <;> simp [h]

/-- For ANCHOR 0 the plan is armed for the earliest beat that the lead allows. -/
theorem State.armFrom_zero : s.armFrom e c h p 0 =
    okay (s.armPlan e c h p (s.beat + s.armLead p.img) (s.beat + s.armLead p.img) false)
      ((s.beat + s.armLead p.img) % 2 ^ 32) := by
  simp [State.armFrom]

theorem State.armFrom_asked (hreq : req ≠ 0) (hlead : s.beat + s.armLead p.img ≤ req) :
    s.armFrom e c h p req = okay (s.armPlan e c h p req req false) (req % 2 ^ 32) := by
  simp [State.armFrom, hreq, hlead.not_gt]

theorem State.armFrom_too_near (hreq : req ≠ 0) (hlead : req < s.beat + s.armLead p.img) :
    s.armFrom e c h p req = refuse s stTime (s.armLead p.img) := by
  simp [State.armFrom, hreq, hlead]

section
variable (hcyc : 0 < old.img.cyc) (hreq : req ≠ 0)
include hcyc hreq

theorem State.armSwap_of_no_boundary (hk : req < old.anchor ∨ (req - old.anchor) % old.img.cyc ≠ 0) :
    s.armSwap e c h p old req = refuse s stBadParam := by
  simp [State.armSwap, Nat.max_eq_right hcyc, hreq, hk]

variable (hanchor : old.anchor ≤ req) (hk : (req - old.anchor) % old.img.cyc = 0)
include hanchor hk

theorem State.armSwap_too_near (hlead : req < s.beat + s.armLead p.img) :
    s.armSwap e c h p old req = refuse s stTime (s.armLead p.img) := by
  simp [State.armSwap, Nat.max_eq_right hcyc, hreq, hanchor.not_gt, hk, hlead]

theorem State.armSwap_asked (hlead : s.beat + s.armLead p.img ≤ req) :
    s.armSwap e c h p old req = okay (s.armPlan e c h p req req true) (req % 2 ^ 32) := by
  simp [State.armSwap, Nat.max_eq_right hcyc, hreq, hanchor.not_gt, hk, hlead.not_gt]

end

variable {k : Cmd} (hh : pf k.par 8 1 ≤ 3) (hp : s.plan? c (pf k.par 8 1) = some p)
include hh hp

theorem cmdPlanArm_of_bad_state (hmode : pf k.par 9 1 ≤ 1) (hphase : p.phase ≠ .admitted) :
    cmdPlanArm c e k s = refuse s stBadState := by
  simp [cmdPlanArm, hh.not_gt, hmode.not_gt, hp, hphase]

variable (hphase : p.phase = .admitted) (hself : p.img.isHerd = false ∨ s.isLeader = true)
include hphase hself

/-- A plan that is no swap partner is armed by the request alone. -/
theorem cmdPlanArm_alone (hmode : pf k.par 9 1 = 0) (hpart : p.partner = none) :
    cmdPlanArm c e k s = s.armFrom e c (pf k.par 8 1) p (pf k.par 16 8) := by
  have hmember := State.not_member_of_alone_or_leader hself
  simp [cmdPlanArm, hh.not_gt, hmode, hp, hphase, hpart, hmember]

/-- N of a swap pair is armed for a boundary of the RUNNING P (R64). -/
theorem cmdPlanArm_swap {m : Nat} (hmode : pf k.par 9 1 = 1) (hpart : p.partner = some m) (hm : m < 4)
    (hold : s.plan? c m = some old) (hrun : old.phase = .running) :
    cmdPlanArm c e k s = s.armSwap e c (pf k.par 8 1) p old (pf k.par 16 8) := by
  have hmember := State.not_member_of_alone_or_leader hself
  simp [cmdPlanArm, hh.not_gt, hmode, hp, hphase, hpart, hmember, hm, hold, hrun]

end

/-- Settles O16: an ADMITTED plan is armed alone or for a swap, and either way its lead decides. -/
theorem Settled.planArm : Obligations.PlanArm := by
  intro s c q x k e p he hs hh hp h req lead
  refine ⟨fun hmode hphase => ?_, fun hmode hphase hpart hself => ?alone,
    fun m old hmode hphase hpart hm hold hrun hself hcyc hreq => ?swap⟩
  · exact exec_planArm_answers he hs (cmdPlanArm_of_bad_state hh hp hmode hphase)
  case alone =>
    have harm := cmdPlanArm_alone (e := e) hh hp hphase hself hmode hpart
    refine ⟨fun hzero => ?_, fun hreq hlead => ?_, fun hreq hlead => ?_⟩
    · rw [show pf k.par 16 8 = 0 from hzero] at harm
      exact exec_planArm_answers he hs (harm.trans State.armFrom_zero)
    · exact exec_planArm_answers he hs (harm.trans (State.armFrom_asked hreq hlead))
    · exact exec_planArm_answers he hs (harm.trans (State.armFrom_too_near hreq hlead))
  case swap =>
    have harm := cmdPlanArm_swap (e := e) hh hp hphase hself hmode hpart hm hold hrun
    refine ⟨fun hk => ?_, fun hanchor hk hlead => ?_, fun hanchor hk hlead => ?_⟩
    · exact exec_planArm_answers he hs (harm.trans (State.armSwap_of_no_boundary hcyc hreq hk))
    · exact exec_planArm_answers he hs (harm.trans (State.armSwap_too_near hcyc hreq hanchor hk hlead))
    · exact exec_planArm_answers he hs (harm.trans (State.armSwap_asked hcyc hreq hanchor hk hlead))

/-! ### A plan that stops (R55, R56, R61) -/

/-- A change of a table's values that leaves its keys changes what each key finds. -/
theorem tfind_map {α β : Type} (f : Nat → α → β) (l : List (Nat × α)) (n : Nat) :
    tfind (l.map (fun x => (x.1, f x.1 x.2))) n = (tfind l n).map (f n) := by
  induction l with
  | nil => rfl
  | cons x t ih => by_cases h : x.1 = n <;> simp [tfind, h, ih]

/-- A plan whose partner in handle `h` has ended: it names no plan any longer (R55). -/
def Plan.pairEnded (h : Nat) (p : Plan) : Plan := if p.partner == some h then { p with partner := some (h + 4) } else p

section
variable {s : State} {c h m : Nat} {p : Plan}

theorem State.plan?_endPairs (hm : m < 4) : (s.endPairs c h).plan? c m = (s.plan? c m).map (Plan.pairEnded h) := by
  have hctx : (4 * c + m) / 4 = c := by omega
  refine (tfind_map (fun n p => if n / 4 = c && p.partner == some h then { p with partner := some (h + 4) } else p)
    s.plans (4 * c + m)).trans ?_
  simp only [hctx, decide_true, Bool.true_and]
  rfl

theorem State.endClaims_plans : (s.endClaims c h p).plans = (s.endPairs c h).plans := by
  unfold State.endClaims; split <;> rfl

@[simp] theorem State.endClaims_mem : (s.endClaims c h p).mem = s.mem := by unfold State.endClaims; split <;> rfl

@[simp] theorem State.endClaims_regs : (s.endClaims c h p).regs = s.regs := by unfold State.endClaims; split <;> rfl

@[simp] theorem State.endClaims_queues : (s.endClaims c h p).queues = s.queues := by unfold State.endClaims; split <;> rfl

@[simp] theorem State.endClaims_items : (s.endClaims c h p).items = s.items := by unfold State.endClaims; split <;> rfl

/-- The plan as it is when it becomes STOPPED: without window entries, and outside its pair when it was ARMED (Table 3.13). -/
def Plan.stopped (p : Plan) : Plan :=
  { p with phase := .stopped, entries := [], partner := if p.phase == .armed then none else p.partner }

theorem State.stopPlan_eq : s.stopPlan c h p = (s.setPlan c h p.stopped).endClaims c h p := (rfl)

theorem State.plan?_stopPlan (hh : h < 4) : (s.stopPlan c h p).plan? c h = some (p.stopped.pairEnded h) := by
  rw [State.stopPlan_eq, State.plan?, State.endClaims_plans, ← State.plan?, State.plan?_endPairs hh,
    State.plan?_setPlan_same, Option.map_some]

/-- Losing its partner changes nothing else of a plan. -/
theorem Plan.pairEnded_frame : (p.pairEnded h).phase = p.phase ∧ (p.pairEnded h).whole = p.whole ∧
    (p.pairEnded h).items = p.items ∧ (p.pairEnded h).entries = p.entries := by
  unfold Plan.pairEnded; split <;> exact ⟨rfl, rfl, rfl, rfl⟩

/-! ### PLAN_DRAINED (R61) -/

variable (hp : s.plan? c h = some p)
include hp

theorem planDrained_of_not_over (hwait : p.phase ≠ .draining ∨ s.beat < p.stop + p.img.lat ∨ s.itemsLeft c h p = true) :
    planDrained c h s = s := by
  simp [planDrained, hp, or_assoc, hwait]

variable (hphase : p.phase = .draining) (hbeat : p.stop + p.img.lat ≤ s.beat) (hitems : s.itemsLeft c h p = false)
include hphase hbeat hitems

/-- With CANCEL the pending outputs are cancelled, and the plan stops at once. -/
theorem planDrained_cancels (hcancel : p.cancel = true) : planDrained c h s =
    ((s.cancelOutputs (fun x => x.c == c && x.h == h)).stopPlan c h p).dropItems c h := by
  simp [planDrained, hp, hphase, hbeat.not_gt, hitems, hcancel]

theorem planDrained_of_pending (hcancel : p.cancel = false) (hout : s.outputsPending c h = true) :
    planDrained c h s = s := by
  simp [planDrained, hp, hphase, hbeat.not_gt, hitems, hcancel, hout]

theorem planDrained_stops (hcancel : p.cancel = false) (hout : s.outputsPending c h = false) :
    planDrained c h s = (s.stopPlan c h p).dropItems c h := by
  simp [planDrained, hp, hphase, hbeat.not_gt, hitems, hcancel, hout]

end

/-- Settles O19: PLAN_DRAINED is well formed for a handle, and what stopping leaves is read off `State.stopPlan`. -/
theorem Settled.planDrained : Obligations.PlanDrained := by
  intro s c h p hc hh hp
  rw [exec_planDrained s c h (by simp [Instr.wellFormed, hc, hh])]
  refine ⟨fun hphase hbeat hitems => ⟨fun hcancel hout => ?_, fun hcancel hout => ?_, fun hcancel => ?_⟩,
    fun hwait => ?_, ?stopped⟩
  · rw [planDrained_stops hp hphase hbeat hitems hcancel hout]
  · rw [planDrained_of_pending hp hphase hbeat hitems hcancel hout]
  · rw [planDrained_cancels hp hphase hbeat hitems hcancel]
  · rw [planDrained_of_not_over hp hwait]
  case stopped =>
    obtain ⟨hphase, hwhole, hitems, hentries⟩ := Plan.pairEnded_frame (h := h) (p := p.stopped)
    exact ⟨_, State.plan?_stopPlan hh, hphase, hwhole, hitems, hentries, by simp [State.stopPlan_eq],
      by simp [State.stopPlan_eq], by simp [State.stopPlan_eq], by simp [State.stopPlan_eq]⟩

end Sys2Proof.Machine

/-! ## The start of a command and the checks that every packet meets (R3, R70, R79, R80, R404)

A row of the command table is its opcode, its selecting value and a body; what holds whatever the body is proved once. -/

namespace Sys2Proof.Machine

/-! ### Rows -/

section
variable {i : Instr} {c q op sel : Nat} {e : HostEnv} (hrow : opcodeRow i = some (c, q, e, op, sel))
include hrow

theorem wellFormed_of_opcodeRow (hc : c < 128) (hq : q < 128) (he : envOk e = true) : i.wellFormed = true := by
  have hw : (decide (c < 128) && decide (q < 128) && envOk e) = true := by simp [hc, hq, he]
  unfold opcodeRow at hrow
  split at hrow <;> cases hrow <;> exact hw

theorem exec_opcodeRow (s : State) :
    ∃ body, exec i s = guarded i (fun s => (s.runNeeding c q op sel body).settle) s := by
  unfold opcodeRow at hrow
  split at hrow <;> cases hrow <;> exact ⟨_, rfl⟩

theorem opcodes_contains_of_opcodeRow : opcodes.contains op = true := by
  unfold opcodeRow at hrow
  split at hrow <;> cases hrow <;> rfl

end

/-! ### The command that may start (R80) -/

theorem State.startable_some {s : State} {c q : Nat} {x : Queue} {k : Cmd} (h : s.startable c q = some (x, k)) :
    s.queue? c q = some x ∧ x.cmds.head? = some k ∧ (s.ctx c).phase = .active ∧
      (k.barrier = true → ∀ p ∈ s.ctxCmds c, k.seq ≤ p.2.seq) := by
  unfold State.startable at h
  split at h
  case h_1 => cases h
  case h_2 y hy =>
    split at h
    case h_1 => cases h
    case h_2 k' rest hcmds =>
      split at h
      case isFalse => cases h
      case isTrue hcond =>
        cases h
        simp only [Bool.and_eq_true, Bool.or_eq_true, Bool.not_eq_true', beq_iff_eq, List.all_eq_true, decide_eq_true_eq] at hcond
        obtain ⟨⟨-, hactive⟩, hbarrier⟩ := hcond
        exact ⟨hy, by rw [hcmds]; rfl, hactive, fun hk => hbarrier.resolve_left (by simp [hk])⟩

theorem State.runNeeding_of_no_start {s : State} {c q : Nat} (op sel : Nat) (body : Cmd → State → CmdOut)
    (h : s.startable c q = none) : s.runNeeding c q op sel body = s := by
  simp [State.runNeeding, h]

/-- Settles O12: with no command that may start every row leaves the queue alone. -/
theorem startOrder : Obligations.StartOrder := by
  refine ⟨fun s c q x k h => s.startable_some h, fun i s c q op sel e hrow hc hq he hnone => ?_⟩
  obtain ⟨body, hexec⟩ := exec_opcodeRow hrow s
  rw [hexec, guarded_next _ s (wellFormed_of_opcodeRow hrow hc hq he), State.runNeeding_of_no_start op sel body hnone]

/-! ### The checks of a packet (R70, R79, R404) -/

section
variable {s : State} {c q op sel : Nat} {x : Queue} {k : Cmd} (body : Cmd → State → CmdOut)

/-- A command that is not one to run wakes no domain. -/
theorem State.runNeeding_of_not_admitted (hs : s.startable c q = some (x, k))
    (h : k.rowOf op sel = false ∨ s.admitted c op k = false) :
    s.runNeeding c q op sel body = (s.runCmd c q op sel body).served k := by
  have hno : ¬ (k.rowOf op sel = true ∧ s.admitted c op k = true) := by rcases h with h | h <;> simp [h]
  simp [State.runNeeding, hs, hno]

theorem State.conclude_refuse (st : Nat) (hroom : x.room = true) :
    s.conclude c q x k (refuse s st) = (s.countRefusal c k.op st).postReply c q k st 0 := by
  simp [State.conclude, refuse, hroom]

theorem State.runCmd_unknown_opcode (hs : s.startable c q = some (x, k)) (hk : opcodes.contains k.op = false) :
    s.runCmd c q op sel body = s.conclude c q x k (refuse s stBadOpcode) := by
  unfold State.runCmd
  simp only [hs, hk, Bool.not_false, if_true]

/-- What the checks that every packet of a row meets answer, in their order (R70, R79, R404). -/
def State.packetRefusal (s : State) (c op : Nat) (k : Cmd) : Option Nat :=
  if k.headerOk = false || paramOk op k.par = false || !(selector op k.par).2.contains (selector op k.par).1 then some stBadParam
  else if s.hasRights c op = false then some stNoRights
  else if s.recoveryRefuses op then some stBadState
  else none

variable {st : Nat} (href : s.packetRefusal c op k = some st)
include href

theorem State.runCmd_of_refusal (hs : s.startable c q = some (x, k)) (hop : opcodes.contains op = true) (hk : k.op = op)
    (hrow : k.rowOf op sel = true) : s.runCmd c q op sel body = s.conclude c q x k (refuse s st) := by
  unfold State.packetRefusal at href
  unfold State.runCmd
  simp only [hs, hk, hop, hrow, Bool.not_true, Bool.false_eq_true, Bool.true_eq_false, if_false]
  split_ifs at href ⊢ <;> cases href <;> rfl

theorem State.not_admitted_of_refusal : s.admitted c op k = false := by
  by_contra hadm
  simp only [Bool.not_eq_false, State.admitted, Bool.and_eq_true, Bool.not_eq_true'] at hadm
  obtain ⟨⟨⟨⟨hheader, hparam⟩, hrights⟩, hrec⟩, hsel⟩ := hadm
  have hnone : s.packetRefusal c op k = none := by simp only [State.packetRefusal, hheader, hparam, hrights, hrec, hsel]; rfl
  simp [hnone] at href

end

section
variable {s : State} {c op : Nat} {k : Cmd}

theorem State.packetRefusal_malformed
    (hbad : k.headerOk = false ∨ paramOk op k.par = false ∨ (selector op k.par).2.contains (selector op k.par).1 = false) :
    s.packetRefusal c op k = some stBadParam :=
  if_pos (by simpa [or_assoc] using hbad)

variable (hheader : k.headerOk = true) (hparam : paramOk op k.par = true)
  (hsel : (selector op k.par).2.contains (selector op k.par).1 = true)
include hheader hparam hsel

theorem State.packetRefusal_no_rights (hrights : s.hasRights c op = false) : s.packetRefusal c op k = some stNoRights := by
  simp only [State.packetRefusal, hheader, hparam, hsel, hrights]
  rfl

/-- In recovery an opcode that the ROM does not serve is refused (R404). -/
theorem State.packetRefusal_in_recovery (hrights : s.hasRights c op = true) (hrec : s.on F.KSU_STATUS_RECOVERY = true)
    (hop : op ∉ [0x01, 0x02, 0x03, 0xA0, 0xA1, 0xA2]) : s.packetRefusal c op k = some stBadState := by
  have hrefuses : s.recoveryRefuses op = true := by simpa [State.recoveryRefuses, hrec, and_assoc] using hop
  simp only [State.packetRefusal, hheader, hparam, hsel, hrights, hrefuses]
  rfl

end

theorem Cmd.rowOf_eq_true {k : Cmd} {op sel : Nat} (hk : k.op = op)
    (hsel : (selector op k.par).1 = sel ∨ (selector op k.par).2.contains (selector op k.par).1 = false) :
    k.rowOf op sel = true := by
  simpa [Cmd.rowOf, hk] using hsel

/-- A packet that its row refuses before the command's own checks is answered, and changes nothing else (R3). -/
theorem exec_refuses {i : Instr} {s : State} {c q op sel st : Nat} {e : HostEnv} {x : Queue} {k : Cmd}
    (hrow : opcodeRow i = some (c, q, e, op, sel)) (hw : i.wellFormed = true) (hs : s.startable c q = some (x, k))
    (hroom : x.room = true) (hno : k.rowOf op sel = false ∨ s.admitted c op k = false)
    (hrun : ∀ body, s.runCmd c q op sel body = s.conclude c q x k (refuse s st)) :
    exec i s = .next (s.answered c q k st 0) := by
  obtain ⟨body, hexec⟩ := exec_opcodeRow hrow s
  rw [hexec, guarded_next _ s hw, State.runNeeding_of_not_admitted body hs hno, hrun, State.conclude_refuse st hroom]
  rfl

/-- Settles O11: the first check that fails decides, and a refused packet is answered as `exec_refuses` says. -/
theorem packetChecks : Obligations.PacketChecks := by
  intro i s c q op sel e x k hrow hc hq he hs hroom
  have hw := wellFormed_of_opcodeRow hrow hc hq he
  have hop := opcodes_contains_of_opcodeRow hrow
  refine ⟨fun hunknown => ?unknown, fun hk hsel => ?known⟩
  case unknown =>
    have hne : k.op ≠ op := fun hk => by rw [hk, hop] at hunknown; cases hunknown
    exact exec_refuses hrow hw hs hroom (.inl (by simp [Cmd.rowOf, hne])) fun body =>
      State.runCmd_unknown_opcode body hs hunknown
  case known =>
    have hrefused : ∀ st, s.packetRefusal c op k = some st → exec i s = .next (s.answered c q k st 0) := fun st href =>
      exec_refuses hrow hw hs hroom (.inr (State.not_admitted_of_refusal href)) fun body =>
        State.runCmd_of_refusal body href hs hop hk (Cmd.rowOf_eq_true hk hsel)
    exact ⟨fun hbad => hrefused _ (State.packetRefusal_malformed hbad),
      fun hheader hparam hvalue hrights => hrefused _ (State.packetRefusal_no_rights hheader hparam hvalue hrights),
      fun hheader hparam hvalue hrights hrec hnot =>
        hrefused _ (State.packetRefusal_in_recovery hheader hparam hvalue hrights hrec hnot)⟩

end Sys2Proof.Machine

/-! ## Completion entries (R75, R77, R95) -/

namespace Sys2Proof.Machine

section
variable (s : State)

theorem State.emit_hostWrite (b : Nat) (d : Bytes) (poisoned : Bool) :
    s.emit (.hostWrite b d poisoned) = { s with out := s.out ++ [.hostWrite b d poisoned] } := by
  simp [State.emit, Out.bounded]

theorem State.signal_out (fn vec : Nat) : (s.signal fn vec).out = s.out ++ (if vec < 64 then [.msix fn vec] else []) := by
  unfold State.signal
  split <;> simp [State.emit, Out.bounded]

/-- Bytes that fill a span of host memory leave the device in one write. -/
theorem State.writeSegs_host (who : Who) (b : Nat) {d : Bytes} (hd : d ≠ []) :
    s.writeSegs who [.host b d.length] (clean d) = s.emit (.hostWrite b d false) := by
  have hbytes : (clean d).map (·.1) = d := by simp [clean, Function.comp_def]
  have hclean : (clean d).any (·.2) = false := by simp [clean]
  have hlen : (clean d).length = d.length := by simp [clean]
  have hne : clean d ≠ [] := by simpa [clean] using hd
  simp only [State.writeSegs, if_neg hne, ← hlen, List.take_length, hbytes, hclean]

end

@[simp] theorem leBytes_length (n v : Nat) : (leBytes n v).length = n := by
  induction n generalizing v with
  | zero => rfl
  | succ n ih => simp [leBytes, ih]

theorem replyBytes_length (tag status detail t48 q : Nat) (phase : Bool) :
    (replyBytes tag status detail t48 q phase).length = 16 := by
  simp [replyBytes]

/-- An entry signals the CQ's vector at once, or as the one that COALESCE waits for (R95). -/
def Queue.signals (x : Queue) (now : Bool) : Bool := now || decide (x.unsig + 1 ≥ x.coalesce + 1)

/-- A CQ after an entry written at a tick. -/
def Queue.wrote (x : Queue) (now : Bool) (time : Nat) : Queue :=
  { x.advance with unsig := if x.signals now then 0 else x.unsig + 1, unsigT := if x.unsig = 0 then time else x.unsigT }

theorem Queue.signals_iff (x : Queue) (now : Bool) : x.signals now = true ↔ now = true ∨ x.coalesce ≤ x.unsig := by
  simp [Queue.signals]

/-- P and PHASE move on; nothing else of a queue does (R77). -/
theorem Queue.advance_eq (x : Queue) : x.advance =
    { x with p := if x.p + 1 = x.cqN then 0 else x.p + 1, phase := if x.p + 1 = x.cqN then !x.phase else x.phase } := by
  unfold Queue.advance
  split <;> rfl

section
variable {s : State} {c q : Nat} {x : Queue}

/-- A queue 0 of 16-byte entries writes them to host memory. -/
theorem State.cqWrite_phys (now : Bool) (mk : Bool → Bytes) (hq : s.queue? c q = some x) (hphys : x.phys = true)
    (htyp : x.typ = 1) (hlen : (mk x.phase).length = 16) : s.cqWrite c q now mk =
      let t := (s.emit (.hostWrite (x.cqAddr + x.p * 16) (mk x.phase) false)).setQueue c q (x.wrote now s.time)
      if x.signals now then t.signal c x.vector else t := by
  have hwrite := s.writeSegs_host (Who.cpx c) (x.cqAddr + x.p * 16) (d := mk x.phase) (List.ne_nil_of_length_pos (by omega))
  rw [hlen] at hwrite
  have hvec : x.vector = (x.wrote now s.time).vector := by rw [Queue.wrote, Queue.advance_eq]
  unfold State.cqWrite
  simp only [hq, Queue.cqEntry, htyp, if_true, State.queueSegs, hphys, hwrite, State.emit_time]
  rw [hvec]
  rfl

/-- What the write of an entry of queue 0 leaves in the queue and sends out, and what it leaves alone. -/
theorem State.cqWrite_phys_frame (now : Bool) (mk : Bool → Bytes) (hq : s.queue? c q = some x) (hphys : x.phys = true)
    (htyp : x.typ = 1) (hlen : (mk x.phase).length = 16) :
    let t := s.cqWrite c q now mk
    t.queue? c q = some (x.wrote now s.time) ∧
      t.out = s.out ++ [.hostWrite (x.cqAddr + x.p * 16) (mk x.phase) false] ++
        (if x.signals now = true ∧ x.vector < 64 then [.msix c x.vector] else []) ∧
      t.mem = s.mem ∧ t.regs = s.regs ∧ t.plans = s.plans ∧ t.items = s.items := by
  rw [State.cqWrite_phys now mk hq hphys htyp hlen, State.emit_hostWrite]
  cases x.signals now <;> simp [State.queue?, State.signal_out]

end

/-- Settles O10: the entry is written, and then the command goes to COMMITTING. -/
theorem replyEntry : Obligations.ReplyEntry := by
  intro s c q x k st d hq hphys htyp
  obtain ⟨hafter, hout, hmem, hregs, hplans, hitems⟩ := State.cqWrite_phys_frame k.irqNow
    (fun ph => replyBytes k.tag st d s.t48 q ph) hq hphys htyp (replyBytes_length ..)
  rw [State.postReply, State.onQueue_some _ _ hafter]
  refine ⟨_, x.signals k.irqNow, State.queue?_setQueue_same .., hout, ?wrap, ?next, ?h, ?t, ?e, ?cmds, x.signals_iff _, rfl,
    hmem, hregs, hplans, hitems⟩
  case wrap => intro hlast; simp [Queue.onCmd, Queue.wrote, Queue.advance_eq, hlast]
  case next => intro hmore; simp [Queue.onCmd, Queue.wrote, Queue.advance_eq, hmore]
  all_goals simp [Queue.onCmd, Queue.wrote, Queue.advance_eq]

end Sys2Proof.Machine

/-! ## Doorbells (R74 to R76) -/

namespace Sys2Proof.Machine

/-! ### Packets fetched (R74) -/

@[simp] theorem rangeFrom_length (a n : Nat) : (rangeFrom a n).length = n := by
  induction n generalizing a with
  | zero => rfl
  | succ n ih => simp [rangeFrom, ih]

theorem entriesFrom_length (n a b : Nat) : (entriesFrom n a b).length = (b + n - a) % max 1 n := by
  simp [entriesFrom]

section
variable (s : State) (e : HostEnv) (c q : Nat)

/-- A queue that holds further packets behind its own. -/
def Queue.withCmds (x : Queue) (new : List Cmd) : Queue := { x with cmds := x.cmds ++ new }

/-- What a fetch leaves: the memory read, the packet counted, and its command behind the others. -/
theorem State.fetch_some {x : Queue} (i : Nat) (h : s.queue? c q = some x) :
    let r := s.readSegs e (Who.cpx c) (s.queueSegs c x (x.sqAddr + 64 * i) 64 1)
    s.fetch e c q i = State.setQueue { r.2 with cmdSeq := r.2.cmdSeq + 1 } c q
      (x.withCmds [packetCmd r.2.cmdSeq i (r.1.map (·.1))]) := by
  intro r
  have hr : State.queue? { r.2 with cmdSeq := r.2.cmdSeq + 1 } c q = some x := by simpa [r, State.queue?] using h
  unfold State.fetch
  simp only [h]
  exact State.onQueue_some _ _ hr

/-- The packet of an entry joins the end of its queue in QUEUED. -/
theorem State.queue?_fetch {x : Queue} (i : Nat) (h : s.queue? c q = some x) :
    ∃ k, k.phase = .queued ∧ (s.fetch e c q i).queue? c q = some (x.withCmds [k]) := by
  rw [s.fetch_some e c q i h]
  exact ⟨_, rfl, State.queue?_setQueue_same ..⟩

/-- The packets of a list of entries join the end of their queue, one for each entry. -/
theorem State.queue?_foldl_fetch (l : List Nat) {x : Queue} (h : s.queue? c q = some x) :
    ∃ new : List Cmd, (l.foldl (fun s i => s.fetch e c q i) s).queue? c q = some (x.withCmds new) ∧
      new.length = l.length ∧ ∀ k ∈ new, k.phase = .queued := by
  induction l generalizing s x with
  | nil => exact ⟨[], by simpa [Queue.withCmds] using h, rfl, by simp⟩
  | cons i l ih =>
    obtain ⟨k, hk, hfetch⟩ := s.queue?_fetch e c q i h
    obtain ⟨new, hnew, hlen, hall⟩ := ih _ hfetch
    exact ⟨k :: new, by simpa [Queue.withCmds] using hnew, by simp [hlen], by simpa [hk] using hall⟩

/-- What the fetch of packets leaves alone: memory, plans, items, contexts and what has left the device. -/
def State.beyondQueues : List Host.Cell × List (Nat × Plan) × List Item × List (Nat × Ctx) × List Out :=
  (s.mem, s.plans, s.items, s.ctxs, s.out)

theorem State.beyondQueues_fetch (i : Nat) : (s.fetch e c q i).beyondQueues = s.beyondQueues := by
  cases h : s.queue? c q with
  | none => simp [State.fetch, h]
  | some x => simp [s.fetch_some e c q i h, State.beyondQueues]

theorem State.beyondQueues_takeTail (x : Queue) (tail : Nat) :
    (s.takeTail e c q x tail).beyondQueues = s.beyondQueues :=
  foldl_keeps State.beyondQueues _ (fun t i => t.beyondQueues_fetch e c q i) _ _

end

/-! ### The cases of a doorbell -/

section
variable {s : State} {c q tail : Nat} {e : HostEnv} (hctx : (s.ctx c).phase ≠ .disabled) (hon : s.domOn 4 = true)
include hctx hon

theorem fnSqdb_of_no_queue (hq : s.queue? c q = none) : fnSqdb c q tail e s = s.ctxErr c stBadState q := by
  simp [fnSqdb, hctx, hon, hq]

variable {x : Queue} (hq : s.queue? c q = some x)
include hq

theorem fnSqdb_of_verdict (htyp : x.typ = 3) : fnSqdb c q tail e s = s := by
  simp [fnSqdb, hctx, hon, hq, htyp]

variable (htyp : x.typ = 1)
include htyp

theorem fnSqdb_takes (hin : tail < x.sqN) (hstep : (x.t + x.sqN - x.h) % x.sqN ≤ (tail + x.sqN - x.h) % x.sqN) :
    fnSqdb c q tail e s = s.takeTail e c q x tail := by
  simp [fnSqdb, hctx, hon, hq, htyp, hin.not_ge, hstep.not_gt]

theorem fnSqdb_overruns (h : x.sqN ≤ tail ∨ (tail + x.sqN - x.h) % x.sqN < (x.t + x.sqN - x.h) % x.sqN) :
    fnSqdb c q tail e s = s.overrun c q := by
  simp [fnSqdb, hctx, hon, hq, htyp, h]

end

section
variable {s : State} {c q head : Nat} (hctx : (s.ctx c).phase ≠ .disabled)
include hctx

theorem fnCqdb_of_no_queue (hq : s.queue? c q = none) : fnCqdb c q head s = s.ctxErr c stBadState q := by
  simp [fnCqdb, hctx, hq]

variable {x : Queue} (hq : s.queue? c q = some x)
include hq

theorem fnCqdb_releases (htyp : x.typ = 1) (hin : head < x.cqN)
    (hstep : (x.p + x.cqN - head) % x.cqN ≤ (x.p + x.cqN - x.e) % x.cqN) :
    fnCqdb c q head s = ((s.setQueue c q { x with e := head }).pump c q).settle := by
  simp [fnCqdb, hctx, hq, htyp, hin.not_ge, hstep.not_gt]

theorem fnCqdb_overruns (h : x.cqN ≤ head ∨ (x.p + x.cqN - x.e) % x.cqN < (x.p + x.cqN - head) % x.cqN) :
    fnCqdb c q head s = s.overrun c q := by
  simp [fnCqdb, hctx, hq, h]

end

/-- Settles O5: an accepted tail fetches one packet an entry, any other is an overrun. -/
theorem submissionDoorbell : Obligations.SubmissionDoorbell := by
  intro s c q tail e x hc hq htail he hctx hon hx htyp
  rw [exec_fnSqdb s c q tail e (by simp [Instr.wellFormed, hc, hq, htail, he])]
  refine ⟨fun hin hstep => ?_, fun h => by rw [fnSqdb_overruns hctx hon hx htyp h]⟩
  rw [fnSqdb_takes hctx hon hx htyp hin hstep]
  obtain ⟨new, hqueue, hlen, hall⟩ := State.queue?_foldl_fetch (s.setQueue c q { x with t := tail }) e c q
    (entriesFrom x.sqN x.t tail) (State.queue?_setQueue_same ..)
  rw [entriesFrom_length, Nat.max_eq_right (by omega)] at hlen
  have hframe := s.beyondQueues_takeTail e c q x tail
  simp only [State.beyondQueues, Prod.mk.injEq] at hframe
  exact ⟨_, _, new, rfl, hqueue, rfl, rfl, rfl, rfl, hlen, hall, hframe⟩

/-- Settles O7: a head between E and P is accepted, any other is an overrun. -/
theorem completionDoorbell : Obligations.CompletionDoorbell := by
  intro s c q head x hc hq hhead hctx hx htyp
  rw [exec_fnCqdb s c q head (by simp [Instr.wellFormed, hc, hq, hhead])]
  exact ⟨fun hin hstep => by rw [fnCqdb_releases hctx hx htyp hin hstep], fun h => by rw [fnCqdb_overruns hctx hx h]⟩

/-! ### What a doorbell that is not accepted records -/

section
variable (s : State) (c : Nat) {q : Nat}

theorem FN_OVR_CNT_key_ne_FN_CTX_ERR : (R.FN_OVR_CNT c).key ≠ (R.FN_CTX_ERR c).key := by
  simp [R.FN_OVR_CNT, R.FN_CTX_ERR]

theorem State.get_incSat_same (f : Fld) (n : Nat) (hf : f.lo ≤ f.hi) (hw : f.hi < f.reg.width) :
    (s.incSat f n).get f = min (s.get f + n) (2 ^ (f.hi + 1 - f.lo) - 1) := by
  rw [State.incSat, State.get_put_same _ _ _ hf hw]
  exact Nat.mod_eq_of_lt (lt_of_le_of_lt (Nat.min_le_right ..) (Nat.sub_lt (Nat.two_pow_pos _) one_pos))

theorem State.rd_overrun_ctxErr (hq : q < 128) :
    (s.overrun c q).rd (R.FN_CTX_ERR c) = stOverrun + q * 2 ^ 16 + 2 ^ 31 := by
  rw [State.overrun, State.incSat, State.rd_put_ne _ _ (FN_OVR_CNT_key_ne_FN_CTX_ERR c).symm, State.ctxErr, State.rd_wr_same]
  refine Nat.mod_eq_of_lt ?_
  simp only [stOverrun, R.FN_CTX_ERR]
  omega

theorem State.get_overrun_count :
    (s.overrun c q).get (F.FN_OVR_CNT_OVR c) = min (s.get (F.FN_OVR_CNT_OVR c) + 1) (2 ^ 16 - 1) := by
  rw [State.overrun, State.get_incSat_same _ _ _ (Nat.zero_le _) (by simp [F.FN_OVR_CNT_OVR, R.FN_OVR_CNT]), State.ctxErr,
    State.get_wr_ne _ _ (FN_OVR_CNT_key_ne_FN_CTX_ERR c)]
  rfl

theorem State.rd_overrun_ne {r : Reg} (herr : r.key ≠ (R.FN_CTX_ERR c).key) (hcnt : r.key ≠ (R.FN_OVR_CNT c).key) :
    (s.overrun c q).rd r = s.rd r := by
  rw [State.overrun, State.incSat, State.rd_put_ne _ _ hcnt, State.ctxErr, State.rd_wr_ne _ _ herr]

end

/-- Settles O6: an overrun writes two registers; the other cases of a doorbell are those above. -/
theorem doorbellErrors : Obligations.DoorbellErrors := by
  refine ⟨fun s c q _ hq => ?marks, fun s c q tail e hc hq htail he hctx hon => ?sqdb,
    fun s c q head hc hq hhead hctx hx => ?cqdb⟩
  case marks =>
    exact ⟨s.rd_overrun_ctxErr c hq, s.get_overrun_count c, fun r herr hcnt => s.rd_overrun_ne c herr hcnt,
      by simp [State.overrun, State.ctxErr], by simp [State.overrun, State.ctxErr], by simp [State.overrun, State.ctxErr]⟩
  case sqdb =>
    rw [exec_fnSqdb s c q tail e (by simp [Instr.wellFormed, hc, hq, htail, he])]
    exact ⟨fun hx => by rw [fnSqdb_of_no_queue hctx hon hx], fun x hx htyp => by rw [fnSqdb_of_verdict hctx hon hx htyp]⟩
  case cqdb =>
    rw [exec_fnCqdb s c q head (by simp [Instr.wellFormed, hc, hq, hhead]), fnCqdb_of_no_queue hctx hx]

end Sys2Proof.Machine

/-! ## Queue 0 (R98) -/

namespace Sys2Proof.Machine

/-- The interrupt settings that a write to FN_Q0_CTRL takes whatever ENABLE does. -/
def State.q0Settings (s : State) (c v : Nat) : State :=
  (s.put (F.FN_Q0_CTRL_VECTOR c) (bits v 15 8)).put (F.FN_Q0_CTRL_COALESCE c) (bits v 23 16)

section
variable (s : State) (c v : Nat)

@[simp] theorem State.q0Settings_queues : (s.q0Settings c v).queues = s.queues := by simp [State.q0Settings]

@[simp] theorem State.q0Settings_mem : (s.q0Settings c v).mem = s.mem := by simp [State.q0Settings]

@[simp] theorem State.q0Settings_plans : (s.q0Settings c v).plans = s.plans := by simp [State.q0Settings]

@[simp] theorem State.queue?_q0Settings (d q : Nat) : (s.q0Settings c v).queue? d q = s.queue? d q := by simp [State.queue?]

theorem State.rd_q0Settings {r : Reg} (h : r.key ≠ (R.FN_Q0_CTRL c).key) : (s.q0Settings c v).rd r = s.rd r := by
  rw [State.q0Settings, State.rd_put_ne _ _ h, State.rd_put_ne _ _ h]

@[simp] theorem State.rd_q0Settings_size : (s.q0Settings c v).rd (R.FN_Q0_SIZE c) = s.rd (R.FN_Q0_SIZE c) :=
  s.rd_q0Settings c v (by simp [R.FN_Q0_SIZE, R.FN_Q0_CTRL])

/-- The queue that ENABLE makes is the one that the other registers describe, with the vector just written. -/
theorem State.queueZero_q0Settings : (s.q0Settings c v).queueZero c =
    { s.queueZero c with vector := (s.q0Settings c v).get (F.FN_Q0_CTRL_VECTOR c),
                         coalesce := (s.q0Settings c v).get (F.FN_Q0_CTRL_COALESCE c) } := by
  have hsq : (s.q0Settings c v).rd (R.FN_Q0_SQBASE c) = s.rd (R.FN_Q0_SQBASE c) :=
    s.rd_q0Settings c v (by simp [R.FN_Q0_SQBASE, R.FN_Q0_CTRL])
  have hcq : (s.q0Settings c v).rd (R.FN_Q0_CQBASE c) = s.rd (R.FN_Q0_CQBASE c) :=
    s.rd_q0Settings c v (by simp [R.FN_Q0_CQBASE, R.FN_Q0_CTRL])
  have hsqM : (s.q0Settings c v).get (F.FN_Q0_SIZE_SQ_M1 c) = s.get (F.FN_Q0_SIZE_SQ_M1 c) :=
    congrArg (bits · 11 0) (s.rd_q0Settings_size c v)
  have hcqM : (s.q0Settings c v).get (F.FN_Q0_SIZE_CQ_M1 c) = s.get (F.FN_Q0_SIZE_CQ_M1 c) :=
    congrArg (bits · 27 16) (s.rd_q0Settings_size c v)
  simp only [State.queueZero, hsq, hcq, hsqM, hcqM]

theorem State.get_q0Settings_enable :
    (s.q0Settings c v).get (F.FN_Q0_CTRL_ENABLE c) = s.get (F.FN_Q0_CTRL_ENABLE c) := by
  rw [State.q0Settings, State.get_put_disjoint, State.get_put_disjoint] <;>
    simp [F.FN_Q0_CTRL_ENABLE, F.FN_Q0_CTRL_VECTOR, F.FN_Q0_CTRL_COALESCE, R.FN_Q0_CTRL]

theorem State.get_q0Settings_vector : (s.q0Settings c v).get (F.FN_Q0_CTRL_VECTOR c) = bits v 15 8 := by
  rw [State.q0Settings, State.get_put_disjoint, State.get_put_same]
  · exact Nat.mod_mod _ _
  all_goals simp [F.FN_Q0_CTRL_VECTOR, F.FN_Q0_CTRL_COALESCE, R.FN_Q0_CTRL]

theorem State.get_setQueue (d q : Nat) (x : Queue) (f : Fld) : (s.setQueue d q x).get f = s.get f := (rfl)

theorem State.get_put_enable (n : Nat) (hn : n < 2) :
    (s.put (F.FN_Q0_CTRL_ENABLE c) n).get (F.FN_Q0_CTRL_ENABLE c) = n := by
  rw [State.get_put_same _ _ _ (Nat.zero_le _) (by simp [F.FN_Q0_CTRL_ENABLE, R.FN_Q0_CTRL])]
  exact Nat.mod_eq_of_lt hn

end

/-! ### The cases of FN_Q0_CTRL -/

/-- Both sizes of queue 0 are above 0 (R98). -/
def State.q0Sized (s : State) (c : Nat) : Bool :=
  s.get (F.FN_Q0_SIZE_SQ_M1 c) != 0 && s.get (F.FN_Q0_SIZE_CQ_M1 c) != 0

@[simp] theorem State.q0Sized_q0Settings (s : State) (c v : Nat) : (s.q0Settings c v).q0Sized c = s.q0Sized c := by
  simp [State.q0Sized, State.get, F.FN_Q0_SIZE_SQ_M1, F.FN_Q0_SIZE_CQ_M1]

section
variable {s : State} {c v : Nat} (hctx : (s.ctx c).phase ≠ .disabled)
include hctx

theorem fnQ0Ctrl_of_none (hq : s.queue? c 0 = none) : fnQ0Ctrl c v s =
    if bit v 0 && s.q0Sized c then
      ((s.q0Settings c v).put (F.FN_Q0_CTRL_ENABLE c) 1).setQueue c 0 ((s.q0Settings c v).queueZero c)
    else s.q0Settings c v := by
  have hq' : (s.q0Settings c v).queue? c 0 = none := (s.queue?_q0Settings c v c 0).trans hq
  unfold fnQ0Ctrl
  rw [if_neg hctx, ← s.q0Sized_q0Settings c v, State.q0Sized, ← Bool.and_assoc]
  unfold State.q0Settings at hq' ⊢
  simp only [hq']

variable {x : Queue} (hq : s.queue? c 0 = some x)
include hq

theorem fnQ0Ctrl_of_some : fnQ0Ctrl c v s =
    if bit v 0 = false && x.cmds.isEmpty then ((s.q0Settings c v).delQueue c 0).put (F.FN_Q0_CTRL_ENABLE c) 0
    else (s.q0Settings c v).setQueue c 0 { x with vector := bits v 15 8, coalesce := bits v 23 16 } := by
  have hq' : (s.q0Settings c v).queue? c 0 = some x := (s.queue?_q0Settings c v c 0).trans hq
  unfold fnQ0Ctrl
  rw [if_neg hctx]
  unfold State.q0Settings at hq' ⊢
  simp only [hq']

end

/-- While ENABLE is 1 queue 0 keeps its sizes and addresses. -/
theorem State.writeReg_q0_enabled {s : State} {h : Hit} (w : Nat) (hon : s.on (F.FN_Q0_CTRL_ENABLE h.place) = true)
    (hfirst : h.first = (R.FN_Q0_SQBASE 0).key ∨ h.first = (R.FN_Q0_CQBASE 0).key ∨ h.first = (R.FN_Q0_SIZE 0).key) :
    s.writeReg h w = s := by
  rcases hfirst with hf | hf | hf <;>
    simp [State.writeReg, State.writeFn, hf, hon, R.FN_Q0_SQBASE, R.FN_Q0_CQBASE, R.FN_Q0_SIZE, R.FN_Q0_CTRL, R.FN_SQDB, R.FN_CQDB]

/-- Settles O8: queue 0 is there or not, and then ENABLE and its sizes or its commands decide. -/
theorem queueZero : Obligations.QueueZero := by
  intro s c v hc hv hctx
  have hv' : v < 4294967296 := hv
  rw [exec_fnQ0Ctrl s c v (by simp [Instr.wellFormed, hc, hv'])]
  refine ⟨fun hq hen hsq hcq => ?enable, fun hq hen hsize => ?noSize, fun x hq hen hcmds => ?busy, fun x hq hen hcmds => ?gone,
    fun h w hplace hon hfirst => ?held⟩
  case enable =>
    have hsized : s.q0Sized c = true := by simp [State.q0Sized, hsq, hcq]
    rw [fnQ0Ctrl_of_none hctx hq, if_pos (by simp [hen, hsized]), State.queueZero_q0Settings]
    exact ⟨_, _, rfl, State.queue?_setQueue_same .., rfl, rfl, rfl, rfl, rfl, rfl, rfl, rfl, rfl, rfl, rfl, rfl,
      s.get_q0Settings_vector c v, (State.get_setQueue ..).trans (State.get_put_enable _ c 1 (by decide)), by simp, by simp⟩
  case noSize =>
    have hsized : ¬ s.q0Sized c = true := by simpa [State.q0Sized, or_iff_not_imp_left] using hsize
    rw [fnQ0Ctrl_of_none hctx hq, if_neg (by simp [hsized])]
    exact ⟨_, rfl, s.q0Settings_queues c v, s.get_q0Settings_enable c v⟩
  case busy =>
    rw [fnQ0Ctrl_of_some hctx hq, if_neg (by simp [hcmds])]
    exact ⟨_, rfl, State.queue?_setQueue_same .., (State.get_setQueue ..).trans (s.get_q0Settings_enable c v)⟩
  case gone =>
    rw [fnQ0Ctrl_of_some hctx hq, if_pos (by simp [hen, hcmds])]
    exact ⟨_, rfl, by simp [State.queue?], State.get_put_enable _ c 0 (by decide)⟩
  case held => exact State.writeReg_q0_enabled w (hplace ▸ hon) hfirst

end Sys2Proof.Machine

/-! ## How commands end (R81, R82, R95) -/

namespace Sys2Proof.Machine

section
variable {s : State} {c q : Nat} {x : Queue} {k : Cmd}

/-- The reply of the oldest command has been received: the command commits. -/
theorem replyWriteResponse_commits {rest : List Cmd} (hq : s.queue? c q = some x) (hcmds : x.cmds = k :: rest)
    (hphase : k.phase = .committing) (hreset : s.resetAfter ≠ some k.seq) : replyWriteResponse c q s =
      (((s.setQueue c q { x with cmds := rest, h := nextHead rest x.t }).incWrap (F.CPX_CTX_CMDS_CMDS c)).pump c q).settle := by
  simp [replyWriteResponse, hq, hcmds, hphase, hreset]

theorem commandTimeout_ends (hs : s.startable c q = some (x, k)) (hhost : k.hostWork = true)
    (hadm : s.admitted c k.op k = true) (hroom : x.room = true) :
    commandTimeout c q s = (s.countRefusal c k.op stTimeout).postReply c q k stTimeout 0 := by
  simp [commandTimeout, hs, hhost, hadm, State.conclude_refuse stTimeout hroom]

theorem cqCoalesceTimeout_signals (hq : s.queue? c q = some x) (hus : x.coalUs ≠ 0) (hunsig : x.unsig ≠ 0)
    (htime : x.unsigT + 100 * x.coalUs ≤ s.time) :
    cqCoalesceTimeout c q s = (s.setQueue c q { x with unsig := 0 }).signal c x.vector := by
  simp [cqCoalesceTimeout, hq, hus, hunsig, htime]

end

/-- Settles O9: the three events are well formed for a queue, so each clause is one lemma above. -/
theorem commandEnds : Obligations.CommandEnds := by
  refine ⟨fun s c q x k rest hc hq hx hcmds hphase hreset => ?commit, fun s c q x k hc hq hs hhost hadm hroom => ?timeout,
    fun s c q x hc hq hx hus hunsig htime => ?coalesce⟩
  case commit =>
    rw [exec_replyWriteResponse s c q (by simp [Instr.wellFormed, hc, hq]), replyWriteResponse_commits hx hcmds hphase hreset]
  case timeout =>
    rw [exec_commandTimeout s c q (by simp [Instr.wellFormed, hc, hq]), commandTimeout_ends hs hhost hadm hroom]
  case coalesce =>
    rw [exec_cqCoalesceTimeout s c q (by simp [Instr.wellFormed, hc, hq]), cqCoalesceTimeout_signals hx hus hunsig htime]

/-! ## NOP, ECHO, QUERY_DEVICE (R95) -/

section
variable {s : State} {c : Nat} {k : Cmd}

theorem cmdQueryDevice_answers {v : Nat} (h : s.query c (pf k.par 8 1) = some v) : cmdQueryDevice c k s = okay s v := by
  simp [cmdQueryDevice, h]

theorem cmdQueryDevice_refuses (h : s.query c (pf k.par 8 1) = none) : cmdQueryDevice c k s = refuse s stBadParam := by
  simp [cmdQueryDevice, h]

/-- Table 4.12 ends at SELECT 7. -/
theorem State.query_of_large {n : Nat} (h : 8 ≤ n) : s.query c n = none := by
  unfold State.query
  split
  case h_9 => rfl
  all_goals omega

end

/-- Settles O1: NOP and ECHO answer at once, QUERY_DEVICE as SELECT names a value or none. -/
theorem plainCommands : Obligations.PlainCommands := by
  refine ⟨fun s c q x k e he hs => exec_nop_answers he hs rfl, fun s c q x k e he hs => exec_echo_answers he hs rfl,
    fun s c q x k e he hs => ⟨fun v hv => ?_, fun hv => ?_⟩,
    fun s c => ⟨rfl, rfl, rfl, rfl, rfl, fun n hn => s.query_of_large hn⟩⟩
  · exact exec_queryDevice_answers he hs (cmdQueryDevice_answers hv)
  · exact exec_queryDevice_answers he hs (cmdQueryDevice_refuses hv)

/-! ## ABORT (R83, R85) -/

/-- The command that an ABORT of a queue and TAG is aimed at: the oldest of them. -/
def State.abortTarget (s : State) (c : Nat) (k : Cmd) : Option Cmd :=
  (s.queueCmds c (pf k.par 8 1)).find? (fun y => y.tag == pf k.par 10 2)

section
variable {s : State} {c q : Nat} {k y : Cmd}

theorem Cmd.endable_iff : y.endable = true ↔ y.phase ≠ .committing ∧ y.timed = false := by
  simp [Cmd.endable]

section
variable (hg : pf k.par 8 1 ≤ 127)
include hg

theorem cmdAbort_of_no_target (ht : s.abortTarget c k = none) : cmdAbort c q k s = refuse s stTooLate := by
  unfold State.abortTarget at ht
  simp [cmdAbort, hg.not_gt, ht]

variable (ht : s.abortTarget c k = some y)
include ht

/-- A command on ABORT's own queue, or one of an opcode that ABORT cannot end, stays. -/
theorem cmdAbort_of_spared (h : pf k.par 8 1 = q ∨ unabortable y.op = true) : cmdAbort c q k s = refuse s stTooLate := by
  unfold State.abortTarget at ht
  simp [cmdAbort, hg.not_gt, ht, h]

variable (hq : pf k.par 8 1 ≠ q) (hop : unabortable y.op = false)
include hq hop

theorem cmdAbort_ends (h : y.endable = true) : cmdAbort c q k s = okay (s.abortCmd c (pf k.par 8 1) y) := by
  unfold State.abortTarget at ht
  simp [cmdAbort, hg.not_gt, ht, hq, hop, h]

theorem cmdAbort_waits (h : y.endable = false) : cmdAbort c q k s = .wait (.abortHeld y.seq) s := by
  unfold State.abortTarget at ht
  simp [cmdAbort, hg.not_gt, ht, hq, hop, h]

end

theorem unabortable_iff {op : Nat} : unabortable op = true ↔ op = 0xB1 ∨ op = 0xB0 ∨ op = 0xA2 ∨ op = 0x91 := by
  simp [unabortable]
  omega

variable {n : Nat} (hk : k.phase = .executing (.abortHeld n))
include hk

theorem State.settleCmd_abortHeld_stays (h : ∃ y ∈ s.ctxCmds c, y.2.seq = n) : s.settleCmd c q k = s := by
  have hany : (s.ctxCmds c).any (fun x => x.2.seq == n) = true := by simpa using h
  simp only [State.settleCmd, hk, hany, if_true]

theorem State.settleCmd_abortHeld_ends (h : ∀ y ∈ s.ctxCmds c, y.2.seq ≠ n) :
    s.settleCmd c q k = s.fixResult c q k.seq stTooLate 0 := by
  have hany : ¬ (s.ctxCmds c).any (fun x => x.2.seq == n) = true := by simpa using h
  simp only [State.settleCmd, hk, if_neg hany]

end

/-- Settles O3: ABORT has a target or none, and a target that it may end can still be ended or not. -/
theorem abortCommand : Obligations.AbortCommand := by
  refine ⟨fun s c q x k e he hs hg => ?command, fun _ _ _ _ => rfl, fun _ => unabortable_iff, fun s c q n k hk =>
    ⟨State.settleCmd_abortHeld_stays hk, State.settleCmd_abortHeld_ends hk⟩⟩
  refine ⟨fun ht => ?_, fun y ht hspared => ?_, fun y ht hq hop hphase htimed => ?_, fun y ht hq hop hlate => ?_⟩
  · exact exec_abort_answers he hs (cmdAbort_of_no_target hg ht)
  · exact exec_abort_answers he hs (cmdAbort_of_spared hg ht hspared)
  · exact exec_abort_answers he hs (cmdAbort_ends hg ht hq hop (Cmd.endable_iff.mpr ⟨hphase, htimed⟩))
  · have hend : y.endable = false := by
      rcases hlate with h | h <;> simp [Cmd.endable, h]
    exact exec_abort_waits he hs (cmdAbort_waits hg ht hq hop hend)

/-! ## CTX_RESET (R86 to R88) -/

/-- Context 0 may reset every context, another one itself (R86). -/
theorem not_foreign_of_right {c t : Nat} (h : c = 0 ∨ t = c) : ¬ (c ≠ 0 ∧ t ≠ c) := by tauto

section
variable {s : State} {c q : Nat} {k : Cmd} (ht : pf k.par 8 1 ≤ 127)
include ht

theorem cmdCtxReset_of_no_rights (hc : c ≠ 0) (hne : pf k.par 8 1 ≠ c) : cmdCtxReset c q k s = refuse s stNoRights := by
  simp [cmdCtxReset, ht.not_gt, hc, hne]

variable (hright : c = 0 ∨ pf k.par 8 1 = c)
include hright

theorem cmdCtxReset_of_resetting (hphase : (s.ctx (pf k.par 8 1)).phase = .resetting) :
    cmdCtxReset c q k s = refuse s stBadState := by
  have hok := not_foreign_of_right hright
  simp [cmdCtxReset, ht.not_gt, hok, hphase]

theorem cmdCtxReset_of_disabled (hphase : (s.ctx (pf k.par 8 1)).phase = .disabled) :
    cmdCtxReset c q k s = refuse s stBadParam := by
  have hok := not_foreign_of_right hright
  simp [cmdCtxReset, ht.not_gt, hok, hphase]

/-- A reset takes its steps when no reply but those of its own queue is under way. -/
theorem cmdCtxReset_resets (hphase : (s.ctx (pf k.par 8 1)).phase = .active)
    (hquiet : ∀ y ∈ s.ctxCmds (pf k.par 8 1), y.2.phase = .committing → pf k.par 8 1 = c ∧ y.1 = q) :
    cmdCtxReset c q k s = .wait (.resetting (pf k.par 8 1) (s.resetCtx (pf k.par 8 1) (some k.seq)).1)
      (s.resetCtx (pf k.par 8 1) (some k.seq)).2 := by
  have hok := not_foreign_of_right hright
  have hany : ¬ (s.ctxCmds (pf k.par 8 1)).any
      (fun x => x.2.phase == .committing && !(pf k.par 8 1 == c && x.1 == q)) = true := by
    rw [List.any_eq_true]
    rintro ⟨y, hy, hcond⟩
    simp only [Bool.and_eq_true, beq_iff_eq, Bool.not_eq_true', Bool.and_eq_false_iff, beq_eq_false_iff_ne] at hcond
    obtain ⟨hown, hqueue⟩ := hquiet y hy hcond.1
    exact hcond.2.elim (· hown) (· hqueue)
  unfold cmdCtxReset
  simp only [ht.not_gt, bne_iff_ne, Bool.and_eq_true, hok, hphase, if_false, if_neg hany]

end

/-- Settles O4: the rights decide, and then the state of the context. -/
theorem contextReset : Obligations.ContextReset := by
  intro s c q x k e he hs ht
  refine ⟨fun hc hne => ?_, fun hright hphase => ?_, fun hright hphase => ?_, fun hright hphase hquiet => ?_⟩
  · exact exec_ctxReset_answers he hs (cmdCtxReset_of_no_rights ht hc hne)
  · exact exec_ctxReset_answers he hs (cmdCtxReset_of_resetting ht hright hphase)
  · exact exec_ctxReset_answers he hs (cmdCtxReset_of_disabled ht hright hphase)
  · exact exec_ctxReset_waits he hs (cmdCtxReset_resets ht hright hphase hquiet)

end Sys2Proof.Machine

/-! ## Resets and the boot (R90, R420 to R424, R426 to R429, R439, R440) -/

namespace Sys2Proof.Machine

/-! ### What a warm reset leaves (R421, R429) -/

section
variable (s old : State)

/-- What is held outside the registers and a warm reset keeps or clears: the flash and the fuses, memory, plans, queues, items,
keys and the commands that wait. -/
def State.besideRegs : List Host.Cell × Nat × Nat × List Host.Cell × List (Nat × Plan) × List (Nat × Queue) × List Item ×
    List (Nat × Nat × Nat) × List Instr :=
  (s.flash, s.svn, s.rootRev, s.mem, s.plans, s.queues, s.items, s.keys, s.pending)

@[simp] theorem State.besideRegs_put (f : Fld) (v : Nat) : (s.put f v).besideRegs = s.besideRegs := (rfl)

@[simp] theorem State.besideRegs_wr (r : Reg) (v : Nat) : (s.wr r v).besideRegs = s.besideRegs := (rfl)

@[simp] theorem State.besideRegs_incSat (f : Fld) (n : Nat) : (s.incSat f n).besideRegs = s.besideRegs := (rfl)

@[simp] theorem State.besideRegs_keepFlds (l : List Fld) : (s.keepFlds old l).besideRegs = s.besideRegs :=
  foldl_keeps State.besideRegs _ (fun t f => t.besideRegs_put f _) l s

@[simp] theorem State.besideRegs_keepRegs (l : List Reg) : (s.keepRegs old l).besideRegs = s.besideRegs :=
  foldl_keeps State.besideRegs _ (fun t r => t.besideRegs_wr r _) l s

/-- The state that a warm reset makes before it writes the causes of it. -/
def State.warmKept (cause det : Nat) : State :=
  { s.keepAon.keepFlds s ([F.KSU_STATUS_DBG, F.GLB_RSTCNT_WARM] ++ (if cause == 4 && relocks det then [] else clockFlds) ++
      (if cause = 3 then [] else [F.ATU_PRI_ALLOC])) with
    time := s.time, resetT := s.time, numVfs := if cause = 3 then 0 else s.numVfs, atsOn := cause != 3 && s.atsOn }

/-- A reset that a detector caused is marked in the FMU (R362). -/
def State.markDevice (cause : Nat) : State :=
  if cause = 4 then (s.put F.FMU_STATUS_DEV_PRIOR 1).put F.FMU_EVENT_DEVICE 1 else s

/-- The boot loop counter after a warm reset (R429). -/
def State.warmLoop (cause : Nat) : Nat :=
  if cause = 4 && !s.ready then min (s.get F.GLB_RSTCAUSE_LOOP + 1) 15 else s.get F.GLB_RSTCAUSE_LOOP

theorem State.warmReset_eq (cause det : Nat) : s.warmReset cause det =
    (((((s.warmKept cause det).setCause cause det (s.warmLoop cause)).incSat F.GLB_RSTCNT_WARM).put F.GLB_STATUS_WARM 1).markDevice
      cause).bootFrom (if cause == 4 && relocks det then 1 else 2) := by
  unfold State.warmReset State.markDevice State.warmKept State.warmLoop
  dsimp only

theorem State.besideRegs_keptAon (head ir : Nat) (high perst : Bool) (rails : List Nat) : State.besideRegs { s with
    devHead := head, tapIr := ir, tapHigh := high, railsBad := rails, perst := perst } = s.besideRegs := (rfl)

theorem State.besideRegs_keepAon : s.keepAon.besideRegs = s.outlast.besideRegs := by
  unfold State.keepAon
  refine (State.besideRegs_keptAon ..).trans ?_
  simp only [State.besideRegs_put, State.besideRegs_keepFlds, State.besideRegs_keepRegs]

theorem State.besideRegs_keptTime (time since vfs : Nat) (ats : Bool) : State.besideRegs { s with
    time := time, resetT := since, numVfs := vfs, atsOn := ats } = s.besideRegs := (rfl)

theorem State.besideRegs_warmKept (cause det : Nat) : (s.warmKept cause det).besideRegs = s.outlast.besideRegs := by
  unfold State.warmKept
  exact (State.besideRegs_keptTime ..).trans ((State.besideRegs_keepFlds ..).trans s.besideRegs_keepAon)

@[simp] theorem State.besideRegs_markDevice (cause : Nat) : (s.markDevice cause).besideRegs = s.besideRegs := by
  unfold State.markDevice
  split <;> simp only [State.besideRegs_put]

@[simp] theorem State.time_markDevice (cause : Nat) : (s.markDevice cause).time = s.time := by
  unfold State.markDevice
  split <;> simp only [State.put_time]

theorem State.get_markDevice {f : Fld} (cause : Nat) (hstatus : f.reg.key ≠ R.FMU_STATUS.key)
    (hevent : f.reg.key ≠ R.FMU_EVENT.key) : (s.markDevice cause).get f = s.get f := by
  unfold State.markDevice
  split
  · rw [State.get_put_ne _ _ hevent, State.get_put_ne _ _ hstatus]
  · rfl

theorem State.get_setCause_cause {cause : Nat} (det loop : Nat) (hc : cause < 16) :
    (s.setCause cause det loop).get F.GLB_RSTCAUSE_CAUSE = cause := by
  rw [State.setCause, State.get_put_disjoint, State.get_put_disjoint, State.get_put_same]
  · exact Nat.mod_eq_of_lt hc
  all_goals decide

theorem State.get_setCause_detector {det : Nat} (cause loop : Nat) (hd : det < 256) :
    (s.setCause cause det loop).get F.GLB_RSTCAUSE_DETECTOR = det := by
  rw [State.setCause, State.get_put_disjoint, State.get_put_same]
  · exact Nat.mod_eq_of_lt hd
  all_goals decide

/-- A warm reset keeps device time, and beside the registers what lies outside every reset. -/
theorem State.warmReset_keeps (cause det : Nat) :
    (s.warmReset cause det).time = s.time ∧ (s.warmReset cause det).besideRegs = s.outlast.besideRegs := by
  rw [s.warmReset_eq cause det]
  refine ⟨by simp [State.bootFrom, State.setCause, State.warmKept], ?_⟩
  simp only [State.bootFrom, State.setCause, State.besideRegs_put, State.besideRegs_markDevice, State.besideRegs_incSat]
  exact s.besideRegs_warmKept cause det

theorem State.warmReset_shows {cause det : Nat} (hc : cause < 16) (hd : det < 256) :
    let t := s.warmReset cause det
    t.get F.GLB_STATUS_STAGE = (if cause = 4 ∧ (det = 0x10 ∨ det = 0x11) then 1 else 2) ∧ t.get F.GLB_STATUS_WARM = 1 ∧
      t.get F.GLB_RSTCAUSE_CAUSE = cause ∧ t.get F.GLB_RSTCAUSE_DETECTOR = det := by
  have h := s.warmReset_eq cause det
  have hcause : ∀ f : Fld, f.reg = R.GLB_RSTCAUSE →
      (s.warmReset cause det).get f = ((s.warmKept cause det).setCause cause det (s.warmLoop cause)).get f := by
    intro f hf
    rw [h, State.bootFrom, State.get_put_ne, State.get_markDevice, State.get_put_ne, State.incSat, State.get_put_ne]
    all_goals rw [hf]; decide
  refine ⟨?hstage, ?hwarm, ?hcause, ?hdetector⟩
  case hstage =>
    rw [h, State.bootFrom, State.get_put_same _ _ _ (by decide) (by decide)]
    have hrelock : (cause == 4 && relocks det) = true ↔ cause = 4 ∧ (det = 0x10 ∨ det = 0x11) := by simp [relocks]
    simp only [hrelock]
    split <;> rfl
  case hwarm =>
    rw [h, State.bootFrom, State.get_put_disjoint, State.get_markDevice, State.get_put_same]
    · rfl
    all_goals decide
  case hcause => rw [hcause _ rfl, State.get_setCause_cause _ _ _ hc]
  case hdetector => rw [hcause _ rfl, State.get_setCause_detector _ _ _ hd]

/-! ### The results of the boot's stages (R424, R428) -/

theorem State.bootClocks_time : s.bootClocks.time = 0 := by
  simp [State.bootClocks, State.nextStage, clockFlds]

theorem State.bootFinal_shows : s.bootFinal.get F.GLB_STATUS_READY = 1 ∧ s.bootFinal.get F.GLB_RSTCAUSE_LOOP = 0 := by
  obtain ⟨t, n, h⟩ : ∃ (t : State) (n : Nat), s.bootFinal =
    (((t.put F.GLB_STATUS_READY 1).put F.GLB_STATUS_WARM 0).wr R.GLB_BOOT_T n).put F.GLB_RSTCAUSE_LOOP 0 := ⟨_, _, rfl⟩
  rw [h]
  constructor
  · rw [State.get_put_ne _ _ (by decide), State.get_wr_ne _ _ (by decide), State.get_put_disjoint, State.get_put_same]
    · rfl
    all_goals decide
  · rw [State.get_put_same _ _ _ (by decide) (by decide)]
    rfl

theorem State.bootError_shows {code : Nat} (hcode : code < 16) :
    (s.bootError code).on F.GLB_STATUS_ERR = true ∧ (s.bootError code).get F.GLB_STATUS_ERR_CODE = code := by
  constructor
  · rw [State.bootError, State.on, State.get_put_disjoint, State.get_put_same]
    · rfl
    all_goals decide
  · rw [State.bootError, State.get_put_same _ _ _ (by decide) (by decide)]
    exact Nat.mod_eq_of_lt (hcode.trans (by decide))

end

/-! ### The cases of BOOT_STAGE_DONE (R423 to R428) -/

theorem bootStageDone_held {s : State} (b : BootEnv) (h : s.bootHeld = true ∨ s.on F.GLB_STATUS_ERR = true) :
    bootStageDone b s = s := by
  simp [bootStageDone, h]

/-- What the end of a stage makes of a boot that is not held (Table 19.3). -/
def State.bootStage (s : State) (b : BootEnv) : Nat → State
  | 1 => if b.ok then s.bootClocks else s.bootError 1
  | 2 => if b.ok then s.bootZero else s.bootError 2
  | 3 => s.bootRomStage
  | 4 => s.bootFirmware b.vals
  | 5 => if b.ok then s.bootDram (b.vals.getD 0 1 % 4) (b.vals.getD 1 8533) else s.bootError (if b.errCode = 4 then 4 else 3)
  | 6 => s.bootTests b.vals
  | 7 => s.bootFinal
  | _ => s

theorem bootStageDone_eq {s : State} (b : BootEnv) (hheld : s.bootHeld = false) (herr : s.on F.GLB_STATUS_ERR = false) :
    bootStageDone b s = s.bootStage b (s.get F.GLB_STATUS_STAGE) := by
  have h : ¬ (s.bootHeld || s.on F.GLB_STATUS_ERR) = true := by simp [hheld, herr]
  exact if_neg h

theorem State.bootStage_over (s : State) (b : BootEnv) {n : Nat} (h : 7 < n) : s.bootStage b n = s := by
  unfold State.bootStage
  split
  case h_8 => rfl
  all_goals omega

/-! ### The events -/

theorem warmDeviceReset_starts {s : State} {cause : Nat} (det : Nat) (hp : s.perst = false) (hc : 3 ≤ cause) :
    warmDeviceReset cause det s = s.warmReset cause (if 4 ≤ cause ∧ cause ≤ 6 then det else 0xFF) := by
  simp [warmDeviceReset, hp, hc, within]

theorem warmDeviceReset_stays {s : State} {cause : Nat} (det : Nat) (h : s.perst = true ∨ cause < 3) :
    warmDeviceReset cause det s = s := by
  rcases h with h | h <;> simp [warmDeviceReset, h]

/-- Settles O51: each event takes the case that PERST# or the stage decides, and a warm reset leaves what the lemmas above say. -/
theorem resetsAndBoot : Obligations.ResetsAndBoot := by
  refine ⟨fun s => ?events, fun s cause det hc hd => ?warmEvent, fun s cause det hc hd => ?warm, fun s b => ?stages,
    fun s => ⟨s.bootClocks_time, s.bootFinal_shows.1, s.bootFinal_shows.2, fun code hcode => s.bootError_shows hcode⟩⟩
  case events =>
    rw [exec_powerOn s rfl, exec_aonBrownOut s rfl, exec_perstAssert s rfl, exec_perstDeassert s rfl, exec_pfFlr s rfl]
    refine ⟨rfl, rfl, rfl, fun hp => ?_, fun hp => ?_, fun hp => ?_, fun hp => ?_, fun rail hrail => ?_⟩
    · rw [perstDeassert, if_pos hp]
    · rw [perstDeassert, if_neg (by simp [hp])]
    · rw [pfFlr, if_neg (by simp [hp])]
    · rw [pfFlr, if_pos hp]
    · exact exec_railReturn s rail (by simp [Instr.wellFormed, hrail])
  case warmEvent =>
    rw [exec_warmDeviceReset s cause det (by simp [Instr.wellFormed, hc, hd])]
    exact ⟨fun hp hcause => by rw [warmDeviceReset_starts det hp hcause], fun h => by rw [warmDeviceReset_stays det h]⟩
  case warm =>
    obtain ⟨htime, hbeside⟩ := s.warmReset_keeps cause det
    obtain ⟨hstage, hwarm, hcause, hdet⟩ := s.warmReset_shows (cause := cause) (by omega) hd
    simp only [State.besideRegs, Prod.mk.injEq] at hbeside
    obtain ⟨hflash, hsvn, hroot, hmem, hplans, hqueues, hitems, hkeys, hpending⟩ := hbeside
    exact ⟨_, rfl, htime, hflash, hsvn, hroot, hmem, hplans, hqueues, hitems, hkeys, hpending, hstage, hwarm, hcause, hdet⟩
  case stages =>
    rw [exec_bootStageDone s b rfl]
    refine ⟨fun h => by rw [bootStageDone_held b h], fun hheld herr => ?_⟩
    rw [bootStageDone_eq b hheld herr]
    refine ⟨fun h => ?one, fun h => ?two, fun h => ?three, fun h => ?four, fun h => ?five, fun h => ?six, fun h => ?seven,
      fun h => by rw [s.bootStage_over b h]⟩
    all_goals rw [h]
    case one | two | five => exact ⟨fun hok => congrArg _ (if_pos hok), fun hok => congrArg _ (if_neg (by simp [hok]))⟩
    all_goals simp only [State.bootStage]

end Sys2Proof.Machine

/-! ## Encoders (R100 to R107)

The rules for the tables and registers of line I/O serve the section on inputs and outputs too. -/

namespace Sys2Proof.Machine

/-! ### Tables and registers of the line I/O -/

theorem tput_tput_same {α : Type} (l : List (Nat × α)) (n : Nat) (v w : α) : tput (tput l n v) n w = tput l n w := by
  induction l with
  | nil => simp [tput]
  | cons x t ih =>
    obtain ⟨k, y⟩ := x
    rcases Nat.lt_trichotomy n k with h | rfl | h
    · simp [tput, h]
    · simp [tput]
    · simp [tput, Nat.not_lt.mpr h.le, h.ne', ih]

section
variable (s : State)

@[simp] theorem State.enc_setEnc_same (n : Nat) (e : Enc) : (s.setEnc n e).enc n = e := tget_tput_same _ _ _ _

@[simp] theorem State.enc_setEnc_ne {n m : Nat} (e : Enc) (h : m ≠ n) : (s.setEnc n e).enc m = s.enc m :=
  tget_tput_ne _ _ _ h

@[simp] theorem State.get_setEnc (n : Nat) (e : Enc) (f : Fld) : (s.setEnc n e).get f = s.get f := (rfl)

@[simp] theorem State.on_setEnc (n : Nat) (e : Enc) (f : Fld) : (s.setEnc n e).on f = s.on f := (rfl)

@[simp] theorem State.enc_put (f : Fld) (v m : Nat) : (s.put f v).enc m = s.enc m := (rfl)

@[simp] theorem State.enc_putBit (f : Fld) (k m : Nat) (b : Bool) : (s.putBit f k b).enc m = s.enc m := (rfl)

@[simp] theorem State.enc_raiseLio (k m : Nat) : (s.raiseLio k).enc m = s.enc m := by
  simp [State.enc, State.raiseLio]

@[simp] theorem State.lineIn_setLineIn_same (i : Nat) (l : LineIn) : (s.setLineIn i l).lineIn i = l :=
  tget_tput_same _ _ _ _

@[simp] theorem State.setLineIn_setLineIn (i : Nat) (l m : LineIn) : (s.setLineIn i l).setLineIn i m = s.setLineIn i m := by
  simp [State.setLineIn, tput_tput_same]

@[simp] theorem State.get_setLineIn (i : Nat) (l : LineIn) (f : Fld) : (s.setLineIn i l).get f = s.get f := (rfl)

@[simp] theorem State.lineOut_setLineOut_same (j : Nat) (l : LineOut) : (s.setLineOut j l).lineOut j = l :=
  tget_tput_same _ _ _ _

@[simp] theorem State.lineOut_put (f : Fld) (v m : Nat) : (s.put f v).lineOut m = s.lineOut m := (rfl)

@[simp] theorem State.get_setLineOut (j : Nat) (l : LineOut) (f : Fld) : (s.setLineOut j l).get f = s.get f := (rfl)

/-- An event of the line I/O changes one register. -/
theorem State.get_raiseLio {f : Fld} (k : Nat) (h : f.reg.key ≠ R.LIO_EVENT.key) : (s.raiseLio k).get f = s.get f := by
  rw [State.raiseLio, State.raise]
  split
  · simpa [State.get, State.rd] using State.get_wr_ne s _ h
  · exact State.get_wr_ne s _ h

end

/-! ### One count (R101, R104, R106) -/

/-- The decoder of an encoder after a count in tick `t`, before HWM − POS is compared with BTLIM. -/
def Enc.counted (e : Enc) (up : Bool) (t : Nat) : Enc :=
  { e with pos := sint 64 (uint 64 (e.pos + if up then 1 else -1)), dir := some up,
           valid := if e.valid + 1 ≥ 1024 then 0 else e.valid + 1, lastCount := t }

/-- The quality level falls by one with the 1,024th valid count. -/
def State.countQuality (s : State) (n : Nat) : State :=
  if decide ((s.enc n).valid + 1 ≥ 1024) && decide (0 < s.get (F.LIO_ENC_STAT_QLVL n)) then
    s.put (F.LIO_ENC_STAT_QLVL n) (s.get (F.LIO_ENC_STAT_QLVL n) - 1)
  else s

/-- A count in the direction opposite to the last is a reversal. -/
def State.countReversal (s : State) (n : Nat) (up : Bool) : State :=
  if (s.enc n).dir == some (!up) then s.incSat (F.LIO_ENC_CNT_REVERSALS n) else s

section
variable (s : State) (n : Nat) (up : Bool)

/-- Reversals and quality are registers: what no register write changes stays. -/
theorem State.countReversal_keeps {α : Type} (g : State → α) (hput : ∀ t f v, g (State.put t f v) = g t) :
    g (s.countReversal n up) = g s := by
  unfold State.countReversal
  split
  · exact hput _ _ _
  · rfl

theorem State.countQuality_keeps {α : Type} (g : State → α) (hput : ∀ t f v, g (State.put t f v) = g t) :
    g (s.countQuality n) = g s := by
  unfold State.countQuality
  split
  · exact hput _ _ _
  · rfl

/-- The count registers of an encoder after a count. -/
def State.countRegs : State := (s.countReversal n up).countQuality n

theorem State.countRegs_keeps {α : Type} (g : State → α) (hput : ∀ t f v, g (State.put t f v) = g t) :
    g (s.countRegs n up) = g s :=
  (State.countQuality_keeps _ n g hput).trans (s.countReversal_keeps n up g hput)

@[simp] theorem State.enc_countRegs (m : Nat) : (s.countRegs n up).enc m = s.enc m :=
  s.countRegs_keeps n up (State.enc · m) fun _ _ _ => rfl

@[simp] theorem State.countRegs_time : (s.countRegs n up).time = s.time :=
  s.countRegs_keeps n up State.time fun _ _ _ => rfl

theorem State.countOne_eq : s.countOne n up =
    (((s.countRegs n up).setEnc n ((s.enc n).counted up s.time)).putBit F.LIO_STATUS_STOPPED n false).backtrack n := by
  rw [← s.countRegs_time n up, State.countRegs, State.countQuality,
    s.countReversal_keeps n up (State.enc · n) fun _ _ _ => rfl]
  rfl

/-- The comparison of HWM − POS with BTLIM raises an event or none, and notes what it found. -/
theorem State.backtrack_eq : ∃ t b, (t = s ∨ t = s.raiseLio 3) ∧ s.backtrack n = t.setEnc n { s.enc n with above := b } := by
  refine ⟨_, _, ?_, rfl⟩
  split
  · exact .inr rfl
  · exact .inl rfl

theorem State.backtrack_keeps {α : Type} (g : State → α) (hraise : ∀ t, g (State.raiseLio t 3) = g t)
    (henc : ∀ t e, g (State.setEnc t n e) = g t) : g (s.backtrack n) = g s := by
  obtain ⟨t, b, ht, heq⟩ := s.backtrack_eq n
  rw [heq, henc]
  rcases ht with rfl | rfl
  · rfl
  · exact hraise s

theorem State.get_backtrack {f : Fld} (h : f.reg.key ≠ R.LIO_EVENT.key) : (s.backtrack n).get f = s.get f :=
  s.backtrack_keeps n (State.get · f) (fun t => t.get_raiseLio 3 h) fun _ _ => rfl

theorem State.enc_backtrack : ∃ b, (s.backtrack n).enc n = { s.enc n with above := b } := by
  obtain ⟨t, b, -, heq⟩ := s.backtrack_eq n
  exact ⟨b, by rw [heq, State.enc_setEnc_same]⟩

theorem State.enc_countOne : ∃ b, (s.countOne n up).enc n = { (s.enc n).counted up s.time with above := b } := by
  rw [s.countOne_eq n up]
  simpa using State.enc_backtrack (((s.countRegs n up).setEnc n ((s.enc n).counted up s.time)).putBit F.LIO_STATUS_STOPPED n false) n

/-- What neither a register, an event nor this encoder's decoder changes is the same after a count. -/
theorem State.countOne_keeps {α : Type} (g : State → α) (hput : ∀ t f v, g (State.put t f v) = g t)
    (hraise : ∀ t, g (State.raiseLio t 3) = g t) (henc : ∀ t e, g (State.setEnc t n e) = g t) : g (s.countOne n up) = g s := by
  rw [s.countOne_eq n up, State.backtrack_keeps _ n g hraise henc, State.putBit, hput, henc, s.countRegs_keeps n up g hput]

theorem State.getBit_countOne_stopped (hn : n < 4) : (s.countOne n up).getBit F.LIO_STATUS_STOPPED n = false := by
  rw [s.countOne_eq n up, State.getBit, State.get_backtrack _ _ (by decide), ← State.getBit]
  exact State.getBit_putBit_same _ _ _ (by decide) (by decide) hn

theorem State.get_countOne_reversals (hn : n < 4) (hdir : (s.enc n).dir = some (!up)) :
    (s.countOne n up).get (F.LIO_ENC_CNT_REVERSALS n) = min (s.get (F.LIO_ENC_CNT_REVERSALS n) + 1) (2 ^ 16 - 1) := by
  have hevent : (R.LIO_ENC_CNT n).key ≠ R.LIO_EVENT.key := by simp [R.LIO_ENC_CNT, R.LIO_EVENT]; omega
  have hstatus : (R.LIO_ENC_CNT n).key ≠ R.LIO_STATUS.key := by simp [R.LIO_ENC_CNT, R.LIO_STATUS]; omega
  have hstat : (R.LIO_ENC_CNT n).key ≠ (R.LIO_ENC_STAT n).key := by simp [R.LIO_ENC_CNT, R.LIO_ENC_STAT]
  have hquality : ∀ t : State, (t.countQuality n).get (F.LIO_ENC_CNT_REVERSALS n) = t.get (F.LIO_ENC_CNT_REVERSALS n) := by
    intro t
    unfold State.countQuality
    split
    · exact t.get_put_ne _ hstat
    · rfl
  rw [s.countOne_eq n up, State.get_backtrack _ _ hevent, State.get_putBit_ne _ _ _ hstatus, State.get_setEnc,
    State.countRegs, hquality, State.countReversal, if_pos (by simp [hdir])]
  exact State.get_incSat_same _ (F.LIO_ENC_CNT_REVERSALS n) 1 (by simp [F.LIO_ENC_CNT_REVERSALS])
    (by simp [F.LIO_ENC_CNT_REVERSALS, R.LIO_ENC_CNT])

end

/-! ### Quadrature errors and the decoder's samples (R100, R101, R103) -/

/-- An error counted: QERR and the quality level rise, the valid counts begin again. -/
def State.countError (s : State) (n : Nat) : State :=
  ((s.incSat (F.LIO_ENC_CNT_QERR n)).put (F.LIO_ENC_STAT_QLVL n)
    (min (s.get (F.LIO_ENC_STAT_QLVL n) + 1) 255)).setEnc n { s.enc n with valid := 0 }

theorem State.get_countError_limit (s : State) (n : Nat) :
    (s.countError n).get (F.LIO_ENC_CFG_QERR_LIM n) = s.get (F.LIO_ENC_CFG_QERR_LIM n) := by
  have hstat : (R.LIO_ENC_CFG n).key ≠ (R.LIO_ENC_STAT n).key := by simp [R.LIO_ENC_CFG, R.LIO_ENC_STAT]
  have hcnt : (R.LIO_ENC_CFG n).key ≠ (R.LIO_ENC_CNT n).key := by simp [R.LIO_ENC_CFG, R.LIO_ENC_CNT]
  exact (State.get_put_ne _ _ hstat).trans (State.get_put_ne s _ hcnt)

theorem State.get_countError_quality (s : State) (n : Nat) :
    (s.countError n).get (F.LIO_ENC_STAT_QLVL n) = min (s.get (F.LIO_ENC_STAT_QLVL n) + 1) 255 := by
  rw [State.countError, State.get_setEnc,
    State.get_put_same _ (F.LIO_ENC_STAT_QLVL n) _ (Nat.zero_le _) (by simp [F.LIO_ENC_STAT_QLVL, R.LIO_ENC_STAT])]
  exact Nat.mod_eq_of_lt (lt_of_le_of_lt (Nat.min_le_right ..) (by simp [F.LIO_ENC_STAT_QLVL]))

/-- With QERR_LIM 0 no error loses the encoder (R103). -/
theorem State.quadError_of_no_limit (s : State) (n : Nat) (h : s.get (F.LIO_ENC_CFG_QERR_LIM n) = 0) :
    s.quadError n = s.countError n := by
  have hlim : ¬ (decide (0 < (s.countError n).get (F.LIO_ENC_CFG_QERR_LIM n)) && decide
      ((s.countError n).get (F.LIO_ENC_CFG_QERR_LIM n) ≤ min (s.get (F.LIO_ENC_STAT_QLVL n) + 1) 255)) = true := by
    simp [s.get_countError_limit n, h]
  exact if_neg hlim

section
variable {s : State} {n held : Nat} {a b : Bool}

/-- A sample counts when the pads are powered and the level has held for FILT + 1 cycles (R100). -/
theorem encCount_unfiltered (h : s.padIn = false ∨ held < s.get (F.LIO_ENC_CFG_FILT n) + 1) : encCount n a b held s = s := by
  refine if_neg ?_
  rcases h with h | h
  · simp [h]
  · simp [Nat.le_of_lt_succ h]

section
variable (hpad : s.padIn = true) (hheld : s.get (F.LIO_ENC_CFG_FILT n) + 1 ≤ held)
include hpad hheld

theorem encCount_of_held : encCount n a b held s =
    let u := s.setEnc n { s.enc n with a := a, b := b }
    if s.on (F.LIO_ENC_CFG_EN n) = false || s.encLost n then u
    else if (s.enc n).a != a && (s.enc n).b != b then u.quadError n
    else if (s.enc n).a == a && (s.enc n).b == b then u
    else u.countOne n (xor ((if (s.enc n).a != a then a != b else a == b) == Config.aLeadsUp)
      (s.on (F.LIO_ENC_CFG_DIR_INV n))) :=
  if_pos (by simp [hpad, hheld])

theorem encCount_idle (h : s.on (F.LIO_ENC_CFG_EN n) = false ∨ s.encLost n = true ∨ ((s.enc n).a = a ∧ (s.enc n).b = b)) :
    encCount n a b held s = s.setEnc n { s.enc n with a := a, b := b } := by
  rw [encCount_of_held hpad hheld]
  rcases h with h | h | ⟨ha, hb⟩
  · simp [h]
  · simp [h]
  · simp [ha, hb]

variable (hon : s.on (F.LIO_ENC_CFG_EN n) = true) (hlost : s.encLost n = false)
include hon hlost

theorem encCount_both_change (ha : (s.enc n).a ≠ a) (hb : (s.enc n).b ≠ b) :
    encCount n a b held s = (s.setEnc n { s.enc n with a := a, b := b }).quadError n := by
  rw [encCount_of_held hpad hheld]
  simp [hon, hlost, ha, hb]

theorem encCount_a_changes (ha : (s.enc n).a ≠ a) (hb : (s.enc n).b = b) : encCount n a b held s =
    (s.setEnc n { s.enc n with a := a, b := b }).countOne n
      (xor ((a != b) == Config.aLeadsUp) (s.on (F.LIO_ENC_CFG_DIR_INV n))) := by
  rw [encCount_of_held hpad hheld]
  simp [hon, hlost, ha, hb]

theorem encCount_b_changes (ha : (s.enc n).a = a) (hb : (s.enc n).b ≠ b) : encCount n a b held s =
    (s.setEnc n { s.enc n with a := a, b := b }).countOne n
      (xor ((a == b) == Config.aLeadsUp) (s.on (F.LIO_ENC_CFG_DIR_INV n))) := by
  rw [encCount_of_held hpad hheld]
  simp [hon, hlost, ha, hb]

end

/-! ### Z edges, the web's stop and RELOCK (R103, R104, R107) -/

theorem encZEdge_of_same {z : Bool} (hpad : s.padIn = true) (hheld : s.get (F.LIO_ENC_CFG_FILT n) + 1 ≤ held)
    (hz : (s.enc n).z = z) : encZEdge n z held s = s :=
  (if_pos (by simp [hpad, hheld])).trans (if_pos (by simp [hz]))

section
variable {z : Bool} (hpad : s.padIn = true) (hheld : s.get (F.LIO_ENC_CFG_FILT n) + 1 ≤ held) (hz : (s.enc n).z ≠ z)
  (hon : s.on (F.LIO_ENC_CFG_EN n) = true) (hzen : s.on (F.LIO_ENC_CFG_Z_EN n) = true)
  (hpol : z ≠ s.on (F.LIO_ENC_CFG_Z_POL n))
include hon hzen hpol

theorem zEdge_taken : ((s.setEnc n { s.enc n with z := z }).on (F.LIO_ENC_CFG_EN n) &&
    (s.setEnc n { s.enc n with z := z }).on (F.LIO_ENC_CFG_Z_EN n) &&
    (z != (s.setEnc n { s.enc n with z := z }).on (F.LIO_ENC_CFG_Z_POL n))) = true := by
  simp [hon, hzen, hpol]

include hpad hheld hz

/-- An edge of Z_POL captures POS; POS not behind HWM and beyond the mark before makes a mark (R107). -/
theorem encZEdge_marks (hhwm : (s.enc n).hwm ≤ (s.enc n).pos) (hnew : ∀ p, (s.enc n).prevZ = some p → p < (s.enc n).pos) :
    encZEdge n z held s = State.mark (((s.setEnc n { s.enc n with z := z }).wr (R.LIO_ENC_ZPOS n) (uint 64 (s.enc n).pos)).setEnc n
      { s.enc n with z := z, prevZ := some (s.enc n).pos }) 2 n 0 (tf64 s.time) (fun _ => (s.enc n).pos) := by
  refine (if_pos (by simp [hpad, hheld])).trans ((if_neg (by simp [hz])).trans
    ((if_pos (zEdge_taken hon hzen hpol)).trans (if_pos ?_)))
  cases hprev : (s.enc n).prevZ with
  | none => simp [hhwm]
  | some p => simp [hhwm, hnew p hprev]

theorem encZEdge_behind (hhwm : (s.enc n).pos < (s.enc n).hwm) :
    encZEdge n z held s = (s.setEnc n { s.enc n with z := z }).wr (R.LIO_ENC_ZPOS n) (uint 64 (s.enc n).pos) :=
  (if_pos (by simp [hpad, hheld])).trans ((if_neg (by simp [hz])).trans
    ((if_pos (zEdge_taken hon hzen hpol)).trans (if_neg (by simp [Int.not_le.mpr hhwm]))))

end

theorem webStopped_stops (hon : s.on (F.LIO_ENC_CFG_EN n) = true) (hmoves : s.getBit F.LIO_STATUS_STOPPED n = false)
    (hlate : (s.enc n).lastCount + s.get (F.LIO_ENC_STOP_STOP_US n) * 100 ≤ s.time) :
    webStopped n s = (s.putBit F.LIO_STATUS_STOPPED n true).raiseLio 0 :=
  if_pos (by simp [hon, hmoves, hlate])

theorem webStopped_stays (h : s.on (F.LIO_ENC_CFG_EN n) = false ∨ s.getBit F.LIO_STATUS_STOPPED n = true ∨
    s.time < (s.enc n).lastCount + s.get (F.LIO_ENC_STOP_STOP_US n) * 100) : webStopped n s = s := by
  refine if_neg ?_
  rcases h with h | h | h <;> simp [h]

/-- RELOCK of a lost encoder: POS is HWM and the quality level is 0 (R103). -/
def State.relocked (s : State) (n : Nat) : State :=
  ((s.setEnc n { s.enc n with pos := (s.enc n).hwm, above := false, valid := 0 }).put (F.LIO_ENC_STAT_QLVL n) 0).putBit
    F.LIO_STATUS_LOST n false

theorem encRelock_of_lost (hready : s.ready = true) (hlost : s.encLost n = true) : encRelock n s = s.relocked n :=
  if_pos (by simp [hready, hlost])

theorem encRelock_of_found (hlost : s.encLost n = false) : encRelock n s = s :=
  if_neg (by simp [hlost])

theorem State.relocked_found (hn : n < 4) : (s.relocked n).encLost n = false :=
  State.getBit_putBit_same _ _ _ (by decide) (by decide) hn

theorem State.get_relocked_quality (hn : n < 4) : (s.relocked n).get (F.LIO_ENC_STAT_QLVL n) = 0 := by
  have hstatus : (R.LIO_ENC_STAT n).key ≠ R.LIO_STATUS.key := by simp [R.LIO_ENC_STAT, R.LIO_STATUS]; omega
  rw [State.relocked, State.get_putBit_ne _ _ _ hstatus,
    State.get_put_same _ (F.LIO_ENC_STAT_QLVL n) _ (Nat.zero_le _) (by simp [F.LIO_ENC_STAT_QLVL, R.LIO_ENC_STAT])]
  exact Nat.zero_mod _

theorem State.herdState_relocked (hn : n < 4) : (s.relocked n).herdState = s.herdState := by
  have hstat : R.HRD_STATUS.key ≠ (R.LIO_ENC_STAT n).key := by simp [R.LIO_ENC_STAT, R.HRD_STATUS]; omega
  rw [State.herdState, State.relocked, State.get_putBit_ne _ _ _ (by decide), State.get_put_ne _ _ hstat]
  rfl

theorem lioEncRelock_of_lost (hn : n < 4) (hready : s.ready = true) (hlost : s.encLost n = true) (hherd : s.herdState ≠ 2) :
    lioEncRelock n s = s.relocked n := by
  simp [lioEncRelock, encRelock_of_lost hready hlost, State.herdState_relocked hn, hherd]

theorem lioEncRelock_of_found (hlost : s.encLost n = false) : lioEncRelock n s = s := by
  simp [lioEncRelock, encRelock_of_found hlost, hlost]

end

/-- Settles O35: the events are well formed for the four encoders, so each clause is one lemma above. -/
theorem encoders : Obligations.Encoders := by
  refine ⟨fun s n held a b hn => ?samples, fun s n up hn => ?count, fun s n hlim => ?error,
    fun s n held z hn hpad hheld => ?edges, fun s n hn => ?stops⟩
  case samples =>
    rw [exec_encCount s n a b held (decide_eq_true hn)]
    refine ⟨fun h => ?_, fun hpad hheld => ⟨fun h => ?_, fun hon hlost ha hb => ?_, fun hon hlost ha hb => ?_,
      fun hon hlost ha hb => ?_⟩⟩
    · rw [encCount_unfiltered h]
    · rw [encCount_idle hpad hheld h]
    · rw [encCount_both_change hpad hheld hon hlost ha hb]
    · rw [encCount_a_changes hpad hheld hon hlost ha hb]
    · rw [encCount_b_changes hpad hheld hon hlost ha hb]
  case count =>
    obtain ⟨above, henc⟩ := s.enc_countOne n up
    refine ⟨by rw [henc]; rfl, by rw [henc]; rfl, by rw [henc]; rfl, s.getBit_countOne_stopped n up hn,
      s.get_countOne_reversals n up hn, fun m hm => ?_, ?_, ?_, ?_⟩
    · exact s.countOne_keeps n up (State.enc · m) (fun _ _ _ => rfl) (fun t => t.enc_raiseLio 3 m)
        fun t e => t.enc_setEnc_ne e hm
    · exact s.countOne_keeps n up State.mem (fun _ _ _ => rfl) (fun t => t.raiseLio_mem 3) fun _ _ => rfl
    · exact s.countOne_keeps n up State.plans (fun _ _ _ => rfl) (fun t => t.raiseLio_plans 3) fun _ _ => rfl
    · exact s.countOne_keeps n up State.items (fun _ _ _ => rfl) (fun t => t.raiseLio_items 3) fun _ _ => rfl
  case error =>
    rw [s.quadError_of_no_limit n hlim]
    exact ⟨s.get_countError_quality n, by rw [State.countError, State.enc_setEnc_same]⟩
  case edges =>
    rw [exec_encZEdge s n z held (decide_eq_true hn)]
    refine ⟨fun hz => ?_, fun hz hon hzen hpol => ⟨fun hhwm hnew => ?_, fun hhwm => ?_⟩⟩
    · rw [encZEdge_of_same hpad hheld hz]
    · rw [encZEdge_marks hpad hheld hz hon hzen hpol hhwm hnew]
    · rw [encZEdge_behind hpad hheld hz hon hzen hpol hhwm]
  case stops =>
    rw [exec_webStopped s n (decide_eq_true hn), exec_lioEncRelock s n (decide_eq_true hn)]
    refine ⟨fun hon hmoves hlate => ?_, fun h => ?_, fun hready hlost hherd => ?_, fun hlost => ?_⟩
    · rw [webStopped_stops hon hmoves hlate]
    · rw [webStopped_stays h]
    · have henc : (s.relocked n).enc n = { s.enc n with pos := (s.enc n).hwm, above := false, valid := 0 } := by
        simp [State.relocked]
      exact ⟨_, congrArg _ (lioEncRelock_of_lost hn hready hlost hherd), by rw [henc], by rw [henc], State.relocked_found hn,
        State.get_relocked_quality hn, fun m hm => by simp [State.relocked, hm], rfl, rfl⟩
    · rw [lioEncRelock_of_found hlost]

end Sys2Proof.Machine

/-! ## Line inputs, line outputs and strobes (R108 to R118, R157) -/

namespace Sys2Proof.Machine

/-! ### Edges of a line input (R108) -/

/-- The tick that contains the raw time of a filtered edge. -/
def State.liRawTime (s : State) (i phase : Nat) : Nat := (4 * s.time + phase - (s.get (F.LIO_LI_CFG_FILT i) + 1)) / 4

section
variable {s : State} {i held phase : Nat} {level : Bool}

theorem liEdge_stays (h : s.padIn = false ∨ held < s.get (F.LIO_LI_CFG_FILT i) + 1 ∨
    (s.lineIn i).active = (level != s.on (F.LIO_LI_CFG_POL i))) : liEdge i level held phase s = s := by
  refine if_neg ?_
  rcases h with h | h | h
  · simp [h]
  · simp [Nat.le_of_lt_succ h]
  · simp [← h]

variable (hpad : s.padIn = true) (hheld : s.get (F.LIO_LI_CFG_FILT i) + 1 ≤ held)
include hpad hheld

section
variable (hidle : (s.lineIn i).active = false) (hact : (level != s.on (F.LIO_LI_CFG_POL i)) = true)
include hidle hact

/-- An active edge begins a period at its raw time; EDGE and MIN_US say whether it is captured, and when. -/
theorem liEdge_begins : liEdge i level held phase s =
    let t := s.liRawTime i phase
    let u := s.setLineIn i { s.lineIn i with active := true, since := t, held := none }
    if s.get (F.LIO_LI_CFG_EDGE i) == 0 || s.get (F.LIO_LI_CFG_EDGE i) == 2 then
      if s.get (F.LIO_LI_CFG_MIN_US i) * 100 = 0 then u.liCapture i t (s.hwmsAt t)
      else u.setLineIn i { s.lineIn i with active := true, since := t, held := some (t, s.hwmsAt t) }
    else u :=
  (if_pos (by simp only [hpad, hheld, hidle, hact]; rfl)).trans (if_pos hact)

theorem liEdge_captures (hmin : s.get (F.LIO_LI_CFG_MIN_US i) = 0)
    (hedge : s.get (F.LIO_LI_CFG_EDGE i) = 0 ∨ s.get (F.LIO_LI_CFG_EDGE i) = 2) : liEdge i level held phase s =
    (s.setLineIn i { s.lineIn i with active := true, since := s.liRawTime i phase, held := none }).liCapture i
      (s.liRawTime i phase) (s.hwmsAt (s.liRawTime i phase)) := by
  rw [liEdge_begins hpad hheld hidle hact]
  exact (if_pos (by simpa using hedge)).trans (if_pos (by rw [hmin]))

theorem liEdge_not_captured (hedge : s.get (F.LIO_LI_CFG_EDGE i) = 1) : liEdge i level held phase s =
    s.setLineIn i { s.lineIn i with active := true, since := s.liRawTime i phase, held := none } := by
  rw [liEdge_begins hpad hheld hidle hact]
  exact if_neg (by simp [hedge])

end

section
variable (hactive : (s.lineIn i).active = true) (hact : (level != s.on (F.LIO_LI_CFG_POL i)) = false)
include hactive hact

theorem liEdge_ends_stuck (hstuck : s.getBit F.LIO_STATUS_STUCK i = true) : liEdge i level held phase s =
    (s.setLineIn i { s.lineIn i with active := false, held := none }).putBit F.LIO_STATUS_STUCK i false :=
  (if_pos (by simp only [hpad, hheld, hactive, hact]; rfl)).trans ((if_neg (by simp [hact])).trans (if_pos hstuck))

/-- A period shorter than MIN_US is only counted. -/
theorem liEdge_ends_short (hfree : s.getBit F.LIO_STATUS_STUCK i = false)
    (hshort : s.liRawTime i phase < (s.lineIn i).since + s.get (F.LIO_LI_CFG_MIN_US i) * 100) : liEdge i level held phase s =
    s.setLineIn i { s.lineIn i with active := false, held := none, short := (s.lineIn i).short + 1 } := by
  have hfree' : ¬ (s.setLineIn i { s.lineIn i with active := false, held := none }).getBit F.LIO_STATUS_STUCK i = true := by
    simp [State.getBit, State.get_setLineIn, ← hfree]
  refine (if_pos (by simp only [hpad, hheld, hactive, hact]; rfl)).trans
    ((if_neg (by simp [hact])).trans ((if_neg hfree').trans ((if_pos hshort).trans ?_)))
  rw [State.setLineIn_setLineIn, State.lineIn_setLineIn_same]

end

end

section
variable (s : State) (i t : Nat) (h : List Int)

/-- A capture writes the edge's time; its mark reaches the plans only. -/
theorem State.rd_liCapture_last : (s.liCapture i t h).rd (R.LIO_LI_LAST i) = t % 2 ^ 64 :=
  s.rd_wr_same (R.LIO_LI_LAST i) t

theorem State.lineIn_liCapture : (s.liCapture i t h).lineIn i = { s.lineIn i with capT := some s.time } :=
  State.lineIn_setLineIn_same _ i _

end

section
variable {s : State} {i : Nat}

theorem liStuck_sticks (hactive : (s.lineIn i).active = true) (hmax : 0 < s.get (F.LIO_LI_CFG_MAX_MS i))
    (hlong : (s.lineIn i).since + s.get (F.LIO_LI_CFG_MAX_MS i) * 100000 < s.time) (hfree : s.getBit F.LIO_STATUS_STUCK i = false) :
    liStuck i s = ((s.putBit F.LIO_STATUS_STUCK i true).setLineIn i { s.lineIn i with held := none }).raiseLio 4 :=
  if_pos (by simp [hactive, hmax, hlong, hfree])

theorem liStuck_stays (h : (s.lineIn i).active = false ∨ s.get (F.LIO_LI_CFG_MAX_MS i) = 0 ∨
    s.time ≤ (s.lineIn i).since + s.get (F.LIO_LI_CFG_MAX_MS i) * 100000) : liStuck i s = s := by
  refine if_neg ?_
  rcases h with h | h | h
  · simp [h]
  · simp [h]
  · simp [Nat.not_lt.mpr h]

end

/-! ### Pulses of an output (R109, R111, R112, R115) -/

section
variable {s : State} {j len : Nat}

theorem State.firePulse_starts (h : s.pulseActive j = false) : s.firePulse j len =
    (s.setLineOut j { s.lineOut j with pulseEnd := some (s.time + 2 + len) }).incWrap (F.LIO_LO_FIRED_FIRED j) := by
  cases hend : (s.lineOut j).pulseEnd with
  | none => simp [State.firePulse, hend]
  | some e =>
    have hover : ¬ s.time < e := by simpa [State.pulseActive, hend] using h
    simp [State.firePulse, hend, hover]

theorem State.firePulse_joins {e : Nat} (hend : (s.lineOut j).pulseEnd = some e) (hactive : s.time < e) : s.firePulse j len =
    (s.setLineOut j { s.lineOut j with pulseEnd := some (max (s.time + 2 + len) e) }).incSat (F.LIO_LO_CNT1_MERGE j) := by
  simp [State.firePulse, hend, hactive]

/-- A pulse changes the end of the output's pulse and one counter. -/
theorem State.firePulse_writes (s : State) (j len : Nat) :
    ∃ e f v, s.firePulse j len = (s.setLineOut j { s.lineOut j with pulseEnd := some e }).put f v := by
  cases hactive : s.pulseActive j with
  | false => exact ⟨_, _, _, State.firePulse_starts hactive⟩
  | true =>
    cases hend : (s.lineOut j).pulseEnd with
    | none => simp [State.pulseActive, hend] at hactive
    | some e => exact ⟨_, _, _, State.firePulse_joins hend (by simpa [State.pulseActive, hend] using hactive)⟩

theorem State.get_firePulse_fired (h : s.pulseActive j = false) :
    (s.firePulse j len).get (F.LIO_LO_FIRED_FIRED j) = (s.get (F.LIO_LO_FIRED_FIRED j) + 1) % 2 ^ 32 := by
  rw [State.firePulse_starts h, State.incWrap, State.get_setLineOut]
  exact State.get_put_same _ (F.LIO_LO_FIRED_FIRED j) _ (Nat.zero_le _) (by simp [F.LIO_LO_FIRED_FIRED, R.LIO_LO_FIRED])

theorem State.get_firePulse_merge {e : Nat} (hend : (s.lineOut j).pulseEnd = some e) (hactive : s.time < e) :
    (s.firePulse j len).get (F.LIO_LO_CNT1_MERGE j) = min (s.get (F.LIO_LO_CNT1_MERGE j) + 1) (2 ^ 16 - 1) := by
  rw [State.firePulse_joins hend hactive]
  exact State.get_incSat_same _ (F.LIO_LO_CNT1_MERGE j) 1 (Nat.zero_le _) (by simp [F.LIO_LO_CNT1_MERGE, R.LIO_LO_CNT1])

theorem outputFire_fires {k : Nat} {x : OutEntry} (hfirst : findIdx (s.entryDue ·) 0 (s.lineOut j).pend = some k)
    (hx : (s.lineOut j).pend[k]? = some x) : outputFire j s =
    (s.setLineOut j { s.lineOut j with pend := (s.lineOut j).pend.eraseIdx k }).firePulse j x.pulse := by
  simp [outputFire, hfirst, hx]

theorem findIdx_eq_none {α : Type} {p : α → Bool} {l : List α} (h : ∀ x ∈ l, p x = false) (n : Nat) : findIdx p n l = none := by
  induction l generalizing n with
  | nil => rfl
  | cons x t ih =>
    rw [List.forall_mem_cons] at h
    simp [findIdx, h.1, ih h.2]

theorem outputFire_idle (h : ∀ x ∈ (s.lineOut j).pend, s.entryDue x = false) : outputFire j s = s := by
  simp [outputFire, findIdx_eq_none h]

theorem outputPulseEnd_eq {e : Nat} (hend : (s.lineOut j).pulseEnd = some e) : outputPulseEnd j s =
    if e ≤ s.time then s.setLineOut j { s.lineOut j with pulseEnd := none } else s := by
  simp [outputPulseEnd, hend]

theorem loForce_fires (hready : s.ready = true) (hfree : s.claimed 8 j = false) (hlo : 1 ≤ len) (hhi : len ≤ 1000000) :
    loForce j len s = s.firePulse j len :=
  if_pos (by simp [hready, hfree, hlo, hhi])

theorem loForce_refused (h : s.claimed 8 j = true ∨ len = 0 ∨ 1000000 < len) : loForce j len s = s := by
  refine if_neg ?_
  rcases h with h | h | h
  · simp [h]
  · simp [h]
  · simp [Nat.not_le.mpr h]

end

/-! ### STROBE records in their first beat (R117, R118, R157) -/

section
variable {s : State} {r : RecRun} {a : Act} (hdue : s.due? r 8 = some a) (hbeat : s.beat = a.start)
include hdue hbeat

theorem strobe_without_domains (hoff : s.actDomains a = false) : strobe r s = (s.faultAct a).markRan r := by
  simp [strobe, hdue, hbeat, hoff]

theorem strobe_at_beat (hon : s.actDomains a = true) (href : bits a.rcd.op0 3 2 = 0) :
    strobe r s = (s.markRan r).sendTrain a.rcd.op0 a.rcd.op1 a.rcd.op2 (tickTf (a.start * 500)) := by
  simp [strobe, hdue, hbeat, hon, href]

theorem strobe_at_fire {y : FabEvent} (hon : s.actDomains a = true) (href : bits a.rcd.op0 3 2 ≠ 0)
    (hfire : s.fabric.find? (fun y => y.fire && y.line == bits a.rcd.op0 9 4 && y.beat == s.beat) = some y) :
    strobe r s = (s.markRan r).sendTrain a.rcd.op0 a.rcd.op1 a.rcd.op2 y.lo := by
  rw [hbeat] at hfire
  simp [strobe, hdue, hbeat, hon, href, hfire]

end

/-- Settles O36: the events are well formed for their inputs and outputs, so each clause is one lemma above. -/
theorem lineInputsOutputs : Obligations.LineInputsOutputs := by
  refine ⟨fun s i held phase level hi hphase => ?edges, fun s i t h => ?capture, fun s i hi => ?stuck,
    fun s j hj => ?outputs, fun s j len hj hlen => ?force, fun s j len => ?pulse, fun s r a hr hdue hbeat => ?strobes⟩
  case edges =>
    rw [exec_liEdge s i level held phase (by simp [Instr.wellFormed, hi, hphase])]
    refine ⟨fun h => ?_, fun hpad hheld hidle hact => ⟨fun hmin hedge => ?_, fun hedge => ?_⟩,
      fun hpad hheld hactive hact => ⟨fun hstuck => ?_, fun hfree hshort => ?_⟩⟩
    · rw [liEdge_stays h]
    · exact congrArg _ (liEdge_captures hpad hheld hidle hact hmin hedge)
    · exact congrArg _ (liEdge_not_captured hpad hheld hidle hact hedge)
    · rw [liEdge_ends_stuck hpad hheld hactive hact hstuck]
    · rw [liEdge_ends_short hpad hheld hactive hact hfree hshort]
  case capture =>
    exact ⟨s.rd_liCapture_last i t h, by rw [s.lineIn_liCapture i t h], rfl, rfl⟩
  case stuck =>
    rw [exec_liStuck s i (decide_eq_true hi)]
    refine ⟨fun hactive hmax hlong hfree => ?_, fun h => ?_⟩
    · rw [liStuck_sticks hactive hmax hlong hfree]
    · rw [liStuck_stays h]
  case outputs =>
    rw [exec_outputFire s j (decide_eq_true hj), exec_outputPulseEnd s j (decide_eq_true hj)]
    refine ⟨fun k x hfirst hx => ?_, fun h => ?_, fun e hend => ?_⟩
    · rw [outputFire_fires hfirst hx]
    · rw [outputFire_idle h]
    · rw [outputPulseEnd_eq hend]
      exact ⟨fun hover => by rw [if_pos hover], fun hactive => by rw [if_neg (Nat.not_le.mpr hactive)]⟩
  case force =>
    rw [exec_lioLoForce s j len (by simpa [Instr.wellFormed, hj] using hlen)]
    exact ⟨fun hready hfree hlo hhi => by rw [loForce_fires hready hfree hlo hhi], fun h => by rw [loForce_refused h]⟩
  case pulse =>
    refine ⟨fun h => ⟨?_, State.get_firePulse_fired h⟩, fun e hend hactive => ⟨?_, State.get_firePulse_merge hend hactive⟩, ?_⟩
    · rw [State.firePulse_starts h]
      exact congrArg LineOut.pulseEnd (State.lineOut_setLineOut_same s j _)
    · rw [State.firePulse_joins hend hactive]
      exact congrArg LineOut.pulseEnd (State.lineOut_setLineOut_same s j _)
    · obtain ⟨e, f, v, hwrites⟩ := State.firePulse_writes s j len
      rw [hwrites]
      exact ⟨by rw [State.lineOut_put, State.lineOut_setLineOut_same], rfl, rfl⟩
  case strobes =>
    rw [exec_strobe s r hr]
    refine ⟨fun hoff => ?_, fun hon href => ?_, fun y hon href hfire => ?_⟩
    · rw [strobe_without_domains hdue hbeat hoff]
    · rw [strobe_at_beat hdue hbeat hon href]
    · rw [strobe_at_fire hdue hbeat hon href hfire]

end Sys2Proof.Machine

/-! ## ACQ_CONFIG, ACQ_SYNC and ACQ_READOUT (R152, R153, R158, R166 to R168, R174 to R176) -/

namespace Sys2Proof.Machine

/-! ### Buffers that a command writes -/

/-- A command whose destination is pinned, with its pages brought in, works on the segments of the span. -/
theorem State.withDest_of_ok {s s1 : State} {e : HostEnv} {c dva n : Nat} {g g1 : List Seg} (f : List Seg → State → CmdOut)
    (hpin : s.pinned c dva n 2 = some g) (hin : s.bringIn e c dva n = (.ok (), s1)) (hpin1 : s1.pinned c dva n 2 = some g1) :
    s.withDest e c dva n f = f g1 s1 := by
  simp [State.withDest, hpin, hin, hpin1]

section
variable {s s1 : State} {c : Nat} {e : HostEnv} {k : Cmd} {b : Bytes}

/-! ### ACQ_CONFIG (R174) -/

section
variable (hn : pf k.par 8 1 ≤ 7)
include hn

/-- The head of ACQ_CONFIG STOP and FORCE: the channel and the ACTION exist. -/
theorem acqHead_ok (hact : pf k.par 9 1 ≤ 4) : ¬ (decide (7 < pf k.par 8 1) || decide (4 < pf k.par 9 1)) = true := by
  simp [hn, hact]

theorem cmdAcqStop_ends (hact : pf k.par 9 1 = 0) (h : s.bgOther c (pf k.par 8 1) = false ∨ c = 0) :
    cmdAcqStop c k s = okay (s.acqStop (pf k.par 8 1)) :=
  (if_neg (acqHead_ok hn (by omega))).trans (if_neg (by rcases h with h | h <;> simp [h]))

theorem cmdAcqStop_of_other (hact : pf k.par 9 1 = 0) (h : s.bgOther c (pf k.par 8 1) = true) (hc : c ≠ 0) :
    cmdAcqStop c k s = refuse s stBadState :=
  (if_neg (acqHead_ok hn (by omega))).trans (if_pos (by simp [h, hc]))

/-- A block that was read for an OFF channel is applied when its fields are in range, else refused. -/
theorem cmdAcqApply_of_read (hact : pf k.par 9 1 = 1) (halign : pf k.par 16 8 % 64 = 0) (hlen : pf k.par 24 4 = 832)
    (hoff : s.acqState (pf k.par 8 1) = 0) (hread : s.cmdRead e c (pf k.par 16 8) 832 = (.ok b, s1)) :
    cmdAcqApply c e k s =
      if acqBlockOk (leNat b) then okay (s1.setAcq (pf k.par 8 1) { s1.acq (pf k.par 8 1) with blk := leNat b })
      else refuse s1 stBadParam := by
  simp [cmdAcqApply, hn.not_gt, hact, halign, hlen, hoff, State.withRead_of_ok _ hread]

/-! ### A background capture starts and is triggered (R158, R166, R167) -/

/-- The banks of the channel's region are neither claimed nor in another channel's region. -/
def State.regionFree (s : State) (n : Nat) : Prop :=
  ∀ b ∈ (s.acq n).region, s.claimed 4 b = false ∧ ∀ m < 8, m ≠ n → b ∉ (s.acq m).region

section
variable (hact : pf k.par 9 1 = 2) (hprof : pf k.par 10 1 ≤ 15)
include hact hprof

theorem cmdAcqStart_of_busy (h : s.acqState (pf k.par 8 1) ≠ 0) : cmdAcqStart c k s = refuse s stBadState := by
  simp [cmdAcqStart, hn.not_gt, hact, hprof.not_gt, h]

theorem cmdAcqStart_starts (hoff : s.acqState (pf k.par 8 1) = 0)
    (hsrc : pBgSrc ((s.acq (pf k.par 8 1)).profile (pf k.par 10 1)) ≤ 2)
    (hok : profileOk ((s.acq (pf k.par 8 1)).profile (pf k.par 10 1)) = true) (hfree : s.regionFree (pf k.par 8 1))
    (hfits : segBytes ((s.acq (pf k.par 8 1)).profile (pf k.par 10 1)) (pLen ((s.acq (pf k.par 8 1)).profile (pf k.par 10 1))) ≤
      (s.acq (pf k.par 8 1)).regionLen) :
    cmdAcqStart c k s =
      let n := pf k.par 8 1
      okay (((((((s.zeroLa (s.acq n).regionLa (s.acq n).regionLen).setAcq n
        { s.acq n with cap := some (Capture.start ((s.acq n).profile (pf k.par 10 1))), segs := [] }).wr (R.ACQ_CH_SEQ n) 0).wr
        (R.ACQ_CH_OLDEST n) 0).put (F.ACQ_CH_STATE_OWNER n) c).setAcqState n 1)) := by
  have hhead : ¬ (decide (7 < pf k.par 8 1) || decide (4 < pf k.par 9 1) || decide (15 < pf k.par 10 1)) = true := by
    simp [hn, hact, hprof]
  refine (if_neg hhead).trans ((if_neg ?_).trans ((if_neg ?_).trans (if_neg ?_)))
  · simp [hoff, hsrc]
  · simp [hok]
  · simpa [hfits, mem_rangeFrom, State.regionFree] using hfree

end

section
variable (hact : pf k.par 9 1 = 3)
include hact

theorem cmdAcqForce_triggers {y : Capture} (harmed : s.acqState (pf k.par 8 1) = 2) (hown : s.bgOther c (pf k.par 8 1) = false)
    (hcap : (s.acq (pf k.par 8 1)).cap = some y) :
    cmdAcqForce c k s =
      let r := s.takeTrigger (pf k.par 8 1) y (tickTf s.time) 1
      okay ((r.2.setAcq (pf k.par 8 1) { s.acq (pf k.par 8 1) with cap := some r.1 }).setAcqState (pf k.par 8 1) 3) := by
  simp [cmdAcqForce, hn.not_gt, hact, harmed, hown, hcap]

theorem cmdAcqForce_of_not_armed (h : s.acqState (pf k.par 8 1) ≠ 2 ∨ s.bgOther c (pf k.par 8 1) = true) :
    cmdAcqForce c k s = refuse s stBadState :=
  (if_neg (acqHead_ok hn (by omega))).trans (if_pos (by simpa using h))

end

/-- Pairing an OFF channel with the next changes the pair mode, where it is not the one asked for (R152). -/
theorem cmdAcqPair_of_off (hact : pf k.par 9 1 = 4) (heven : pf k.par 8 1 % 2 = 0) (hmode : pf k.par 11 1 ≤ 1)
    (hown : s.bgOther c (pf k.par 8 1) = false) (hoff : s.acqState (pf k.par 8 1) = 0)
    (hnext : s.acqState (pf k.par 8 1 + 1) = (if s.paired (pf k.par 8 1) then 7 else 0)) :
    cmdAcqPair c k s =
      if s.paired (pf k.par 8 1) = (pf k.par 11 1 == 1) then okay s
      else okay (s.setPair (pf k.par 8 1) (pf k.par 11 1 == 1)) := by
  simp [cmdAcqPair, hn.not_gt, hact, heven, hmode.not_gt, hown, hoff, hnext]

end

/-! ### ACQ_SYNC (R175) -/

/-- The tick at which an ACQ_SYNC takes effect: AT, or with AT 0 the earliest one. -/
def State.syncAt (s : State) (k : Cmd) : Nat := if pf k.par 16 8 = 0 then s.time + 200 else pf k.par 16 8

theorem cmdAcqSync_too_soon (h : s.syncAt k < s.time + 200) : cmdAcqSync k s = refuse s stBadParam :=
  if_pos h

theorem any_rangeFrom_eight {p : Nat → Bool} : (rangeFrom 0 8).any p = true ↔ ∃ n < 8, p n = true := by
  simp [List.any_eq_true, mem_rangeFrom]

theorem cmdAcqSync_of_planned (hat : s.time + 200 ≤ s.syncAt k) (h : ∃ n < 8, s.acqState n = 6) :
    cmdAcqSync k s = refuse s stBadState :=
  (if_neg hat.not_gt).trans (if_pos (any_rangeFrom_eight.mpr (by simpa using h)))

theorem cmdAcqSync_waits (hat : s.time + 200 ≤ s.syncAt k) (h : ∀ n < 8, s.acqState n ≠ 6) :
    cmdAcqSync k s = .wait (.atTick (s.syncAt k)) s :=
  (if_neg hat.not_gt).trans (if_neg fun hany => by
    obtain ⟨n, hlt, heq⟩ := any_rangeFrom_eight.mp hany
    exact h n hlt (by simpa using heq))

/-! ### ACQ_READOUT (R176) -/

@[simp] theorem takeSegs_none (l : List (Nat × Nat × Nat)) (len : Nat) : takeSegs l 0 len = [] := by
  cases l <;> simp [takeSegs]

theorem takeSegs_one {y : Nat × Nat × Nat} {len : Nat} (l : List (Nat × Nat × Nat)) (h : y.2.2 ≤ len) :
    takeSegs (y :: l) 1 len = [y] := by
  simp [takeSegs, h.not_gt]

/-- The stored segments that a readout may copy: those from its first SEQ on. -/
def State.segsFrom (s : State) (k : Cmd) : List (Nat × Nat × Nat) :=
  (s.acq (pf k.par 8 1)).segs.filter (fun y => pf k.par 12 4 == 0xFFFFFFFF || decide (pf k.par 12 4 ≤ y.1))

/-- Segments read one after another, as background work. -/
def State.readStored (s : State) (c : Nat) (l : List (Nat × Nat × Nat)) : List PByte × State :=
  l.foldl (fun acc x => let y := acc.2.readBg (Who.cpx c) x.2.1 x.2.2; (acc.1 ++ y.1, y.2)) ([], s)

theorem State.readStored_one (y : Nat × Nat × Nat) : s.readStored c [y] = s.readBg (Who.cpx c) y.2.1 y.2.2 := by
  simp [State.readStored]

section
variable (hn : pf k.par 8 1 ≤ 7) (hlo : 1 ≤ pf k.par 16 4) (hhi : pf k.par 16 4 ≤ 65536) (halign : pf k.par 24 8 % 64 = 0)
include hn hlo hhi halign

theorem cmdAcqReadout_of_planned (h : 6 ≤ s.acqState (pf k.par 8 1)) : cmdAcqReadout c e k s = refuse s stBadState := by
  simp [cmdAcqReadout, hn.not_gt, within, hlo, hhi, halign, h]

variable (hstate : s.acqState (pf k.par 8 1) < 6) (hother : s.bgOther c (pf k.par 8 1) = false)
  (hown : s.get (F.ACQ_CH_STATE_OWNER (pf k.par 8 1)) = c)
include hstate hother hown

/-- The buffer does not hold the first segment. -/
theorem cmdAcqReadout_too_short {y : Nat × Nat × Nat} {l : List (Nat × Nat × Nat)} (hsegs : s.segsFrom k = y :: l)
    (hlen : pf k.par 32 4 < y.2.2) : cmdAcqReadout c e k s = refuse s stBadParam := by
  unfold State.segsFrom at hsegs
  simp [cmdAcqReadout, hn.not_gt, within, hlo, hhi, halign, hstate.not_ge, hother, hown, hsegs, hlen]

/-- A readout copies the segments that it takes, unless one of them is poisoned. -/
theorem cmdAcqReadout_copies {g g1 : List Seg} (hfits : ((s.segsFrom k).head?.map (·.2.2)).getD 64 ≤ pf k.par 32 4)
    (hpin : s.pinned c (pf k.par 24 8) (pf k.par 32 4) 2 = some g)
    (hin : s.bringIn e c (pf k.par 24 8) (pf k.par 32 4) = (.ok (), s1))
    (hpin1 : s1.pinned c (pf k.par 24 8) (pf k.par 32 4) 2 = some g1) :
    cmdAcqReadout c e k s =
      let l := takeSegs (s.segsFrom k) (pf k.par 16 4) (pf k.par 32 4)
      let r := s1.readStored c l
      if r.1.any (·.2) then refuse r.2 stPoisoned else okay (r.2.writeSegs (Who.cpx c) g1 r.1) l.length := by
  refine (if_neg ?_).trans ((if_neg ?_).trans ((if_neg hfits.not_gt).trans (State.withDest_of_ok _ hpin hin hpin1)))
  · simp [hn, hlo, hhi, halign, within]
  · simp [hstate, hother, hown]

end

end

/-- Settles O39: a row's packet names its ACTION, and each clause is the case of one command above. -/
theorem acquisitionCommands : Obligations.AcquisitionCommands := by
  refine ⟨fun s c q x k e he hn => ⟨?stop, ?apply, ?start, ?force, ?pair⟩, fun s c q x k e he hs => ?sync,
    fun s s1 c q x k e g g1 he hs hn hlo hhi halign => ?readout⟩
  case stop =>
    intro hs
    refine ⟨fun h => ?_, fun h hc => ?_⟩
    · exact exec_acqConfigStop_answers he hs (cmdAcqStop_ends hn hs.row h)
    · exact exec_acqConfigStop_answers he hs (cmdAcqStop_of_other hn hs.row h hc)
  case apply =>
    intro s1 b hs halign hlen hoff hread
    have happly := cmdAcqApply_of_read hn hs.row halign hlen hoff hread
    refine ⟨fun hok => ?_, fun hbad => ?_⟩
    · exact exec_acqConfigApply_answers he hs (happly.trans (if_pos hok))
    · exact exec_acqConfigApply_answers he hs (happly.trans (if_neg (by simp [hbad])))
  case start =>
    intro hs hprof
    refine ⟨fun hbusy => ?_, fun hoff hsrc hok hfree hfits => ?_⟩
    · exact exec_acqConfigStart_answers he hs (cmdAcqStart_of_busy hn hs.row hprof hbusy)
    · exact exec_acqConfigStart_answers he hs (cmdAcqStart_starts hn hs.row hprof hoff hsrc hok hfree hfits)
  case force =>
    intro hs
    refine ⟨fun y harmed hown hcap => ?_, fun h => ?_⟩
    · exact exec_acqConfigForce_answers he hs (cmdAcqForce_triggers hn hs.row harmed hown hcap)
    · exact exec_acqConfigForce_answers he hs (cmdAcqForce_of_not_armed hn hs.row h)
  case pair =>
    intro hs heven hmode hown hoff hnext
    have hpair := cmdAcqPair_of_off hn hs.row heven hmode hown hoff hnext
    refine ⟨fun hsame => ?_, fun hdiff => ?_⟩
    · exact exec_acqConfigPair_answers he hs (hpair.trans (if_pos hsame))
    · exact exec_acqConfigPair_answers he hs (hpair.trans (if_neg hdiff))
  case sync =>
    refine ⟨fun h => ?_, fun hat h => ?_, fun hat h => ?_⟩
    · exact exec_acqSync_answers he hs (cmdAcqSync_too_soon h)
    · exact exec_acqSync_answers he hs (cmdAcqSync_of_planned hat h)
    · exact exec_acqSync_waits he hs (cmdAcqSync_waits hat h)
  case readout =>
    refine ⟨fun h => ?_, fun hstate hother hown hpin hin hpin1 => ⟨fun hnone hlen => ?_, fun y l hsegs hlen => ?_,
      fun y l hsegs hlen hone => ?_⟩⟩
    · exact exec_acqReadout_answers he hs (cmdAcqReadout_of_planned hn hlo hhi halign h)
    · have hsegs : s.segsFrom k = [] := hnone
      have hcopy := cmdAcqReadout_copies hn hlo hhi halign hstate hother hown (by rw [hsegs]; exact hlen) hpin hin hpin1
      rw [hsegs] at hcopy
      exact exec_acqReadout_answers he hs hcopy
    · exact exec_acqReadout_answers he hs (cmdAcqReadout_too_short hn hlo hhi halign hstate hother hown hsegs hlen)
    · have hsegs : s.segsFrom k = y :: l := hsegs
      have hcopy := cmdAcqReadout_copies hn hlo hhi halign hstate hother hown (by rw [hsegs]; exact hlen) hpin hin hpin1
      simp only [hsegs, hone, takeSegs_one l hlen, State.readStored_one] at hcopy
      refine ⟨fun hbad => ?_, fun hgood => ?_⟩
      · exact exec_acqReadout_answers he hs (hcopy.trans (if_pos hbad))
      · exact exec_acqReadout_answers he hs (hcopy.trans (if_neg (by simp [hgood])))

end Sys2Proof.Machine

/-! ## Triggers, captures, calibration and the AFE's SPI (R153, R158 to R162, R166 to R173) -/

namespace Sys2Proof.Machine

/-! ### Event flags

Setting an event flag writes one register and may signal an interrupt. -/

section
variable (s : State) (ev en irq : Reg) (n : Nat)

/-- What neither a register write nor an output changes stays when an event flag is set. -/
theorem State.raise_keeps {α : Type} (g : State → α) (hwr : ∀ v, g (s.wr ev v) = g s)
    (hemit : ∀ t o, g (State.emit t o) = g t) : g (s.raise ev en irq n) = g s := by
  have hsignal : ∀ t v, g (State.signal t 0 v) = g t := fun t v => by
    unfold State.signal
    split
    · exact hemit t _
    · rfl
  rw [State.raise]
  split
  · exact (hsignal _ _).trans (hwr _)
  · exact hwr _

theorem State.rd_raise_ne {r : Reg} (h : r.key ≠ ev.key) : (s.raise ev en irq n).rd r = s.rd r :=
  s.raise_keeps ev en irq n (State.rd · r) (fun _ => s.rd_wr_ne _ h) fun t o => by simp [State.rd]

theorem State.get_raise_ne {f : Fld} (h : f.reg.key ≠ ev.key) : (s.raise ev en irq n).get f = s.get f :=
  congrArg (bits · f.hi f.lo) (s.rd_raise_ne ev en irq n h)

end

/-! ### Triggers (R158, R160, R161, R167) -/

section
variable {s : State} {n src k : Nat} {xs : List (List Int)}

theorem acqTrigger_asleep (hoff : s.domOn (17 + n) = false) : acqTrigger n src k xs s = s :=
  if_pos hoff

theorem acqTrigger_planned (hon : s.domOn (17 + n) = true) (hplan : s.acqState n = 6) :
    acqTrigger n src k xs s = s.plannedTrigger n src k xs :=
  (if_neg (by simp [hon])).trans (if_pos hplan)

theorem acqTrigger_background (hon : s.domOn (17 + n) = true) (hplan : s.acqState n ≠ 6) :
    acqTrigger n src k xs s = s.bgTrigger n src k xs :=
  (if_neg (by simp [hon])).trans (if_neg hplan)

/-- A background capture and a trigger of its own source at a time. -/
structure State.BgHears (s : State) (n src k : Nat) (xs : List (List Int)) (x : Capture) (num : Int) (den : Nat) : Prop where
  cap : (s.acq n).cap = some x
  source : pBgSrc x.prof = src
  time : s.trigTime n src k (pBgLine x.prof) x.prof xs = some (num, den)

variable {x : Capture} {num : Int} {den : Nat} (h : s.BgHears n src k xs x num den)
include h

theorem State.bgTrigger_eq : s.bgTrigger n src k xs =
    if s.acqState n = 5 then s.incSat (F.ACQ_CH_CNT1_FULL n)
    else if x.heldOff (s.rawPeriod n) num den then
      (s.setAcq n { s.acq n with cap := some x.held }).incSat (F.ACQ_CH_CNT0_HOLDOFF n)
    else if s.acqState n ≠ 2 then s.incSat (F.ACQ_CH_CNT0_BUSY n)
    else
      let r := s.takeTrigger n x num den
      (r.2.setAcq n { s.acq n with cap := some r.1 }).setAcqState n 3 := by
  obtain ⟨hcap, hsrc, htime⟩ := h
  simp [State.bgTrigger, hcap, hsrc, htime]

theorem State.bgTrigger_full (hfull : s.acqState n = 5) : s.bgTrigger n src k xs = s.incSat (F.ACQ_CH_CNT1_FULL n) :=
  (State.bgTrigger_eq h).trans (if_pos hfull)

theorem State.bgTrigger_held (hfull : s.acqState n ≠ 5) (hheld : x.heldOff (s.rawPeriod n) num den = true) :
    s.bgTrigger n src k xs = (s.setAcq n { s.acq n with cap := some x.held }).incSat (F.ACQ_CH_CNT0_HOLDOFF n) :=
  (State.bgTrigger_eq h).trans ((if_neg hfull).trans (if_pos hheld))

theorem State.bgTrigger_busy (hfull : s.acqState n ≠ 5) (harmed : s.acqState n ≠ 2)
    (hfree : x.heldOff (s.rawPeriod n) num den = false) : s.bgTrigger n src k xs = s.incSat (F.ACQ_CH_CNT0_BUSY n) :=
  (State.bgTrigger_eq h).trans ((if_neg hfull).trans ((if_neg (by simp [hfree])).trans (if_pos harmed)))

/-- An ARMED channel takes the trigger and captures. -/
theorem State.bgTrigger_taken (harmed : s.acqState n = 2) (hfree : x.heldOff (s.rawPeriod n) num den = false) :
    s.bgTrigger n src k xs =
      let r := s.takeTrigger n x num den
      (r.2.setAcq n { s.acq n with cap := some r.1 }).setAcqState n 3 :=
  (State.bgTrigger_eq h).trans
    ((if_neg (by omega)).trans ((if_neg (by simp [hfree])).trans (if_neg (not_not.mpr harmed))))

end

/-! ### Fill, re-arm and calibration (R153, R161, R166) -/

section
variable {s : State} {n : Nat}

theorem acqRearmDone_rearms {x : Capture} (hrearm : s.acqState n = 4) (hcap : (s.acq n).cap = some x) :
    acqRearmDone n s = s.setAcqState n (if pPre x.prof = 0 then 2 else 1) := by
  simp [acqRearmDone, hrearm, hcap]

theorem acqCalTracking_converges (hcal : s.cal n = 0) (hon : s.domOn (17 + n) = true) : acqCalTracking n s = s.setCal n 1 :=
  if_pos (by simp [hcal, hon])

theorem acqCalTracking_stays (h : s.cal n ≠ 0 ∨ s.domOn (17 + n) = false) : acqCalTracking n s = s :=
  if_neg (by rcases h with h | h <;> simp [h])

/-! ### The last point of a record (R162, R164, R166, R167) -/

section
variable {rec_ : Nat} {v : List Int} {x : Capture} {tk : Int}

/-- The background capture with the record's samples stored. -/
def State.bgStored (s : State) (n : Nat) (x : Capture) (v : List Int) : Capture :=
  { x.store (pLen x.prof) v with nocal := x.nocal || s.cal n != 1 }

/-- A background record in capture: nothing happens before its last point, which stores it. -/
theorem acqSegmentDone_background (hstate : s.acqState n = 3) (hcap : (s.acq n).cap = some x) (hcur : x.cur = some tk) :
    acqSegmentDone n rec_ v s =
      if tickTf (s.time + 1) ≤ s.captureEnd n x tk then s
      else if x.stored + 1 < pCount x.prof then
        (s.setAcq n { s.acq n with cap := some (s.bgStored n x v) }).setAcqState n 4
      else s.storeSegment n (s.bgStored n x v) (pLen x.prof) := by
  unfold acqSegmentDone
  rw [if_neg (by omega)]
  simp only [hcap, hcur, hstate, ne_eq, not_true_eq_false, decide_false, Bool.false_or, decide_eq_true_eq]
  rfl

/-- The planned capture with the record's samples stored; the channel takes its next trigger when it has filled again. -/
def State.plannedStored (s : State) (n : Nat) (x : Capture) (tk : Int) (v : List Int) : Capture :=
  { x.store (pLen x.prof) v with
    readyT := s.captureEnd n x tk + (((32 * s.rawPeriod n : Nat) : Int) +
      (pPre x.prof * pDec x.prof : Nat) * (s.captureGrid n x.prof).2),
    nocal := x.nocal || s.cal n != 1 }

theorem acqSegmentDone_planned {r : AcqRun} {m m' : Nat} (hstate : s.acqState n = 6)
    (hrun : s.acqRuns.find? (fun r => r.recs.any (fun e => e.1 == n && e.2.1 == rec_)) = some r)
    (hrec : r.recs.find? (fun e => e.1 == n) = some (m, m', x)) (hcur : x.cur = some tk)
    (hend : s.captureEnd n x tk < tickTf (s.time + 1)) :
    acqSegmentDone n rec_ v s =
      let y := s.plannedStored n x tk v
      (s.setAcqRun (r.setRec n y)).putWork (r.setRec n y) n y (decide (y.stored < pCount y.prof)) true none := by
  unfold acqSegmentDone
  rw [if_pos hstate]
  simp only [hrun, hrec, hcur]
  exact if_neg (Int.not_le.mpr hend)

end

end

/-! ### ACQ_ARM records (R169 to R172) -/

section
variable {s : State} {r : RecRun} {a : Act} {i : Item} (hdue : s.due? r 7 = some a) (hitem : a.item = some i)
include hdue hitem

theorem acqArm_without_domains (hoff : s.actDomains a = false) : acqArm r s =
    (State.faultAct { s with acqRuns := s.acqRuns.filter (fun x => x.run != r) } a).markRan r := by
  simp [acqArm, hdue, hitem, hoff]

/-- A record that has its recorders keeps them to its last beat. -/
theorem acqArm_running {x : AcqRun} (hon : s.actDomains a = true)
    (hrun : s.acqRuns.find? (fun x => x.run == r) = some x) :
    acqArm r s = if s.beat = a.start + a.rcd.span - 1 then s.acqFinish a x else s := by
  simp [acqArm, hdue, hitem, hon, hrun]

/-- A record takes its recorders in its first beat only. -/
theorem acqArm_idle (hon : s.actDomains a = true) (hnone : s.acqRuns.find? (fun x => x.run == r) = none) :
    acqArm r s = if s.beat ≠ a.start then s else s.acqBegin a i := by
  unfold acqArm
  simp only [hdue, hitem, hon, hnone, Bool.true_eq_false, if_false]

end

/-! ### SPI transfers (R173) -/

section
variable {s : State} {v : Nat}

/-- The chip select of the AFE's SPI is bound to a PLANNED channel. -/
def State.spiPlanned (s : State) : Prop :=
  ∃ n < 8, bit (numField (s.rd R.ACQ_SPI_BIND) (s.get F.ACQ_SPI_CFG_CS) 1) n = true ∧ s.acqState n = 6

theorem State.spiPlanned_iff : (rangeFrom 0 8).any (fun n =>
    bit (numField (s.rd R.ACQ_SPI_BIND) (s.get F.ACQ_SPI_CFG_CS) 1) n && s.acqState n == 6) = true ↔ s.spiPlanned :=
  any_rangeFrom_eight.trans (by simp [State.spiPlanned])

theorem acqSpiTx_of_busy (hbusy : s.on F.ACQ_SPI_STAT_BUSY = true) : acqSpiTx v s = s :=
  if_pos (by simp [hbusy])

section
variable (hready : s.ready = true) (hidle : s.on F.ACQ_SPI_STAT_BUSY = false)
include hready hidle

theorem acqSpiTx_starts (h : ¬ s.spiPlanned) : acqSpiTx v s =
    (s.put F.ACQ_SPI_STAT_BUSY 1).emit (.spi (v % 2 ^ (s.get F.ACQ_SPI_CFG_BITS_M1 + 1))) :=
  (if_neg (by simp [hready, hidle])).trans (if_neg (State.spiPlanned_iff.not.mpr h))

theorem acqSpiTx_refused (h : s.spiPlanned) : acqSpiTx v s = (s.put F.ACQ_SPI_STAT_REFUSED 1).raiseAcq 5 :=
  (if_neg (by simp [hready, hidle])).trans (if_pos (State.spiPlanned_iff.mpr h))

end

theorem spiTransferDone_of_idle (hidle : s.on F.ACQ_SPI_STAT_BUSY = false) : spiTransferDone v s = s :=
  if_neg (by simp [hidle])

/-- A transfer that ends is no longer BUSY, is DONE, and leaves the bits it received (R173). -/
theorem spiTransferDone_of_busy (hv : v < 2 ^ 32) (hbusy : s.on F.ACQ_SPI_STAT_BUSY = true) :
    (spiTransferDone v s).get F.ACQ_SPI_STAT_BUSY = 0 ∧ (spiTransferDone v s).get F.ACQ_SPI_STAT_DONE = 1 ∧
    (spiTransferDone v s).rd R.ACQ_SPI_RX = v % 2 ^ (s.get F.ACQ_SPI_CFG_BITS_M1 + 1) ∧ (spiTransferDone v s).mem = s.mem := by
  rw [spiTransferDone, if_pos hbusy]
  refine ⟨?_, ?_, ?_, by simp⟩
  · rw [State.raiseAcq, State.get_raise_ne _ _ _ _ _ (by decide), State.get_wr_ne _ _ (by decide),
      State.get_put_disjoint _ (f := F.ACQ_SPI_STAT_DONE) (g := F.ACQ_SPI_STAT_BUSY) _ rfl (by decide) (by decide) (by decide),
      State.get_put_same _ _ _ (by decide) (by decide)]
    rfl
  · rw [State.raiseAcq, State.get_raise_ne _ _ _ _ _ (by decide), State.get_wr_ne _ _ (by decide),
      State.get_put_same _ _ _ (by decide) (by decide)]
    rfl
  · rw [State.raiseAcq, State.rd_raise_ne _ _ _ _ _ (by decide), State.rd_wr_same]
    exact Nat.mod_eq_of_lt ((Nat.mod_le _ _).trans_lt hv)

end

/-- Settles O40: the events are well formed for their channels, so each clause is one lemma above. -/
theorem captures : Obligations.Captures := by
  refine ⟨fun s n src k xs hn hsrc => ?trigger, fun s n hn => ?channel, fun s n rec_ v x tk hn hrec hstate hcap hcur => ?stores,
    fun s n rec_ v r m m' x tk hn hrec hstate hrun hfind hcur hend => ?planned, fun s r a i hr hdue hitem => ?records,
    fun s v hv => ?spi⟩
  case trigger =>
    rw [exec_acqTrigger s n src k xs (by simp [Instr.wellFormed, hn, hsrc])]
    refine ⟨fun hoff => ?_, fun hon hplan => ?_, fun x num den hon hplan hcap hown htime => ?_⟩
    · rw [acqTrigger_asleep hoff]
    · rw [acqTrigger_planned hon hplan]
    · have hears : s.BgHears n src k xs x num den := ⟨hcap, hown, htime⟩
      rw [acqTrigger_background hon hplan]
      refine ⟨fun hfull => ?_, fun hfull hheld => ?_, fun hfull harmed hfree => ?_, fun harmed hfree => ?_⟩
      · rw [State.bgTrigger_full hears hfull]
      · rw [State.bgTrigger_held hears hfull hheld]
      · rw [State.bgTrigger_busy hears hfull harmed hfree]
      · exact congrArg _ (State.bgTrigger_taken hears harmed hfree)
  case channel =>
    rw [exec_acqFillDone s n (decide_eq_true hn), exec_acqRearmDone s n (decide_eq_true hn),
      exec_acqCalTracking s n (decide_eq_true hn)]
    refine ⟨fun h => ?_, fun h => ?_, fun x hrearm hcap => ?_, fun h => ?_, fun hcal hon => ?_, fun h => ?_⟩
    · rw [acqFillDone, if_pos h]
    · rw [acqFillDone, if_neg h]
    · rw [acqRearmDone_rearms hrearm hcap]
    · rw [acqRearmDone, if_neg h]
    · rw [acqCalTracking_converges hcal hon]
    · rw [acqCalTracking_stays h]
  case stores =>
    rw [exec_acqSegmentDone s n rec_ v (by simp [Instr.wellFormed, hn, hrec]), acqSegmentDone_background hstate hcap hcur]
    refine ⟨fun hearly => ?_, fun hend => ⟨fun hmore => ?_, fun hlast => ?_⟩⟩
    · rw [if_pos hearly]
    · rw [if_neg (Int.not_le.mpr hend), if_pos hmore]
      rfl
    · rw [if_neg (Int.not_le.mpr hend), if_neg hlast.not_gt]
      rfl
  case planned =>
    rw [exec_acqSegmentDone s n rec_ v (by simp [Instr.wellFormed, hn, hrec])]
    exact ⟨_, congrArg _ (acqSegmentDone_planned hstate hrun hfind hcur hend), rfl, rfl, rfl⟩
  case records =>
    rw [exec_acqArm s r hr]
    refine ⟨fun hoff => ?_, fun x hon hrun => ?_, fun hon hnone => ?_⟩
    · rw [acqArm_without_domains hdue hitem hoff]
    · rw [acqArm_running hdue hitem hon hrun]
      exact ⟨fun hlast => by rw [if_pos hlast], fun hbefore => by rw [if_neg hbefore]⟩
    · rw [acqArm_idle hdue hitem hon hnone]
      exact ⟨fun hfirst => by rw [if_neg (not_not.mpr hfirst)], fun hlate => by rw [if_pos hlate]⟩
  case spi =>
    rw [exec_acqSpiTx s v (decide_eq_true hv), exec_spiTransferDone s v (decide_eq_true hv)]
    refine ⟨fun hready hidle => ⟨fun hfree => ?_, fun hplanned => ?_⟩,
      fun hbusy => ⟨?_, _, rfl, spiTransferDone_of_busy hv hbusy⟩, fun hidle => ?_⟩
    · rw [acqSpiTx_starts hready hidle fun ⟨n, hn, hbound, hplan⟩ => hfree n hn hbound hplan]
    · rw [acqSpiTx_refused hready hidle hplanned]
    · rw [acqSpiTx_of_busy hbusy]
    · rw [spiTransferDone_of_idle hidle]

end Sys2Proof.Machine

/-! ## DFC_COEF_LOAD, the filter chains and the sync tick (R175, R178 to R193) -/

namespace Sys2Proof.Machine

/-! ### DFC_COEF_LOAD (R187 to R189) -/

section
variable {s s1 : State} {c : Nat} {e : HostEnv} {k : Cmd} {b : Bytes} (hn : pf k.par 8 1 ≤ 7)
include hn

theorem dfcHead_ok (hop : pf k.par 9 1 ≤ 2) : ¬ (decide (7 < pf k.par 8 1) || decide (2 < pf k.par 9 1)) = true := by
  simp [hn, hop]

theorem cmdDfcStop_stops (hop : pf k.par 9 1 = 0) (hrun : s.dfcState (pf k.par 8 1) = 2) (hplan : s.acqState (pf k.par 8 1) ≠ 6)
    (hother : s.bgOther c (pf k.par 8 1) = false) (hcap : (s.acq (pf k.par 8 1)).cap = none) :
    cmdDfcStop c k s = okay (s.dfcStop (pf k.par 8 1)) := by
  simp [cmdDfcStop, hn.not_gt, hop, hrun, hplan, hother, hcap]

theorem cmdDfcStop_refused (hop : pf k.par 9 1 = 0)
    (h : s.dfcState (pf k.par 8 1) ≠ 2 ∨ s.acqState (pf k.par 8 1) = 6 ∨ s.bgOther c (pf k.par 8 1) = true) :
    cmdDfcStop c k s = refuse s stBadState :=
  (if_neg (dfcHead_ok hn (by omega))).trans (if_pos (by rcases h with h | h | h <;> simp [h]))

/-- A block that was read is applied when it is in range and suits the channel's rate, else refused. -/
theorem cmdDfcLoad_of_read (hop : pf k.par 9 1 = 1) (halign : pf k.par 16 8 % 64 = 0) (hlen : pf k.par 24 4 = 576)
    (hrun : s.dfcState (pf k.par 8 1) ≠ 2) (hlent : s.acqState (pf k.par 8 1) ≠ 7)
    (hother : s.bgOther c (pf k.par 8 1) = false) (hread : s.cmdRead e c (pf k.par 16 8) 576 = (.ok b, s1)) :
    cmdDfcLoad c e k s =
      let y := { DfcChan.init with blk := leNat b }
      let crc := crc32c ((b.drop 0x40).take 0x200)
      if dfcBlockOk y && dfcRateOk y (s1.rawPerTick (pf k.par 8 1)) then okay (s1.dfcApply (pf k.par 8 1) y crc) crc
      else refuse s1 stBadParam := by
  simp [cmdDfcLoad, hn.not_gt, hop, halign, hlen, hrun, hlent, hother, State.withRead_of_ok _ hread]

section
variable (hop : pf k.par 9 1 = 2)
include hop

/-- A STOPPED channel starts at the next beat when its block suits the present rate, else is refused. -/
theorem cmdDfcStart_of_stopped (hstop : s.dfcState (pf k.par 8 1) = 1) (hlent : s.acqState (pf k.par 8 1) ≠ 7)
    (hother : s.bgOther c (pf k.par 8 1) = false) : cmdDfcStart c k s =
      if dfcRateOk (s.dfc (pf k.par 8 1)) (s.rawPerTick (pf k.par 8 1)) = false then refuse s stBadParam
      else .wait (.atBeat (s.beat + 1)) s :=
  (if_neg (dfcHead_ok hn (by omega))).trans (if_neg (by simp [hstop, hlent, hother]))

theorem cmdDfcStart_of_not_stopped (h : s.dfcState (pf k.par 8 1) ≠ 1) : cmdDfcStart c k s = refuse s stBadState :=
  (if_neg (dfcHead_ok hn (by omega))).trans (if_pos (by simp [h]))

end

end

/-! ### A beat's raw samples (R183, R192, R193) -/

/-- A channel's state is what the plans and one register say. -/
theorem State.acqState_congr {s t : State} {n : Nat} (hplans : t.plans = s.plans)
    (hreg : t.rd (R.ACQ_CH_STATE n) = s.rd (R.ACQ_CH_STATE n)) : t.acqState n = s.acqState n := by
  have hclaimed : t.claimed 11 n = s.claimed 11 n := by rw [State.claimed, State.livePlans, hplans]; rfl
  have hfield : t.get (F.ACQ_CH_STATE_STATE n) = s.get (F.ACQ_CH_STATE_STATE n) := congrArg (bits · 2 0) hreg
  rw [State.acqState, hclaimed, hfield, State.acqState]

section
variable (s : State) (n : Nat) (v : List Int)

/-- The raw samples of the beat before passed through a channel's chain. -/
def State.fedBeat : DfcChan × DfcOuts :=
  dfcFeed (v.take (500 * s.rawPerTick n)) ((s.beat - 1) * 500 * s.rawPerTick n) (s.dfc n) ⟨[], 0, false⟩

/-- The channel after them: its next sample is the first of the present beat. -/
def State.fedChan : DfcChan :=
  { (s.fedBeat n v).1 with next := (s.beat - 1 + 1) * 500 * s.rawPerTick n }

/-- The state with the channel fed, its detectors' registers and its count of saturated outputs. -/
def State.afterFeed : State :=
  let u := (s.setDfc n (s.fedChan n v)).showDet n (s.fedChan n v)
  if (s.fedBeat n v).2.sat = 0 then u else (u.incSat (F.DFC_CH_CNT_SAT n) (s.fedBeat n v).2.sat).raiseDfc 0

theorem State.acqState_showDet (x : DfcChan) : ((s.setDfc n x).showDet n x).acqState n = s.acqState n := by
  refine State.acqState_congr (by simp [State.showDet]) ?_
  have hdet : (R.ACQ_CH_STATE n).key ≠ (R.DFC_CH_DET n).key := by simp [R.ACQ_CH_STATE, R.DFC_CH_DET]
  have hrms : (R.ACQ_CH_STATE n).key ≠ (R.DFC_CH_RMS n).key := by simp [R.ACQ_CH_STATE, R.DFC_CH_RMS]
  rw [State.showDet, State.rd_put_ne _ _ hrms, State.rd_put_ne _ _ hdet, State.rd_put_ne _ _ hdet]
  rfl

/-- Feeding a filter chain leaves the acquisition channel's state. -/
theorem State.acqState_afterFeed : (s.afterFeed n v).acqState n = s.acqState n := by
  rw [State.afterFeed]
  split
  · exact s.acqState_showDet n _
  · refine Eq.trans (State.acqState_congr (by simp) ?_) (s.acqState_showDet n (s.fedChan n v))
    have hevent : (R.ACQ_CH_STATE n).key ≠ R.DFC_EVENT.key := by simp [R.ACQ_CH_STATE, R.DFC_EVENT]; omega
    have hcount : (R.ACQ_CH_STATE n).key ≠ (R.DFC_CH_CNT n).key := by simp [R.ACQ_CH_STATE, R.DFC_CH_CNT]
    rw [State.raiseDfc, State.rd_raise_ne _ _ _ _ _ hevent]
    exact State.rd_put_ne _ _ hcount

end

section
variable {s : State} {n : Nat} {v : List Int}

theorem dfcStreamBlock_idle (h : s.dfcState n ≠ 2 ∨ s.beat = 0) : dfcStreamBlock n v s = s :=
  if_pos (by rcases h with h | h <;> simp [h])

/-- A RUNNING channel that is not PLANNED is fed, and no block is written. -/
theorem dfcStreamBlock_unplanned (hrun : s.dfcState n = 2) (hbeat : 1 ≤ s.beat)
    (hnext : (s.dfc n).next ≤ (s.beat - 1) * 500 * s.rawPerTick n) (hplan : s.acqState n ≠ 6) :
    dfcStreamBlock n v s = s.afterFeed n v := by
  have hafter : (s.afterFeed n v).acqState n ≠ 6 := by rwa [s.acqState_afterFeed n v]
  refine (if_neg ?_).trans (if_pos ?_)
  · simp [hrun, Nat.one_le_iff_ne_zero.mp hbeat, hnext]
  · exact Bool.or_eq_true_iff.mpr (.inl (decide_eq_true hafter))

end

/-! ### The sync tick (R175, R190) -/

section
variable (s : State) (n : Nat)

/-- ARM clears when the sync comes from SYNC_IN. -/
def State.syncDisarmed : State :=
  if s.syncFromEdge then State.put { s with syncIn := none } F.DFC_SYNC_CFG_ARM 0 else s

/-- The sync is noted: its tick, its count and its event. -/
def State.syncNoted : State :=
  ((s.syncDisarmed.wr R.ACQ_SYNC_LAST s.syncDisarmed.time).incSat F.DFC_SYNC_CNT_APPLIED).raiseDfc 1

/-- A grid that the sync breaks is counted. -/
def State.countBroken : State :=
  if (s.dfc n).d ≠ 0 && (s.time * s.rawPerTick n - s.rd (R.DFC_CH_ANCHOR n)) % (s.dfc n).d ≠ 0 then
    (s.incSat (F.DFC_CH_CNT_DISCARD n)).raiseDfc 2
  else s

theorem State.syncAnchors_eq : s.syncAnchors = (rangeFrom 0 8).foldl State.syncChannel s.syncNoted := (rfl)

theorem State.syncChannel_of_running (h : s.dfcState n = 2) :
    s.syncChannel n = (s.countBroken n).dfcAnchor n (s.countBroken n).time :=
  if_pos h

theorem State.syncChannel_of_not_running (h : s.dfcState n ≠ 2) : s.syncChannel n = s :=
  if_neg h

/-- What a register write, an event of the filters and a channel's chain leave, the sync of a channel leaves. -/
theorem State.syncChannel_keeps {α : Type} (g : State → α) (hcount : g (s.incSat (F.DFC_CH_CNT_DISCARD n)) = g s)
    (hraise : ∀ t, g (State.raiseDfc t 2) = g t) (hchan : ∀ t x, g (State.setDfc t n x) = g t)
    (hanchor : ∀ t v, g (State.wr t (R.DFC_CH_ANCHOR n) v) = g t) : g (s.syncChannel n) = g s := by
  by_cases hrun : s.dfcState n = 2
  case neg => rw [s.syncChannel_of_not_running n hrun]
  case pos =>
    rw [s.syncChannel_of_running n hrun, State.dfcAnchor, hanchor, hchan, State.countBroken]
    split
    · rw [hraise, hcount]
    · rfl

@[simp] theorem State.syncChannel_time : (s.syncChannel n).time = s.time :=
  s.syncChannel_keeps n State.time (s.incSat_time _ _) (fun t => t.raiseDfc_time 2) (fun t x => t.setDfc_time n x)
    fun t v => t.wr_time _ v

@[simp] theorem State.syncChannel_mem : (s.syncChannel n).mem = s.mem :=
  s.syncChannel_keeps n State.mem (s.incSat_mem _ _) (fun t => t.raiseDfc_mem 2) (fun t x => t.setDfc_mem n x)
    fun t v => t.wr_mem _ v

@[simp] theorem State.syncChannel_queues : (s.syncChannel n).queues = s.queues :=
  s.syncChannel_keeps n State.queues (s.incSat_queues _ _) (fun t => t.raiseDfc_queues 2) (fun t x => t.setDfc_queues n x)
    fun t v => t.wr_queues _ v

/-- A register that the sync of channel `n` does not write. -/
structure SyncLeaves (n : Nat) (r : Reg) : Prop where
  count : r.key ≠ (R.DFC_CH_CNT n).key
  event : r.key ≠ R.DFC_EVENT.key
  anchor : r.key ≠ (R.DFC_CH_ANCHOR n).key

theorem State.rd_syncChannel {r : Reg} (h : SyncLeaves n r) : (s.syncChannel n).rd r = s.rd r :=
  s.syncChannel_keeps n (State.rd · r) (State.rd_put_ne _ _ h.count) (fun t => t.rd_raise_ne _ _ _ _ h.event) (fun _ _ => rfl)
    fun t _ => t.rd_wr_ne _ h.anchor

theorem syncLeaves_state (m : Nat) : SyncLeaves n (R.DFC_CH_STATE m) where
  count := by simp [R.DFC_CH_STATE, R.DFC_CH_CNT]; omega
  event := by simp [R.DFC_CH_STATE, R.DFC_EVENT]; omega
  anchor := by simp [R.DFC_CH_STATE, R.DFC_CH_ANCHOR]; omega

theorem syncLeaves_anchor {m : Nat} (h : m ≠ n) : SyncLeaves n (R.DFC_CH_ANCHOR m) where
  count := by simp [R.DFC_CH_ANCHOR, R.DFC_CH_CNT]; omega
  event := by simp [R.DFC_CH_ANCHOR, R.DFC_EVENT]; omega
  anchor := by simp [R.DFC_CH_ANCHOR, h]

/-- The registers of the acquisition block, which lie below those of the filters. -/
theorem syncLeaves_of_below {r : Reg} (h : r.key < R.DFC_STATUS.key) : SyncLeaves n r := by
  have hbelow : r.key < 0x1400000 := h
  constructor
  · simp [R.DFC_CH_CNT]; omega
  · simp [R.DFC_EVENT]; omega
  · simp [R.DFC_CH_ANCHOR]; omega

@[simp] theorem State.dfcState_syncChannel (m : Nat) : (s.syncChannel n).dfcState m = s.dfcState m :=
  congrArg (bits · _ _) (s.rd_syncChannel n (syncLeaves_state n m))

end

/-- The rate of a channel is that of its pair mode. -/
theorem State.rawPerTick_congr {s t : State} (n : Nat) (h : t.rd R.ACQ_STATUS = s.rd R.ACQ_STATUS) :
    t.rawPerTick n = s.rawPerTick n := by
  have hpaired : t.paired n = s.paired n := congrArg (fun x => bit (bits x 3 0) (n / 2)) h
  rw [State.rawPerTick, hpaired, State.rawPerTick]

section
variable (s : State) (n : Nat)

@[simp] theorem State.rawPerTick_syncChannel (m : Nat) : (s.syncChannel n).rawPerTick m = s.rawPerTick m :=
  State.rawPerTick_congr m (s.rd_syncChannel n (syncLeaves_of_below n (by decide)))

/-- A RUNNING channel is anchored at the present tick. -/
theorem State.rd_syncChannel_anchor (h : s.dfcState n = 2) :
    (s.syncChannel n).rd (R.DFC_CH_ANCHOR n) = s.time * s.rawPerTick n % 2 ^ 64 := by
  have htime : (s.countBroken n).time = s.time := by unfold State.countBroken; split <;> simp
  have hrate : (s.countBroken n).rawPerTick n = s.rawPerTick n := by
    refine State.rawPerTick_congr n ?_
    rw [State.countBroken]
    split
    · have hcount : R.ACQ_STATUS.key ≠ (R.DFC_CH_CNT n).key := (syncLeaves_of_below n (by decide)).count
      exact (State.rd_raise_ne _ _ _ _ _ (by decide)).trans (State.rd_put_ne _ _ hcount)
    · rfl
  rw [s.syncChannel_of_running n h, State.dfcAnchor, htime, hrate]
  exact State.rd_wr_same _ _ _

end

/-- What the sync of no channel of a list writes stays. -/
theorem State.rd_foldl_syncChannel (l : List Nat) {r : Reg} (h : ∀ m ∈ l, SyncLeaves m r) (s : State) :
    (l.foldl State.syncChannel s).rd r = s.rd r := by
  induction l generalizing s with
  | nil => rfl
  | cons m t ih =>
    rw [List.forall_mem_cons] at h
    rw [List.foldl_cons, ih h.2, s.rd_syncChannel m h.1]

/-- Channels that are synced one after another do not change each other's anchors. -/
theorem State.rd_foldl_syncChannel_anchor (l : List Nat) {n : Nat} (hmem : n ∈ l) (s : State) (h : s.dfcState n = 2) :
    (l.foldl State.syncChannel s).rd (R.DFC_CH_ANCHOR n) = s.time * s.rawPerTick n % 2 ^ 64 := by
  induction l generalizing s with
  | nil => simp at hmem
  | cons m t ih =>
    rw [List.foldl_cons]
    by_cases hlater : n ∈ t
    · rw [ih hlater _ (by simpa using h)]
      simp
    · obtain rfl : n = m := (List.mem_cons.mp hmem).resolve_right hlater
      rw [State.rd_foldl_syncChannel t (fun m hm => syncLeaves_anchor m (ne_of_mem_of_not_mem hm hlater).symm),
        s.rd_syncChannel_anchor n h]

section
variable (s : State)

@[simp] theorem State.syncNoted_time : s.syncNoted.time = s.time := by
  unfold State.syncNoted State.syncDisarmed
  split <;> simp

@[simp] theorem State.syncNoted_mem : s.syncNoted.mem = s.mem := by
  unfold State.syncNoted State.syncDisarmed
  split <;> simp

@[simp] theorem State.syncNoted_queues : s.syncNoted.queues = s.queues := by
  unfold State.syncNoted State.syncDisarmed
  split <;> simp

theorem State.rd_syncNoted_last : s.syncNoted.rd R.ACQ_SYNC_LAST = s.time % 2 ^ 64 := by
  have htime : s.syncDisarmed.time = s.time := by unfold State.syncDisarmed; split <;> simp
  exact (State.rd_raise_ne _ _ _ _ _ (by decide)).trans
    ((State.rd_put_ne _ _ (by decide)).trans ((State.rd_wr_same _ _ _).trans (by rw [htime]; rfl)))

/-- Noting a sync writes four registers. -/
theorem State.rd_syncNoted {r : Reg} (hcfg : r.key ≠ R.DFC_SYNC_CFG.key) (hlast : r.key ≠ R.ACQ_SYNC_LAST.key)
    (hcount : r.key ≠ R.DFC_SYNC_CNT.key) (hevent : r.key ≠ R.DFC_EVENT.key) : s.syncNoted.rd r = s.rd r := by
  have hdisarmed : s.syncDisarmed.rd r = s.rd r := by
    unfold State.syncDisarmed
    split
    · exact State.rd_put_ne _ _ hcfg
    · rfl
  exact (State.rd_raise_ne _ _ _ _ _ hevent).trans
    ((State.rd_put_ne _ _ hcount).trans ((State.rd_wr_ne _ _ hlast).trans hdisarmed))

theorem State.dfcState_syncNoted (n : Nat) : s.syncNoted.dfcState n = s.dfcState n := by
  refine congrArg (bits · _ _) (s.rd_syncNoted (r := R.DFC_CH_STATE n) ?_ ?_ ?_ ?_)
  · simp [R.DFC_CH_STATE, R.DFC_SYNC_CFG]; omega
  · simp [R.DFC_CH_STATE, R.ACQ_SYNC_LAST]; omega
  · simp [R.DFC_CH_STATE, R.DFC_SYNC_CNT]; omega
  · simp [R.DFC_CH_STATE, R.DFC_EVENT]; omega

theorem State.rawPerTick_syncNoted (n : Nat) : s.syncNoted.rawPerTick n = s.rawPerTick n :=
  State.rawPerTick_congr n (s.rd_syncNoted (by decide) (by decide) (by decide) (by decide))

theorem State.rd_syncAnchors_last : s.syncAnchors.rd R.ACQ_SYNC_LAST = s.time % 2 ^ 64 := by
  rw [s.syncAnchors_eq, State.rd_foldl_syncChannel _ fun m _ => syncLeaves_of_below m (by decide), s.rd_syncNoted_last]

theorem State.syncAnchors_mem : s.syncAnchors.mem = s.mem := by
  rw [s.syncAnchors_eq, foldl_keeps State.mem _ State.syncChannel_mem, s.syncNoted_mem]

theorem State.syncAnchors_queues : s.syncAnchors.queues = s.queues := by
  rw [s.syncAnchors_eq, foldl_keeps State.queues _ State.syncChannel_queues, s.syncNoted_queues]

/-- Every RUNNING channel is anchored at the sync tick (R190). -/
theorem State.rd_syncAnchors_anchor {n : Nat} (hn : n < 8) (h : s.dfcState n = 2) :
    s.syncAnchors.rd (R.DFC_CH_ANCHOR n) = s.time * s.rawPerTick n % 2 ^ 64 := by
  rw [s.syncAnchors_eq, State.rd_foldl_syncChannel_anchor _ (mem_rangeFrom.mpr (by omega)) _ (by rwa [s.dfcState_syncNoted]),
    s.syncNoted_time, s.rawPerTick_syncNoted]

end

/-! ### SYNC_IN (R191) -/

section
variable {s : State} {rising : Bool}

/-- An awaited edge sets the sync tick to the next beat boundary. -/
theorem State.syncInEdge_taken (harm : s.on F.DFC_SYNC_CFG_ARM = true) (hnone : s.syncIn = none)
    (hpol : rising = true ↔ s.get F.DFC_SYNC_CFG_POL = 0) (hafter : s.rd R.DFC_SYNC_AFTER ≤ s.time) :
    s.syncInEdge rising = { s with syncIn := some (ceilDiv (s.time + 2) 500 * 500) } := by
  have hedge : (rising == (s.get F.DFC_SYNC_CFG_POL == 0)) = true := by
    rw [beq_iff_eq, Bool.eq_iff_iff, hpol, beq_iff_eq]
  exact if_pos (by simp [harm, hnone, hedge, hafter])

theorem State.syncInEdge_ignored
    (h : s.on F.DFC_SYNC_CFG_ARM = false ∨ s.syncIn ≠ none ∨ s.time < s.rd R.DFC_SYNC_AFTER) :
    s.syncInEdge rising = s.incSat F.DFC_SYNC_CNT_IGNORED := by
  refine if_neg ?_
  rcases h with h | h | h
  · simp [h]
  · simp [Option.isNone_iff_eq_none, h]
  · simp [Nat.not_le.mpr h]

end

/-- Settles O41: a row's packet names its operation, the events are well formed, and each clause is one lemma above. -/
theorem filterChains : Obligations.FilterChains := by
  refine ⟨fun s c q x k e he hn => ⟨?stop, ?load, ?start⟩, fun s n v hn => ?stream, fun s cut => ?sync, fun s => ?anchors,
    fun s rising => ?edge⟩
  case stop =>
    intro hs
    refine ⟨fun hrun hplan hother hcap => ?_, fun h => ?_⟩
    · exact exec_dfcCoefLoadStop_answers he hs (cmdDfcStop_stops hn hs.row hrun hplan hother hcap)
    · exact exec_dfcCoefLoadStop_answers he hs (cmdDfcStop_refused hn hs.row h)
  case load =>
    intro s1 b hs halign hlen hrun hlent hother hread
    have hload := cmdDfcLoad_of_read hn hs.row halign hlen hrun hlent hother hread
    refine ⟨fun hblock hrate => ?_, fun hbad => ?_⟩
    · exact exec_dfcCoefLoadLoad_answers he hs (hload.trans (if_pos (by simp [hblock, hrate])))
    · exact exec_dfcCoefLoadLoad_answers he hs (hload.trans (if_neg (by rcases hbad with h | h <;> simp [h])))
  case start =>
    intro hs
    refine ⟨fun hstop hlent hother => ?_, fun h => ?_⟩
    · have hstart := cmdDfcStart_of_stopped hn hs.row hstop hlent hother
      refine ⟨fun hrate => ?_, fun hrate => ?_⟩
      · exact exec_dfcCoefLoadStart_waits he hs (hstart.trans (if_neg (by simp [hrate])))
      · exact exec_dfcCoefLoadStart_answers he hs (hstart.trans (if_pos hrate))
    · exact exec_dfcCoefLoadStart_answers he hs (cmdDfcStart_of_not_stopped hn hs.row h)
  case stream =>
    rw [exec_dfcStreamBlock s n v (decide_eq_true hn)]
    refine ⟨fun h => ?_, fun hrun hbeat hnext hplan hsat => ?_, fun hrun hbeat hnext hplan hsat => ?_⟩
    · rw [dfcStreamBlock_idle h]
    · rw [dfcStreamBlock_unplanned hrun hbeat hnext hplan]
      exact congrArg _ (if_pos hsat)
    · rw [dfcStreamBlock_unplanned hrun hbeat hnext hplan]
      exact congrArg _ (if_neg hsat)
  case sync =>
    rw [exec_dfcSync s cut rfl]
    refine ⟨fun hearly => ?_, fun hdue => ?_⟩
    · rw [dfcSync, if_pos hearly]
    · rw [dfcSync, if_neg (by simp [hdue])]
  case anchors =>
    exact ⟨s.rd_syncAnchors_last, s.syncAnchors_mem, s.syncAnchors_queues, fun n => s.rd_syncAnchors_anchor⟩
  case edge =>
    exact ⟨exec_syncInEdge s rising rfl, State.syncInEdge_taken, State.syncInEdge_ignored⟩

end Sys2Proof.Machine

/-! ## Detectors, droop, temperature and the thermal hold (R322 to R324, R353, R354, R360 to R362, R417, R440, R449) -/

namespace Sys2Proof.Machine

/-! ### What a detector does at its level (R353, R354, R360 to R362, R417) -/

theorem within_iff {v lo hi : Nat} : within v lo hi = true ↔ lo ≤ v ∧ v ≤ hi := by
  simp [within]

section
variable {s : State} {id site : Nat}

theorem detectorFire_fires (hsite : siteOk id site = true) (hon : s.domOn (detDomain id site) = true) :
    detectorFire id site s = s.fireDetector id site :=
  if_pos (by simp [hsite, hon])

theorem detectorFire_silent (h : siteOk id site = false ∨ s.domOn (detDomain id site) = false) : detectorFire id site s = s :=
  if_neg (by rcases h with h | h <;> simp [h])

theorem State.fireDetector_tamper (hlo : 4 ≤ id) (hhi : id ≤ 6) : s.fireDetector id site = s.tamperFault id :=
  if_pos (within_iff.mpr ⟨hlo, hhi⟩)

theorem State.fireDetector_trip (h : id = 7) : s.fireDetector id site = s.tripFault site := by
  subst h; rfl

theorem State.fireDetector_context (h : id = 0x0B) : s.fireDetector id site = s.contextFault id site := by
  subst h; rfl

theorem State.fireDetector_link (hlo : 0x0C ≤ id) (hhi : id ≤ 0x0F) :
    s.fireDetector id site = (s.logDet id 0 0 none 1 false).linkLost (id - 0x0C) := by
  simp (disch := omega) only [State.fireDetector, within_iff, if_neg, if_pos]

theorem State.fireDetector_droop (hlo : 0x15 ≤ id) (hhi : id ≤ 0x18) :
    s.fireDetector id site = droop (id - 0x15) (s.logDet id 0 0 none 1 true) := by
  simp (disch := omega) only [State.fireDetector, within_iff, if_neg, if_pos]

theorem State.fireDetector_engine (hlo : 0x20 ≤ id) (hhi : id ≤ 0x3F) : s.fireDetector id site = s.engineFault id := by
  simp (disch := omega) only [State.fireDetector, within_iff, if_neg, if_pos]

theorem State.fireDetector_unit (hlo : 0x40 ≤ id) (hhi : id ≤ 0x4B) : s.fireDetector id site = s.unitFault id := by
  simp (disch := omega) only [State.fireDetector, within_iff, if_neg, if_pos]

theorem State.fireDetector_calibration (hlo : 0x50 ≤ id) (hhi : id ≤ 0x57) :
    s.fireDetector id site = ((s.logDet id 0 0 none 1 false).setCal (id - 0x50) 2).raiseAcq 3 := by
  simp (disch := omega) only [State.fireDetector, within_iff, if_neg, if_pos]

/-- The device level, for the detectors that watch no rail. -/
theorem State.fireDetector_device (h : id = 0x13 ∨ id = 0x1F ∨ id = 0x10 ∨ id = 0x11 ∨ id = 8) :
    s.fireDetector id site = (s.logDet id site 0 none 1 false).warmReset 4 id := by
  rcases h with rfl | rfl | rfl | rfl | rfl <;> rfl

/-! ### Droop (R322) -/

theorem droopSeen_of_on {d : Nat} (hd : d < 4) (hon : s.domOn 0 = true) :
    droopSeen d s = droop d (s.logDet (0x15 + d) 0 0 none 1 true) := by
  have hsite : siteOk (0x15 + d) 0 = true := by interval_cases d <;> rfl
  have hdomain : detDomain (0x15 + d) 0 = 0 := by interval_cases d <;> rfl
  rw [droopSeen, detectorFire_fires hsite (by rwa [hdomain]), State.fireDetector_droop (by omega) (by omega),
    Nat.add_sub_cancel_left]

/-- A droop on any die but the F-die is noted with the length of its response. -/
theorem droops_droop {d : Nat} (hd : 0 < d) : (droop d s).droops = (s.time, d, s.get (F.EMU_DROOP_CFG_LEN d)) :: s.droops := by
  have hcount : (R.EMU_DROOP_CFG d).key ≠ (R.EMU_DROOP_CNT d).key := by simp [R.EMU_DROOP_CFG, R.EMU_DROOP_CNT]
  have hevent : (R.EMU_DROOP_CFG d).key ≠ R.EMU_EVENT.key := by simp [R.EMU_DROOP_CFG, R.EMU_EVENT]; omega
  have hlen : ((s.incSat (F.EMU_DROOP_CNT_DROOPS d)).raiseEmu 4).get (F.EMU_DROOP_CFG_LEN d) =
      s.get (F.EMU_DROOP_CFG_LEN d) :=
    (State.get_raise_ne _ _ _ _ _ hevent).trans (State.get_put_ne _ _ hcount)
  have hdroops : ((s.incSat (F.EMU_DROOP_CNT_DROOPS d)).raiseEmu 4).droops = s.droops :=
    (State.raise_keeps _ _ _ _ _ State.droops (fun _ => State.wr_droops _ _ _) fun t o => t.emit_droops o).trans
      (s.put_droops _ _)
  rw [droop, if_neg hd.ne']
  simp [hlen, hdroops]

end

/-! ### Temperature (R323, R324) -/

section
variable (s : State) {f : Fld} (hf : f.reg.key < R.EMU_STATUS.key)
include hf

/-- What the temperature sensors write lies in the energy block: a field below it stays. -/
theorem State.get_setEff : s.setEff.get f = s.get f := by
  have hkey : f.reg.key < 0x30000 := hf
  have heff : f.reg.key ≠ R.EMU_EFF_UJ.key := by simp [R.EMU_EFF_UJ]; omega
  have hstatus : f.reg.key ≠ R.EMU_STATUS.key := by simp [R.EMU_STATUS]; omega
  have hevent : f.reg.key ≠ R.EMU_EVENT.key := by simp [R.EMU_EVENT]; omega
  rw [State.setEff]
  split
  · exact (State.get_raise_ne _ _ _ _ _ hevent).trans ((State.get_put_ne _ _ hstatus).trans (State.get_put_ne _ _ heff))
  · exact (State.get_put_ne _ _ hstatus).trans (State.get_put_ne _ _ heff)

theorem State.get_thermal (t : List Int) : (s.thermal t).get f = s.get f := by
  have hkey : f.reg.key < 0x30000 := hf
  have hmax : f.reg.key ≠ R.EMU_TMAX.key := by simp [R.EMU_TMAX]; omega
  have hdie (i : Nat) : f.reg.key ≠ (R.EMU_TEMP i).key := by simp [R.EMU_TEMP]; omega
  exact (State.get_setEff _ hf).trans ((State.get_put_ne _ _ hmax).trans
    (foldl_keeps (State.get · f) _ (fun t x => t.get_put_ne _ (hdie x.1)) _ _))

end

section
variable {s : State} {t : List Int}

theorem State.on_thermal_hold : (s.thermal t).on F.GLB_STATUS_THERM_HOLD = s.on F.GLB_STATUS_THERM_HOLD :=
  congrArg (· == 1) (s.get_thermal (by decide) t)

variable (hhold : s.on F.GLB_STATUS_THERM_HOLD = false)
include hhold

/-- Outside the hold a sample sets the readings. -/
theorem thermalSample_cool (h : ∀ x ∈ t, x < 500) : thermalSample t s = s.thermal t := by
  have hnone : findIdx (fun x => decide ((500 : Int) ≤ x)) 0 t = none := findIdx_eq_none (fun x hx => by simpa using h x hx) 0
  simp [thermalSample, State.on_thermal_hold, hhold, hnone]

/-- The first die at 125 °C trips. -/
theorem thermalSample_trips {d : Nat} (h : findIdx (fun x => decide (500 ≤ x)) 0 t = some d) :
    thermalSample t s = (s.thermal t).tripFault d := by
  simp [thermalSample, State.on_thermal_hold, hhold, h]

end

/-! ### The end of the thermal hold (R324) -/

section
variable {s : State} {t : Nat}

theorem thermHoldEnd_ends (hcool : s.cool = some t) (hhold : s.on F.GLB_STATUS_THERM_HOLD = true)
    (hlong : t + 10000000 ≤ s.time) :
    thermHoldEnd s = State.holdDomains { s.put F.GLB_STATUS_THERM_HOLD 0 with cool := none } 0 := by
  simp [thermHoldEnd, hcool, hhold, hlong]

theorem thermHoldEnd_early (hcool : s.cool = some t) (hshort : s.time < t + 10000000) : thermHoldEnd s = s := by
  simp [thermHoldEnd, hcool, hshort.not_ge]

theorem thermHoldEnd_hot (hcool : s.cool = none) : thermHoldEnd s = s := by
  simp [thermHoldEnd, hcool]

end

/-- Settles O45: the events are well formed for their detectors and dies, so each clause is one lemma above. -/
theorem detectorReactions : Obligations.DetectorReactions := by
  refine ⟨fun s id site hid hsite => ?detectors, fun s d hd => ?droop, fun s t ht hhold => ?thermal, fun _ _ => rfl,
    fun s => ?hold⟩
  case detectors =>
    rw [exec_detectorFire s id site (decide_eq_true (by omega))]
    refine ⟨fun h => ?_, fun hok hon => ⟨?_, State.fireDetector_tamper, State.fireDetector_trip, State.fireDetector_engine,
      State.fireDetector_unit, State.fireDetector_context, State.fireDetector_link, State.fireDetector_device,
      State.fireDetector_calibration⟩⟩
    · rw [detectorFire_silent h]
    · rw [detectorFire_fires hok hon]
  case droop =>
    rw [exec_droop s d (decide_eq_true hd)]
    exact ⟨fun hon => by rw [droopSeen_of_on hd hon], rfl, droops_droop⟩
  case thermal =>
    rw [exec_thermalSample s t ht]
    refine ⟨fun hcool => ?_, fun d hhot => ?_⟩
    · rw [thermalSample_cool hhold hcool]
    · rw [thermalSample_trips hhold hhot]
  case hold =>
    rw [exec_thermHoldEnd s rfl]
    refine ⟨fun t hcool hhold hlong => ?_, fun t hcool hshort => ?_, fun hhot => ?_⟩
    · rw [thermHoldEnd_ends hcool hhold hlong]
    · rw [thermHoldEnd_early hcool hshort]
    · rw [thermHoldEnd_hot hhot]

end Sys2Proof.Machine

/-! ## The model store (R215 to R217) -/

namespace Sys2Proof.Machine

/-! ### MODEL_LOAD (R215, R216) -/

/-- The fields of a MODEL_LOAD packet that R215 accepts: an aligned source, an ID, and a length and key slot for its form. -/
structure Cmd.LoadFields (k : Cmd) : Prop where
  aligned : pf k.par 8 8 % 64 = 0
  named : pf k.par 20 4 ≠ 0xFFFFFFFF
  plain : bit (pf k.par 24 1) 0 = false → 128 ≤ pf k.par 16 4 ∧ pf k.par 16 4 ≤ 0x2000000 ∧ pf k.par 16 4 % 64 = 0
  sealed : bit (pf k.par 24 1) 0 = true → 208 ≤ pf k.par 16 4 ∧ pf k.par 16 4 ≤ 0x2000000 + 80 ∧ pf k.par 25 1 ≤ 15

/-- The plaintext of the bytes that a MODEL_LOAD has read: an envelope is opened with its key. -/
def State.plaintext (s : State) (k : Cmd) (raw : Bytes) : Except Nat Bytes :=
  if bit (pf k.par 24 1) 0 then s.openModel (pf k.par 25 1) raw else .ok raw

/-- A plaintext image taken into the model store when it passes its checks and finds an unused ID and room. -/
def State.takeModel (s : State) (c : Nat) (k : Cmd) (b : Bytes) : CmdOut :=
  match checkModel b with
  | .error y => refuse s y.1 y.2
  | .ok ls =>
    if (s.model? c (pf k.par 20 4)).isSome then refuse s stBadState
    else match s.freeBlocks (ceilDiv b.length 4096) with
      | none => refuse s stMemory
      | some blocks => okay (s.storeModel c (pf k.par 20 4) (bit (pf k.par 24 1) 0) b ls blocks) (modelHash b)

section
variable {s s1 : State} {c : Nat} {e : HostEnv} {k : Cmd} {raw : Bytes}

theorem cmdModelLoad_of_read (hk : k.LoadFields) (hread : s.cmdRead e c (pf k.par 8 8) (pf k.par 16 4) = (.ok raw, s1)) :
    cmdModelLoad c e k s =
      match s1.plaintext k raw with
      | .error st => refuse s1 st
      | .ok b => s1.takeModel c k b := by
  have hform : ¬ (decide (pf k.par 8 8 % 64 ≠ 0) || decide (pf k.par 20 4 = 0xFFFFFFFF) ||
      (!bit (pf k.par 24 1) 0 && (decide (within (pf k.par 16 4) 128 0x2000000 = false) || decide (pf k.par 16 4 % 64 ≠ 0))) ||
      (bit (pf k.par 24 1) 0 && (decide (within (pf k.par 16 4) 208 (0x2000000 + 80) = false) ||
        decide (15 < pf k.par 25 1)))) = true := by
    cases henc : bit (pf k.par 24 1) 0 with
    | false =>
      obtain ⟨hlo, hhi, hgran⟩ := hk.plain henc
      simp [hk.aligned, hk.named, within_iff.mpr ⟨hlo, hhi⟩, hgran]
    | true =>
      obtain ⟨hlo, hhi, hslot⟩ := hk.sealed henc
      simp [hk.aligned, hk.named, within_iff.mpr ⟨hlo, hhi⟩, hslot]
  exact (if_neg hform).trans (State.withRead_of_ok _ hread)

theorem State.plaintext_fails {st : Nat} (henc : bit (pf k.par 24 1) 0 = true)
    (hopen : s.openModel (pf k.par 25 1) raw = .error st) : s.plaintext k raw = .error st :=
  (if_pos henc).trans hopen

theorem State.plaintext_opens {b : Bytes} (hplain : bit (pf k.par 24 1) 0 = false → b = raw)
    (hopen : bit (pf k.par 24 1) 0 = true → s.openModel (pf k.par 25 1) raw = .ok b) : s.plaintext k raw = .ok b := by
  cases henc : bit (pf k.par 24 1) 0 with
  | false => simp [State.plaintext, henc, hplain henc]
  | true => simp [State.plaintext, henc, hopen henc]

end

section
variable {s : State} {c : Nat} {k : Cmd} {b : Bytes}

theorem State.takeModel_of_fault {y : Nat × Nat} (hcheck : checkModel b = .error y) :
    s.takeModel c k b = refuse s y.1 y.2 := by
  simp [State.takeModel, hcheck]

variable {ls : List Layer} (hcheck : checkModel b = .ok ls)
include hcheck

theorem State.takeModel_of_resident (hid : (s.model? c (pf k.par 20 4)).isSome = true) :
    s.takeModel c k b = refuse s stBadState := by
  simp [State.takeModel, hcheck, hid]

theorem State.takeModel_of_full_store (hid : s.model? c (pf k.par 20 4) = none)
    (hfull : s.freeBlocks (ceilDiv b.length 4096) = none) : s.takeModel c k b = refuse s stMemory := by
  simp [State.takeModel, hcheck, hid, hfull]

theorem State.takeModel_stores {blocks : List Nat} (hid : s.model? c (pf k.par 20 4) = none)
    (hroom : s.freeBlocks (ceilDiv b.length 4096) = some blocks) : s.takeModel c k b =
      okay (s.storeModel c (pf k.par 20 4) (bit (pf k.par 24 1) 0) b ls blocks) (modelHash b) := by
  simp [State.takeModel, hcheck, hid, hroom]

end

/-! ### A model made resident (R216, R411) -/

section
variable (s : State) (c id : Nat) (enc : Bool) (b : Bytes) (ls : List Layer) (blocks : List Nat)

/-- One block of an image written: free values where the image was loaded encrypted. -/
def State.storeBlock (t : State) (x : Nat × Nat) : State :=
  if enc then State.writeLa { t with fresh := t.fresh + 4096 } (Who.cpx c) (dramLa 0 + 4096 * (Config.modelStore + x.2))
    (clean (freeBytes t.fresh 4096))
  else t.writeLa (Who.cpx c) (dramLa 0 + 4096 * (Config.modelStore + x.2)) (clean ((b.drop (4096 * x.1)).take 4096))

/-- What neither a write of device memory nor a draw of free values changes stays when a block is written. -/
theorem State.storeBlock_keeps {α : Type} (g : State → α) (hwrite : ∀ t who a d, g (State.writeLa t who a d) = g t)
    (hdraw : ∀ (t : State) n, g { t with fresh := n } = g t) (t : State) (x : Nat × Nat) :
    g (State.storeBlock c enc b t x) = g t := by
  unfold State.storeBlock
  split
  · exact (hwrite _ _ _ _).trans (hdraw _ _)
  · exact hwrite _ _ _ _

theorem State.storeModel_eq : s.storeModel c id enc b ls blocks =
    { ((rangeFrom 0 blocks.length).zip blocks).foldl (State.storeBlock c enc b) s with
      models := (((rangeFrom 0 blocks.length).zip blocks).foldl (State.storeBlock c enc b) s).models ++
        [⟨c, id, b.length, modelHash b, ls, enc, b, blocks⟩] } :=
  (rfl)

theorem State.storeModel_models : (s.storeModel c id enc b ls blocks).models =
    s.models ++ [⟨c, id, b.length, modelHash b, ls, enc, b, blocks⟩] :=
  congrArg (· ++ [_]) (foldl_keeps State.models _
    (State.storeBlock_keeps c enc b _ (fun t => t.writeLa_models) fun _ _ => rfl) _ _)

theorem State.storeModel_queues : (s.storeModel c id enc b ls blocks).queues = s.queues :=
  foldl_keeps State.queues _ (State.storeBlock_keeps c enc b _ (fun t => t.writeLa_queues) fun _ _ => rfl) _ _

theorem State.storeModel_plans : (s.storeModel c id enc b ls blocks).plans = s.plans :=
  foldl_keeps State.plans _ (State.storeBlock_keeps c enc b _ (fun t => t.writeLa_plans) fun _ _ => rfl) _ _

end

/-! ### MODEL_EVICT and MODEL_LIST (R217) -/

section
variable {s : State} {c : Nat} {k : Cmd}

theorem cmdModelEvict_of_unknown (hid : s.model? c (pf k.par 8 4) = none) : cmdModelEvict c k s = refuse s stBadParam := by
  simp [cmdModelEvict, hid]

variable (hid : s.model? c (pf k.par 8 4) ≠ none)
include hid

theorem cmdModelEvict_of_used (hused : s.modelUsed c (pf k.par 8 4) = true) : cmdModelEvict c k s = refuse s stBadState := by
  simp [cmdModelEvict, hid, hused]

theorem cmdModelEvict_frees (hfree : s.modelUsed c (pf k.par 8 4) = false) : cmdModelEvict c k s =
    okay { s with models := s.models.filter (fun m => !(m.c == c && m.id == pf k.par 8 4)) } := by
  simp [cmdModelEvict, hid, hfree]

end

/-- Settles O31: the fields of each packet are in range, and each clause is one case of its command above. -/
theorem models : Obligations.Models := by
  refine ⟨fun s s1 c q x k e raw b he hs halign hid hplain hsealed hread => ?load, fun s c id enc b ls blocks => ?stored,
    fun s c q x k e he hs => ?evict, fun s s1 c q x k e g g1 he hs halign hpin hin hpin1 => ?list⟩
  case load =>
    have hload := cmdModelLoad_of_read ⟨halign, hid, hplain, hsealed⟩ hread
    refine ⟨fun st henc hopen => ?_, fun hraw hopen => ?_⟩
    · rw [State.plaintext_fails henc hopen] at hload
      exact exec_modelLoad_answers he hs hload
    · rw [State.plaintext_opens hraw hopen] at hload
      refine ⟨fun y hcheck => ?_, fun ls hcheck => ⟨fun hres => ?_, fun hnew hfull => ?_, fun blocks hnew hroom => ?_⟩⟩
      · exact exec_modelLoad_answers he hs (hload.trans (State.takeModel_of_fault hcheck))
      · exact exec_modelLoad_answers he hs (hload.trans (State.takeModel_of_resident hcheck hres))
      · exact exec_modelLoad_answers he hs (hload.trans (State.takeModel_of_full_store hcheck hnew hfull))
      · exact exec_modelLoad_answers he hs (hload.trans (State.takeModel_stores hcheck hnew hroom))
  case stored =>
    exact ⟨s.storeModel_models c id enc b ls blocks, s.storeModel_queues c id enc b ls blocks,
      s.storeModel_plans c id enc b ls blocks⟩
  case evict =>
    refine ⟨fun hnone => ?_, fun hid hused => ?_, fun hid hfree => ?_⟩
    · exact exec_modelEvict_answers he hs (cmdModelEvict_of_unknown hnone)
    · exact exec_modelEvict_answers he hs (cmdModelEvict_of_used hid hused)
    · exact exec_modelEvict_answers he hs (cmdModelEvict_frees hid hfree)
  case list =>
    intro mine l
    exact exec_modelList_answers he hs
      ((if_neg (not_not.mpr halign)).trans (State.withDest_of_ok _ hpin hin hpin1))

end Sys2Proof.Machine

/-! ## Spare engines (R213, R214, R354, R355, R357, R363, R368) -/

namespace Sys2Proof.Machine

/-! ### Roles and a die's record -/

section
variable (s : State) (e n : Nat)

/-- Taking a role writes two registers of the engine. -/
theorem State.rd_setRole {r : Reg} (role logical : Nat) (hrole : r.key ≠ (R.TINE_ROLE e n).key)
    (htime : r.key ≠ (R.TINE_ROLE_T e n).key) : (s.setRole e n role logical).rd r = s.rd r := by
  rw [State.setRole, State.rd_wr_ne _ _ htime]
  exact (State.rd_put_ne _ _ hrole).trans (State.rd_put_ne _ _ hrole)

@[simp] theorem State.get_onDie (f : EngDie → EngDie) (x : Fld) : (s.onDie e f).get x = s.get x := (rfl)

end

/-! ### Rotation (R213, R214) -/

section
variable {s : State} {e t : Nat} (hnext : s.nextTarget e = some t)
include hnext

theorem rotationStepBegin_begins (hdue : (s.engDie e).due = true) (hon : s.on (F.TINE_ROTCFG_ROT_EN e) = true)
    (hidle : s.spareIdle e = true) (hfenced : (s.engDie e).fenced = []) (hactive : s.engRole e t = 0)
    (hbound : s.engineBoundary (s.logicalOf e t) = true) : rotationStepBegin e s = (s.setRole e (s.spareOf e) 2 31).onDie e
      (fun d => { d with due := false, target := some t, copying := some t, copyT := s.time, copied := false }) := by
  simp [rotationStepBegin, hnext, hdue, hon, hidle, hfenced, hactive, hbound]

theorem rotationStepBegin_stays (h : (s.engDie e).due = false ∨ s.on (F.TINE_ROTCFG_ROT_EN e) = false ∨
    s.engineBoundary (s.logicalOf e t) = false) : rotationStepBegin e s = s := by
  rcases h with h | h | h <;> simp [rotationStepBegin, hnext, h]

end

section
variable {s : State} {e n : Nat} (hcopy : (s.engDie e).copying = some n)
include hcopy

theorem shadowCopyDone_copies (hnew : (s.engDie e).copied = false) (htime : (s.engDie e).copyT + 8192 ≤ s.time) :
    shadowCopyDone e s = (s.copyEngine e n).onDie e (fun d => { d with copied := true }) := by
  simp [shadowCopyDone, hcopy, hnew, htime]

theorem shadowCopyDone_stays (h : (s.engDie e).copied = true ∨ s.time < (s.engDie e).copyT + 8192) :
    shadowCopyDone e s = s := by
  rcases h with h | h
  · simp [shadowCopyDone, hcopy, h]
  · simp [shadowCopyDone, hcopy, Nat.not_le.mpr h]

theorem spareSwap_swaps (htarget : (s.engDie e).target = some n) (hcopied : (s.engDie e).copied = true)
    (hfree : n ∉ (s.engDie e).fenced) (hbound : s.engineBoundary (s.logicalOf e n) = true) :
    spareSwap e s = (((s.takeOver e n).setRole e n 3 31).put (F.TINE_SPARE_PHYS e) n).onDie e
      (fun d => { d with tests := d.tests ++ [(n, s.time, 0)] }) := by
  simp [spareSwap, hcopy, htarget, hcopied, hfree, hbound]

end

/-! ### Registers of a copy (R213, R248, R249, R254)

A copy counts and logs the errors that it reads in the registers of the memories: none of them is one of the engines'. -/

/-- The registers of the Tine engines of the two C-dies. -/
def TineKey (k : Nat) : Prop := (0x2000000 ≤ k ∧ k < 0x2400000) ∨ (0x3000000 ≤ k ∧ k < 0x3400000)

theorem laPlace_le (a : Nat) : laPlace a ≤ 8 := by
  unfold laPlace
  split
  · split <;> omega
  · split
    · have hchannel : a < 0x900000000 := ‹_›
      omega
    · exact le_rfl

section
variable {k p : Nat} (hk : TineKey k)
include hk

theorem TineKey.ne_srm {o : Nat} (ho : o < 0x400) : k ≠ srmBase p + o := by
  unfold TineKey at hk
  unfold srmBase
  split_ifs <;> omega

theorem TineKey.ne_memc {o : Nat} (ho : o < 0x400) : k ≠ 0x280000 + o := by
  unfold TineKey at hk
  omega

theorem TineKey.ne_placeCe (hp : p ≤ 8) : k ≠ (placeCe p).reg.key := by
  unfold placeCe
  split
  · exact hk.ne_srm (o := 0x8) (by decide)
  · exact fun h => hk.ne_memc (o := 0x108 + (p - 4) * 0x20) (by omega) (h.trans (Nat.add_assoc 0x280000 0x108 _))

theorem TineKey.ne_placeUe (hp : p ≤ 8) : k ≠ (placeUe p).reg.key := by
  unfold placeUe
  split
  · exact hk.ne_srm (o := 0xC) (by decide)
  · exact fun h => hk.ne_memc (o := 0x10C + (p - 4) * 0x20) (by omega) (h.trans (Nat.add_assoc 0x280000 0x10C _))

theorem TineKey.ne_placeHead : k ≠ (placeHead p).reg.key := by
  unfold placeHead
  split
  · exact hk.ne_srm (o := 0x20) (by decide)
  · exact hk.ne_memc (o := 0xC) (by decide)

theorem TineKey.ne_placeLost : k ≠ (placeLost p).reg.key := by
  unfold placeLost
  split
  · exact hk.ne_srm (o := 0x20) (by decide)
  · exact hk.ne_memc (o := 0xC) (by decide)

theorem TineKey.ne_placeLog {i : Nat} (hi : i < 16) : k ≠ (placeLog p i).key := by
  unfold placeLog
  split
  · exact fun h => hk.ne_srm (o := 0x100 + i * 0x20) (by omega) (h.trans (Nat.add_assoc (srmBase p) 0x100 _))
  · exact fun h => hk.ne_memc (o := 0x200 + i * 0x20) (by omega) (h.trans (Nat.add_assoc 0x280000 0x200 _))

end

theorem State.get_placeHead_lt (s : State) (p : Nat) : s.get (placeHead p) < 16 := by
  unfold placeHead
  split <;> exact Nat.mod_lt _ (by decide : 0 < 2 ^ 4)

section
variable (s : State) {r : Reg} (hr : TineKey r.key) (who : Who) (a y : Nat)
include hr

theorem State.rd_logError (kind : Nat) : (s.logError who a kind y).rd r = s.rd r := by
  rw [State.logError, State.rd_put_ne _ _ hr.ne_placeHead, State.rd_wr_ne _ _ (hr.ne_placeLog (s.get_placeHead_lt _)),
    State.noteUnread]
  split
  · exact State.rd_put_ne _ _ hr.ne_placeLost
  · rfl

theorem State.rd_countCe : (s.countCe who a y).rd r = s.rd r := by
  have hcount : (s.incSat (placeCe (laPlace a))).rd r = s.rd r := State.rd_put_ne _ _ (hr.ne_placeCe (laPlace_le a))
  rw [State.countCe]
  split
  · exact hcount
  · exact (State.rd_logError _ hr who a y 1).trans hcount

theorem State.rd_countUe : (s.countUe who a y).rd r = s.rd r :=
  (State.rd_logError _ hr who a y _).trans (State.rd_put_ne _ _ (hr.ne_placeUe (laPlace_le a)))

theorem State.rd_eccRead : (s.eccRead who a).rd r = s.rd r := by
  rw [State.eccRead]
  split
  · rfl
  · exact s.rd_countCe hr who a _
  · exact s.rd_countUe hr who a _

end

/-- What neither a checked read nor memory and its ECC words change stays when a span is copied. -/
theorem State.copyLa_keeps {α : Type} (s : State) (g : State → α) (hread : ∀ who t w, g (State.eccRead t who w) = g t)
    (hmem : ∀ (t : State) m l, g { t with mem := m, ecc := l } = g t) (who : Who) (src dst n : Nat) :
    g (s.copyLa who src dst n) = g s :=
  (hmem _ _ _).trans ((hmem _ _ _).trans (foldl_keeps g _ (hread who) _ _))

theorem State.rd_copyEngine (s : State) (e n : Nat) {r : Reg} (hr : TineKey r.key) : (s.copyEngine e n).rd r = s.rd r :=
  s.copyLa_keeps (State.rd · r) (fun who t w => t.rd_eccRead hr who w) (fun _ _ _ => rfl) _ _ _ _

/-! ### The spare takes over (R213, R218) -/

section
variable (s : State) {e n : Nat}

/-- The state in which TINE_MAP is written: the banks are copied and the spare is ACTIVE. -/
def State.tookRole (s : State) (e n : Nat) : State :=
  (s.copyEngine e n).setRole e ((s.copyEngine e n).spareOf e) 0 (s.logicalOf e n)

theorem State.takeOver_eq : s.takeOver e n =
    (((s.tookRole e n).put (F.TINE_MAP_PHYS (s.logicalOf e n / 15) (s.logicalOf e n % 15)) ((s.tookRole e n).spareOf e)).incWrap
      (F.TINE_MAPGEN_GEN e)).onDie e (fun d => { d with target := none, copying := none, copied := false }) :=
  (rfl)

theorem State.spareOf_tookRole (he : e < 2) : (s.tookRole e n).spareOf e = s.spareOf e := by
  have hkey : TineKey (R.TINE_SPARE e).key := by
    simp only [TineKey, R.TINE_SPARE]
    omega
  have hrole (j : Nat) : (R.TINE_SPARE e).key ≠ (R.TINE_ROLE e j).key := by
    simp only [R.TINE_SPARE, R.TINE_ROLE]
    omega
  have htime (j : Nat) : (R.TINE_SPARE e).key ≠ (R.TINE_ROLE_T e j).key := by
    simp only [R.TINE_SPARE, R.TINE_ROLE_T]
    omega
  exact congrArg (bits · 3 0) ((State.rd_setRole _ _ _ _ _ (hrole _) (htime _)).trans (s.rd_copyEngine e n hkey))

theorem State.get_put_map (i j : Nat) {v : Nat} (hv : v < 16) :
    (s.put (F.TINE_MAP_PHYS i j) v).get (F.TINE_MAP_PHYS i j) = v :=
  (State.get_put_same _ _ _ (Nat.zero_le _) (by decide : 3 < 32)).trans (Nat.mod_eq_of_lt hv)

theorem State.get_takeOver_map (he : e < 2) (hspare : s.spareOf e < 16) :
    (s.takeOver e n).get (F.TINE_MAP_PHYS (s.logicalOf e n / 15) (s.logicalOf e n % 15)) = s.spareOf e := by
  have hgen (i k : Nat) : (R.TINE_MAP i (k % 15)).key ≠ (R.TINE_MAPGEN e).key := by
    simp only [R.TINE_MAP, R.TINE_MAPGEN]
    omega
  rw [s.takeOver_eq, State.get_onDie, State.incWrap, State.get_put_ne _ _ (hgen _ _), s.spareOf_tookRole he,
    State.get_put_map _ _ _ hspare]

variable (e n : Nat)

/-- What no write of a register, of a die's record or of memory changes stays at a swap. -/
theorem State.takeOver_keeps {α : Type} (g : State → α) (hwr : ∀ t r v, g (State.wr t r v) = g t)
    (hdie : ∀ t d x, g (State.setEngDie t d x) = g t) (hread : ∀ who t w, g (State.eccRead t who w) = g t)
    (hmem : ∀ (t : State) m l, g { t with mem := m, ecc := l } = g t) : g (s.takeOver e n) = g s := by
  have hcopy : g (s.copyEngine e n) = g s := s.copyLa_keeps g hread hmem _ _ _ _
  rw [s.takeOver_eq, State.onDie, hdie, State.incWrap, State.put, hwr, State.put, hwr, State.tookRole, State.setRole, hwr,
    State.put, hwr, State.put, hwr, hcopy]

theorem State.takeOver_queues : (s.takeOver e n).queues = s.queues :=
  s.takeOver_keeps e n State.queues State.wr_queues State.setEngDie_queues (fun who t w => t.eccRead_queues who w)
    fun _ _ _ => rfl

theorem State.takeOver_plans : (s.takeOver e n).plans = s.plans :=
  s.takeOver_keeps e n State.plans State.wr_plans State.setEngDie_plans (fun who t w => t.eccRead_plans who w)
    fun _ _ _ => rfl

theorem State.takeOver_items : (s.takeOver e n).items = s.items :=
  s.takeOver_keeps e n State.items State.wr_items State.setEngDie_items (fun who t w => t.eccRead_items who w)
    fun _ _ _ => rfl

end

/-! ### Fault replacement (R355, R357, R363) -/

section
variable {s : State} {e n : Nat}

theorem replacementBegin_begins (hfirst : (s.engDie e).fenced.head? = some n) (hidle : s.spareIdle e = true)
    (hbound : s.engineBoundary (s.logicalOf e n) = true) :
    replacementBegin e n s = s.onDie e (fun d => { d with copying := some n, copyT := s.time, copied := false }) := by
  simp [replacementBegin, hfirst, hidle, hbound]

theorem replacementBegin_stays (h : (s.engDie e).fenced.head? ≠ some n ∨ s.spareIdle e = false) :
    replacementBegin e n s = s := by
  rcases h with h | h <;> simp [replacementBegin, h]

/-- The fenced engine FAILED and its die without a spare. -/
def State.replaced (s : State) (e n : Nat) : State :=
  (((s.takeOver e n).setRole e n 4 31).put (F.TINE_SPARE_VALID e) 0).onDie e
    (fun d => { d with fenced := d.fenced.filter (· != n) })

/-- The record of a replacement (R363). -/
def State.replacedRecord (s : State) (e n : Nat) : LogRec :=
  { det := 0x20 + 16 * e + n, kind := 3, level := 2, unit := 16 * e + n, sub := s.logicalOf e n, info := s.spareOf e,
    ctx := (s.replaced e n).engineCtx (s.logicalOf e n) }

theorem replacementSwap_swaps (hcopy : (s.engDie e).copying = some n) (hcopied : (s.engDie e).copied = true)
    (hfenced : n ∈ (s.engDie e).fenced) (hbound : s.engineBoundary (s.logicalOf e n) = true) :
    replacementSwap e s = ((s.replaced e n).log (s.replacedRecord e n)).raiseFmu 5 := by
  simp [replacementSwap, hcopy, hcopied, hfenced, hbound, State.replaced, State.replacedRecord]

end

/-! ### Self-tests (R213, R368) -/

section
variable {s : State} {e n : Nat} {pass : Bool}

theorem engineSelftestDone_waits (h : ∀ y ∈ (s.engDie e).tests, y.1 = n → s.time < y.2.1 + 100000) :
    engineSelftestDone e n pass s = s := by
  have hnone : (s.engDie e).tests.find? (fun y => y.1 == n && decide (y.2.1 + 100000 ≤ s.time)) = none :=
    List.find?_eq_none.mpr fun y hy => by simpa using h y hy
  simp [engineSelftestDone, hnone]

/-- The target of a rotation that passes becomes the spare. -/
theorem engineSelftestDone_passes {y : Nat × Nat × Nat}
    (hdue : (s.engDie e).tests.find? (fun y => y.1 == n && decide (y.2.1 + 100000 ≤ s.time)) = some y) (hkind : y.2.2 = 0)
    (hinj : s.injecting (0x5E + e) = false) : engineSelftestDone e n true s =
      (((s.setBist e n true).scramble (engLa e n) (16 * 0x20000)).onDie e
        (fun d => { d with tests := d.tests.filter (fun z => z.1 != n) })).setRole e n 1 31 := by
  simp [engineSelftestDone, hdue, hkind, hinj]

end

section
variable (s : State) (e n : Nat) (pass : Bool)

/-- A result written: DONE and PASS, then RUNS and the time of the test. -/
theorem State.get_setBist {f : Fld} (hreg : f.reg = R.TINE_BIST e n) : (s.setBist e n pass).get f =
    (((s.put (F.TINE_BIST_DONE e n) 1).put (F.TINE_BIST_PASS e n) (b2n pass)).incWrap (F.TINE_BIST_RUNS e n)).get f := by
  have htime : f.reg.key ≠ (R.TINE_BIST_T e n).key := by
    simp only [hreg, R.TINE_BIST, R.TINE_BIST_T]
    omega
  rw [State.setBist, State.get_wr_ne _ _ htime]

/-- Writing RUNS leaves the fields below it. -/
theorem State.get_incWrap_bist_runs {f : Fld} (hreg : f.reg = R.TINE_BIST e n) (hf : f.hi < 16) :
    (s.incWrap (F.TINE_BIST_RUNS e n)).get f = s.get f :=
  s.get_put_disjoint _ hreg (by decide : 16 ≤ 31) (by rw [hreg]; exact hf.trans (by decide : 16 < 32)) (Or.inl hf)

theorem State.get_setBist_done : (s.setBist e n pass).get (F.TINE_BIST_DONE e n) = 1 := by
  rw [s.get_setBist e n pass rfl, State.get_incWrap_bist_runs _ e n rfl (by decide : 0 < 16),
    State.get_put_disjoint _ (f := F.TINE_BIST_PASS e n) (g := F.TINE_BIST_DONE e n) _ rfl (le_refl 1)
      (by decide : 0 < 32) (Or.inl (by decide : 0 < 1))]
  exact State.get_put_same _ _ _ (le_refl 0) (by decide : 0 < 32)

theorem State.get_setBist_pass : (s.setBist e n pass).get (F.TINE_BIST_PASS e n) = b2n pass := by
  rw [s.get_setBist e n pass rfl, State.get_incWrap_bist_runs _ e n rfl (by decide : 1 < 16),
    State.get_put_same _ _ _ (le_refl 1) (by decide : 1 < 32)]
  cases pass <;> rfl

theorem State.get_setBist_runs :
    (s.setBist e n pass).get (F.TINE_BIST_RUNS e n) = (s.get (F.TINE_BIST_RUNS e n) + 1) % 2 ^ 16 := by
  rw [s.get_setBist e n pass rfl, State.incWrap, State.get_put_same _ _ _ (by decide : 16 ≤ 31) (by decide : 31 < 32),
    State.get_put_disjoint _ (f := F.TINE_BIST_PASS e n) (g := F.TINE_BIST_RUNS e n) _ rfl (le_refl 1)
      (by decide : 31 < 32) (Or.inr (by decide : 1 < 16)),
    State.get_put_disjoint _ (f := F.TINE_BIST_DONE e n) (g := F.TINE_BIST_RUNS e n) _ rfl (le_refl 0)
      (by decide : 31 < 32) (Or.inr (by decide : 0 < 16))]
  rfl

end

/-! ### SELFTEST_RUN (R368) -/

section
variable {s : State} {k : Cmd}

section
variable (hkind : pf k.par 8 1 = 0) (hunit : pf k.par 9 1 < 32)
include hkind hunit

theorem cmdSelftestRun_starts (hfree : s.engineClaimed (pf k.par 9 1 / 16) (pf k.par 9 1 % 16) = false)
    (hshadow : s.engRole (pf k.par 9 1 / 16) (pf k.par 9 1 % 16) ≠ 2)
    (htest : s.engRole (pf k.par 9 1 / 16) (pf k.par 9 1 % 16) ≠ 3) (hcopy : (s.engDie (pf k.par 9 1 / 16)).copying = none)
    (hnone : (s.engDie (pf k.par 9 1 / 16)).tests = []) : cmdSelftestRun k s =
      .wait .selftest (s.onDie (pf k.par 9 1 / 16)
        (fun d => { d with tests := d.tests ++ [(pf k.par 9 1 % 16, s.time, 2)] })) := by
  simp [cmdSelftestRun, hkind, hunit, hfree, hshadow, htest, hcopy, hnone]

theorem cmdSelftestRun_of_busy (h : s.engineClaimed (pf k.par 9 1 / 16) (pf k.par 9 1 % 16) = true ∨
    s.engRole (pf k.par 9 1 / 16) (pf k.par 9 1 % 16) = 2 ∨ s.engRole (pf k.par 9 1 / 16) (pf k.par 9 1 % 16) = 3) :
    cmdSelftestRun k s = refuse s stBadState := by
  rcases h with h | h | h <;> simp [cmdSelftestRun, hkind, hunit, h]

end

/-- A self-test of a chain unit or of a post-processing channel. -/
theorem cmdSelftestRun_of_unit (h : (pf k.par 8 1 = 1 ∧ pf k.par 9 1 < 8) ∨ (pf k.par 8 1 = 2 ∧ pf k.par 9 1 < 4)) :
    cmdSelftestRun k s = if s.claimed (pf k.par 8 1 + 1) (pf k.par 9 1) then refuse s stBadState
      else .wait (.atBeat (s.beat + 20)) s := by
  rcases h with ⟨hkind, hunit⟩ | ⟨hkind, hunit⟩ <;> simp [cmdSelftestRun, hkind, hunit]

end

/-- Settles O34: the events are well formed for their dies and engines, so each clause is one lemma above. -/
theorem spareEngines : Obligations.SpareEngines := by
  refine ⟨fun s e t he hnext => ?begins, fun s e n he hcopy => ?copy,
    fun s e t he htarget hcopy hcopied hfree hbound => ?swap, fun s e t he hlogical hspare => ?takeOver,
    fun s e n he hn => ?replacementBegin, fun s e n he hcopy hcopied hfenced hbound => ?replacementSwap,
    fun s e n pass he hn => ?selftest, fun s e n pass => ?result, fun s c q x k env henv hs => ?command⟩
  case begins =>
    rw [exec_rotationStepBegin s e (decide_eq_true he)]
    refine ⟨fun hdue hon hidle hfenced hactive hbound => ?_, fun h => ?_⟩
    · rw [rotationStepBegin_begins hnext hdue hon hidle hfenced hactive hbound]
    · rw [rotationStepBegin_stays hnext h]
  case copy =>
    rw [exec_shadowCopyDone s e (decide_eq_true he)]
    refine ⟨fun hnew htime => ?_, fun h => ?_⟩
    · rw [shadowCopyDone_copies hcopy hnew htime]
    · rw [shadowCopyDone_stays hcopy h]
  case swap =>
    rw [exec_spareSwap s e (decide_eq_true he), spareSwap_swaps hcopy htarget hcopied hfree hbound]
  case takeOver =>
    exact ⟨s.get_takeOver_map he hspare, s.takeOver_queues e t, s.takeOver_plans e t, s.takeOver_items e t⟩
  case replacementBegin =>
    rw [exec_replacementBegin s e n (by simp [Instr.wellFormed, he, hn])]
    refine ⟨fun hfirst hidle hbound => ?_, fun h => ?_⟩
    · rw [replacementBegin_begins hfirst hidle hbound]
    · rw [replacementBegin_stays h]
  case replacementSwap =>
    rw [exec_replacementSwap s e (decide_eq_true he), replacementSwap_swaps hcopy hcopied hfenced hbound]
    rfl
  case selftest =>
    rw [exec_engineSelftestDone s e n pass (by simp [Instr.wellFormed, he, hn])]
    refine ⟨fun h => ?_, fun y hdue hkind hpass hinj => ?_⟩
    · rw [engineSelftestDone_waits h]
    · rw [hpass, engineSelftestDone_passes hdue hkind hinj]
  case result =>
    exact ⟨s.get_setBist_done e n pass, s.get_setBist_pass e n pass, s.get_setBist_runs e n pass⟩
  case command =>
    refine ⟨fun hkind hunit hfree hshadow htest hcopy hnone => ?_, fun hkind hunit h => ?_,
      fun h => ⟨fun hfree => ?_, fun hclaimed => ?_⟩⟩
    · exact exec_selftestRun_waits henv hs (cmdSelftestRun_starts hkind hunit hfree hshadow htest hcopy hnone)
    · exact exec_selftestRun_answers henv hs (cmdSelftestRun_of_busy hkind hunit h)
    · exact exec_selftestRun_waits henv hs ((cmdSelftestRun_of_unit h).trans (if_neg (by simp [hfree])))
    · exact exec_selftestRun_answers henv hs ((cmdSelftestRun_of_unit h).trans (if_pos hclaimed))

end Sys2Proof.Machine

/-! ## Records of engines, chain units and post-processing channels (R205 to R212, R222, R227, R231 to R236, R354, R360) -/

namespace Sys2Proof.Machine

/-! ### Which records run (R209, R319, R354, R360) -/

section
variable {s : State} {r : RecRun} {a : Act}

/-- A record keeps to its ISSUE beats and, an item record, to its slack: the shedding rules leave it. -/
theorem shedTest_of_within {cyc : Nat} (hcyc : cyc ≤ 6000 * a.rcd.issue) (hslack : r.item = true → s.slackSpent a = false) :
    ¬ ((r.item && s.slackSpent a) || decide (6000 * a.rcd.issue < cyc)) = true := by
  simpa [Nat.not_lt.mpr hcyc] using hslack

theorem shedTest_of_beyond {cyc : Nat} (h : 6000 * a.rcd.issue < cyc ∨ (r.item = true ∧ s.slackSpent a = true)) :
    ((r.item && s.slackSpent a) || decide (6000 * a.rcd.issue < cyc)) = true := by
  rcases h with h | ⟨hitem, hspent⟩
  · simp [h]
  · simp [hitem, hspent]

section
variable (hdue : s.due? r 1 = some a)
include hdue

theorem tineRun_faults (h : s.engSick (a.plan.img.recUnit a.rcd 1 / 15) (s.physOf (a.plan.img.recUnit a.rcd 1)) = true ∨
    s.actDomains a = false) : tineRun r s = (s.faultAct a).markRan r := by
  rcases h with h | h <;> simp [tineRun, hdue, h]

/-- A record on a sound engine whose model and buffers are there. -/
theorem tineRun_of_sound {m : Model} {bi bo : Buf}
    (hsound : s.engSick (a.plan.img.recUnit a.rcd 1 / 15) (s.physOf (a.plan.img.recUnit a.rcd 1)) = false)
    (hon : s.actDomains a = true) (hmodel : s.recModel r.c a.plan.img a.rcd = some m)
    (hin : s.actBuf a a.rcd.inBuf = some bi) (hout : s.actBuf a a.rcd.outBuf = some bo) : tineRun r s =
      if (r.item && s.slackSpent a) || decide (6000 * a.rcd.issue < s.tineCyc r a m) then s else s.tineWork r a m bi bo := by
  simp only [tineRun, hdue, hsound, hon, hmodel, hin, hout]
  rfl

end

section
variable (hdue : s.due? r 2 = some a)
include hdue

theorem chainOp_faults (h : s.unitFailed (0x1000 + a.plan.img.recUnit a.rcd 2) a.start = true ∨ s.actDomains a = false) :
    chainOp r s = (s.faultAct a).markRan r := by
  rcases h with h | h <;> simp [chainOp, hdue, h]

theorem chainOp_runs {k : Copy} {bi bo : Buf} (hsound : s.unitFailed (0x1000 + a.plan.img.recUnit a.rcd 2) a.start = false)
    (hon : s.actDomains a = true) (hcopy : s.copy? r.c r.h (0x1000 + a.plan.img.recUnit a.rcd 2) a.rcd.prog = some k)
    (hin : s.actBuf a a.rcd.inBuf = some bi) (hout : s.actBuf a a.rcd.outBuf = some bo)
    (hcyc : s.chainCyc r a k ≤ 6000 * a.rcd.issue) (hslack : r.item = true → s.slackSpent a = false) :
    chainOp r s = s.chainWork r a k bi bo := by
  simp only [chainOp, hdue, hsound, hon, hcopy, hin, hout]
  exact if_neg (shedTest_of_within hcyc hslack)

end

section
variable (hdue : s.due? r 3 = some a)
include hdue

theorem ppuSort_faults (h : s.unitFailed (0x2000 + a.plan.img.recUnit a.rcd 3) a.start = true ∨ s.actDomains a = false) :
    ppuSort r s = (s.faultAct a).markRan r := by
  rcases h with h | h <;> simp [ppuSort, hdue, h]

theorem ppuSort_runs {bi bo : Buf} (hsound : s.unitFailed (0x2000 + a.plan.img.recUnit a.rcd 3) a.start = false)
    (hon : s.actDomains a = true) (hin : s.actBuf a a.rcd.inBuf = some bi) (hout : s.actBuf a a.rcd.outBuf = some bo)
    (hcyc : s.sortCyc r a ≤ 6000 * a.rcd.issue) (hslack : r.item = true → s.slackSpent a = false) :
    ppuSort r s = s.sortWork r a bi bo := by
  simp only [ppuSort, hdue, hsound, hon, hin, hout]
  exact if_neg (shedTest_of_within hcyc hslack)

end

section
variable (hdue : s.due? r 4 = some a)
include hdue

theorem ppuDetect_faults (h : s.unitFailed (0x2000 + a.plan.img.recUnit a.rcd 3) a.start = true ∨ s.actDomains a = false) :
    ppuDetect r s = (s.faultAct a).markRan r := by
  rcases h with h | h <;> simp [ppuDetect, hdue, h]

theorem ppuDetect_runs {k : Copy} {bi bo : Buf} (hsound : s.unitFailed (0x2000 + a.plan.img.recUnit a.rcd 3) a.start = false)
    (hon : s.actDomains a = true) (hcopy : s.copy? r.c r.h (0x2000 + a.plan.img.recUnit a.rcd 3) a.rcd.anch = some k)
    (hin : s.actBuf a a.rcd.inBuf = some bi) (hout : s.actBuf a a.rcd.outBuf = some bo)
    (hcyc : s.detectCyc r a ≤ 6000 * a.rcd.issue) (hslack : r.item = true → s.slackSpent a = false) :
    ppuDetect r s = s.detectWork r a k bi bo := by
  simp only [ppuDetect, hdue, hsound, hon, hcopy, hin, hout]
  exact if_neg (shedTest_of_within hcyc hslack)

end

end

/-! ### Tables that no record changes

A record reads and writes buffers, counts itself and marks itself as run. None of this reaches queues, contexts, models or
ranges. -/

/-- Queues, contexts, models and ranges. -/
def State.hostTables (s : State) : List (Nat × Queue) × List (Nat × Ctx) × List Model × List (Nat × Range) :=
  (s.queues, s.ctxs, s.models, s.ranges)

theorem State.hostTables_eq_iff {s t : State} : t.hostTables = s.hostTables ↔
    t.queues = s.queues ∧ t.ctxs = s.ctxs ∧ t.models = s.models ∧ t.ranges = s.ranges := by
  simp [State.hostTables]

section
variable (s : State)

@[simp] theorem State.hostTables_wr (x : Reg) (v : Nat) : (s.wr x v).hostTables = s.hostTables := (rfl)
@[simp] theorem State.hostTables_put (f : Fld) (v : Nat) : (s.put f v).hostTables = s.hostTables := (rfl)
@[simp] theorem State.hostTables_incSat (f : Fld) (n : Nat) : (s.incSat f n).hostTables = s.hostTables := (rfl)
@[simp] theorem State.hostTables_incWrap (f : Fld) (n : Nat) : (s.incWrap f n).hostTables = s.hostTables := (rfl)
@[simp] theorem State.hostTables_fresh (n : Nat) : State.hostTables { s with fresh := n } = s.hostTables := (rfl)
@[simp] theorem State.hostTables_noteRun (u : Nat) (r : RecRun) : (s.noteRun u r).hostTables = s.hostTables := (rfl)
@[simp] theorem State.hostTables_faultAct (a : Act) : (s.faultAct a).hostTables = s.hostTables := (rfl)

@[simp] theorem State.hostTables_emit (o : Out) : (s.emit o).hostTables = s.hostTables := by simp [State.hostTables]

@[simp] theorem State.hostTables_readLa (who : Who) (x n : Nat) : (s.readLa who x n).2.hostTables = s.hostTables := by
  simp [State.hostTables]

@[simp] theorem State.hostTables_writeLa (who : Who) (x : Nat) (d : List PByte) :
    (s.writeLa who x d).hostTables = s.hostTables := by
  simp [State.hostTables]

@[simp] theorem State.hostTables_consume (a : Act) (bad : Bool) : (s.consume a bad).hostTables = s.hostTables := by
  unfold State.consume
  split <;> rfl

@[simp] theorem State.hostTables_markRan (r : RecRun) : (s.markRan r).hostTables = s.hostTables := by
  unfold State.markRan State.onPlan
  split
  · rfl
  · split <;> rfl

@[simp] theorem State.hostTables_planRead (who : Who) (l : List Seg) : (s.planRead who l).2.hostTables = s.hostTables := by
  refine foldl_keeps2 State.hostTables _ (fun acc g => ?_) l ([], s)
  cases g with
  | la x n => exact acc.2.hostTables_readLa who x n
  | host _ _ => rfl
  | remote _ _ _ => rfl

@[simp] theorem State.hostTables_writeWith (pad : Nat → List PByte → List PByte) (who : Who) (l : List Seg) (d : List PByte) :
    (s.writeWith pad who l d).hostTables = s.hostTables := by
  induction l generalizing s d with
  | nil => rfl
  | cons g l ih =>
    cases g with
    | la x n => rw [State.writeWith, ih]; split <;> simp
    | host b n => rw [State.writeWith, ih]; split <;> simp
    | remote _ _ n => rw [State.writeWith, ih]

@[simp] theorem State.hostTables_readBuf (who : Who) (b : Buf) (off n : Nat) :
    (s.readBuf who b off n).2.hostTables = s.hostTables := by
  unfold State.readBuf
  split
  · rfl
  · exact s.hostTables_planRead who _

@[simp] theorem State.hostTables_writeBuf (who : Who) (b : Buf) (off : Nat) (d : List PByte) :
    (s.writeBuf who b off d).hostTables = s.hostTables := by
  unfold State.writeBuf
  split
  · rfl
  · exact s.hostTables_writeWith _ who _ d

@[simp] theorem State.hostTables_result (det : Nat) (d : List PByte) : (s.result det d).2.hostTables = s.hostTables := by
  unfold State.result
  split <;> rfl

@[simp] theorem State.hostTables_tineOutput (m : Model) (ls : List Layer) (injected : Bool) (inp : Bytes) :
    (s.tineOutput m ls injected inp).2.hostTables = s.hostTables := by
  unfold State.tineOutput
  split
  · rfl
  · split <;> rfl

@[simp] theorem State.hostTables_freqUnits (a : Act) (y : Layer) (bub : Nat) :
    (s.freqUnits a y bub).hostTables = s.hostTables :=
  foldl_keeps State.hostTables _ (fun _ _ => by simp) _ _

end

/-! ### Registers of a record that has run -/

section
variable (s : State) (r : RecRun)

@[simp] theorem State.rd_noteRun (u : Nat) (x : Reg) : (s.noteRun u r).rd x = s.rd x := (rfl)

@[simp] theorem State.rd_markRan (x : Reg) : (s.markRan r).rd x = s.rd x := by
  unfold State.markRan State.onPlan
  split
  · rfl
  · split <;> rfl

/-- A unit's record counted: its cycles, the record and its bubbles in three registers. -/
theorem State.rd_counted {x : Reg} {recs bubs : Fld} (cyc bub : Nat) (hrecs : x.key ≠ recs.reg.key) (hbubs : x.key ≠ bubs.reg.key) :
    (((s.wr x cyc).incWrap recs).incSat bubs bub).rd x = cyc % 2 ^ x.width := by
  rw [State.incSat, State.rd_put_ne _ _ hbubs, State.incWrap, State.rd_put_ne _ _ hrecs, State.rd_wr_same]

end

/-! ### TINE_RUN's work (R205 to R212) -/

section
variable (s : State) (r : RecRun) (a : Act) (m : Model) (bi bo : Buf)

/-- The input read, with the items that consume poison faulted. -/
def State.tineInput (s : State) (a : Act) (m : Model) (bi bo : Buf) : List PByte × State :=
  let log := a.plan.img.recUnit a.rcd 1
  let ls := m.recLayers a.rcd
  let w := weightRegion a.rcd ls
  let x := s.readBuf (a.who (16 * (log / 15) + s.physOf log)) bi 0 ((ls.head?.map Layer.inBytes).getD 0)
  (x.1, x.2.consume a (x.1.any (·.2) || bi.revoked || bo.revoked ||
    x.2.spanPoisoned (engLa (log / 15) (s.physOf log) + 64 * w.1) (64 * w.2)))

/-- A scratch region of an engine, in granules, overwritten with values the spec leaves open. -/
def State.tineScratch (t : State) (a : Act) (die phys : Nat) (sc : Nat × Nat) : State :=
  if sc.2 = 0 then t else
    State.writeLa { t with fresh := t.fresh + 64 * sc.2 } (a.who (16 * die + phys)) (engLa die phys + 64 * sc.1)
      (clean (freeBytes t.fresh (64 * sc.2)))

/-- The record's output computed and written, its scratch region overwritten. -/
def State.tineWrote (s : State) (a : Act) (m : Model) (bi bo : Buf) : State :=
  let log := a.plan.img.recUnit a.rcd 1
  let n := s.physOf log
  let t := (s.tineInput a m bi bo).2.tineScratch a (log / 15) n (scratchRegion a.rcd (m.recLayers a.rcd))
  let o := t.tineOutput m (m.recLayers a.rcd) (t.injecting (0x20 + 16 * (log / 15) + n)) ((s.tineInput a m bi bo).1.map (·.1))
  o.2.writeBuf (a.who (16 * (log / 15) + n)) bo 0 (clean o.1)

/-- The record counted on its engine. -/
def State.tineCounted (s : State) (r : RecRun) (a : Act) (m : Model) (bi bo : Buf) : State :=
  let log := a.plan.img.recUnit a.rcd 1
  let n := s.physOf log
  (((s.tineWrote a m bi bo).wr (R.TINE_LASTCYC (log / 15) n) (s.tineCyc r a m)).incWrap (F.TINE_RECS_RECS (log / 15) n)).incSat
    (F.TINE_STAT_BUBBLES (log / 15) n) (s.bubblesOf a)

theorem State.tineWork_eq : s.tineWork r a m bi bo =
    ((if a.rcd.freq then
        ((m.recLayers a.rcd).head?.map (fun y => (s.tineCounted r a m bi bo).freqUnits a y (s.bubblesOf a))).getD
          (s.tineCounted r a m bi bo)
      else s.tineCounted r a m bi bo).noteRun
      (16 * (a.plan.img.recUnit a.rcd 1 / 15) + s.physOf (a.plan.img.recUnit a.rcd 1)) r).markRan r :=
  (rfl)

theorem State.rd_tineWork_lastcyc (hdirect : a.rcd.freq = false) : (s.tineWork r a m bi bo).rd
    (R.TINE_LASTCYC (a.plan.img.recUnit a.rcd 1 / 15) (s.physOf (a.plan.img.recUnit a.rcd 1))) = s.tineCyc r a m % 2 ^ 32 := by
  have hrecs (i j : Nat) : (R.TINE_LASTCYC i j).key ≠ (R.TINE_RECS i j).key := by
    simp only [R.TINE_LASTCYC, R.TINE_RECS]
    omega
  have hstat (i j : Nat) : (R.TINE_LASTCYC i j).key ≠ (R.TINE_STAT i j).key := by
    simp only [R.TINE_LASTCYC, R.TINE_STAT]
    omega
  rw [s.tineWork_eq, State.rd_markRan, State.rd_noteRun, if_neg (by simp [hdirect])]
  exact State.rd_counted _ _ _ (hrecs _ _) (hstat _ _)

@[simp] theorem State.hostTables_tineScratch (t : State) (die phys : Nat) (sc : Nat × Nat) :
    (t.tineScratch a die phys sc).hostTables = t.hostTables := by
  unfold State.tineScratch
  split
  · rfl
  · exact State.hostTables_writeLa _ _ _ _

@[simp] theorem State.hostTables_tineCounted : (s.tineCounted r a m bi bo).hostTables = s.hostTables := by
  simp [State.tineCounted, State.tineWrote, State.tineInput]

theorem State.hostTables_tineWork : (s.tineWork r a m bi bo).hostTables = s.hostTables := by
  rw [s.tineWork_eq, State.hostTables_markRan, State.hostTables_noteRun]
  split
  · cases (m.recLayers a.rcd).head? with
    | none => exact s.hostTables_tineCounted r a m bi bo
    | some y => exact (State.hostTables_freqUnits _ a y _).trans (s.hostTables_tineCounted r a m bi bo)
  · exact s.hostTables_tineCounted r a m bi bo

end

/-! ### PPU_SORT's work (R231, R232) -/

section
variable (s : State) (r : RecRun) (a : Act) (bi bo : Buf)

/-- The values and the indices of the first pairs written. -/
def State.sortWrote (s : State) (a : Act) (bi bo : Buf) : State :=
  let ch := a.plan.img.recUnit a.rcd 3
  let who := a.who (0x2000 + ch)
  let x := s.readBuf who bi (64 * a.rcd.inGran) (2 * a.rcd.sortN)
  let o := sortOutput ((sortPairs a.rcd.sortOrder (scorePairs a.rcd.sortN x.1)).take a.rcd.sortK)
  let v := (x.2.consume a (x.1.any (·.2) || bo.revoked)).result (0x48 + ch) o.1
  let i := v.2.result (0x48 + ch) o.2
  (i.2.writeBuf who bo (64 * a.rcd.outGran) v.1).writeBuf who bo (64 * (a.rcd.outGran + ceilDiv (2 * a.rcd.sortK) 64)) i.1

theorem State.sortWork_eq : s.sortWork r a bi bo =
    (((((s.sortWrote a bi bo).wr (R.PPU_S_LASTCYC (a.plan.img.recUnit a.rcd 3 / 2)) (s.sortCyc r a)).incWrap
      (F.PPU_S_RECS_RECS (a.plan.img.recUnit a.rcd 3 / 2))).incSat (F.PPU_STAT_BUBBLES (a.plan.img.recUnit a.rcd 3 / 2))
      (s.bubblesOf a)).noteRun (0x2000 + a.plan.img.recUnit a.rcd 3) r).markRan r :=
  (rfl)

theorem State.rd_sortWork_lastcyc :
    (s.sortWork r a bi bo).rd (R.PPU_S_LASTCYC (a.plan.img.recUnit a.rcd 3 / 2)) = s.sortCyc r a % 2 ^ 32 := by
  have hrecs (i : Nat) : (R.PPU_S_LASTCYC i).key ≠ (R.PPU_S_RECS i).key := by
    simp only [R.PPU_S_LASTCYC, R.PPU_S_RECS]
    omega
  have hstat (i : Nat) : (R.PPU_S_LASTCYC i).key ≠ (R.PPU_STAT i).key := by
    simp only [R.PPU_S_LASTCYC, R.PPU_STAT]
    omega
  rw [s.sortWork_eq, State.rd_markRan, State.rd_noteRun]
  exact State.rd_counted _ _ _ (hrecs _) (hstat _)

theorem State.hostTables_sortWork : (s.sortWork r a bi bo).hostTables = s.hostTables := by
  simp [s.sortWork_eq, State.sortWrote]

end

/-- Settles O32: the activities are well formed, and each clause is a case of its record or a lemma about its work above. -/
theorem engineRecords : Obligations.EngineRecords := by
  refine ⟨fun s r a hr hdue => ?tine, fun s r a hr hdue => ?chain, fun s r a hr hdue => ?sort, fun s r a hr hdue => ?detect,
    fun s r a m bi bo => ?tineWork, fun s r a bi bo => ?sortWork⟩
  case tine =>
    rw [exec_tineRun s r hr]
    refine ⟨fun h => ?_, fun m bi bo hsound hon hmodel hin hout => ?_⟩
    · rw [tineRun_faults hdue h]
    · rw [tineRun_of_sound hdue hsound hon hmodel hin hout]
      exact ⟨fun hcyc hslack => by rw [if_neg (shedTest_of_within hcyc hslack)], fun h => by rw [if_pos (shedTest_of_beyond h)]⟩
  case chain =>
    rw [exec_chainOp s r hr]
    refine ⟨fun h => ?_, fun k bi bo hsound hon hcopy hin hout hcyc hslack => ?_⟩
    · rw [chainOp_faults hdue h]
    · rw [chainOp_runs hdue hsound hon hcopy hin hout hcyc hslack]
  case sort =>
    rw [exec_ppuSort s r hr]
    refine ⟨fun h => ?_, fun bi bo hsound hon hin hout hcyc hslack => ?_⟩
    · rw [ppuSort_faults hdue h]
    · rw [ppuSort_runs hdue hsound hon hin hout hcyc hslack]
  case detect =>
    rw [exec_ppuDetect s r hr]
    refine ⟨fun h => ?_, fun k bi bo hsound hon hcopy hin hout hcyc hslack => ?_⟩
    · rw [ppuDetect_faults hdue h]
    · rw [ppuDetect_runs hdue hsound hon hcopy hin hout hcyc hslack]
  case tineWork =>
    exact ⟨s.rd_tineWork_lastcyc r a m bi bo, State.hostTables_eq_iff.mp (s.hostTables_tineWork r a m bi bo)⟩
  case sortWork =>
    exact ⟨s.rd_sortWork_lastcyc r a bi bo, State.hostTables_eq_iff.mp (s.hostTables_sortWork r a bi bo)⟩

end Sys2Proof.Machine

/-! ## Ranges (R265 to R267, R272, R276 to R278, R280 to R282)

A command's body gets an equation for every case in which its obligation speaks of it: BUF_PIN by the kind of range, the other
three by what R272 leaves running in their span and by how the pages of a MIGR range move. -/

namespace Sys2Proof.Machine

/-! ### A slot filled (R265) -/

section
variable (s : State) (c slot : Nat) (r : Range)

/-- The range as its slot takes it: under the next generation's RANGE_ID. -/
theorem State.withRange_ranges : (s.withRange c slot r).ranges =
    tput s.ranges (32 * c + slot) { r with id := slot + 32 * ((tget s.gens (32 * c + slot) 0 + 1) % 2048) } := (rfl)

theorem State.withRange_frame : (s.withRange c slot r).mem = s.mem ∧ (s.withRange c slot r).regs = s.regs ∧
    (s.withRange c slot r).queues = s.queues ∧ (s.withRange c slot r).plans = s.plans := ⟨rfl, rfl, rfl, rfl⟩

end

/-! ### BUF_PIN (R266, R267, R276, R278, R280) -/

section
variable {s s1 : State} {e : HostEnv} {c slot rights hva dva len : Nat} {l : List (Nat × Nat)}

theorem State.pinHost_of_untranslated {y : Nat × Nat} (hruns : s.hostRuns e c hva len rights = (.error y, s1)) :
    s.pinHost e c slot rights hva dva len = refuse s1 stUnpinned (y.2 + y.1 * 2 ^ 24) := by
  simp [State.pinHost, hruns]

variable (hruns : s.hostRuns e c hva len rights = (.ok l, s1))
include hruns

theorem State.pinHost_of_many_runs (hmany : 16384 < l.length ∨ 131072 < s.pinRuns + l.length) :
    s.pinHost e c slot rights hva dva len = refuse (s1.raiseAtu 4) stMemory := by
  simp [State.pinHost, hruns, hmany]

theorem State.pinHost_fills (hlen : l.length ≤ 16384) (hroom : s.pinRuns + l.length ≤ 131072) :
    s.pinHost e c slot rights hva dva len = s1.fillSlot c slot { Range.blank 0 rights dva len with runs := l } := by
  simp [State.pinHost, hruns, hlen.not_gt, hroom.not_gt]

end

section
variable {s : State} {c slot rights mem p dva len a : Nat} (hroom : s.pinRuns < 131072)
include hroom

/-- The banks that a LOCAL range names are zeroed with it, so none of them waits to be zeroed any longer (R243, R267). -/
theorem State.pinLocal_of_banks (hmem : mem = 4) : s.pinLocal c slot rights mem p dva len =
    State.fillSlot { s.zeroLa (bankLa p) len with
        zeroing := (s.zeroLa (bankLa p) len).zeroing.filter (fun b => !(rangeFrom p (len / 0x20000)).contains b) } c slot
      { Range.blank 1 rights dva len with la := bankLa p, mem := 4 } :=
  (if_neg hroom.not_ge).trans (if_pos hmem)

variable (hmem : mem ≠ 4)
include hmem

theorem State.pinLocal_fills (hplace : s.place mem len = some a) : s.pinLocal c slot rights mem p dva len =
    (s.zeroLa a len).fillSlot c slot { Range.blank 1 rights dva len with la := a, mem := mem } := by
  simp [State.pinLocal, hroom.not_ge, hmem, hplace]

theorem State.pinLocal_of_no_place (hplace : s.place mem len = none) :
    s.pinLocal c slot rights mem p dva len = refuse s stMemory := by
  simp [State.pinLocal, hroom.not_ge, hmem, hplace]

end

section
variable {s : State} {c slot rights mem p dva len : Nat}

theorem State.pinMigr_fills {a : Nat} (hplace : s.place mem (4096 * p) = some a) :
    s.pinMigr c slot rights mem p dva len = (s.zeroLa a (4096 * p)).fillSlot c slot
      { Range.blank 2 rights dva len with la := a, mem := mem, pool := p } := by
  simp [State.pinMigr, hplace]

/-- An exported window that is long enough and gives the rights is reached through the lowest free import table (R278). -/
theorem State.pinRemote_fills {y : FarExport} {w : Nat}
    (hexp : s.herd.exports.find? (fun y => y.device == mem && y.window == p) = some y) (hlink : (s.linkTo mem).isSome = true)
    (hlen : len ≤ y.len) (hrights : covers y.rights rights = true)
    (htable : (rangeFrom 0 64).find? (fun w => (tfind s.imports w).isNone) = some w) :
    s.pinRemote c slot rights mem p dva len =
      State.fillSlot { s with imports := tput s.imports w ⟨mem, p, y.len, y.rights, c⟩ } c slot
        { Range.blank 3 rights dva len with mem := mem, imp := w } := by
  have hreach : ¬ (s.linkTo mem = none ∨ y.len < len) := not_or.mpr ⟨Option.isSome_iff_ne_none.mp hlink, hlen.not_gt⟩
  simp [State.pinRemote, hexp, hreach, hrights, htable]

end

section
variable {s : State} {c : Nat} {e : HostEnv} {k : Cmd}

theorem cmdBufPin_refused {st : Nat} (href : s.pinRefusal c k.par = some st) : cmdBufPin c e k s = refuse s st := by
  simp [cmdBufPin, href]

variable {slot : Nat} (htaken : s.pinRefusal c k.par = none) (hslot : s.freeSlot c = some slot)
include htaken hslot

theorem cmdBufPin_host (hkind : pf k.par 8 1 = 0) : cmdBufPin c e k s =
    s.pinHost e c slot (pf k.par 9 1) (pf k.par 16 8) (s.pinDva c k.par) (pf k.par 24 8) := by
  simp [cmdBufPin, htaken, hslot, hkind]

theorem cmdBufPin_local (hkind : pf k.par 8 1 = 1) : cmdBufPin c e k s =
    s.pinLocal c slot (pf k.par 9 1) (pf k.par 10 1) (pf k.par 12 4) (s.pinDva c k.par) (pf k.par 24 8) := by
  simp [cmdBufPin, htaken, hslot, hkind]

theorem cmdBufPin_migr (hkind : pf k.par 8 1 = 2) : cmdBufPin c e k s =
    s.pinMigr c slot (pf k.par 9 1) (pf k.par 10 1) (pf k.par 12 4) (s.pinDva c k.par) (pf k.par 24 8) := by
  simp [cmdBufPin, htaken, hslot, hkind]

theorem cmdBufPin_remote (hkind : pf k.par 8 1 = 3) : cmdBufPin c e k s =
    s.pinRemote c slot (pf k.par 9 1) (pf k.par 10 1) (pf k.par 12 4) (s.pinDva c k.par) (pf k.par 24 8) := by
  simp [cmdBufPin, htaken, hslot, hkind]

end

/-- Settles O24: a BUF_PIN is refused or goes on to its kind of range, whose memory decides. -/
theorem pinRange : Obligations.PinRange := by
  refine ⟨fun s c q x k e he hs => ⟨fun st href => ?refused, fun slot htaken hslot => ?taken⟩, fun s c slot r _ => ?filled⟩
  case refused => exact exec_bufPin_answers he hs (cmdBufPin_refused href)
  case taken =>
    refine ⟨fun s1 l hkind hruns hlen hroom => ?_, fun s1 l hkind hruns hmany => ?_, fun s1 y hkind hruns => ?_,
      fun a hkind hroom hmem hplace => ?_, fun hkind hroom hmem hplace => ?_, fun hkind hroom hmem => ?_,
      fun a hkind hplace => ?_, fun y w hkind hexp hlink hlen hrights htable => ?_⟩
    · exact exec_bufPin_answers he hs ((cmdBufPin_host htaken hslot hkind).trans (State.pinHost_fills hruns hlen hroom))
    · exact exec_bufPin_answers he hs ((cmdBufPin_host htaken hslot hkind).trans (State.pinHost_of_many_runs hruns hmany))
    · exact exec_bufPin_answers he hs ((cmdBufPin_host htaken hslot hkind).trans (State.pinHost_of_untranslated hruns))
    · exact exec_bufPin_answers he hs ((cmdBufPin_local htaken hslot hkind).trans (State.pinLocal_fills hroom hmem hplace))
    · exact exec_bufPin_answers he hs
        ((cmdBufPin_local htaken hslot hkind).trans (State.pinLocal_of_no_place hroom hmem hplace))
    · exact exec_bufPin_answers he hs ((cmdBufPin_local htaken hslot hkind).trans (State.pinLocal_of_banks hroom hmem))
    · exact exec_bufPin_answers he hs ((cmdBufPin_migr htaken hslot hkind).trans (State.pinMigr_fills hplace))
    · exact exec_bufPin_answers he hs
        ((cmdBufPin_remote htaken hslot hkind).trans (State.pinRemote_fills hexp hlink hlen hrights htable))
  case filled =>
    refine ⟨_, ?_, rfl, fun j hj => ?_, s.withRange_frame c slot r⟩
    · rw [State.withRange_ranges, tfind_tput_same]
    · rw [State.withRange_ranges, tfind_tput_ne _ _ hj]

/-! ### A slot freed (R281) -/

theorem tdel_of_tfind_none {α : Type} {l : List (Nat × α)} {n : Nat} (h : tfind l n = none) : tdel l n = l := by
  induction l with
  | nil => rfl
  | cons x t ih =>
    by_cases hx : x.1 = n
    · simp [tfind, hx] at h
    · simp only [tfind, hx, if_false] at h
      simp [tdel, hx, ih h]

section
variable (s : State) (key : Nat)

theorem State.dropRange_ranges : (s.dropRange key).ranges = tdel s.ranges key := by
  unfold State.dropRange
  split
  next hnone => exact (tdel_of_tfind_none hnone).symm
  next => dsimp only; split <;> rfl

theorem State.dropRange_frame : (s.dropRange key).mem = s.mem ∧ (s.dropRange key).queues = s.queues ∧
    (s.dropRange key).plans = s.plans := by
  unfold State.dropRange
  split
  · exact ⟨rfl, rfl, rfl⟩
  · dsimp only; split <;> exact ⟨rfl, rfl, rfl⟩

end

/-! ### Invalidation of a command's span (R272) -/

section
variable {s t : State} {e : HostEnv} {c r d : Nat} {k : Cmd} {f : Nat → Nat → State → CmdOut}

theorem State.invalidateFor_of_queued (hnew : k.phase = .queued) : s.invalidateFor e c k f =
    (let x := s.invalidateNow e c (s.cmdSpan c k).1 (s.cmdSpan c k).2
     if x.2.2.stillRunning c (s.cmdSpan c k).1 (s.cmdSpan c k).2 s.time then .wait (.descriptors x.1 x.2.1 s.time) x.2.2
     else f x.1 x.2.1 x.2.2) := by
  simp [State.invalidateFor, hnew]

theorem State.invalidateFor_resumes {since : Nat} (hphase : k.phase = .executing (.descriptors r d since))
    (hdone : s.stillRunning c (s.cmdSpan c k).1 (s.cmdSpan c k).2 since = false) : s.invalidateFor e c k f = f r d s := by
  simp [State.invalidateFor, State.afterDescriptors, hphase, hdone]

variable {a n : Nat} (hspan : s.cmdSpan c k = (a, n)) (hnew : k.phase = .queued) (hinv : s.invalidateNow e c a n = (r, d, t))
include hspan hnew hinv

theorem State.invalidateFor_waits (hrun : t.stillRunning c a n s.time = true) :
    s.invalidateFor e c k f = .wait (.descriptors r d s.time) t := by
  simp [State.invalidateFor_of_queued hnew, hspan, hinv, hrun]

theorem State.invalidateFor_ends (hdone : t.stillRunning c a n s.time = false) : s.invalidateFor e c k f = f r d t := by
  simp [State.invalidateFor_of_queued hnew, hspan, hinv, hdone]

end

/-! ### TLB_INVALIDATE (R282) -/

section
variable {s : State} {e : HostEnv} {c : Nat} {k : Cmd}

/-- The fields of a TLB_INVALIDATE packet that R282 accepts: SCOPE, and whole pages that lie, where it names them, in the
window. -/
structure Cmd.TlbFields (k : Cmd) (s : State) (c : Nat) : Prop where
  scope : pf k.par 8 1 ≤ 1
  start : pf k.par 16 8 % 4096 = 0
  length : pf k.par 24 8 % 4096 = 0
  window : pf k.par 8 1 = 1 → (s.window c).1 ≤ pf k.par 16 8 ∧
    pf k.par 16 8 + pf k.par 24 8 ≤ (s.window c).1 + (s.window c).2.1

theorem cmdTlbInvalidate_of_fields (hk : k.TlbFields s c) : cmdTlbInvalidate c e k s =
    if s.get (F.ATU_CTX_CFG_SOURCE c) = 2 then refuse s stBadState
    else s.invalidateFor e c k (fun r d s => okay s (min r 0xFFFF + 65536 * min d 0xFFFF)) := by
  refine if_neg ?_
  simpa [hk.scope.not_gt, hk.start, hk.length, State.window] using hk.window

end

/-! ### BUF_UNPIN (R281) -/

/-- What a command answers once its pages have moved, or one of them could not (R276, R277). -/
def endMoves (f : Nat → State → CmdOut) : Except Nat Nat × State → CmdOut
  | (.ok n, u) => f n u
  | (.error y, u) => refuse u stUnpinned (y * 2 ^ 24)

section
variable {s : State} {e : HostEnv} {c : Nat} {k : Cmd}

theorem State.cmdSpan_bufUnpin {key : Nat} {r : Range} (hop : k.op = 0x31)
    (hrange : s.rangeById c (pf k.par 8 2) = some (key, r)) : s.cmdSpan c k = (r.dva, r.len) := by
  simp [State.cmdSpan, hop, hrange]

theorem cmdBufUnpin_of_unknown (hnone : s.rangeById c (pf k.par 8 2) = none) : cmdBufUnpin c e k s = refuse s stBadParam := by
  simp [cmdBufUnpin, hnone]

variable {key : Nat} {r : Range} (hrange : s.rangeById c (pf k.par 8 2) = some (key, r))
include hrange

theorem cmdBufUnpin_of_used (hused : s.rangePlanned c (pf k.par 8 2) = true ∨ s.rangeQueued c r = true ∨
    s.rangeExported c (pf k.par 8 2) = true) : cmdBufUnpin c e k s = refuse s stBadState := by
  simp [cmdBufUnpin, hrange, or_assoc, hused]

/-- A range that nothing uses is invalidated, its pages go home and its slot is freed (R281). -/
theorem cmdBufUnpin_frees (hplan : s.rangePlanned c (pf k.par 8 2) = false) (hqueue : s.rangeQueued c r = false)
    (hexp : s.rangeExported c (pf k.par 8 2) = false) : cmdBufUnpin c e k s = s.invalidateFor e c k (fun _ _ t =>
      endMoves (fun _ u => okay (u.unpinRange e c key r)) (t.sendHome e key (r.homes.map (·.1)))) := by
  simp only [cmdBufUnpin, hrange, hplan, hqueue, hexp, Bool.or_self, Bool.false_eq_true, if_false]
  rfl

end

/-! ### PAGE_MIGRATE (R276, R277) -/

/-- The span of a PAGE_MIGRATE packet that R277 accepts: whole pages of the range. -/
structure Cmd.MigrateFields (k : Cmd) (r : Range) : Prop where
  migr : r.kind = 2
  start : pf k.par 16 8 % 4096 = 0
  count : 1 ≤ pf k.par 24 4 ∧ pf k.par 24 4 ≤ 65536
  lower : r.dva ≤ pf k.par 16 8
  upper : pf k.par 16 8 + 4096 * pf k.par 24 4 ≤ r.dva + r.len

/-- The pages of a range that a PAGE_MIGRATE packet names. -/
def Cmd.migratePages (k : Cmd) (r : Range) : List Nat := rangeFrom ((pf k.par 16 8 - r.dva) / 4096) (pf k.par 24 4)

section
variable {s : State} {e : HostEnv} {c key : Nat} {k : Cmd} {r : Range}

/-- The checks of R277 pass: the form that `cmdPageMigrate` tests. -/
theorem Cmd.MigrateFields.accepted (hk : k.MigrateFields r) (hdir : pf k.par 10 1 ≤ 1) :
    ¬ (decide (r.kind ≠ 2) || decide (1 < pf k.par 10 1) || decide (pf k.par 16 8 % 4096 ≠ 0) ||
      decide (within (pf k.par 24 4) 1 65536 = false) || decide (pf k.par 16 8 < r.dva) ||
      decide (r.dva + r.len < pf k.par 16 8 + 4096 * pf k.par 24 4)) = true := by
  simp [hk.migr, hdir.not_gt, hk.start, within_iff.mpr hk.count, hk.lower.not_gt, hk.upper.not_gt]

variable (hrange : s.rangeById c (pf k.par 8 2) = some (key, r)) (hk : k.MigrateFields r)
include hrange hk

theorem cmdPageMigrate_of_full_pool (hdir : pf k.par 10 1 = 1)
    (hfull : r.pool - r.homes.length < ((k.migratePages r).filter (fun p => !r.here p)).length) :
    cmdPageMigrate c e k s = refuse s stMemory := by
  simp only [cmdPageMigrate, hrange]
  exact (if_neg (hk.accepted hdir.le)).trans (if_pos (by simpa [hdir, Cmd.migratePages] using hfull))

variable (hnew : k.phase = .queued) (hdone : s.stillRunning c (pf k.par 16 8) (4096 * pf k.par 24 4) s.time = false)
include hnew hdone

theorem cmdPageMigrate_to_host (hdir : pf k.par 10 1 = 0) : cmdPageMigrate c e k s =
    endMoves (fun n u => okay (u.translateAll e) n) (s.sendHome e key ((k.migratePages r).filter r.here)) := by
  simp only [cmdPageMigrate, hrange, hnew]
  exact (if_neg (hk.accepted (by omega))).trans ((if_neg (by simp [hdir])).trans
    ((if_neg (ne_true_of_eq_false hdone)).trans (if_pos hdir)))

theorem cmdPageMigrate_to_device (hdir : pf k.par 10 1 = 1)
    (hroom : ((k.migratePages r).filter (fun p => !r.here p)).length ≤ r.pool - r.homes.length) : cmdPageMigrate c e k s =
    endMoves (fun n u => okay (u.translateAll e) n) (s.bringPages e key ((k.migratePages r).filter (fun p => !r.here p))) := by
  have hfit : ¬ (decide (pf k.par 10 1 = 1) && decide (r.pool - r.homes.length <
      ((k.migratePages r).filter (fun p => !r.here p)).length)) = true := by
    simpa [hdir] using hroom
  simp only [cmdPageMigrate, hrange, hnew]
  exact (if_neg (hk.accepted hdir.le)).trans ((if_neg hfit).trans
    ((if_neg (ne_true_of_eq_false hdone)).trans (if_neg (by omega))))

end

/-- Settles O25: the packet's fields are in range; then R272 holds the command back or lets its last part run, and the pages
move or one does not. -/
theorem unpinInvalidateMigrate : Obligations.UnpinInvalidateMigrate := by
  refine ⟨fun s c q x k e he hs hscope hstart hlen hwin => ?tlb, fun s c q x k e he hs => ?unpin, fun s key => ?freed,
    fun s c q x k e key r he hs hrange hkind hstart hlo hhi hlower hupper => ?migrate⟩
  case tlb =>
    have htlb := cmdTlbInvalidate_of_fields (e := e) ⟨hscope, hstart, hlen, hwin⟩
    refine ⟨fun hsource => ?_, fun hsource => ⟨fun r d t hnew hinv => ⟨fun hdone => ?_, fun hrun => ?_⟩,
      fun r d since hphase hdone => ?_⟩⟩
    · exact exec_tlbInvalidate_answers he hs (htlb.trans (if_pos hsource))
    all_goals rw [if_neg hsource] at htlb
    · exact exec_tlbInvalidate_answers he hs (htlb.trans (State.invalidateFor_ends rfl hnew hinv hdone))
    · exact exec_tlbInvalidate_waits he hs (htlb.trans (State.invalidateFor_waits rfl hnew hinv hrun))
    · exact exec_tlbInvalidate_answers he hs (htlb.trans (State.invalidateFor_resumes hphase hdone))
  case unpin =>
    refine ⟨fun hnone => ?_, fun key r hrange => ⟨fun hused => ?_, fun m d t hplan hqueue hexp hnew hinv => ?_⟩⟩
    · exact exec_bufUnpin_answers he hs (cmdBufUnpin_of_unknown hnone)
    · exact exec_bufUnpin_answers he hs (cmdBufUnpin_of_used hrange hused)
    have hspan := State.cmdSpan_bufUnpin hs.opc hrange
    have hfree := cmdBufUnpin_frees (e := e) hrange hplan hqueue hexp
    refine ⟨fun hrun => ?_, fun hdone => ⟨fun n u hmove => ?_, fun y u hmove => ?_⟩⟩
    · exact exec_bufUnpin_waits he hs (hfree.trans (State.invalidateFor_waits hspan hnew hinv hrun))
    all_goals
      rw [State.invalidateFor_ends hspan hnew hinv hdone, hmove] at hfree
      exact exec_bufUnpin_answers he hs hfree
  case freed =>
    obtain ⟨hmem, hqueues, hplans⟩ := s.dropRange_frame key
    rw [s.dropRange_ranges key]
    exact ⟨tfind_tdel_same _ _, hmem, hqueues, hplans, fun j hj => tfind_tdel_ne _ hj⟩
  case migrate =>
    have hk : k.MigrateFields r := ⟨hkind, hstart, ⟨hlo, hhi⟩, hlower, hupper⟩
    refine ⟨fun hnew hdone => ⟨fun n u hdir hmove => ?_, fun n u hdir hroom hmove => ?_, fun y u hdir hmove => ?_⟩,
      fun hdir hfull => ?_⟩
    · exact exec_pageMigrate_answers he hs
        ((cmdPageMigrate_to_host hrange hk hnew hdone hdir).trans (congrArg (endMoves _) hmove))
    · exact exec_pageMigrate_answers he hs
        ((cmdPageMigrate_to_device hrange hk hnew hdone hdir hroom).trans (congrArg (endMoves _) hmove))
    · exact exec_pageMigrate_answers he hs
        ((cmdPageMigrate_to_host hrange hk hnew hdone hdir).trans (congrArg (endMoves _) hmove))
    · exact exec_pageMigrate_answers he hs (cmdPageMigrate_of_full_pool hrange hk hdir hfull)

end Sys2Proof.Machine

/-! ## Ring channels (R303 to R306)

What a channel does turns on its PAUSE bit and on whether a descriptor runs; when none runs, `State.serve` settles the one that
R305 picks by what its translation, its OWN bit and its fields are. -/

namespace Sys2Proof.Machine

/-! ### The picked descriptor starts or ends (R303, R305) -/

/-- The state in which a channel remembers the ring whose descriptor it has taken, for the round-robin of R305. -/
def State.taking (s : State) (n c q : Nat) : State := { s with chanLast := tput s.chanLast n (gq c q) }

section
variable {s : State} {n c q : Nat} {e : HostEnv} {x : Queue} {d : Desc} {nop : Bool}
  (hpick : s.pickRing n = some (c, q, x, d))
include hpick

/-- A row for moves leaves a NOP alone, a row for NOPs a move. -/
theorem State.serve_of_other_kind (hkind : (d.opc == 0) ≠ nop) : s.serve e n nop = s := by
  simp [State.serve, hpick, hkind]

theorem State.serve_of_failed {reason dva : Nat} (hkind : (d.opc == 0) = nop) (hphase : d.phase = .failed reason dva) :
    s.serve e n nop = (s.taking n c q).completeDesc e c q x d 3 reason 0 dva none := by
  simp [State.serve, State.taking, hpick, hkind, hphase]

variable (hphase : d.phase = .held)
include hphase

theorem State.serve_of_not_owned (hkind : (d.opc == 0) = nop) (howned : d.owned = false) :
    s.serve e n nop = (s.taking n c q).notOwned c q d := by
  simp [State.serve, State.taking, hpick, hkind, hphase, howned]

variable (howned : d.owned = true)
include howned

theorem State.serve_of_bad (hkind : (d.opc == 0) = nop) (hok : d.ok = false) :
    s.serve e n nop = (s.taking n c q).completeDesc e c q x d 1 0 0 0 none := by
  simp [State.serve, State.taking, hpick, hkind, hphase, howned, hok]

variable (hok : d.ok = true)
include hok

theorem State.serve_of_nop (hopc : d.opc = 0) :
    s.serve e n true = (s.taking n c q).completeDesc e c q x d 0 0 0 0 none := by
  simp [State.serve, State.taking, hpick, hphase, howned, hok, hopc]

theorem State.serve_of_move (hopc : d.opc ≠ 0) : s.serve e n false = (s.taking n c q).onQueue c q
    (fun y => y.onDesc d.idx (fun d => { d with phase := .running, startT := s.time })) := by
  simp [State.serve, State.taking, hpick, hphase, howned, hok, hopc]

end

/-! ### DESC_MOVE and DESC_NOP (R303, R306) -/

section
variable {s : State} {n : Nat} {e : HostEnv}

/-- A program channel has no rings, and a paused channel stops. -/
theorem descMove_of_program_or_paused (h : n < 64 ∨ s.on (F.DMX_CH_CTL_PAUSE n) = true) : descMove n e s = s :=
  if_pos (by simpa using h)

theorem descNop_of_program_or_paused (h : n < 64 ∨ s.on (F.DMX_CH_CTL_PAUSE n) = true) : descNop n e s = s :=
  if_pos (by simp [h])

theorem descNop_of_running {y : Nat × Nat × Queue × Desc} (hrun : s.activeRing n = some y) : descNop n e s = s :=
  if_pos (by simp [hrun])

variable (hn : 64 ≤ n) (hpause : s.on (F.DMX_CH_CTL_PAUSE n) = false)
include hn hpause

theorem descMove_of_running {c q : Nat} {x : Queue} {d : Desc} (hrun : s.activeRing n = some (c, q, x, d))
    (hroom : x.room = true) : descMove n e s = s.finishMove e n c q x d := by
  simp [descMove, Nat.not_lt.mpr hn, hpause, hrun, hroom]

theorem descMove_serves (hidle : s.activeRing n = none) : descMove n e s = s.serve e n false := by
  simp [descMove, Nat.not_lt.mpr hn, hpause, hidle]

theorem descNop_serves (hidle : s.activeRing n = none) : descNop n e s = s.serve e n true := by
  simp [descNop, Nat.not_lt.mpr hn, hpause, hidle]

end

/-! ### PAUSE (R306) -/

section
variable {s : State} {n : Nat}

theorem dmxPauseSet_of_program (h : n < 64) : dmxPauseSet n s = s.incWrap F.DMX_STATUS_WIGN := if_pos h

theorem dmxPauseSet_of_ring (h : 64 ≤ n) : dmxPauseSet n s = s.put (F.DMX_CH_CTL_PAUSE n) 1 := if_neg (Nat.not_lt.mpr h)

theorem dmxPauseClear_of_program (h : n < 64) : dmxPauseClear n s = s.incWrap F.DMX_STATUS_WIGN := if_pos h

theorem dmxPauseClear_of_ring (h : 64 ≤ n) :
    dmxPauseClear n s = (s.put (F.DMX_CH_CTL_PAUSE n) 0).put (F.DMX_CH_STAT_STATE n) 0 := if_neg (Nat.not_lt.mpr h)

theorem dmxPaused_of_paused (h : 64 ≤ n) (hpause : s.on (F.DMX_CH_CTL_PAUSE n) = true) :
    dmxPaused n s = s.put (F.DMX_CH_STAT_STATE n) 4 := if_pos (by simp [h, hpause])

theorem dmxPaused_of_open (hpause : s.on (F.DMX_CH_CTL_PAUSE n) = false) : dmxPaused n s = s := if_neg (by simp [hpause])

end

/-! ### The end of a descriptor (R304) -/

/-- A descriptor that ends well, or that its ring's CONT lets end badly, leaves the ring RUNNING. -/
theorem State.completeDesc_of_going_on {s : State} {e : HostEnv} {c q : Nat} {x : Queue} {d : Desc}
    {status reason bytes dva : Nat} {crc : Option Nat} (h : status = 0 ∨ status = 4 ∨ x.cont = true) :
    s.completeDesc e c q x d status reason bytes dva crc = ((((s.cqWrite c q d.irq
      (ringEntry d 0 status reason bytes dva s.t48 crc)).onQueue c q (fun y =>
        { y with descs := y.descs.filter (fun z => z.idx != d.idx), h := (d.idx + 1) % y.sqN, ring := .running })).incWrap
      (F.DMX_CH_DONE_DONE x.chan)).translateAll e).settleAts := by
  have hstop : ((status == 1 || status == 3) && !x.cont) = false := by
    obtain rfl | rfl | hcont := h
    · rfl
    · rfl
    · simp [hcont]
  simp [State.completeDesc, hstop]

/-- Settles O28: PAUSE and a running descriptor are looked at first; else `State.serve` settles the picked descriptor, case by
case. -/
theorem ringChannels : Obligations.RingChannels := by
  refine ⟨fun s n e hn he => ?descriptors, fun s n hn => ?pause, fun s e c q x d status reason bytes dva crc h =>
    State.completeDesc_of_going_on h⟩
  case descriptors =>
    rw [exec_descMove s n e (by simp [Instr.wellFormed, hn, he]), exec_descNop s n e (by simp [Instr.wellFormed, hn, he])]
    refine ⟨fun h => ?stopped, fun c q x d hring hpause hrun => ?running, fun c q x d hring hpause hidle hpick => ?picked⟩
    case stopped => exact ⟨congrArg _ (descMove_of_program_or_paused h), congrArg _ (descNop_of_program_or_paused h)⟩
    case running =>
      exact ⟨fun hroom => congrArg _ (descMove_of_running hring hpause hrun hroom),
        congrArg _ (descNop_of_running hrun)⟩
    case picked =>
      rw [descMove_serves hring hpause hidle, descNop_serves hring hpause hidle]
      have hmove (hopc : d.opc ≠ 0) : (d.opc == 0) = false := beq_false_of_ne hopc
      refine ⟨fun reason dva hopc hphase => ?failed, fun hopc hphase howned => ?notOwned,
        fun hopc hphase howned hok => ?bad, fun hopc hphase howned hok => ?starts, fun hopc hphase howned hok => ?nop⟩
      case failed => exact congrArg _ (State.serve_of_failed hpick (hmove hopc) hphase)
      case notOwned => exact congrArg _ (State.serve_of_not_owned hpick hphase (hmove hopc) howned)
      case bad => exact congrArg _ (State.serve_of_bad hpick hphase howned (hmove hopc) hok)
      case starts => exact congrArg _ (State.serve_of_move hpick hphase howned hok hopc)
      case nop =>
        exact ⟨congrArg _ (State.serve_of_nop hpick hphase howned hok hopc),
          congrArg _ (State.serve_of_other_kind hpick (by simp [hopc]))⟩
  case pause =>
    have hw := decide_eq_true hn
    rw [exec_dmxPauseSet s n hw, exec_dmxPauseClear s n hw, exec_dmxPaused s n hw]
    exact ⟨fun h => ⟨congrArg _ (dmxPauseSet_of_program h), congrArg _ (dmxPauseClear_of_program h)⟩,
      fun h => ⟨congrArg _ (dmxPauseSet_of_ring h), congrArg _ (dmxPauseClear_of_ring h),
        fun hpause => congrArg _ (dmxPaused_of_paused h hpause), fun hpause => congrArg _ (dmxPaused_of_open hpause)⟩⟩

end Sys2Proof.Machine

/-! ## PWR_POLICY and PWR_GROUP_SLEEP (R344 to R347)

Each command's body gets an equation for every way it ends; a member of a group request refuses, begins its entry or is waited
for. -/

namespace Sys2Proof.Machine

/-! ### PWR_POLICY SET and AON (R346) -/

/-- The fields that SET takes: TARGET is ON or a state that the domain offers, with IDLE_US in its range, and KEEP names banks of
the domain. -/
def Cmd.PolicyFields (k : Cmd) : Prop :=
  pf k.par 8 1 ≤ 92 ∧ pf k.par 10 1 ≤ 2 ∧
    (pf k.par 10 1 = 0 ∨ (domOffers (pf k.par 8 1) (pf k.par 10 1) = true ∧ 1 ≤ pf k.par 12 4 ∧ pf k.par 12 4 ≤ 1000000)) ∧
    pf k.par 16 16 < (if domBanks (pf k.par 8 1) = [] then 1 else 2 ^ (domBanks (pf k.par 8 1)).length)

/-- The state after SET: the policy's registers written and the idle timer restarted. -/
def State.withPolicy (s : State) (d aim us keep : Nat) : State :=
  ((((s.put (F.PMC_DOM_CFG_TARGET d) aim).put (F.PMC_DOM_CFG_IDLE_US d) us).wr (R.PMC_DOM_KEEP0 d) keep).wr
    (R.PMC_DOM_KEEP1 d) (keep / 2 ^ 64)).setDom d { s.dom d with idle := s.time }

section
variable {s : State} {k : Cmd}

theorem cmdPwrSet_eq [Decidable k.PolicyFields] : cmdPwrSet k s =
    if k.PolicyFields then
      okay (s.withPolicy (pf k.par 8 1) (pf k.par 10 1) (pf k.par 12 4) (pf k.par 16 16))
    else refuse s stBadParam := by
  rw [← ite_not]
  refine if_congr ?_ rfl (by simp [State.withPolicy])
  simp only [Cmd.PolicyFields, not_and_or, not_or, Bool.or_eq_true, Bool.and_eq_true, bne_iff_ne, decide_eq_true_eq,
    Bool.eq_false_iff, ne_eq, within_iff, List.isEmpty_iff, not_le, not_lt]
  tauto

theorem cmdPwrAon_sets (hdom : pf k.par 8 1 = 0) (hen : pf k.par 11 1 ≤ 1) :
    cmdPwrAon k s = okay (s.put F.PMC_AON_LP_EN (pf k.par 11 1)) :=
  if_neg (by simp [hdom, hen])

theorem cmdPwrAon_refused (h : pf k.par 8 1 ≠ 0 ∨ 1 < pf k.par 11 1) : cmdPwrAon k s = refuse s stBadParam :=
  if_pos (by simpa using h)

/-! ### PWR_POLICY WAKE (R346) -/

theorem cmdPwrWake_of_no_domain (hdom : 92 < pf k.par 8 1) : cmdPwrWake k s = refuse s stBadParam := if_pos hdom

section
variable (hdom : pf k.par 8 1 ≤ 92)
include hdom

theorem cmdPwrWake_in_window (hwin : s.on (F.PMC_DOM_STATE_WINDOW (pf k.par 8 1)) = true) :
    cmdPwrWake k s = refuse s stBadState :=
  (if_neg hdom.not_gt).trans (if_pos hwin)

variable (hwin : s.on (F.PMC_DOM_STATE_WINDOW (pf k.par 8 1)) = false)
include hwin

/-- A domain that works on its functional clock, or that has none, is awake. -/
theorem cmdPwrWake_of_awake (hstate : s.domState (pf k.par 8 1) = 0) (hphase : s.domPhase (pf k.par 8 1) = 0)
    (hclock : pf k.par 8 1 = 0 ∨ s.onFio (pf k.par 8 1) = false) :
    cmdPwrWake k s = okay (s.touchDom (pf k.par 8 1)) := by
  simp [cmdPwrWake, hdom.not_gt, hwin, hstate, hphase, hclock]

theorem cmdPwrWake_of_stuck (hstate : s.domState (pf k.par 8 1) = 0) (hphase : s.domPhase (pf k.par 8 1) = 0)
    (hclocked : pf k.par 8 1 ≠ 0) (hfio : s.onFio (pf k.par 8 1) = true) (hstuck : (s.dom (pf k.par 8 1)).stuck = true) :
    cmdPwrWake k s = refuse s stFaulted := by
  simp [cmdPwrWake, hdom.not_gt, hwin, hstate, hphase, hclocked, hfio, hstuck]

/-- A domain that is not ON, and that the demand leaves so, is waited for. -/
theorem cmdPwrWake_of_asleep (hstate : s.domState (pf k.par 8 1) ≠ 0)
    (hafter : (s.demand (pf k.par 8 1)).domState (pf k.par 8 1) ≠ 0) :
    cmdPwrWake k s = .wait (.wake (pf k.par 8 1)) (s.demand (pf k.par 8 1)) := by
  simp [cmdPwrWake, hdom.not_gt, hwin, hstate, hafter]

end

/-! ### PWR_GROUP_SLEEP is taken (R344, R347) -/

/-- The fields that PWR_GROUP_SLEEP takes: 1 to 16 different domains and a state to sleep in. -/
def Cmd.GroupFields (k : Cmd) : Prop :=
  1 ≤ pf k.par 8 1 ∧ pf k.par 8 1 ≤ 16 ∧ (pf k.par 9 1 = 1 ∨ pf k.par 9 1 = 2) ∧ (∀ m ∈ groupMembers k.par, m ≤ 92) ∧
    (groupMembers k.par).eraseDups.length = (groupMembers k.par).length

/-- The state in which a group request is under way. -/
def State.withGroup (s : State) (g : Group) : State := State.put { s with group := some g } F.PMC_STATUS_GROUP 1

theorem cmdGroupSleep_eq {c q : Nat} [Decidable k.GroupFields] : cmdGroupSleep c q k s =
    if k.GroupFields then
      if s.group.isSome then .stay
      else .wait .group (s.withGroup ⟨c, q, k.seq, pf k.par 9 1, groupMembers k.par, [], none, none, none, 0, 0⟩)
    else refuse s stBadParam := by
  have haim : within (pf k.par 9 1) 1 2 = true ↔ pf k.par 9 1 = 1 ∨ pf k.par 9 1 = 2 := by rw [within_iff]; omega
  rw [← ite_not]
  refine if_congr ?_ rfl rfl
  simp only [Cmd.GroupFields, not_and_or, Bool.or_eq_true, bne_iff_ne, Bool.eq_false_iff, ne_eq, haim, within_iff,
    List.any_eq_true, decide_eq_true_eq, not_forall, not_le, exists_prop, or_assoc]

end

/-! ### A domain is called (R337, R338, R340) -/

section
variable {s : State} {d : Nat}

theorem State.callDom_of_asleep {planned : Bool} (hphase : s.domPhase d = 0) (hstate : s.domState d ≠ 0) :
    s.callDom d planned = s.startWake d planned := by
  simp [State.callDom, hphase, hstate]

/-- Of the domain's state register, the start of a wake writes PHASE alone. -/
theorem State.get_startWake {planned : Bool} {f : Fld} (hreg : f.reg = R.PMC_DOM_STATE d) :
    (s.startWake d planned).get f = (s.put (F.PMC_DOM_STATE_PHASE d) 2).get f := by
  refine State.get_put_ne _ _ ?_
  simp [hreg, F.PMC_STATUS_WAKING, R.PMC_DOM_STATE, R.PMC_STATUS]; omega

theorem State.domPhase_startWake {planned : Bool} : (s.startWake d planned).domPhase d = 2 :=
  (State.get_startWake rfl).trans (s.domPhase_put_phase d (by decide))

theorem State.domState_startWake {planned : Bool} : (s.startWake d planned).domState d = s.domState d :=
  (State.get_startWake rfl).trans (State.get_put_disjoint _ _ rfl (by simp [F.PMC_DOM_STATE_PHASE])
    (by simp [F.PMC_DOM_STATE_STATE, R.PMC_DOM_STATE]) (by simp [F.PMC_DOM_STATE_STATE, F.PMC_DOM_STATE_PHASE]))

theorem State.startWake_mem {planned : Bool} : (s.startWake d planned).mem = s.mem := by simp [State.startWake]

theorem State.startWake_queues {planned : Bool} : (s.startWake d planned).queues = s.queues := by simp [State.startWake]

/-! ### A member of a group is asked (R344) -/

variable {g : Group} {rest : List Nat}

theorem State.askGroup_of_refusal (h : s.refuseReason d g.target ≠ 0) :
    s.askGroup g (d :: rest) = s.refuseGroup g d (s.refuseReason d g.target) :=
  if_pos (bne_iff_ne.mpr h)

section
variable (hfree : s.refuseReason d g.target = 0) (hphase : s.domPhase d = 0) (haim : s.domState d ≠ g.target)
  (hoff : s.domState d ≠ 2)
include hfree hphase haim hoff

theorem State.askGroup_of_idle (hidle : s.domBusy d = false) : s.askGroup g (d :: rest) =
    { s.startEntry d g.target with group := some { g with todo := d :: rest, moving := some d, asked := none } } := by
  simp [State.askGroup, hfree, hphase, haim, hoff, hidle]

/-- A busy member is asked again until 20 beats have passed since it was first asked, and then refuses with reason 3. -/
theorem State.askGroup_of_busy (hbusy : s.domBusy d = true) : s.askGroup g (d :: rest) =
    if g.asked.getD s.time + 10000 ≤ s.time then s.refuseGroup g d 3
    else { s with group := some { g with todo := d :: rest, asked := some (g.asked.getD s.time) } } := by
  simp [State.askGroup, hfree, hphase, haim, hoff, hbusy]

end

end

/-- Settles O42: the fields of each packet are in range or refused, and each clause is one case of its command, of a call or of
asking a member above. -/
theorem powerPolicy : Obligations.PowerPolicy := by
  classical
  refine ⟨fun s c q x k e he => ⟨fun hs => ?set, fun hs => ?wake, fun hs => ?aon, fun hs => ?group⟩,
    fun s d planned _ hphase hstate => ?call, fun s g d rest => ?ask⟩
  case set =>
    exact ⟨fun h => exec_pwrPolicySet_answers he hs (cmdPwrSet_eq.trans (if_pos h)),
      fun h => exec_pwrPolicySet_answers he hs (cmdPwrSet_eq.trans (if_neg h))⟩
  case wake =>
    exact ⟨fun h => exec_pwrPolicyWake_answers he hs (cmdPwrWake_of_no_domain h),
      fun hd hwin => exec_pwrPolicyWake_answers he hs (cmdPwrWake_in_window hd hwin),
      fun hd hwin =>
        ⟨fun hstate hphase hclock => exec_pwrPolicyWake_answers he hs (cmdPwrWake_of_awake hd hwin hstate hphase hclock),
        fun hstate hphase hne hfio hstuck =>
          exec_pwrPolicyWake_answers he hs (cmdPwrWake_of_stuck hd hwin hstate hphase hne hfio hstuck),
        fun hstate hafter => exec_pwrPolicyWake_waits he hs (cmdPwrWake_of_asleep hd hwin hstate hafter)⟩⟩
  case aon =>
    exact ⟨fun hd hen => exec_pwrPolicyAon_answers he hs (cmdPwrAon_sets hd hen),
      fun h => exec_pwrPolicyAon_answers he hs (cmdPwrAon_refused h)⟩
  case group =>
    exact ⟨fun h => exec_pwrGroupSleep_answers he hs (cmdGroupSleep_eq.trans (if_neg h)),
      fun h hnone => exec_pwrGroupSleep_waits he hs
        ((cmdGroupSleep_eq.trans (if_pos h)).trans (if_neg (by simp [hnone])))⟩
  case call =>
    rw [State.callDom_of_asleep hphase hstate]
    exact ⟨State.domPhase_startWake, State.domState_startWake, State.startWake_mem, State.startWake_queues⟩
  case ask =>
    refine ⟨fun r h hr => ?_, State.askGroup_of_idle, fun hfree hphase haim hoff hbusy => ?_, rfl⟩
    · subst h
      exact State.askGroup_of_refusal hr
    · rw [State.askGroup_of_busy hfree hphase haim hoff hbusy]
      exact ⟨fun h => if_pos h, fun h => if_neg h.not_ge⟩

end Sys2Proof.Machine

/-! ## What no command takes back (R397, R403, R408, R419, Table 11.1)

Fuses, the canonical form of memory and flash, and the queue are the state's core. Most operations leave the core as it is: a lemma
`op_core` an operation. The others lead on from it: the fuses go one way, memory and flash keep their canonical form, the queue
stays; a lemma `op_leads` an operation, which goes through whatever led up to it, and `op_led` for the body of a command. -/

namespace Sys2Proof.Machine

/-- The queue, the fuses (R397), memory and flash. -/
structure Core where
  pending : List Instr
  svn : Nat
  rootRev : Nat
  provLock : Bool
  mem : List Host.Cell
  flash : List Host.Cell

def State.core : State → Core
  | { pending, svn, rootRev, provLock, mem, flash, .. } => { pending, svn, rootRev, provLock, mem, flash }

/-- What a later core may differ in. -/
structure Core.Leads (c d : Core) : Prop where
  pending : d.pending = c.pending
  svn : c.svn ≤ d.svn
  rootRev : ∀ i, bit c.rootRev i = true → bit d.rootRev i = true
  provLock : c.provLock = true → d.provLock = true
  mem : Memory.wf c.mem = true → Memory.wf d.mem = true
  flash : Memory.wf c.flash = true → Memory.wf d.flash = true

/-- What the body of a command answers with leads on. -/
def CmdOut.Led (o : Core) : CmdOut → Prop
  | .done _ _ t | .wait _ t => o.Leads t.core
  | .stay => True

/-! ### The core of a state written out, and through branches and folds -/

/-- The core of a record update is that of its six fields. -/
@[simp] theorem State.core_mk : type_of% @State.core.eq_1 := by intros; rw [State.core]

@[simp] theorem Core.of_fields {s : State} :
    (⟨s.pending, s.svn, s.rootRev, s.provLock, s.mem, s.flash⟩ : Core) = s.core := (rfl)

variable {o : Core} {s t : State}

@[simp] theorem State.core_ite {p : Prop} [Decidable p] : (if p then s else t).core = if p then s.core else t.core :=
  apply_ite ..

@[simp] theorem State.core_ite_snd {β : Type} {p : Prop} [Decidable p] {a b : β × State} :
    (if p then a else b).2.core = if p then a.2.core else b.2.core := by split <;> rfl

@[simp] theorem State.core_foldl {α : Type} {f : State → α → State} {l : List α}
    (hf : ∀ (u : State) x, (f u x).core = u.core) : (l.foldl f t).core = t.core := by
  induction l generalizing t with
  | nil => rfl
  | cons x l ih => rw [List.foldl_cons, ih, hf]

@[simp] theorem State.core_foldl_snd {α β : Type} {f : β × State → α → β × State} {l : List α} {a : β × State}
    (hf : ∀ a x, (f a x).2.core = a.2.core) : (l.foldl f a).2.core = a.2.core := by
  induction l generalizing a with
  | nil => rfl
  | cons x l ih => rw [List.foldl_cons, ih, hf]

/-! ### Leading on -/

@[simp] theorem Core.Leads.refl : o.Leads o := ⟨rfl, le_rfl, fun _ h => h, id, id, id⟩

theorem Core.Leads.trans {d e : Core} (h : o.Leads d) (g : d.Leads e) : o.Leads e :=
  ⟨g.pending.trans h.pending, h.svn.trans g.svn, fun i hi => g.rootRev i (h.rootRev i hi), fun hp => g.provLock (h.provLock hp),
    fun hm => g.mem (h.mem hm), fun hm => g.flash (h.flash hm)⟩

@[simp] theorem Core.leads_ite {p : Prop} [Decidable p] {d e : Core} :
    o.Leads (if p then d else e) ↔ if p then o.Leads d else o.Leads e := by split <;> rfl

@[simp] theorem Core.Leads.foldl {α : Type} {f : State → α → State} {l : List α}
    (hf : ∀ (u : State) x, u.core.Leads (f u x).core) (h : o.Leads t.core) : o.Leads (l.foldl f t).core := by
  induction l generalizing t with
  | nil => exact h
  | cons x l ih => exact ih (h.trans (hf t x))

@[simp] theorem Core.Leads.foldl_snd {α β : Type} {f : β × State → α → β × State} {l : List α} {a : β × State}
    (hf : ∀ (a : β × State) x, a.2.core.Leads (f a x).2.core) (h : o.Leads a.2.core) : o.Leads (l.foldl f a).2.core := by
  induction l generalizing a with
  | nil => exact h
  | cons x l ih => exact ih (h.trans (hf a x))

theorem Core.Leads.of_snd_eq {β : Type} {p : β × State} {b : β} (hp : p = (b, t)) (h : o.Leads p.2.core) : o.Leads t.core := by
  subst hp
  exact h

theorem Core.Leads.foldl_fst {α β : Type} {f : State × β → α → State × β} {l : List α} {a : State × β}
    (hf : ∀ (a : State × β) x, a.1.core.Leads (f a x).1.core) (h : o.Leads a.1.core) : o.Leads (l.foldl f a).1.core := by
  induction l generalizing a with
  | nil => exact h
  | cons x l ih => exact ih (h.trans (hf a x))

/-! ### What a command answers -/

@[simp] theorem CmdOut.led_done {a b : Nat} : CmdOut.Led o (.done a b t) ↔ o.Leads t.core := Iff.rfl
@[simp] theorem CmdOut.led_wait {w : Wait} : CmdOut.Led o (.wait w t) ↔ o.Leads t.core := Iff.rfl
@[simp] theorem CmdOut.led_stay : CmdOut.Led o .stay := trivial

@[simp] theorem CmdOut.led_refuse {a b : Nat} : (refuse t a b).Led o ↔ o.Leads t.core := Iff.rfl
@[simp] theorem CmdOut.led_okay {a : Nat} : (okay t a).Led o ↔ o.Leads t.core := Iff.rfl

theorem CmdOut.Led.of_leads {d : Core} {out : CmdOut} (hd : out.Led d) (h : o.Leads d) : out.Led o := by
  cases out with
  | done a b u => exact h.trans hd
  | wait w u => exact h.trans hd
  | stay => trivial

@[simp] theorem CmdOut.led_ite {p : Prop} [Decidable p] {a b : CmdOut} :
    (if p then a else b).Led o ↔ if p then a.Led o else b.Led o := by split <;> rfl

/-! ### The writes that touch a core -/

/-- Memory written anew, where the canonical form is kept. -/
theorem Core.Leads.of_mem {u : State} (h : o.Leads t.core) (hu : u.core = { t.core with mem := u.mem })
    (hm : Memory.wf t.mem = true → Memory.wf u.mem = true) : o.Leads u.core :=
  h.trans (hu ▸ ⟨rfl, le_rfl, fun _ hi => hi, id, hm, id⟩)

/-- Flash written anew, where the canonical form is kept. -/
theorem Core.Leads.of_flash {u : State} (h : o.Leads t.core) (hu : u.core = { t.core with flash := u.flash })
    (hm : Memory.wf t.flash = true → Memory.wf u.flash = true) : o.Leads u.core :=
  h.trans (hu ▸ ⟨rfl, le_rfl, fun _ hi => hi, id, id, hm⟩)

/-- The security version raised (R408). -/
theorem Core.Leads.of_svn {u : State} (h : o.Leads t.core) {n : Nat} (hu : u.core = { t.core with svn := max t.svn n }) :
    o.Leads u.core :=
  h.trans (hu ▸ ⟨rfl, le_max_left .., fun _ hi => hi, id, id, id⟩)

/-- A root revoked (R403). -/
theorem Core.Leads.of_rootRev {u : State} (h : o.Leads t.core) {n : Nat}
    (hu : u.core = { t.core with rootRev := t.rootRev ||| n }) : o.Leads u.core :=
  h.trans (hu ▸ ⟨rfl, le_rfl, fun i hi => by
    rw [bit_or, show bit t.rootRev i = true from hi, Bool.true_or], id, id, id⟩)

/-- The provisioning lock set (R419). -/
theorem Core.Leads.of_provLock {u : State} (h : o.Leads t.core) (hu : u.core = { t.core with provLock := true }) :
    o.Leads u.core :=
  h.trans (hu ▸ ⟨rfl, le_rfl, fun _ hi => hi, fun _ => rfl, id, id⟩)

/-! ### Registers, logs and memory -/

@[simp] theorem State.wr_core {r v} : (t.wr r v).core = t.core := by simp [State.wr]

@[simp] theorem State.put_core {f v} : (t.put f v).core = t.core := by simp [State.put]

@[simp] theorem State.putBit_core {f n b} : (t.putBit f n b).core = t.core := by simp [State.putBit]

@[simp] theorem State.incSat_core {f n} : (t.incSat f n).core = t.core := by simp [State.incSat]

@[simp] theorem State.incWrap_core {f n} : (t.incWrap f n).core = t.core := by simp [State.incWrap]

@[simp] theorem State.clearRegs_core {rs} : (t.clearRegs rs).core = t.core := by simp [State.clearRegs]

@[simp] theorem State.emit_core {o} : (t.emit o).core = t.core := by simp [State.emit]

@[simp] theorem State.signal_core {fn vec} : (t.signal fn vec).core = t.core := by simp [State.signal]

@[simp] theorem State.draw_core : t.draw.2.core = t.core := by simp [State.draw]

@[simp] theorem State.setCtx_core {c z2} : (t.setCtx c z2).core = t.core := by simp [State.setCtx]

@[simp] theorem State.setQueue_core {c q z3} : (t.setQueue c q z3).core = t.core := by simp [State.setQueue]

@[simp] theorem State.delQueue_core {c q} : (t.delQueue c q).core = t.core := by simp [State.delQueue]

@[simp] theorem State.onQueue_core {c q f} : (t.onQueue c q f).core = t.core := by
  unfold State.onQueue
  split <;> simp

@[simp] theorem State.setPlan_core {c h' p} : (t.setPlan c h' p).core = t.core := by simp [State.setPlan]

@[simp] theorem State.delPlan_core {c h'} : (t.delPlan c h').core = t.core := by simp [State.delPlan]

@[simp] theorem State.onPlan_core {c h' f} : (t.onPlan c h' f).core = t.core := by
  unfold State.onPlan
  split <;> simp

@[simp] theorem State.mapItems_core {p f} : (t.mapItems p f).core = t.core := by simp [State.mapItems]

@[simp] theorem State.faultItems_core {p} : (t.faultItems p).core = t.core := by simp [State.faultItems]

@[simp] theorem State.incompleteItems_core {p} : (t.incompleteItems p).core = t.core := by simp [State.incompleteItems]

@[simp] theorem State.noteUnread_core {p key} : (t.noteUnread p key).core = t.core := by simp [State.noteUnread]

@[simp] theorem State.logError_core {who a kind syndrome} : (t.logError who a kind syndrome).core = t.core := by
  simp [State.logError]

@[simp] theorem State.countCe_core {who a syndrome} : (t.countCe who a syndrome).core = t.core := by simp [State.countCe]

@[simp] theorem State.countUe_core {who a syndrome} : (t.countUe who a syndrome).core = t.core := by simp [State.countUe]

@[simp] theorem State.eccRead_core {who w} : (t.eccRead who w).core = t.core := by
  unfold State.eccRead
  split <;> simp

@[simp] theorem State.readLa_core {who a n} : (t.readLa who a n).2.core = t.core := by simp [State.readLa]

@[simp] theorem State.eccWrite_core {who w full bad} : (t.eccWrite who w full bad).core = t.core := by
  unfold State.eccWrite
  extract_lets poison clear
  have hpoison (u : State) : (poison u).core = u.core := by simp [poison]
  have hclear (u : State) : (clear u).core = u.core := by simp [clear]
  split
  · split <;> simp [hpoison, hclear]
  · split <;> simp [hpoison, hclear]

@[simp] theorem State.writeLa_leads (h : o.Leads t.core) {who a d} : o.Leads (t.writeLa who a d).core := by
  have hecc : o.Leads ((eccParts d.length a d).foldl (fun s p => s.eccWrite who p.1 p.2.1 p.2.2) t).core := by simp [h]
  unfold State.writeLa
  split
  · exact h
  · exact hecc.of_mem rfl (memPuts_wf _ _)

@[simp] theorem State.zeroLa_leads (h : o.Leads t.core) {a n} : o.Leads (t.zeroLa a n).core := h.of_mem rfl (memClear_wf _ _)

@[simp] theorem State.zeroBank_leads (h : o.Leads t.core) {b} : o.Leads (t.zeroBank b).core := by simp [State.zeroBank, h]

@[simp] theorem State.writeBg_leads (h : o.Leads t.core) {who a d} : o.Leads (t.writeBg who a d).core :=
  .foldl (fun u p => by simp) h

@[simp] theorem State.readBg_core {who a n} : (t.readBg who a n).2.core = t.core := by simp [State.readBg]

/-! ### Interrupt flags -/

@[simp] theorem State.raise_core {ev en irq n} : (t.raise ev en irq n).core = t.core := by simp [State.raise]

@[simp] theorem State.raiseGlb_core {n} : (t.raiseGlb n).core = t.core := by simp [State.raiseGlb]

@[simp] theorem State.raiseAtu_core {n} : (t.raiseAtu n).core = t.core := by simp [State.raiseAtu]

@[simp] theorem State.raiseDmx_core {n} : (t.raiseDmx n).core = t.core := by simp [State.raiseDmx]

@[simp] theorem State.raiseLio_core {n} : (t.raiseLio n).core = t.core := by simp [State.raiseLio]

@[simp] theorem State.raiseEvp_core {n} : (t.raiseEvp n).core = t.core := by simp [State.raiseEvp]

@[simp] theorem State.raiseAcq_core {n} : (t.raiseAcq n).core = t.core := by simp [State.raiseAcq]

@[simp] theorem State.raiseDfc_core {n} : (t.raiseDfc n).core = t.core := by simp [State.raiseDfc]

@[simp] theorem State.raisePmc_core {n} : (t.raisePmc n).core = t.core := by simp [State.raisePmc]

@[simp] theorem State.raiseEmu_core {n} : (t.raiseEmu n).core = t.core := by simp [State.raiseEmu]

@[simp] theorem State.raiseFmu_core {n} : (t.raiseFmu n).core = t.core := by simp [State.raiseFmu]

@[simp] theorem State.raiseHrd_core {n} : (t.raiseHrd n).core = t.core := by simp [State.raiseHrd]

@[simp] theorem State.raiseKsu_core {n} : (t.raiseKsu n).core = t.core := by simp [State.raiseKsu]

/-! ### Translation -/

@[simp] theorem State.sourcePage_core {e c hva} : (t.sourcePage e c hva).2.core = t.core := by
  unfold State.sourcePage
  dsimp only
  repeat' split
  all_goals simp

@[simp] theorem State.tlbInsert_core {t'} : (t.tlbInsert t').core = t.core := by simp [State.tlbInsert]

@[simp] theorem State.tlbPage_core {e c d need} : (t.tlbPage e c d need).2.core = t.core := by
  unfold State.tlbPage
  dsimp only
  repeat' split
  all_goals simp

@[simp] theorem State.xlateSpan_core {e c d n need} : (t.xlateSpan e c d n need).2.core = t.core := by
  refine State.core_foldl_snd fun acc p => ?_
  dsimp only
  repeat' split
  all_goals simp

@[simp] theorem State.farWrite_core {imp off d} : (t.farWrite imp off d).core = t.core := by
  unfold State.farWrite
  repeat' split
  all_goals simp

@[simp] theorem State.readSegs_core {e who l} : (t.readSegs e who l).2.core = t.core := by
  refine State.core_foldl_snd fun acc g => ?_
  cases g <;> simp

@[simp] theorem State.writeSegs_leads (h : o.Leads t.core) {who l d} : o.Leads (t.writeSegs who l d).core := by
  induction l generalizing t d with
  | nil => exact h
  | cons g l ih => cases g <;> exact ih (by simp [h])

/-! ### Queues and replies -/

@[simp] theorem State.ctxErr_core {c status q} : (t.ctxErr c status q).core = t.core := by simp [State.ctxErr]

@[simp] theorem State.overrun_core {c q} : (t.overrun c q).core = t.core := by simp [State.overrun]

@[simp] theorem State.cqWrite_leads (h : o.Leads t.core) {c q now mk} : o.Leads (t.cqWrite c q now mk).core := by
  unfold State.cqWrite
  split <;> simp [h]

@[simp] theorem State.postReply_leads (h : o.Leads t.core) {c q k status detail} :
    o.Leads (t.postReply c q k status detail).core := by
  simp [State.postReply, h]

@[simp] theorem State.pump_leads (h : o.Leads t.core) {c q} : o.Leads (t.pump c q).core := by
  unfold State.pump
  repeat' split
  all_goals simp [h]

@[simp] theorem State.fixResult_leads (h : o.Leads t.core) {c q seq status detail} :
    o.Leads (t.fixResult c q seq status detail).core := by
  simp [State.fixResult, h]

@[simp] theorem State.markTimed_core {c q seq} : (t.markTimed c q seq).core = t.core := by simp [State.markTimed]

@[simp] theorem refuse_led (h : o.Leads t.core) {status detail} : (refuse t status detail).Led o := by simp [refuse, h]

@[simp] theorem okay_led (h : o.Leads t.core) {detail} : (okay t detail).Led o := by simp [okay, h]

@[simp] theorem State.countRefusal_core {c op st} : (t.countRefusal c op st).core = t.core := by simp [State.countRefusal]

@[simp] theorem State.conclude_leads (h : o.Leads t.core) {c q x k} {out : CmdOut} (ho : out.Led o) :
    o.Leads (t.conclude c q x k out).core := by
  cases out with
  | done st d u => simp only [State.conclude]; split <;> simp_all
  | wait w u => simpa [State.conclude] using ho
  | stay => exact h

/-! ### Migrated pages -/

@[simp] theorem State.setRange_core {key r} : (t.setRange key r).core = t.core := by simp [State.setRange]

@[simp] theorem State.dropHeld_core {a} : (t.dropHeld a).core = t.core := by simp [State.dropHeld]

@[simp] theorem State.migrateOut_core {e key page} : (t.migrateOut e key page).2.core = t.core := by
  unfold State.migrateOut
  dsimp only
  repeat' split
  all_goals simp

@[simp] theorem State.poolRoom_core {e key r} : (t.poolRoom e key r).2.core = t.core := by
  unfold State.poolRoom
  repeat' split
  all_goals simp

@[simp] theorem State.migrateIn_leads (h : o.Leads t.core) {e key page} : o.Leads (t.migrateIn e key page).2.core := by
  unfold State.migrateIn
  dsimp only
  repeat' split
  all_goals simp [h]

@[simp] theorem State.bringIn_leads (h : o.Leads t.core) {e c d n} : o.Leads (t.bringIn e c d n).2.core := by
  refine .foldl_snd (fun acc p => ?_) h
  dsimp only
  split
  · simp
  · split
    · split
      · simp
      · split <;> simp
    · simp

/-! ### Commands that run -/

@[simp] theorem State.runCmd_leads (h : o.Leads t.core) {c q op sel body} (hb : ∀ k (u : State), (body k u).Led u.core) :
    o.Leads (t.runCmd c q op sel body).core := by
  have hbody (k : Cmd) : (body k t).Led o := (hb k t).of_leads h
  unfold State.runCmd
  split
  · exact h
  · simp [h, hbody]

@[simp] theorem State.cmdRead_leads (h : o.Leads t.core) {e c dva n} : o.Leads (t.cmdRead e c dva n).2.core := by
  unfold State.cmdRead
  dsimp only
  repeat' split
  all_goals simp [h]

@[simp] theorem State.withRead_led (h : o.Leads t.core) {e c dva n f} (hf : ∀ b (u : State), (f b u).Led u.core) :
    (t.withRead e c dva n f).Led o := by
  have hread := t.cmdRead_leads h (e := e) (c := c) (dva := dva) (n := n)
  unfold State.withRead
  split
  · simp_all
  · simp
  · exact (hf ..).of_leads (by simp_all)

@[simp] theorem State.withDest_led (h : o.Leads t.core) {e c dva n f} (hf : ∀ l (u : State), (f l u).Led u.core) :
    (t.withDest e c dva n f).Led o := by
  have hin := t.bringIn_leads h (e := e) (c := c) (d := dva) (n := n)
  unfold State.withDest
  split
  · simp [h]
  · split
    · simp_all
    · exact (hf ..).of_leads (by simp_all)

/-! ### Line I/O -/

@[simp] theorem State.setEnc_core {n e} : (t.setEnc n e).core = t.core := by simp [State.setEnc]

@[simp] theorem State.setLineIn_core {i l} : (t.setLineIn i l).core = t.core := by simp [State.setLineIn]

@[simp] theorem State.setLineOut_core {j l} : (t.setLineOut j l).core = t.core := by simp [State.setLineOut]

@[simp] theorem State.mark_core {source idx group tm pos} : (t.mark source idx group tm pos).core = t.core := by
  simp [State.mark]

@[simp] theorem State.cancelOutput_core {j p} : (t.cancelOutput j p).core = t.core := by simp [State.cancelOutput]

@[simp] theorem State.cancelOutputs_core {p} : (t.cancelOutputs p).core = t.core := by simp [State.cancelOutputs]

@[simp] theorem State.firePulse_core {j len} : (t.firePulse j len).core = t.core := by
  unfold State.firePulse
  dsimp only
  repeat' split
  all_goals simp

@[simp] theorem State.addOutput_core {j z2} : (t.addOutput j z2).core = t.core := by simp [State.addOutput]

@[simp] theorem outputFire_core {j} : (outputFire j t).core = t.core := by
  unfold outputFire
  dsimp only
  repeat' split
  all_goals simp

@[simp] theorem outputPulseEnd_core {j} : (outputPulseEnd j t).core = t.core := by
  unfold outputPulseEnd
  split <;> simp

@[simp] theorem loForce_core {j len} : (loForce j len t).core = t.core := by simp [loForce]

@[simp] theorem State.encTick_core {n} : (t.encTick n).core = t.core := by simp [State.encTick]

@[simp] theorem State.enterLost_core {n} : (t.enterLost n).core = t.core := by
  unfold State.enterLost
  dsimp only
  repeat' split
  all_goals simp

@[simp] theorem State.backtrack_core {n} : (t.backtrack n).core = t.core := by simp [State.backtrack]

@[simp] theorem State.countOne_core {n up} : (t.countOne n up).core = t.core := by simp [State.countOne]

@[simp] theorem State.quadError_core {n} : (t.quadError n).core = t.core := by simp [State.quadError]

@[simp] theorem encCount_core {n a b held} : (encCount n a b held t).core = t.core := by simp [encCount]

@[simp] theorem encZEdge_core {n z held} : (encZEdge n z held t).core = t.core := by simp [encZEdge]

@[simp] theorem webStopped_core {n} : (webStopped n t).core = t.core := by simp [webStopped]

@[simp] theorem encRelock_core {n} : (encRelock n t).core = t.core := by simp [encRelock]

@[simp] theorem State.encBeat_core {n} : (t.encBeat n).core = t.core := by
  unfold State.encBeat
  dsimp only
  repeat' split
  all_goals simp

@[simp] theorem State.liCapture_core {i t' hwms} : (t.liCapture i t' hwms).core = t.core := by simp [State.liCapture]

@[simp] theorem State.liTick_core {i} : (t.liTick i).core = t.core := by
  unfold State.liTick
  dsimp only
  repeat' split
  all_goals simp

@[simp] theorem liEdge_core {i level held phase} : (liEdge i level held phase t).core = t.core := by
  unfold liEdge
  dsimp only
  repeat' split
  all_goals simp

@[simp] theorem State.liTurn_core {i} : (t.liTurn i).core = t.core := by simp [State.liTurn]

@[simp] theorem liStuck_core {i} : (liStuck i t).core = t.core := by simp [liStuck]

/-! ### Activities and buffers -/

@[simp] theorem State.markRan_core {r} : (t.markRan r).core = t.core := by simp [State.markRan]

@[simp] theorem State.faultAct_core {a} : (t.faultAct a).core = t.core := by simp [State.faultAct]

@[simp] theorem State.incompleteAct_core {a} : (t.incompleteAct a).core = t.core := by simp [State.incompleteAct]

@[simp] theorem State.planRead_core {who l} : (t.planRead who l).2.core = t.core := by
  refine State.core_foldl_snd fun acc g => ?_
  cases g <;> simp

@[simp] theorem State.writeWith_leads (h : o.Leads t.core) {pad who l d} : o.Leads (t.writeWith pad who l d).core := by
  induction l generalizing t d with
  | nil => exact h
  | cons g l ih => cases g <;> exact ih (by simp [h])

@[simp] theorem State.planWrite_leads (h : o.Leads t.core) {who l d} : o.Leads (t.planWrite who l d).core := by
  simp [State.planWrite, h]

@[simp] theorem State.readBuf_core {who b off n} : (t.readBuf who b off n).2.core = t.core := by simp [State.readBuf]

@[simp] theorem State.writeBuf_leads (h : o.Leads t.core) {who b off d} : o.Leads (t.writeBuf who b off d).core := by
  simp [State.writeBuf, h]

@[simp] theorem State.writeLine_leads (h : o.Leads t.core) {who b off d} : o.Leads (t.writeLine who b off d).core := by
  simp [State.writeLine, h]

@[simp] theorem State.cleanGranules_core {b spans} : (t.cleanGranules b spans).core = t.core := by simp [State.cleanGranules]

@[simp] theorem State.zeroTails_leads (h : o.Leads t.core) {b spans} : o.Leads (t.zeroTails b spans).core := by
  unfold State.zeroTails
  split
  · exact h
  · exact .foldl (fun u g => .foldl (fun v x => Core.Leads.refl.of_mem (t := v) rfl (memClear_wf _ _)) .refl) h

@[simp] theorem State.consume_core {a bad} : (t.consume a bad).core = t.core := by simp [State.consume]

/-! ### Event ports -/

@[simp] theorem State.setPort_core {p z2} : (t.setPort p z2).core = t.core := by simp [State.setPort]

@[simp] theorem State.setMapper_core {p m} : (t.setMapper p m).core = t.core := by simp [State.setMapper]

@[simp] theorem State.evpCount_core {p k n} : (t.evpCount p k n).core = t.core := by simp [State.evpCount]

@[simp] theorem State.setCell_core {p z2 y pol v} : (t.setCell p z2 y pol v).core = t.core := by simp [State.setCell]

@[simp] theorem State.clearSurface_core {p} : (t.clearSurface p).core = t.core := by simp [State.clearSurface]

@[simp] theorem State.portUnlock_core {p} : (t.portUnlock p).core = t.core := by simp [State.portUnlock]

@[simp] theorem State.restartMap_core {p raw} : (t.restartMap p raw).core = t.core := by simp [State.restartMap]

@[simp] theorem State.desync_core {p reason} : (t.desync p reason).core = t.core := by simp [State.desync]

@[simp] theorem State.observe_core {p th} : (t.observe p th).core = t.core := by
  unfold State.observe
  dsimp only
  repeat' split
  all_goals simp

@[simp] theorem mapperWindowClose_core {p} : (mapperWindowClose p t).core = t.core := by
  unfold mapperWindowClose
  dsimp only
  repeat' split
  all_goals simp

@[simp] theorem mapperSilent_core {p} : (mapperSilent p t).core = t.core := by simp [mapperSilent]

@[simp] theorem State.pushWord_core {p w} : (t.pushWord p w).core = t.core := by simp [State.pushWord]

@[simp] theorem State.badWord_core {p} : (t.badWord p).core = t.core := by simp [State.badWord]

@[simp] theorem State.csiWord_core {p w} : (t.csiWord p w).core = t.core := by
  unfold State.csiWord
  repeat' split
  all_goals simp

@[simp] theorem csiLong_core {p k} : (csiLong p k t).core = t.core := by simp [csiLong]

@[simp] theorem csiShort_core {p k} : (csiShort p k t).core = t.core := by simp [csiShort]

@[simp] theorem dphyState_core {p st lanes deskew} : (dphyState p st lanes deskew t).core = t.core := by simp [dphyState]

@[simp] theorem State.flowOf_core {p z2 y pol now} : (t.flowOf p z2 y pol now).2.core = t.core := by simp [State.flowOf]

@[simp] theorem State.makeMark_core {p g tc} : (t.makeMark p g tc).core = t.core := by simp [State.makeMark]

@[simp] theorem State.showTracks_core {p} : (t.showTracks p).core = t.core := by simp [State.showTracks]

@[simp] theorem State.setTrack_core {p m k} : (t.setTrack p m k).core = t.core := by simp [State.setTrack]

@[simp] theorem State.freeTrack_core {p m} : (t.freeTrack p m).core = t.core := by simp [State.freeTrack]

@[simp] theorem State.corner_core {p z2 y t'} : (t.corner p z2 y t').core = t.core := by
  unfold State.corner
  dsimp only
  repeat' split
  all_goals simp

@[simp] theorem State.pipeline_core {p z2 y pol t'} : (t.pipeline p z2 y pol t').core = t.core := by simp [State.pipeline]

@[simp] theorem eventProcess_core {p} : (eventProcess p t).core = t.core := by
  unfold eventProcess
  dsimp only
  repeat' split
  all_goals simp

@[simp] theorem trackCoast_core {p m} : (trackCoast p m t).core = t.core := by
  unfold trackCoast
  dsimp only
  repeat' split
  all_goals simp

@[simp] theorem trackLeaves_core {p m} : (trackLeaves p m t).core = t.core := by
  unfold trackLeaves
  dsimp only
  repeat' split
  all_goals simp

@[simp] theorem surfaceSweep_core {p z1 y} : (surfaceSweep p z1 y t).core = t.core := by simp [surfaceSweep]

@[simp] theorem State.evpBeat_core {p} : (t.evpBeat p).core = t.core := by simp [State.evpBeat]

@[simp] theorem State.patchStart_core {a i} : (t.patchStart a i).core = t.core := by
  unfold State.patchStart
  repeat' split
  all_goals simp

@[simp] theorem evpPatch_leads (h : o.Leads t.core) {r} : o.Leads (evpPatch r t).core := by
  unfold evpPatch
  dsimp only
  repeat' split
  all_goals simp [h]

@[simp] theorem State.predictMiss_core {a} : (t.predictMiss a).core = t.core := by simp [State.predictMiss]

@[simp] theorem State.issueWindow_core {i w} : (t.issueWindow i w).core = t.core := by simp [State.issueWindow]

@[simp] theorem evpPredict_core {r} : (evpPredict r t).core = t.core := by
  unfold evpPredict
  repeat' split
  all_goals simp

/-! ### Acquisition -/

@[simp] theorem State.setAcq_core {n z2} : (t.setAcq n z2).core = t.core := by simp [State.setAcq]

@[simp] theorem State.setDfc_core {n z2} : (t.setDfc n z2).core = t.core := by simp [State.setDfc]

@[simp] theorem State.setAcqState_core {n v} : (t.setAcqState n v).core = t.core := by simp [State.setAcqState]

@[simp] theorem State.setCal_core {n v} : (t.setCal n v).core = t.core := by simp [State.setCal]

@[simp] theorem State.takeTrigger_core {n z2 num den} : (t.takeTrigger n z2 num den).2.core = t.core := by
  simp [State.takeTrigger]

@[simp] theorem State.segCounts_core {n z2 short} : (t.segCounts n z2 short).core = t.core := by simp [State.segCounts]

@[simp] theorem State.storeSegment_leads (h : o.Leads t.core) {n z2 len} : o.Leads (t.storeSegment n z2 len).core := by
  simp [State.storeSegment, h]

@[simp] theorem State.bgTrigger_core {n src k xs} : (t.bgTrigger n src k xs).core = t.core := by
  unfold State.bgTrigger
  dsimp only
  repeat' split
  all_goals simp

@[simp] theorem State.recTrigger_core {r n k z4 xs} : (t.recTrigger r n k z4 xs).2.core = t.core := by
  unfold State.recTrigger
  repeat' split
  all_goals simp

@[simp] theorem State.setAcqRun_core {r} : (t.setAcqRun r).core = t.core := by simp [State.setAcqRun]

@[simp] theorem State.plannedTrigger_core {n src k xs} : (t.plannedTrigger n src k xs).core = t.core := by
  refine State.core_foldl fun u r => ?_
  split
  · split <;> simp
  · rfl

@[simp] theorem acqTrigger_core {n src k xs} : (acqTrigger n src k xs t).core = t.core := by simp [acqTrigger]

@[simp] theorem acqFillDone_core {n} : (acqFillDone n t).core = t.core := by simp [acqFillDone]

@[simp] theorem acqRearmDone_core {n} : (acqRearmDone n t).core = t.core := by
  unfold acqRearmDone
  repeat' split
  all_goals simp

@[simp] theorem State.putWork_leads (h : o.Leads t.core) {r n z3 short valid bs} :
    o.Leads (t.putWork r n z3 short valid bs).core := by
  unfold State.putWork
  split <;> simp [h]

@[simp] theorem acqSegmentDone_leads (h : o.Leads t.core) {n rec_ v} : o.Leads (acqSegmentDone n rec_ v t).core := by
  unfold acqSegmentDone
  dsimp only
  repeat' split
  all_goals simp [h]

@[simp] theorem acqCalTracking_core {n} : (acqCalTracking n t).core = t.core := by simp [acqCalTracking]

@[simp] theorem State.showRecs_core {ns} : (t.showRecs ns).core = t.core := by simp [State.showRecs]

@[simp] theorem State.endAcqRun_core {r} : (t.endAcqRun r).core = t.core := by simp [State.endAcqRun]

@[simp] theorem State.acqFinish_leads (h : o.Leads t.core) {a r} : o.Leads (t.acqFinish a r).core := by
  unfold State.acqFinish
  extract_lets u v total w
  have hu : o.Leads u.core := .foldl (fun w e => by simp) h
  have hv : o.Leads v.core := by simp [v, hu]
  have hw : o.Leads w.core := by
    unfold w
    split <;> simp [hv]
  simp [hw]

@[simp] theorem State.acqBegin_core {a i} : (t.acqBegin a i).core = t.core := by simp [State.acqBegin]

@[simp] theorem acqArm_leads (h : o.Leads t.core) {r} : o.Leads (acqArm r t).core := by
  unfold acqArm
  repeat' split
  all_goals simp [h]

@[simp] theorem State.sendTrain_core {op0 op1 op2 ref} : (t.sendTrain op0 op1 op2 ref).core = t.core := by
  simp [State.sendTrain]

@[simp] theorem strobe_core {r} : (strobe r t).core = t.core := by
  unfold strobe
  repeat' split
  all_goals simp

@[simp] theorem State.strobeBeat_core : t.strobeBeat.core = t.core := by simp [State.strobeBeat]

@[simp] theorem State.fire_core {line t'} : (t.fire line t').core = t.core := by simp [State.fire]

@[simp] theorem State.armOpen_core {line lo hi} : (t.armOpen line lo hi).core = t.core := by simp [State.armOpen]

@[simp] theorem fabricArmOpen_core {line} : (fabricArmOpen line t).core = t.core := by
  unfold fabricArmOpen
  split <;> simp

@[simp] theorem fabricFire_core {line} : (fabricFire line t).core = t.core := by
  unfold fabricFire
  split <;> simp

@[simp] theorem fabricArmClose_core {line} : (fabricArmClose line t).core = t.core := by
  unfold fabricArmClose
  split <;> simp

@[simp] theorem acqSpiTx_core {v} : (acqSpiTx v t).core = t.core := by simp [acqSpiTx]

@[simp] theorem spiTransferDone_core {rx} : (spiTransferDone rx t).core = t.core := by simp [spiTransferDone]

/-! ### Filter chains -/

@[simp] theorem State.showDet_core {n z2} : (t.showDet n z2).core = t.core := by simp [State.showDet]

@[simp] theorem dfcStreamBlock_leads (h : o.Leads t.core) {n v} : o.Leads (dfcStreamBlock n v t).core := by
  unfold dfcStreamBlock
  dsimp only
  repeat' split
  all_goals simp [h]

@[simp] theorem State.dfcAnchor_core {n tick} : (t.dfcAnchor n tick).core = t.core := by simp [State.dfcAnchor]

@[simp] theorem State.dfcStop_core {n} : (t.dfcStop n).core = t.core := by simp [State.dfcStop]

@[simp] theorem State.dfcEmpty_core {n} : (t.dfcEmpty n).core = t.core := by simp [State.dfcEmpty]

@[simp] theorem State.dfcBegin_core {n} : (t.dfcBegin n).core = t.core := by simp [State.dfcBegin]

@[simp] theorem State.cutBackground_leads (h : o.Leads t.core) {n v} : o.Leads (t.cutBackground n v).core := by
  unfold State.cutBackground
  repeat' split
  all_goals simp [h]

@[simp] theorem State.cutPlanned_leads (h : o.Leads t.core) {n v} : o.Leads (t.cutPlanned n v).core := by
  refine .foldl (fun u r => ?_) h
  split
  · simp
  · split <;> simp

@[simp] theorem State.tickCommands_leads (h : o.Leads t.core) {op} : o.Leads (t.tickCommands op).core := by
  refine .foldl (fun u e => .foldl (fun v k => ?_) .refl) h
  split
  · split <;> simp
  · simp

@[simp] theorem State.syncChannel_core {n} : (t.syncChannel n).core = t.core := by simp [State.syncChannel]

@[simp] theorem State.syncAnchors_core : t.syncAnchors.core = t.core := by simp [State.syncAnchors]

@[simp] theorem State.syncCuts_leads (h : o.Leads t.core) {cut} : o.Leads (t.syncCuts cut).core :=
  .foldl (fun u n => by simp) h

@[simp] theorem dfcSync_leads (h : o.Leads t.core) {cut} : o.Leads (dfcSync cut t).core := by
  unfold dfcSync
  split <;> simp [h]

@[simp] theorem State.syncInEdge_core {rising} : (t.syncInEdge rising).core = t.core := by simp [State.syncInEdge]

/-! ### Commands of the units -/

@[simp] theorem State.portDisable_core {p} : (t.portDisable p).core = t.core := by simp [State.portDisable]

@[simp] theorem State.portEnable_core {p blk} : (t.portEnable p blk).core = t.core := by simp [State.portEnable]

@[simp] theorem cmdEvpDisable_led (h : o.Leads t.core) {k} : (cmdEvpDisable k t).Led o := by
  unfold cmdEvpDisable
  dsimp only
  repeat' split
  all_goals simp [h]

@[simp] theorem evpBlock_led (h : o.Leads t.core) {c e k f} (hf : ∀ b (u : State), (f b u).Led u.core) :
    (evpBlock c e k t f).Led o := by
  simp [evpBlock, refuse, h, hf]

@[simp] theorem cmdEvpEnable_led (h : o.Leads t.core) {c e k} : (cmdEvpEnable c e k t).Led o := by simp [cmdEvpEnable, h]

@[simp] theorem cmdEvpGroups_led (h : o.Leads t.core) {c e k} : (cmdEvpGroups c e k t).Led o := by simp [cmdEvpGroups, h]

@[simp] theorem State.loadMask_core {p op b} : (t.loadMask p op b).core = t.core := by simp [State.loadMask]

@[simp] theorem cmdEvpMaskLoad_led (h : o.Leads t.core) {c e k} : (cmdEvpMaskLoad c e k t).Led o := by
  simp [cmdEvpMaskLoad, h]

@[simp] theorem State.acqStop_core {n} : (t.acqStop n).core = t.core := by simp [State.acqStop]

@[simp] theorem cmdAcqStop_led (h : o.Leads t.core) {c k} : (cmdAcqStop c k t).Led o := by
  unfold cmdAcqStop
  dsimp only
  repeat' split
  all_goals simp [h]

@[simp] theorem cmdAcqApply_led (h : o.Leads t.core) {c e k} : (cmdAcqApply c e k t).Led o := by simp [cmdAcqApply, h]

@[simp] theorem cmdAcqStart_led (h : o.Leads t.core) {c k} : (cmdAcqStart c k t).Led o := by
  unfold cmdAcqStart
  dsimp only
  repeat' split
  all_goals simp [h]

@[simp] theorem cmdAcqForce_led (h : o.Leads t.core) {c k} : (cmdAcqForce c k t).Led o := by
  unfold cmdAcqForce
  dsimp only
  repeat' split
  all_goals simp [h]

@[simp] theorem State.setPair_core {n on} : (t.setPair n on).core = t.core := by simp [State.setPair]

@[simp] theorem cmdAcqPair_led (h : o.Leads t.core) {c k} : (cmdAcqPair c k t).Led o := by
  unfold cmdAcqPair
  dsimp only
  repeat' split
  all_goals simp [h]

@[simp] theorem cmdAcqSync_led (h : o.Leads t.core) {k} : (cmdAcqSync k t).Led o := by
  unfold cmdAcqSync
  repeat' split
  all_goals simp [h]

@[simp] theorem cmdAcqReadout_led (h : o.Leads t.core) {c e k} : (cmdAcqReadout c e k t).Led o := by simp [cmdAcqReadout, h]

@[simp] theorem State.dfcApply_core {n z2 crc} : (t.dfcApply n z2 crc).core = t.core := by simp [State.dfcApply]

@[simp] theorem cmdDfcStop_led (h : o.Leads t.core) {c k} : (cmdDfcStop c k t).Led o := by
  unfold cmdDfcStop
  dsimp only
  repeat' split
  all_goals simp [h]

@[simp] theorem cmdDfcLoad_led (h : o.Leads t.core) {c e k} : (cmdDfcLoad c e k t).Led o := by simp [cmdDfcLoad, h]

@[simp] theorem cmdDfcStart_led (h : o.Leads t.core) {c k} : (cmdDfcStart c k t).Led o := by
  unfold cmdDfcStart
  dsimp only
  repeat' split
  all_goals simp [h]

/-! ### Energy -/

@[simp] theorem State.setEff_core : t.setEff.core = t.core := by simp [State.setEff]

@[simp] theorem State.emuBeat_core {e} : (t.emuBeat e).core = t.core := by
  unfold State.emuBeat
  split <;> simp

@[simp] theorem State.missRecord_core {c} : (t.missRecord c).core = t.core := by simp [State.missRecord]

@[simp] theorem recordShed_core {r} : (recordShed r t).core = t.core := by
  unfold recordShed
  split <;> simp

@[simp] theorem recordOverrun_core {r} : (recordOverrun r t).core = t.core := by
  unfold recordOverrun
  split <;> simp

@[simp] theorem State.unmetBeat_core : t.unmetBeat.core = t.core := by simp [State.unmetBeat]

@[simp] theorem droop_core {d} : (droop d t).core = t.core := by
  unfold droop
  extract_lets u
  have hu : u.core = t.core := by simp [u]
  split <;> exact hu

@[simp] theorem State.thermal_core {t'} : (t.thermal t').core = t.core := by simp [State.thermal]

@[simp] theorem cmdEnergyBudgetSet_led (h : o.Leads t.core) {k} : (cmdEnergyBudgetSet k t).Led o := by
  unfold cmdEnergyBudgetSet
  dsimp only
  repeat' split
  all_goals simp [h]

@[simp] theorem State.applyBudget_core {par} : (t.applyBudget par).core = t.core := by simp [State.applyBudget]

/-! ### Tine engines -/

@[simp] theorem State.setEngDie_core {d z2} : (t.setEngDie d z2).core = t.core := by simp [State.setEngDie]

@[simp] theorem State.noteRun_core {unit r} : (t.noteRun unit r).core = t.core := by simp [State.noteRun]

@[simp] theorem State.tineOutput_core {m ls injected inp} : (t.tineOutput m ls injected inp).2.core = t.core := by
  unfold State.tineOutput
  split <;> simp

@[simp] theorem State.freqUnits_core {a y bub} : (t.freqUnits a y bub).core = t.core := by simp [State.freqUnits]

@[simp] theorem State.tineWork_leads (h : o.Leads t.core) {r a m bi bo} : o.Leads (t.tineWork r a m bi bo).core := by
  unfold State.tineWork
  extract_lets log d n ls bub cyc who x w bad u sc v out y z f
  have hu : o.Leads u.core := by simp [u, x, h]
  have hv : o.Leads v.core := by
    unfold v
    split
    · exact hu
    · refine State.writeLa_leads ?_
      exact hu
  have hz : o.Leads z.core := by simp [z, y, out, hv]
  have hf : o.Leads f.core := by
    unfold f
    cases ls.head? <;> simp [hz]
  simp [hf]

@[simp] theorem tineRun_leads (h : o.Leads t.core) {r} : o.Leads (tineRun r t).core := by
  unfold tineRun
  repeat' split
  all_goals simp [h]

@[simp] theorem State.fillRecord_leads (h : o.Leads t.core) {c h' im r} : o.Leads (t.fillRecord c h' im r).core := by
  unfold State.fillRecord
  split <;> simp [h]

@[simp] theorem State.fillWeights_leads (h : o.Leads t.core) {c h' im} : o.Leads (t.fillWeights c h' im).core :=
  .foldl (fun u r => by simp) h

/-! ### Chain units and PPU -/

@[simp] theorem State.result_core {det d} : (t.result det d).2.core = t.core := by simp [State.result]

@[simp] theorem State.chainWork_leads (h : o.Leads t.core) {r a k bi bo} : o.Leads (t.chainWork r a k bi bo).core := by
  unfold State.chainWork
  split <;> simp [h]

@[simp] theorem chainOp_leads (h : o.Leads t.core) {r} : o.Leads (chainOp r t).core := by
  unfold chainOp
  dsimp only
  repeat' split
  all_goals simp [h]

@[simp] theorem State.sortWork_leads (h : o.Leads t.core) {r a bi bo} : o.Leads (t.sortWork r a bi bo).core := by
  simp [State.sortWork, h]

@[simp] theorem ppuSort_leads (h : o.Leads t.core) {r} : o.Leads (ppuSort r t).core := by
  unfold ppuSort
  repeat' split
  all_goals simp [h]

@[simp] theorem State.detectWork_leads (h : o.Leads t.core) {r a k bi bo} : o.Leads (t.detectWork r a k bi bo).core := by
  simp [State.detectWork, h]

@[simp] theorem ppuDetect_leads (h : o.Leads t.core) {r} : o.Leads (ppuDetect r t).core := by
  unfold ppuDetect
  dsimp only
  repeat' split
  all_goals simp [h]

@[simp] theorem State.copyRead_core {e who l} : (t.copyRead e who l).2.core = t.core := by
  refine State.core_foldl_snd fun acc g => ?_
  cases g <;> simp

@[simp] theorem State.copyInto_core {e c h' unit buf n im} : (t.copyInto e c h' unit buf n im).core = t.core := by
  unfold State.copyInto
  repeat' split
  all_goals simp

@[simp] theorem State.fillCopies_core {e c h' im} : (t.fillCopies e c h' im).core = t.core := by simp [State.fillCopies]

/-! ### DMA programs -/

@[simp] theorem cmdDmaProgLoad_led (h : o.Leads t.core) {c e k} : (cmdDmaProgLoad c e k t).Led o := by
  unfold cmdDmaProgLoad
  dsimp only
  split
  · exact h
  · split
    · simp [h]
    · refine State.withRead_led h fun b u => ?_
      split <;> simp

@[simp] theorem State.fillProgs_core {c h im} : (t.fillProgs c h im).core = t.core := by
  unfold State.fillProgs
  extract_lets u
  have hu : u.core = t.core := State.core_foldl fun v r => by
    dsimp only
    split
    · split <;> simp
    · rfl
  simp [hu]

@[simp] theorem State.setChan_core {n z2} : (t.setChan n z2).core = t.core := by simp [State.setChan]

@[simp] theorem State.delChan_core {n} : (t.delChan n).core = t.core := by simp [State.delChan]

@[simp] theorem dmxRun_core {r} : (dmxRun r t).core = t.core := by
  unfold dmxRun
  dsimp only
  repeat' split
  all_goals simp

@[simp] theorem State.moveLine_leads (h : o.Leads t.core) {who z2 bs bd src dst i crc bad} :
    o.Leads (t.moveLine who z2 bs bd src dst i crc bad).1.core := by
  unfold State.moveLine
  repeat' split
  all_goals simp [h]

@[simp] theorem dmxMove_leads (h : o.Leads t.core) {n} : o.Leads (dmxMove n t).core := by
  unfold dmxMove
  split
  · extract_lets x0 x1 who bd d0 u r v w y
    clear_value bd
    have hu : o.Leads u.core := by
      unfold u
      split <;> simp [h]
    have hr : o.Leads r.1.core := .foldl_fst (fun acc i => by simp) hu
    have hv : o.Leads v.core := by
      unfold v
      split
      · split <;> simp [hr]
      · exact hr
    have hw : o.Leads w.core := by
      unfold w
      split <;> simp [hv]
    simp [y, hw]
  · exact h

@[simp] theorem dmxLoop_core {n} : (dmxLoop n t).core = t.core := by
  unfold dmxLoop
  split <;> simp

@[simp] theorem State.passWait_core {n z2 kind arg value} : (t.passWait n z2 kind arg value).core = t.core := by
  simp [State.passWait]

@[simp] theorem State.beginWait_core {n kind} : (t.beginWait n kind).core = t.core := by
  unfold State.beginWait
  split <;> simp

@[simp] theorem dmxWaitBeat_core {n} : (dmxWaitBeat n t).core = t.core := by simp [dmxWaitBeat]

@[simp] theorem dmxWaitTrig_core {n} : (dmxWaitTrig n t).core = t.core := by simp [dmxWaitTrig]

@[simp] theorem dmxWaitSem_core {n} : (dmxWaitSem n t).core = t.core := by simp [dmxWaitSem]

@[simp] theorem dmxWaitRelease_core {n} : (dmxWaitRelease n t).core = t.core := by
  unfold dmxWaitRelease
  repeat' split
  all_goals simp

@[simp] theorem dmxWaitTimeout_core {n} : (dmxWaitTimeout n t).core = t.core := by
  unfold dmxWaitTimeout
  repeat' split
  all_goals simp

@[simp] theorem dmxSignal_core {n} : (dmxSignal n t).core = t.core := by
  unfold dmxSignal
  split <;> simp

@[simp] theorem dmxEnd_core {n} : (dmxEnd n t).core = t.core := by
  unfold dmxEnd
  split <;> simp

@[simp] theorem recordLate_core {n} : (recordLate n t).core = t.core := by
  unfold recordLate
  repeat' split
  all_goals simp

/-! ### Ring channels -/

@[simp] theorem State.noteFail_core {c q reason dva} : (t.noteFail c q reason dva).core = t.core := by simp [State.noteFail]

@[simp] theorem State.request_core {c q d} : (t.request c q d).core = t.core := by
  unfold State.request
  split <;> simp

@[simp] theorem State.requestAll_core : t.requestAll.core = t.core := by simp [State.requestAll]

@[simp] theorem State.xlateSpans_leads (h : o.Leads t.core) {e c need l} : o.Leads (t.xlateSpans e c need l).2.core := by
  refine .foldl_snd (fun acc p => ?_) h
  dsimp only
  split
  · simp
  · split
    · simp
    · split <;> simp

@[simp] theorem State.readDesc_core {e c z3 d} : (t.readDesc e c z3 d).2.core = t.core := by
  unfold State.readDesc
  split <;> simp

@[simp] theorem State.failDesc_leads (h : o.Leads t.core) {c q z3 d reason dva} :
    o.Leads (t.failDesc c q z3 d reason dva).core := by
  unfold State.failDesc
  repeat' split
  all_goals simp [h]

@[simp] theorem State.translateDesc_leads (h : o.Leads t.core) {e c q x d0} : o.Leads (t.translateDesc e c q x d0).core := by
  unfold State.translateDesc
  extract_lets r d set u a b v
  have ha : o.Leads a.2.core := by simp [a, u, r, set, h]
  have hb : o.Leads b.2.core := by simp [b, ha]
  split
  · simp [set, u, r, h]
  · split
    · simp [ha]
    · simp [hb]
    · simp [set, v, hb]

@[simp] theorem State.translateN_leads (h : o.Leads t.core) {e c q n} : o.Leads (State.translateN e c q n t).core := by
  induction n generalizing t with
  | zero => exact h
  | succ n ih =>
    unfold State.translateN
    split
    · exact h
    · dsimp only
      split
      · split <;> simp [h, ih]
      · simp [h]

@[simp] theorem State.settleRing_core {c q} : (t.settleRing c q).core = t.core := by simp [State.settleRing]

@[simp] theorem State.translateRing_leads (h : o.Leads t.core) {e c q} : o.Leads (t.translateRing e c q).core := by
  simp [State.translateRing, h]

@[simp] theorem State.translateAll_leads (h : o.Leads t.core) {e} : o.Leads (t.translateAll e).core := by
  simp [State.translateAll, h]

@[simp] theorem State.invalidate_core {c a n} : (t.invalidate c a n).2.2.core = t.core := by simp [State.invalidate]

@[simp] theorem State.invalidateNow_leads (h : o.Leads t.core) {e c a n} : o.Leads (t.invalidateNow e c a n).2.2.core := by
  simp [State.invalidateNow, h]

@[simp] theorem State.settleAts_core : t.settleAts.core = t.core := by simp [State.settleAts]

@[simp] theorem State.revoke_core {keys} : (t.revoke keys).core = t.core := by simp [State.revoke]

@[simp] theorem State.revokeBeat_core : t.revokeBeat.core = t.core := by simp [State.revokeBeat]

@[simp] theorem atsInvalidation_leads (h : o.Leads t.core) {pasid hva len e} :
    o.Leads (atsInvalidation pasid hva len e t).core := by
  simp [atsInvalidation, h]

@[simp] theorem atuTlbFlush_leads (h : o.Leads t.core) {e} : o.Leads (atuTlbFlush e t).core := by simp [atuTlbFlush, h]

@[simp] theorem State.completeDesc_leads (h : o.Leads t.core) {e c q z4 d status reason bytes dva crc} :
    o.Leads (t.completeDesc e c q z4 d status reason bytes dva crc).core := by
  simp [State.completeDesc, h]

@[simp] theorem State.notOwned_leads (h : o.Leads t.core) {c q d} : o.Leads (t.notOwned c q d).core := by
  simp [State.notOwned, h]

@[simp] theorem State.ringLine_leads (h : o.Leads t.core) {e who z3 src dst i crc bad} :
    o.Leads (t.ringLine e who z3 src dst i crc bad).1.core := by
  simp [State.ringLine, h]

@[simp] theorem State.finishMove_leads (h : o.Leads t.core) {e n c q x d} : o.Leads (t.finishMove e n c q x d).core := by
  unfold State.finishMove
  extract_lets tr who r u
  have hr : o.Leads r.1.core := .foldl_fst (fun acc i => by simp) h
  have hu : o.Leads u.core := by
    unfold u
    split
    · split <;> simp [hr]
    · exact hr
  exact State.completeDesc_leads hu

@[simp] theorem State.serve_leads (h : o.Leads t.core) {e n nop} : o.Leads (t.serve e n nop).core := by
  unfold State.serve
  repeat' split
  all_goals simp [h]

@[simp] theorem descMove_leads (h : o.Leads t.core) {n e} : o.Leads (descMove n e t).core := by
  unfold descMove
  repeat' split
  all_goals simp [h]

@[simp] theorem descNop_leads (h : o.Leads t.core) {n e} : o.Leads (descNop n e t).core := by simp [descNop, h]

@[simp] theorem State.endFailed_leads (h : o.Leads t.core) {c q} : o.Leads (t.endFailed c q).core := by
  unfold State.endFailed
  repeat' split
  all_goals simp [h]

@[simp] theorem ringFaultServed_core {c q} : (ringFaultServed c q t).core = t.core := by simp [ringFaultServed]

@[simp] theorem faultTimeout_leads (h : o.Leads t.core) {c q} : o.Leads (faultTimeout c q t).core := by
  unfold faultTimeout
  dsimp only
  repeat' split
  all_goals simp [h]

@[simp] theorem State.denyAll_leads (h : o.Leads t.core) : o.Leads t.denyAll.core := by
  refine .foldl (fun u x => State.endFailed_leads (.foldl (fun v d => ?_) .refl)) h
  split <;> simp

@[simp] theorem prgResponse_leads (h : o.Leads t.core) {c q code e} : o.Leads (prgResponse c q code e t).core := by
  unfold prgResponse
  dsimp only
  repeat' split
  all_goals simp [h]

@[simp] theorem priEnable_core {alloc ats} : (priEnable alloc ats t).core = t.core := by simp [priEnable]

@[simp] theorem walkTimeout_leads (h : o.Leads t.core) {c q} : o.Leads (walkTimeout c q t).core := by
  unfold walkTimeout
  split <;> simp [h]

@[simp] theorem dmxPauseSet_core {n} : (dmxPauseSet n t).core = t.core := by simp [dmxPauseSet]

@[simp] theorem dmxPauseClear_core {n} : (dmxPauseClear n t).core = t.core := by simp [dmxPauseClear]

@[simp] theorem dmxPaused_core {n} : (dmxPaused n t).core = t.core := by simp [dmxPaused]

@[simp] theorem State.resetRing_leads (h : o.Leads t.core) {c q say} : o.Leads (t.resetRing c q say).core := by
  unfold State.resetRing
  repeat' split
  all_goals simp [h]

/-! ### Ranges -/

@[simp] theorem State.hostRuns_core {e c hva n rights} : (t.hostRuns e c hva n rights).2.core = t.core := by
  refine State.core_foldl_snd fun acc p => ?_
  dsimp only
  split
  · rfl
  · split <;> simp

@[simp] theorem State.withRange_core {c slot r} : (t.withRange c slot r).core = t.core := by simp [State.withRange]

@[simp] theorem State.fillSlot_led (h : o.Leads t.core) {c slot r} : (t.fillSlot c slot r).Led o := by
  simp [State.fillSlot, h]

@[simp] theorem State.pinHost_led (h : o.Leads t.core) {e c slot rights hva dva len} :
    (t.pinHost e c slot rights hva dva len).Led o := by
  have hruns := t.hostRuns_core (e := e) (c := c) (hva := hva) (n := len) (rights := rights)
  unfold State.pinHost
  split <;> simp_all

@[simp] theorem State.pinLocal_led (h : o.Leads t.core) {c slot rights mem p dva len} :
    (t.pinLocal c slot rights mem p dva len).Led o := by
  unfold State.pinLocal
  split
  · simp [h]
  · split
    · refine State.fillSlot_led ?_
      exact State.zeroLa_leads h
    · split
      · exact h
      · exact State.fillSlot_led (State.zeroLa_leads h)

@[simp] theorem State.pinMigr_led (h : o.Leads t.core) {c slot rights mem pool dva len} :
    (t.pinMigr c slot rights mem pool dva len).Led o := by
  unfold State.pinMigr
  split <;> simp [h]

@[simp] theorem State.pinRemote_led (h : o.Leads t.core) {c slot rights dev win dva len} :
    (t.pinRemote c slot rights dev win dva len).Led o := by
  unfold State.pinRemote
  repeat' split
  all_goals simp [h]

@[simp] theorem cmdBufPin_led (h : o.Leads t.core) {c e k} : (cmdBufPin c e k t).Led o := by
  unfold cmdBufPin
  repeat' split
  all_goals simp [h]

@[simp] theorem State.dropRange_core {key} : (t.dropRange key).core = t.core := by
  unfold State.dropRange
  split <;> simp

@[simp] theorem State.sendHome_core {e key pages} : (t.sendHome e key pages).2.core = t.core := by
  refine State.core_foldl_snd fun acc p => ?_
  dsimp only
  split
  · rfl
  · split <;> simp

@[simp] theorem State.bringPages_leads (h : o.Leads t.core) {e key pages} : o.Leads (t.bringPages e key pages).2.core := by
  refine .foldl_snd (fun acc p => ?_) h
  dsimp only
  split
  · simp
  · split <;> simp

@[simp] theorem State.afterDescriptors_led (h : o.Leads t.core) {c k since f} (hf : ∀ (u : State), (f u).Led u.core) :
    (t.afterDescriptors c k since f).Led o := by
  simp [State.afterDescriptors, (hf t).of_leads h]

@[simp] theorem State.invalidateFor_led (h : o.Leads t.core) {e c k f} (hf : ∀ r d (u : State), (f r d u).Led u.core) :
    (t.invalidateFor e c k f).Led o := by
  unfold State.invalidateFor
  split
  · exact State.afterDescriptors_led h (hf _ _)
  · have hnow (a n : Nat) := t.invalidateNow_leads h (e := e) (c := c) (a := a) (n := n)
    simp [hnow, (hf _ _ _).of_leads (hnow _ _)]

@[simp] theorem cmdTlbInvalidate_led (h : o.Leads t.core) {c e k} : (cmdTlbInvalidate c e k t).Led o := by
  simp [cmdTlbInvalidate, h]

@[simp] theorem State.unpinRange_leads (h : o.Leads t.core) {e c key r} : o.Leads (t.unpinRange e c key r).core := by
  simp [State.unpinRange, h]

@[simp] theorem cmdBufUnpin_led (h : o.Leads t.core) {c e k} : (cmdBufUnpin c e k t).Led o := by
  unfold cmdBufUnpin
  dsimp only
  split
  · exact h
  · rw [CmdOut.led_ite]
    split
    · exact h
    · refine State.invalidateFor_led h fun _ _ u => ?_
      split
      next heq => exact State.unpinRange_leads (.of_snd_eq heq (by simp))
      next heq => exact .of_snd_eq heq (by simp)

@[simp] theorem cmdPageMigrate_led (h : o.Leads t.core) {c e k} : (cmdPageMigrate c e k t).Led o := by
  unfold cmdPageMigrate
  extract_lets id dir dva n since
  clear_value since
  split
  · exact h
  · split
    · exact h
    · extract_lets pages
      split
      · exact h
      · split
        · split
          · trivial
          · exact h
        · split
          · split
            next heq => exact State.translateAll_leads (.of_snd_eq heq (by simp [h]))
            next heq => exact .of_snd_eq heq (by simp [h])
          · split
            next heq => exact State.translateAll_leads (.of_snd_eq heq (by simp [h]))
            next heq => exact .of_snd_eq heq (by simp [h])

@[simp] theorem invalidateStop_leads (h : o.Leads t.core) {n} : o.Leads (invalidateStop n t).core := by
  unfold invalidateStop
  split <;> simp [h]

@[simp] theorem State.unpinAll_core {e c} : (t.unpinAll e c).core = t.core := by simp [State.unpinAll]

/-! ### Faults and their log -/

@[simp] theorem State.logRoom_core : t.logRoom.core = t.core := by simp [State.logRoom]

@[simp] theorem State.log_core {r} : (t.log r).core = t.core := by simp [State.log]

@[simp] theorem State.endInjection_core : t.endInjection.core = t.core := by simp [State.endInjection]

@[simp] theorem State.useInjection_core {det} : (t.useInjection det).core = t.core := by
  unfold State.useInjection
  repeat' split
  all_goals simp

@[simp] theorem State.logDet_core {id site sub run kind masked} : (t.logDet id site sub run kind masked).core = t.core := by
  simp [State.logDet]

@[simp] theorem State.armInjection_core {par} : (t.armInjection par).core = t.core := by simp [State.armInjection]

@[simp] theorem cmdFaultInject_led (h : o.Leads t.core) {k} : (cmdFaultInject k t).Led o := by
  unfold cmdFaultInject
  dsimp only
  repeat' split
  all_goals simp [h]

@[simp] theorem cmdFaultInjectClear_led (h : o.Leads t.core) {k} : (cmdFaultInjectClear k t).Led o := by
  unfold cmdFaultInjectClear
  dsimp only
  repeat' split
  all_goals simp [h]

@[simp] theorem cmdFaultLogRead_led (h : o.Leads t.core) {c e k} : (cmdFaultLogRead c e k t).Led o := by
  unfold cmdFaultLogRead
  dsimp only
  split
  · exact h
  · refine State.withDest_led h fun l u => ?_
    rw [CmdOut.led_okay]
    split <;> exact State.writeSegs_leads .refl

/-! ### Banks -/

@[simp] theorem State.releaseClaims_core {im} : (t.releaseClaims im).core = t.core := by simp [State.releaseClaims]

@[simp] theorem bankZeroDone_leads (h : o.Leads t.core) : o.Leads (bankZeroDone t).core := by simp [bankZeroDone, h]

@[simp] theorem sramScrub_core {la} : (sramScrub la t).core = t.core := by
  unfold sramScrub
  extract_lets b d w u
  have hu : u.core = t.core := by simp [u]
  split
  · rfl
  · split
    · exact hu
    · exact hu

/-! ### Plans -/

@[simp] theorem State.dropPlanWork_core {c h'} : (t.dropPlanWork c h').core = t.core := by simp [State.dropPlanWork]

@[simp] theorem State.endPairs_core {c h'} : (t.endPairs c h').core = t.core := by simp [State.endPairs]

@[simp] theorem State.endClaims_core {c h' p} : (t.endClaims c h' p).core = t.core := by simp [State.endClaims]

@[simp] theorem State.stopPlan_core {c h' p} : (t.stopPlan c h' p).core = t.core := by simp [State.stopPlan]

@[simp] theorem State.dropItems_core {c h'} : (t.dropItems c h').core = t.core := by simp [State.dropItems]

@[simp] theorem State.cutPlan_core {c h' p} : (t.cutPlan c h' p).core = t.core := by simp [State.cutPlan]

@[simp] theorem State.unloadToLoaded_core {c h' p} : (t.unloadToLoaded c h' p).core = t.core := by
  simp [State.unloadToLoaded]

@[simp] theorem State.resetPlans_core {c} : (t.resetPlans c).core = t.core := by simp [State.resetPlans]

@[simp] theorem planDrained_core {c h'} : (planDrained c h' t).core = t.core := by
  unfold planDrained
  split <;> simp

/-! ### Device resets -/

@[simp] theorem State.keepFlds_core {l} : (t.keepFlds s l).core = t.core := by simp [State.keepFlds]

@[simp] theorem State.keepRegs_core {l} : (t.keepRegs s l).core = t.core := by simp [State.keepRegs]

@[simp] theorem State.outlast_leads (h : o.Leads t.core) : o.Leads t.outlast.core :=
  h.of_mem rfl fun _ => Memory.wf_nil

@[simp] theorem State.keepAon_leads (h : o.Leads t.core) : o.Leads t.keepAon.core := by
  simp [State.keepAon, h]

@[simp] theorem State.setCause_core {cause det loop} : (t.setCause cause det loop).core = t.core := by simp [State.setCause]

@[simp] theorem State.bootFrom_core {stage} : (t.bootFrom stage).core = t.core := by simp [State.bootFrom]

@[simp] theorem State.powerReset_leads (h : o.Leads t.core) {brown} : o.Leads (t.powerReset brown).core := by
  simp [State.powerReset, h]

@[simp] theorem State.perstReset_leads (h : o.Leads t.core) : o.Leads t.perstReset.core := by simp [State.perstReset, h]

@[simp] theorem State.warmReset_leads (h : o.Leads t.core) {cause det} : o.Leads (t.warmReset cause det).core := by
  simp [State.warmReset, h]

@[simp] theorem powerOn_leads (h : o.Leads t.core) : o.Leads (powerOn t).core := by simp [powerOn, h]

@[simp] theorem aonBrownOut_leads (h : o.Leads t.core) : o.Leads (aonBrownOut t).core := by simp [aonBrownOut, h]

@[simp] theorem perstAssert_leads (h : o.Leads t.core) : o.Leads (perstAssert t).core := by simp [perstAssert, h]

@[simp] theorem perstDeassert_core : (perstDeassert t).core = t.core := by simp [perstDeassert]

@[simp] theorem warmDeviceReset_leads (h : o.Leads t.core) {cause det} : o.Leads (warmDeviceReset cause det t).core := by
  simp [warmDeviceReset, h]

@[simp] theorem pfFlr_leads (h : o.Leads t.core) : o.Leads (pfFlr t).core := by simp [pfFlr, h]

@[simp] theorem railReturn_core {rail} : (railReturn rail t).core = t.core := by simp [railReturn]

/-! ### Engines and spares -/

@[simp] theorem State.setRole_core {e n role logical} : (t.setRole e n role logical).core = t.core := by simp [State.setRole]

@[simp] theorem State.onDie_core {e f} : (t.onDie e f).core = t.core := by simp [State.onDie]

@[simp] theorem State.copyLa_leads (h : o.Leads t.core) {who src dst n} : o.Leads (t.copyLa who src dst n).core := by
  unfold State.copyLa
  extract_lets bad u m v
  have hu : o.Leads u.core := by simp [u, h]
  exact (hu.of_mem (u := { v with mem := m }) rfl (memMove_wf _ _ _))

@[simp] theorem State.copyEngine_leads (h : o.Leads t.core) {e n} : o.Leads (t.copyEngine e n).core := by
  simp [State.copyEngine, h]

@[simp] theorem State.scramble_leads (h : o.Leads t.core) {a n} : o.Leads (t.scramble a n).core := by
  simp [State.scramble, h]

@[simp] theorem State.rotationDue_core {e} : (t.rotationDue e).core = t.core := by simp [State.rotationDue]

@[simp] theorem rotationStepBegin_core {e} : (rotationStepBegin e t).core = t.core := by
  unfold rotationStepBegin
  split <;> simp

@[simp] theorem shadowCopyDone_leads (h : o.Leads t.core) {e} : o.Leads (shadowCopyDone e t).core := by
  unfold shadowCopyDone
  dsimp only
  repeat' split
  all_goals simp [h]

@[simp] theorem State.takeOver_leads (h : o.Leads t.core) {e n} : o.Leads (t.takeOver e n).core := by
  simp [State.takeOver, h]

@[simp] theorem spareSwap_leads (h : o.Leads t.core) {e} : o.Leads (spareSwap e t).core := by
  unfold spareSwap
  dsimp only
  repeat' split
  all_goals simp [h]

@[simp] theorem State.fence_core {e n} : (t.fence e n).core = t.core := by simp [State.fence]

@[simp] theorem State.abandonShadow_core {e n} : (t.abandonShadow e n).core = t.core := by simp [State.abandonShadow]

@[simp] theorem replacementBegin_core {e n} : (replacementBegin e n t).core = t.core := by simp [replacementBegin]

@[simp] theorem replacementSwap_leads (h : o.Leads t.core) {e} : o.Leads (replacementSwap e t).core := by
  unfold replacementSwap
  dsimp only
  repeat' split
  all_goals simp [h]

@[simp] theorem State.setBist_core {e n pass} : (t.setBist e n pass).core = t.core := by simp [State.setBist]

@[simp] theorem State.spareLost_core {e n} : (t.spareLost e n).core = t.core := by simp [State.spareLost]

@[simp] theorem State.endSelftest_leads (h : o.Leads t.core) {e n pass} : o.Leads (t.endSelftest e n pass).core := by
  unfold State.endSelftest
  split <;> simp [h]

@[simp] theorem engineSelftestDone_leads (h : o.Leads t.core) {e n pass} : o.Leads (engineSelftestDone e n pass t).core := by
  unfold engineSelftestDone
  repeat' split
  all_goals simp [h]

@[simp] theorem cmdSelftestRun_led (h : o.Leads t.core) {k} : (cmdSelftestRun k t).Led o := by
  unfold cmdSelftestRun
  dsimp only
  repeat' split
  all_goals simp [h]

@[simp] theorem State.unitTested_core {kind i pass} : (t.unitTested kind i pass).core = t.core := by simp [State.unitTested]

/-! ### Links of the Herd -/

@[simp] theorem State.onHerd_core {f} : (t.onHerd f).core = t.core := by simp [State.onHerd]

@[simp] theorem State.tell_core {l msg} : (t.tell l msg).core = t.core := by simp [State.tell]

@[simp] theorem State.tellAll_core {skip msg} : (t.tellAll skip msg).core = t.core := by simp [State.tellAll]

@[simp] theorem State.tellParent_core {msg} : (t.tellParent msg).core = t.core := by
  unfold State.tellParent
  split <;> simp

@[simp] theorem State.memberAbsent_core {m} : (t.memberAbsent m).core = t.core := by simp [State.memberAbsent]

@[simp] theorem State.drainHerd_core {k} : (t.drainHerd k).core = t.core := by simp [State.drainHerd]

@[simp] theorem State.floatOutputs_core {im} : (t.floatOutputs im).core = t.core := by simp [State.floatOutputs]

@[simp] theorem State.detach_core : t.detach.core = t.core := by simp [State.detach]

@[simp] theorem State.revokeFrom_core {gone} : (t.revokeFrom gone).core = t.core := by simp [State.revokeFrom]

@[simp] theorem State.depart_core : t.depart.core = t.core := by simp [State.depart]

@[simp] theorem State.timeLost_core : t.timeLost.core = t.core := by simp [State.timeLost]

@[simp] theorem State.memberDrop_core {m} : (t.memberDrop m).core = t.core := by simp [State.memberDrop]

@[simp] theorem State.linkLost_core {l} : (t.linkLost l).core = t.core := by simp [State.linkLost]

@[simp] theorem linkDown_core {l} : (linkDown l t).core = t.core := by simp [linkDown]

/-! ### Reactions to detectors -/

@[simp] theorem State.faultRun_core {run} : (t.faultRun run).core = t.core := by
  unfold State.faultRun
  split <;> simp

@[simp] theorem State.noteFire_core {unit run} : (t.noteFire unit run).2.core = t.core := by simp [State.noteFire]

@[simp] theorem State.declareFailed_core {id} : (t.declareFailed id).core = t.core := by simp [State.declareFailed]

@[simp] theorem State.countUnit_leads (h : o.Leads t.core) {id run} : o.Leads (t.countUnit id run).core := by
  unfold State.countUnit
  repeat' split
  all_goals simp [h]

@[simp] theorem State.deviceFault_leads (h : o.Leads t.core) {id site} : o.Leads (t.deviceFault id site).core := by
  simp [State.deviceFault, h]

@[simp] theorem State.tamperFault_leads (h : o.Leads t.core) {id} : o.Leads (t.tamperFault id).core := by
  simp [State.tamperFault, h]

@[simp] theorem State.holdDomains_core {st} : (t.holdDomains st).core = t.core := by simp [State.holdDomains]

@[simp] theorem State.tripFault_leads (h : o.Leads t.core) {site} : o.Leads (t.tripFault site).core := by
  simp [State.tripFault, h]

@[simp] theorem State.railBad_core {id site} : (t.railBad id site).core = t.core := by
  unfold State.railBad
  split <;> simp

@[simp] theorem State.engineFault_core {id} : (t.engineFault id).core = t.core := by simp [State.engineFault]

@[simp] theorem State.unitFault_leads (h : o.Leads t.core) {id} : o.Leads (t.unitFault id).core := by
  simp [State.unitFault, h]

@[simp] theorem State.ownFault_core {id site} : (t.ownFault id site).core = t.core := by simp [State.ownFault]

@[simp] theorem State.contextFault_core {id site} : (t.contextFault id site).core = t.core := by simp [State.contextFault]

@[simp] theorem State.laneFaulty_leads (h : o.Leads t.core) {id site} : o.Leads (t.laneFaulty id site).core := by
  simp [State.laneFaulty, h]

@[simp] theorem State.rotationFault_leads (h : o.Leads t.core) {id} : o.Leads (t.rotationFault id).core := by
  unfold State.rotationFault
  dsimp only
  repeat' split
  all_goals simp [h]

@[simp] theorem State.fireDetector_leads (h : o.Leads t.core) {id site} : o.Leads (t.fireDetector id site).core := by
  simp [State.fireDetector, h]

@[simp] theorem detectorFire_leads (h : o.Leads t.core) {id site} : o.Leads (detectorFire id site t).core := by
  simp [detectorFire, h]

@[simp] theorem tamper_leads (h : o.Leads t.core) {det} : o.Leads (tamper det t).core := by simp [tamper, h]

/-! ### Power domains -/

@[simp] theorem State.setDom_core {d z2} : (t.setDom d z2).core = t.core := by simp [State.setDom]

@[simp] theorem State.touchDom_core {d} : (t.touchDom d).core = t.core := by simp [State.touchDom]

@[simp] theorem State.accrue_core {d} : (t.accrue d).core = t.core := by simp [State.accrue]

@[simp] theorem State.showWaking_core : t.showWaking.core = t.core := by simp [State.showWaking]

@[simp] theorem State.dropRegs_core {a n} : (t.dropRegs a n).core = t.core := by simp [State.dropRegs]

@[simp] theorem State.loseSurface_core {lost} : (t.loseSurface lost).core = t.core := by simp [State.loseSurface]

@[simp] theorem State.loseBanks_leads (h : o.Leads t.core) {d lost} : o.Leads (t.loseBanks d lost).core := by
  simp [State.loseBanks, h]

@[simp] theorem State.loseLogic_core {d} : (t.loseLogic d).core = t.core := by simp [State.loseLogic]

@[simp] theorem State.loseContents_leads (h : o.Leads t.core) {d aim} : o.Leads (t.loseContents d aim).core := by
  simp [State.loseContents, h]

@[simp] theorem State.startEntry_core {d aim} : (t.startEntry d aim).core = t.core := by simp [State.startEntry]

@[simp] theorem State.startWake_core {d planned} : (t.startWake d planned).core = t.core := by simp [State.startWake]

@[simp] theorem State.callDom_core {d planned} : (t.callDom d planned).core = t.core := by simp [State.callDom]

@[simp] theorem State.demand_core {d} : (t.demand d).core = t.core := by simp [State.demand]

@[simp] theorem State.endWaits_leads (h : o.Leads t.core) {d status} : o.Leads (t.endWaits d status).core := by
  simp [State.endWaits, h]

@[simp] theorem State.noteRefusal_core {d reason} : (t.noteRefusal d reason).core = t.core := by simp [State.noteRefusal]

@[simp] theorem State.endGroup_leads (h : o.Leads t.core) {g} : o.Leads (t.endGroup g).core := by
  unfold State.endGroup
  split <;> simp [h]

@[simp] theorem State.rollGroup_leads (h : o.Leads t.core) {g l} : o.Leads (t.rollGroup g l).core := by
  induction l generalizing g with
  | nil => exact State.endGroup_leads h
  | cons d l ih =>
    unfold State.rollGroup
    split
    · exact ih
    · simp [h]

@[simp] theorem State.refuseGroup_leads (h : o.Leads t.core) {g d reason} : o.Leads (t.refuseGroup g d reason).core := by
  simp [State.refuseGroup, h]

@[simp] theorem State.askGroup_leads (h : o.Leads t.core) {g l} : o.Leads (t.askGroup g l).core := by
  induction l generalizing g with
  | nil => exact State.endGroup_leads h
  | cons d l ih =>
    unfold State.askGroup
    simp [h, ih]

@[simp] theorem State.groupStep_leads (h : o.Leads t.core) : o.Leads t.groupStep.core := by
  unfold State.groupStep
  repeat' split
  all_goals simp [h]

@[simp] theorem State.groupMoved_leads (h : o.Leads t.core) {d} : o.Leads (t.groupMoved d).core := by
  unfold State.groupMoved
  split
  · exact h
  · split
    · exact h
    · split <;> exact State.groupStep_leads h

@[simp] theorem domainIdleTimeout_core {d} : (domainIdleTimeout d t).core = t.core := by simp [domainIdleTimeout]

@[simp] theorem domainEntryDone_leads (h : o.Leads t.core) {d} : o.Leads (domainEntryDone d t).core := by
  simp [domainEntryDone, h]

@[simp] theorem domainDemand_core {d} : (domainDemand d t).core = t.core := by simp [domainDemand]

@[simp] theorem domainWakeDone_core {d} : (domainWakeDone d t).core = t.core := by simp [domainWakeDone]

@[simp] theorem State.endWake_core {d} : (t.endWake d).core = t.core := by simp [State.endWake]

@[simp] theorem clkSwitchDone_leads (h : o.Leads t.core) {d} : o.Leads (clkSwitchDone d t).core := by
  unfold clkSwitchDone
  dsimp only
  repeat' split
  all_goals simp [h]

@[simp] theorem clkSwitchFail_leads (h : o.Leads t.core) {d} : o.Leads (clkSwitchFail d t).core := by
  unfold clkSwitchFail
  dsimp only
  repeat' split
  all_goals simp [h]

@[simp] theorem State.windowBeat_core {p k d} : (t.windowBeat p k d).core = t.core := by
  unfold State.windowBeat
  split <;> simp

@[simp] theorem State.windowsBeat_core : t.windowsBeat.core = t.core := by
  have hclaims (u : State) (p : Nat × Nat × Plan) : ((p.2.2.img.claims.filter (fun k => k.kind == 15)).foldl (fun s k =>
      (rangeFrom k.first k.count).foldl (fun s d => s.windowBeat p.2.2 k d) s) u).core = u.core := by simp
  simp [State.windowsBeat, hclaims]

@[simp] theorem State.idleBeat_core : t.idleBeat.core = t.core := by simp [State.idleBeat]

@[simp] theorem State.wakeClaimed_core {im} : (t.wakeClaimed im).core = t.core := by simp [State.wakeClaimed]

@[simp] theorem State.wakeEngines_core {e} : (t.wakeEngines e).core = t.core := by simp [State.wakeEngines]

@[simp] theorem cmdPwrSet_led (h : o.Leads t.core) {k} : (cmdPwrSet k t).Led o := by simp [cmdPwrSet, h]

@[simp] theorem cmdPwrWake_led (h : o.Leads t.core) {k} : (cmdPwrWake k t).Led o := by
  unfold cmdPwrWake
  dsimp only
  repeat' split
  all_goals simp [h]

@[simp] theorem cmdPwrAon_led (h : o.Leads t.core) {k} : (cmdPwrAon k t).Led o := by simp [cmdPwrAon, h]

@[simp] theorem cmdGroupSleep_led (h : o.Leads t.core) {c q k} : (cmdGroupSleep c q k t).Led o := by simp [cmdGroupSleep, h]

@[simp] theorem State.abortGroup_core {seq} : (t.abortGroup seq).core = t.core := by
  unfold State.abortGroup
  split <;> simp

@[simp] theorem glbDomrst_core {d key} : (glbDomrst d key t).core = t.core := by simp [glbDomrst]

@[simp] theorem domainResetDone_core : (domainResetDone t).core = t.core := by simp [domainResetDone]

@[simp] theorem State.served_core {k} : (t.served k).core = t.core := by simp [State.served]

@[simp] theorem State.runNeeding_leads (h : o.Leads t.core) {c q op sel body} (hb : ∀ k (u : State), (body k u).Led u.core) :
    o.Leads (t.runNeeding c q op sel body).core := by
  have hrun := t.runCmd_leads h hb (c := c) (q := q) (op := op) (sel := sel)
  unfold State.runNeeding
  split
  · exact h
  · simp [h, hrun]

/-! ### The Herd -/

@[simp] theorem State.tellChanges_core : t.tellChanges.core = t.core := by simp [State.tellChanges]

@[simp] theorem State.showSelf_core : t.showSelf.core = t.core := by simp [State.showSelf]

@[simp] theorem State.sendTime_core : t.sendTime.core = t.core := by simp [State.sendTime]

@[simp] theorem State.timeBeat_core : t.timeBeat.core = t.core := by simp [State.timeBeat]

@[simp] theorem State.placeTime_core {theta} : (t.placeTime theta).core = t.core := by simp [State.placeTime]

@[simp] theorem State.stepTime_core {d} : (t.stepTime d).core = t.core := by simp [State.stepTime]

@[simp] theorem State.failJoin_leads (h : o.Leads t.core) {status} : o.Leads (t.failJoin status).core := by
  unfold State.failJoin
  split <;> simp [h]

@[simp] theorem State.train_core {l} : (t.train l).core = t.core := by simp [State.train]

@[simp] theorem State.trainLinks_core {mask} : (t.trainLinks mask).core = t.core := by simp [State.trainLinks]

@[simp] theorem State.becomeMember_leads (h : o.Leads t.core) {q k z3 theta} : o.Leads (t.becomeMember q k z3 theta).core := by
  simp [State.becomeMember, h]

@[simp] theorem State.joinStep_leads (h : o.Leads t.core) : o.Leads t.joinStep.core := by
  unfold State.joinStep
  repeat' split
  all_goals simp [h]

@[simp] theorem State.exchangeDone_leads (h : o.Leads t.core) {theta} : o.Leads (t.exchangeDone theta).core := by
  simp [State.exchangeDone, h]

@[simp] theorem State.passOn_core {l msg} : (t.passOn l msg).core = t.core := by simp [State.passOn]

@[simp] theorem State.heardMember_core {z1 present} : (t.heardMember z1 present).core = t.core := by simp [State.heardMember]

@[simp] theorem State.heardHwm_core {k hwm} : (t.heardHwm k hwm).core = t.core := by simp [State.heardHwm]

@[simp] theorem State.logUndelivered_core {id home dest cls result t'} :
    (t.logUndelivered id home dest cls result t').core = t.core := by
  simp [State.logUndelivered]

@[simp] theorem State.undelivered_core {home f} : (t.undelivered home f).core = t.core := by simp [State.undelivered]

@[simp] theorem State.leaveBeat_core : t.leaveBeat.core = t.core := by
  unfold State.leaveBeat
  split <;> simp

@[simp] theorem State.leaversBeat_core : t.leaversBeat.core = t.core := by simp [State.leaversBeat]

@[simp] theorem State.memberLeft_core {m} : (t.memberLeft m).core = t.core := by simp [State.memberLeft]

@[simp] theorem State.control_leads (h : o.Leads t.core) {l msg} : o.Leads (t.control l msg).core := by
  unfold State.control
  repeat' split
  all_goals simp [h]

@[simp] theorem State.timeFlit_core {l body} : (t.timeFlit l body).core = t.core := by
  unfold State.timeFlit
  split <;> simp

@[simp] theorem State.windowWrite_leads (h : o.Leads t.core) {l w off d planned} :
    o.Leads (t.windowWrite l w off d planned).core := by
  unfold State.windowWrite
  split <;> simp [h]

@[simp] theorem State.windowRead_core {e l w off n} : (t.windowRead e l w off n).core = t.core := by simp [State.windowRead]

@[simp] theorem State.ack_core {l seq} : (t.ack l seq).core = t.core := by simp [State.ack]

@[simp] theorem State.takeFlit_leads (h : o.Leads t.core) {l typ e body} : o.Leads (t.takeFlit l typ e body).core := by
  unfold State.takeFlit
  repeat' split
  all_goals simp [h]

@[simp] theorem flitReceive_leads (h : o.Leads t.core) {l f e} : o.Leads (flitReceive l f e t).core := by
  unfold flitReceive
  split <;> simp [h]

@[simp] theorem State.loseFlit_core {z1} : (t.loseFlit z1).core = t.core := by simp [State.loseFlit]

@[simp] theorem flitLost_core {l slot} : (flitLost l slot t).core = t.core := by
  unfold flitLost
  split <;> simp

@[simp] theorem flitReplay_leads (h : o.Leads t.core) {l id} : o.Leads (flitReplay l id t).core := by
  unfold flitReplay
  split <;> simp [h]

@[simp] theorem resultUndelivered_core {id dev} : (resultUndelivered id dev t).core = t.core := by
  unfold resultUndelivered
  split <;> simp

@[simp] theorem State.forward_core {f pos} : (t.forward f pos).core = t.core := by
  unfold State.forward
  split <;> simp

@[simp] theorem State.sendPlanned_core {l slot beat w off d run} : (t.sendPlanned l slot beat w off d run).core = t.core := by
  simp [State.sendPlanned]

@[simp] theorem State.sendParts_core {a r bytes parts} : (t.sendParts a r bytes parts).core = t.core := by
  simp [State.sendParts]

@[simp] theorem herdXfer_core {r} : (herdXfer r t).core = t.core := by
  unfold herdXfer
  repeat' split
  all_goals simp

@[simp] theorem State.setWidth_core {l w} : (t.setWidth l w).core = t.core := by simp [State.setWidth]

@[simp] theorem State.linkShort_core {l} : (t.linkShort l).core = t.core := by simp [State.linkShort]

@[simp] theorem laneFault_core {l lane} : (laneFault l lane t).core = t.core := by simp [laneFault]

@[simp] theorem State.linksBeat_core : t.linksBeat.core = t.core := by simp [State.linksBeat]

@[simp] theorem linkTrained_leads (h : o.Leads t.core) {l lanes peer peerLink} :
    o.Leads (linkTrained l lanes peer peerLink t).core := by
  unfold linkTrained
  dsimp only
  repeat' split
  all_goals simp [h]

@[simp] theorem linkTrainingTimeout_core {l} : (linkTrainingTimeout l t).core = t.core := by
  unfold linkTrainingTimeout
  split <;> simp

@[simp] theorem hrdLinkRetrain_core {l} : (hrdLinkRetrain l t).core = t.core := by simp [hrdLinkRetrain]

@[simp] theorem syncOutPulse_core : (syncOutPulse t).core = t.core := by simp [syncOutPulse]

@[simp] theorem State.markerEdge_core : t.markerEdge.core = t.core := by simp [State.markerEdge]

@[simp] theorem cmdHerdJoin_led (h : o.Leads t.core) {k} : (cmdHerdJoin k t).Led o := by
  unfold cmdHerdJoin
  split <;> simp [h]

@[simp] theorem cmdHerdFound_led (h : o.Leads t.core) {k} : (cmdHerdFound k t).Led o := by
  unfold cmdHerdFound
  split <;> simp [h]

@[simp] theorem cmdHerdEpoch_led (h : o.Leads t.core) {k} : (cmdHerdEpoch k t).Led o := by
  unfold cmdHerdEpoch
  split <;> simp [h]

@[simp] theorem cmdHerdLeave_led (h : o.Leads t.core) : (cmdHerdLeave t).Led o := by simp [cmdHerdLeave, h]

@[simp] theorem State.endLeave_leads (h : o.Leads t.core) : o.Leads t.endLeave.core := by simp [State.endLeave, h]

@[simp] theorem herdLeaveDone_leads (h : o.Leads t.core) : o.Leads (herdLeaveDone t).core := by simp [herdLeaveDone, h]

@[simp] theorem cmdHerdStatus_led (h : o.Leads t.core) {c e k} : (cmdHerdStatus c e k t).Led o := by simp [cmdHerdStatus, h]

@[simp] theorem State.tellWindow_core {mask w len rights planned} : (t.tellWindow mask w len rights planned).core = t.core := by
  simp [State.tellWindow]

@[simp] theorem cmdWindowExport_led (h : o.Leads t.core) {c k} : (cmdWindowExport c k t).Led o := by
  unfold cmdWindowExport
  dsimp only
  repeat' split
  all_goals simp [h]

@[simp] theorem cmdWindowWithdraw_led (h : o.Leads t.core) {c k} : (cmdWindowWithdraw c k t).Led o := by
  unfold cmdWindowWithdraw
  dsimp only
  repeat' split
  all_goals simp [h]

/-! ### Keys and firmware -/

@[simp] theorem State.flashWrite_leads (h : o.Leads t.core) {a d} : o.Leads (t.flashWrite a d).core :=
  h.of_flash rfl (memPuts_wf _ _)

@[simp] theorem State.flashErase_leads (h : o.Leads t.core) {a n} : o.Leads (t.flashErase a n).core :=
  h.of_flash rfl (memClear_wf _ _)

@[simp] theorem State.writeMarker_leads (h : o.Leads t.core) {slot} : o.Leads (t.writeMarker slot).core := by
  simp [State.writeMarker, h]

@[simp] theorem State.showRecord_core : t.showRecord.core = t.core := by simp [State.showRecord]

@[simp] theorem State.newRecord_leads (h : o.Leads t.core) {active trial attempts} :
    o.Leads (t.newRecord active trial attempts).core := by
  simp [State.newRecord, h]

@[simp] theorem State.runSlot_core {slot} : (t.runSlot slot).core = t.core := by simp [State.runSlot]

@[simp] theorem State.fallBack_core : t.fallBack.core = t.core := by simp [State.fallBack]

@[simp] theorem State.bootRom_leads (h : o.Leads t.core) : o.Leads t.bootRom.2.core := by
  unfold State.bootRom
  dsimp only
  repeat' split
  all_goals simp [h]

@[simp] theorem cmdFwDownload_led (h : o.Leads t.core) {c e k} : (cmdFwDownload c e k t).Led o := by
  have hwrite (b : Bytes) (u : State) : CmdOut.Led u.core
      (let u := if bit (pf k.par 24 1) 0 then u.flashErase (slotAt t.inactiveSlot) 0x800000
        else u.flashErase (markerAt t.inactiveSlot) 4096
       okay (u.flashWrite (slotAt t.inactiveSlot + pf k.par 16 4) b)) := by
    refine State.flashWrite_leads ?_
    split <;> simp
  simp [cmdFwDownload, h, hwrite]

@[simp] theorem cmdFwVerify_led (h : o.Leads t.core) : (cmdFwVerify t).Led o := by
  unfold cmdFwVerify
  dsimp only
  repeat' split
  all_goals simp [h]

@[simp] theorem cmdFwActivate_led (h : o.Leads t.core) {k} : (cmdFwActivate k t).Led o := by
  unfold cmdFwActivate
  dsimp only
  repeat' split
  all_goals simp [h]

@[simp] theorem cmdFwConfirm_led (h : o.Leads t.core) : (cmdFwConfirm t).Led o := by
  unfold cmdFwConfirm
  dsimp only
  split
  · exact h
  · split
    · exact h
    · exact (t.newRecord_leads h).of_svn rfl

@[simp] theorem State.setRegBytes_core {r n b} : (t.setRegBytes r n b).core = t.core := by simp [State.setRegBytes]

@[simp] theorem State.keyDone_core {result} : (t.keyDone result).core = t.core := by simp [State.keyDone]

@[simp] theorem ksuKeyLoad_core {slot} : (ksuKeyLoad slot t).core = t.core := by
  unfold ksuKeyLoad
  dsimp only
  repeat' split
  all_goals simp

@[simp] theorem ksuKeyClear_core {slot} : (ksuKeyClear slot t).core = t.core := by simp [ksuKeyClear]

@[simp] theorem ksuKeyWrap_core {slot} : (ksuKeyWrap slot t).core = t.core := by simp [ksuKeyWrap]

@[simp] theorem State.newNonce_core : t.newNonce.core = t.core := by simp [State.newNonce]

@[simp] theorem ksuDbgUnlock_leads (h : o.Leads t.core) {keysel} : o.Leads (ksuDbgUnlock keysel t).core := by
  unfold ksuDbgUnlock
  dsimp only
  repeat' split
  all_goals simp [h]

@[simp] theorem ksuRevoke_leads (h : o.Leads t.core) {v} : o.Leads (ksuRevoke v t).core := by
  unfold ksuRevoke
  dsimp only
  split
  · exact h
  · split
    · exact h
    · exact h.of_rootRev rfl

@[simp] theorem ksuProvLock_leads (h : o.Leads t.core) {v} : o.Leads (ksuProvLock v t).core := by
  unfold ksuProvLock
  split
  · exact h.of_provLock rfl
  · exact h

@[simp] theorem State.storeModel_leads (h : o.Leads t.core) {c id enc b ls blocks} :
    o.Leads (t.storeModel c id enc b ls blocks).core := by
  unfold State.storeModel
  split <;> simp [h]

@[simp] theorem cmdModelLoad_led (h : o.Leads t.core) {c e k} : (cmdModelLoad c e k t).Led o := by
  unfold cmdModelLoad
  dsimp only
  split
  · exact h
  · refine State.withRead_led h fun b u => ?_
    split
    · simp
    · split
      · simp
      · split
        · simp
        · split <;> simp

@[simp] theorem cmdModelEvict_led (h : o.Leads t.core) {c k} : (cmdModelEvict c k t).Led o := by
  unfold cmdModelEvict
  dsimp only
  repeat' split
  all_goals simp [h]

@[simp] theorem cmdModelList_led (h : o.Leads t.core) {c e k} : (cmdModelList c e k t).Led o := by simp [cmdModelList, h]

/-! ### The boot -/

@[simp] theorem State.enableCtx_core {c} : (t.enableCtx c).core = t.core := by simp [State.enableCtx]

@[simp] theorem State.bootError_core {code} : (t.bootError code).core = t.core := by simp [State.bootError]

@[simp] theorem State.nextStage_core : t.nextStage.core = t.core := by simp [State.nextStage]

@[simp] theorem State.bootClocks_core : t.bootClocks.core = t.core := by simp [State.bootClocks]

@[simp] theorem State.bootZero_core : t.bootZero.core = t.core := by simp [State.bootZero]

@[simp] theorem State.bootRomStage_leads (h : o.Leads t.core) : o.Leads t.bootRomStage.core := by
  simp [State.bootRomStage, h]

@[simp] theorem State.bootFirmware_leads (h : o.Leads t.core) {failed} : o.Leads (t.bootFirmware failed).core := by
  unfold State.bootFirmware
  dsimp only
  repeat' split
  all_goals simp [h]

@[simp] theorem State.bootDram_core {size mts} : (t.bootDram size mts).core = t.core := by simp [State.bootDram]

@[simp] theorem State.bootEngines_core {e mask} : (t.bootEngines e mask).core = t.core := by
  unfold State.bootEngines
  dsimp only
  repeat' split
  all_goals simp

@[simp] theorem State.bootUnits_core {kind n mask} : (t.bootUnits kind n mask).core = t.core := by simp [State.bootUnits]

@[simp] theorem State.bootTests_core {m} : (t.bootTests m).core = t.core := by simp [State.bootTests]

@[simp] theorem State.bootFinal_leads (h : o.Leads t.core) : o.Leads t.bootFinal.core := by
  unfold State.bootFinal
  extract_lets u v w
  have hu : o.Leads u.core := by
    unfold u
    split
    · split
      · exact h
      · exact h.of_svn rfl
    · exact h
  simp [w, v, hu]

@[simp] theorem bootStageDone_leads (h : o.Leads t.core) {b} : o.Leads (bootStageDone b t).core := by
  unfold bootStageDone
  repeat' split
  all_goals simp [h]

@[simp] theorem thermalSample_leads (h : o.Leads t.core) {t'} : o.Leads (thermalSample t' t).core := by
  unfold thermalSample
  repeat' split
  all_goals simp [h]

@[simp] theorem thermHoldEnd_core : (thermHoldEnd t).core = t.core := by
  unfold thermHoldEnd
  split <;> simp

/-! ### Plan commands -/

@[simp] theorem cmdPlanLoad_led (h : o.Leads t.core) {c e k} : (cmdPlanLoad c e k t).Led o := by
  unfold cmdPlanLoad
  dsimp only
  split
  · exact h
  · refine State.withRead_led h fun b u => ?_
    split
    · simp
    · split <;> simp

@[simp] theorem State.readProgs_core {e c im recs} : (t.readProgs e c im recs).2.core = t.core := by
  refine State.core_foldl_snd fun acc i => ?_
  split
  · split
    · split <;> simp
    · rfl
  · rfl

@[simp] theorem State.admission_core {e c mate p} : (t.admission e c mate p).2.core = t.core := by
  unfold State.admission
  dsimp only
  repeat' split
  all_goals simp

@[simp] theorem cmdPlanAdmit_led (h : o.Leads t.core) {c e k} : (cmdPlanAdmit c e k t).Led o := by
  unfold cmdPlanAdmit
  dsimp only
  split
  · exact h
  · split
    · exact h
    next p _ =>
      have hadm := t.admission_core (e := e) (c := c) (mate := admitMate k.par) (p := p)
      split
      · exact h
      · split <;> simp_all

@[simp] theorem State.armPlan_leads (h : o.Leads t.core) {e c h' p anchor start swap} :
    o.Leads (t.armPlan e c h' p anchor start swap).core := by
  simp [State.armPlan, h]

@[simp] theorem State.armFrom_led (h : o.Leads t.core) {e c h' p req} : (t.armFrom e c h' p req).Led o := by
  unfold State.armFrom
  dsimp only
  repeat' split
  all_goals simp [h]

@[simp] theorem State.armSwap_led (h : o.Leads t.core) {e c h' p old req} : (t.armSwap e c h' p old req).Led o := by
  unfold State.armSwap
  dsimp only
  repeat' split
  all_goals simp [h]

@[simp] theorem State.armMember_led (h : o.Leads t.core) {e c h' p mode req} : (t.armMember e c h' p mode req).Led o := by
  unfold State.armMember
  dsimp only
  repeat' split
  all_goals simp [h]

@[simp] theorem cmdPlanArm_led (h : o.Leads t.core) {c e k} : (cmdPlanArm c e k t).Led o := by
  unfold cmdPlanArm
  dsimp only
  repeat' split
  all_goals simp [h]

@[simp] theorem cmdPlanStop_led (h : o.Leads t.core) {c k} : (cmdPlanStop c k t).Led o := by
  unfold cmdPlanStop
  dsimp only
  repeat' split
  all_goals simp [h]

@[simp] theorem State.drainPlan_core {c h' k cancel} : (t.drainPlan c h' k cancel).core = t.core := by simp [State.drainPlan]

@[simp] theorem cmdPlanUnload_led (h : o.Leads t.core) {c k} : (cmdPlanUnload c k t).Led o := by
  unfold cmdPlanUnload
  dsimp only
  repeat' split
  all_goals simp [h]

@[simp] theorem cmdPlanStatus_led (h : o.Leads t.core) {c e k} : (cmdPlanStatus c e k t).Led o := by simp [cmdPlanStatus, h]

/-! ### Context resets -/

@[simp] theorem State.undoWait_leads (h : o.Leads t.core) {k} : o.Leads (t.undoWait k).core := by
  unfold State.undoWait
  split <;> simp [h]

@[simp] theorem State.abortCmd_leads (h : o.Leads t.core) {c q k} : o.Leads (t.abortCmd c q k).core := by
  simp [State.abortCmd, h]

@[simp] theorem State.resetQueue_leads (h : o.Leads t.core) {c q spare} : o.Leads (t.resetQueue c q spare).2.core := by
  unfold State.resetQueue
  repeat' split
  all_goals simp [h]

@[simp] theorem State.resetWork_leads (h : o.Leads t.core) {c say} : o.Leads (t.resetWork c say).core := by
  simp [State.resetWork, h]

@[simp] theorem State.resetCtx_leads (h : o.Leads t.core) {c spare} : o.Leads (t.resetCtx c spare).2.core :=
  State.resetWork_leads (.foldl_snd (fun acc x => by simp) (by simp [h]))

@[simp] theorem State.destroyQueue_leads (h : o.Leads t.core) {c q} : o.Leads (t.destroyQueue c q).core := by
  simp [State.destroyQueue, h]

@[simp] theorem State.settleCmd_leads (h : o.Leads t.core) {c q k} : o.Leads (t.settleCmd c q k).core := by
  unfold State.settleCmd
  dsimp only
  repeat' split
  all_goals simp [h]

@[simp] theorem State.settleRecovery_core {c det} : (t.settleRecovery c det).core = t.core := by simp [State.settleRecovery]

@[simp] theorem State.settle_leads (h : o.Leads t.core) : o.Leads t.settle.core := by simp [State.settle, h]

@[simp] theorem cmdCtxReset_led (h : o.Leads t.core) {c q k} : (cmdCtxReset c q k t).Led o := by
  unfold cmdCtxReset
  dsimp only
  repeat' split
  all_goals simp [h]

@[simp] theorem contextRecovery_leads (h : o.Leads t.core) {c det} : o.Leads (contextRecovery c det t).core := by
  unfold contextRecovery
  split <;> simp [h]

@[simp] theorem State.dropCaptures_core {c} : (t.dropCaptures c).core = t.core := by simp [State.dropCaptures]

@[simp] theorem State.clearCtxRegs_core {c} : (t.clearCtxRegs c).core = t.core := by simp [State.clearCtxRegs]

@[simp] theorem State.disableCtx_leads (h : o.Leads t.core) {e c} : o.Leads (t.disableCtx e c).core := by
  unfold State.disableCtx
  split
  · exact h
  · extract_lets u v w x y z
    have hv : o.Leads v.core := by
      have hu : o.Leads u.core := by simp [u, h]
      simp [v, hu]
    have hz : z.core = v.core := by simp [z, y, x, w]
    exact State.settle_leads (by simp [hz, hv])

@[simp] theorem vfFlr_leads (h : o.Leads t.core) {n e} : o.Leads (vfFlr n e t).core := by simp [vfFlr, h]

@[simp] theorem vfEnableSet_core {num} : (vfEnableSet num t).core = t.core := by simp [vfEnableSet]

@[simp] theorem vfEnableClear_leads (h : o.Leads t.core) {e} : o.Leads (vfEnableClear e t).core := by simp [vfEnableClear, h]

/-! ### Commands of the queues -/

@[simp] theorem State.fetch_core {e c q idx} : (t.fetch e c q idx).core = t.core := by
  unfold State.fetch
  split
  · rfl
  · exact (State.onQueue_core ..).trans State.readSegs_core

@[simp] theorem State.takeTail_core {e c q z4 tail} : (t.takeTail e c q z4 tail).core = t.core := by simp [State.takeTail]

@[simp] theorem State.takeRing_leads (h : o.Leads t.core) {e c q z4 tail} : o.Leads (t.takeRing e c q z4 tail).core := by
  simp [State.takeRing, h]

@[simp] theorem fnSqdb_leads (h : o.Leads t.core) {c q tail e} : o.Leads (fnSqdb c q tail e t).core := by
  unfold fnSqdb
  dsimp only
  repeat' split
  all_goals simp [h]

@[simp] theorem fnCqdb_leads (h : o.Leads t.core) {c q head} : o.Leads (fnCqdb c q head t).core := by
  unfold fnCqdb
  repeat' split
  all_goals simp [h]

@[simp] theorem fnQ0Ctrl_core {c v} : (fnQ0Ctrl c v t).core = t.core := by
  unfold fnQ0Ctrl
  dsimp only
  repeat' split
  all_goals simp

@[simp] theorem replyWriteResponse_leads (h : o.Leads t.core) {c q} : o.Leads (replyWriteResponse c q t).core := by
  unfold replyWriteResponse
  dsimp only
  repeat' split
  all_goals simp [h]

@[simp] theorem commandTimeout_leads (h : o.Leads t.core) {c q} : o.Leads (commandTimeout c q t).core := by
  unfold commandTimeout
  split <;> simp [h]

@[simp] theorem cqCoalesceTimeout_core {c q} : (cqCoalesceTimeout c q t).core = t.core := by
  unfold cqCoalesceTimeout
  split <;> simp

@[simp] theorem cmdNop_led (h : o.Leads t.core) : (cmdNop t).Led o := by simp [cmdNop, h]

@[simp] theorem cmdEcho_led (h : o.Leads t.core) {k} : (cmdEcho k t).Led o := by simp [cmdEcho, h]

@[simp] theorem cmdQueryDevice_led (h : o.Leads t.core) {c k} : (cmdQueryDevice c k t).Led o := by
  unfold cmdQueryDevice
  split <;> simp [h]

@[simp] theorem cmdRingCreate_led (h : o.Leads t.core) {c k} : (cmdRingCreate c k t).Led o := by
  unfold cmdRingCreate
  dsimp only
  repeat' split
  all_goals simp [h]

@[simp] theorem cmdRingDestroy_led (h : o.Leads t.core) {c q k} : (cmdRingDestroy c q k t).Led o := by
  unfold cmdRingDestroy
  dsimp only
  repeat' split
  all_goals simp [h]

@[simp] theorem cmdAbort_led (h : o.Leads t.core) {c q k} : (cmdAbort c q k t).Led o := by
  unfold cmdAbort
  dsimp only
  repeat' split
  all_goals simp [h]

/-! ### Items -/

@[simp] theorem State.dropEntries_core {c} : (t.dropEntries c).core = t.core := by simp [State.dropEntries]

@[simp] theorem State.countNoSlot_core {c h' z3} : (t.countNoSlot c h' z3).core = t.core := by
  unfold State.countNoSlot
  split <;> simp

@[simp] theorem State.createItem_core {c h' p z4} : (t.createItem c h' p z4).core = t.core := by
  unfold State.createItem
  dsimp only
  repeat' split
  all_goals simp

@[simp] theorem itemCreate_core {c} : (itemCreate c t).core = t.core := by
  unfold itemCreate
  dsimp only
  repeat' split
  all_goals simp

@[simp] theorem State.sourceRead_core {e p i op off n} : (t.sourceRead e p i op off n).2.core = t.core := by
  unfold State.sourceRead
  split <;> simp

@[simp] theorem State.compose_core {e p i v} : (t.compose e p i v).core = t.core := by simp [State.compose]

@[simp] theorem State.composeItem_core {e p i} : (t.composeItem e p i).core = t.core := by
  unfold State.composeItem
  repeat' split
  all_goals simp

@[simp] theorem verdictCompose_core {c id e} : (verdictCompose c id e t).core = t.core := by
  unfold verdictCompose
  repeat' split
  all_goals simp

@[simp] theorem State.writeVerdict_leads (h : o.Leads t.core) {i p} : o.Leads (t.writeVerdict i p).core := by
  unfold State.writeVerdict
  dsimp only
  repeat' split
  all_goals simp [h]

@[simp] theorem State.countVerdict_core {i} : (t.countVerdict i).core = t.core := by simp [State.countVerdict]

@[simp] theorem State.evalRejects_core {c h' enc cls res pos l} : (t.evalRejects c h' enc cls res pos l).core = t.core := by
  simp [State.evalRejects]

@[simp] theorem State.issueVerdict_leads (h : o.Leads t.core) {i p} : o.Leads (t.issueVerdict i p).core := by
  simp [State.issueVerdict, h]

@[simp] theorem itemVerdict_leads (h : o.Leads t.core) {c id e} : o.Leads (itemVerdict c id e t).core := by
  unfold itemVerdict
  dsimp only
  repeat' split
  all_goals simp [h]

@[simp] theorem State.evalForwarded_core {cls res pos} : (t.evalForwarded cls res pos).core = t.core := by
  unfold State.evalForwarded
  split <;> simp

@[simp] theorem State.inboxBeat_core : t.inboxBeat.core = t.core := by simp [State.inboxBeat]

/-! ### Beats and ticks -/

@[simp] theorem State.endUnitTest_core {k} : (t.endUnitTest k).2.core = t.core := by simp [State.endUnitTest]

@[simp] theorem State.timedChange_core {c n k} : (t.timedChange c n k).2.core = t.core := by
  unfold State.timedChange
  split <;> simp

@[simp] theorem State.endTimed_leads (h : o.Leads t.core) {g n k} : o.Leads (t.endTimed g n k).core := by
  simp [State.endTimed, h]

@[simp] theorem State.timedCommands_leads (h : o.Leads t.core) : o.Leads t.timedCommands.core := by
  refine .foldl (fun u x => ?_) h
  split <;> simp

@[simp] theorem State.tickWork_leads (h : o.Leads t.core) : o.Leads t.tickWork.core := by simp [State.tickWork, h]

@[simp] theorem idle_leads (h : o.Leads t.core) : o.Leads (idle t).core := by
  unfold idle
  dsimp only
  repeat' split
  all_goals simp [h]

@[simp] theorem State.startPlan_core {c h' p} : (t.startPlan c h' p).core = t.core := by
  unfold State.startPlan
  dsimp only
  repeat' split
  all_goals simp

@[simp] theorem State.startPlans_core : t.startPlans.core = t.core := by simp [State.startPlans]

@[simp] theorem State.swapWithout_core : t.swapWithout.core = t.core := by
  unfold State.swapWithout
  split <;> simp

@[simp] theorem State.tellHwm_core {started} : (t.tellHwm started).core = t.core := by
  unfold State.tellHwm
  repeat' split
  all_goals simp

@[simp] theorem State.herdBeat_leads (h : o.Leads t.core) {started} : o.Leads (t.herdBeat started).core := by
  simp [State.herdBeat, h]

@[simp] theorem State.unitsBeat_core {energy} : (t.unitsBeat energy).core = t.core := by simp [State.unitsBeat]

@[simp] theorem State.powerBeat_leads (h : o.Leads t.core) : o.Leads t.powerBeat.core := by simp [State.powerBeat, h]

@[simp] theorem State.dropEarly_core : t.dropEarly.core = t.core := by simp [State.dropEarly]

@[simp] theorem State.beatWork_leads (h : o.Leads t.core) {e} : o.Leads (t.beatWork e).core := by
  have htick : o.Leads t.dropEarly.tickWork.core := by simp [h]
  exact State.settle_leads (by simp [htick])

@[simp] theorem State.compareTimes_leads (h : o.Leads t.core) {dies} : o.Leads (t.compareTimes dies).core := by
  unfold State.compareTimes
  split <;> simp [h]

@[simp] theorem beatBoundary_leads (h : o.Leads t.core) {e} : o.Leads (beatBoundary e t).core := by
  unfold beatBoundary
  dsimp only
  repeat' split
  all_goals simp [h]

@[simp] theorem lioEncRelock_core {n} : (lioEncRelock n t).core = t.core := by simp [lioEncRelock]

/-! ### Registers computed when read -/

@[simp] theorem State.sampled_core {h'} : (t.sampled h').2.core = t.core := by simp [State.sampled]

/-! ### Register accesses -/

@[simp] theorem State.afterRead_core {h'} : (t.afterRead h').core = t.core := by simp [State.afterRead]

@[simp] theorem State.read4_core {port off} : (t.read4 port off).2.core = t.core := by
  unfold State.read4
  repeat' split
  all_goals simp

@[simp] theorem State.readAt_core {port off size} : (t.readAt port off size).2.core = t.core := by
  unfold State.readAt
  repeat' split
  all_goals simp

@[simp] theorem State.writePlain_core {h' v} : (t.writePlain h' v).core = t.core := by simp [State.writePlain]

@[simp] theorem State.lioIgnored_core : t.lioIgnored.core = t.core := by simp [State.lioIgnored]

@[simp] theorem State.writeEncCfg_core {h' v} : (t.writeEncCfg h' v).core = t.core := by simp [State.writeEncCfg]

@[simp] theorem State.writeLiCfg_core {h' v} : (t.writeLiCfg h' v).core = t.core := by simp [State.writeLiCfg]

@[simp] theorem State.writeLio_core {h' v} : (t.writeLio h' v).core = t.core := by simp [State.writeLio]

@[simp] theorem State.atuIgnored_core : t.atuIgnored.core = t.core := by simp [State.atuIgnored]

@[simp] theorem State.writeAtu_core {h' v} : (t.writeAtu h' v).core = t.core := by simp [State.writeAtu]

@[simp] theorem State.writeKsu_leads (h : o.Leads t.core) {h' v} : o.Leads (t.writeKsu h' v).core := by
  unfold State.writeKsu
  repeat' split
  all_goals simp [h]

@[simp] theorem State.writeFn_leads (h : o.Leads t.core) {h' v} : o.Leads (t.writeFn h' v).core := by
  unfold State.writeFn
  split <;> simp [h]

@[simp] theorem State.writeReg_leads (h : o.Leads t.core) {h' v} : o.Leads (t.writeReg h' v).core := by
  simp [State.writeReg, h]

@[simp] theorem State.write4_leads (h : o.Leads t.core) {port off v} : o.Leads (t.write4 port off v).core := by
  unfold State.write4
  repeat' split
  all_goals simp [h]

@[simp] theorem State.writeAt_leads (h : o.Leads t.core) {port off size v} : o.Leads (t.writeAt port off size v).core := by
  unfold State.writeAt
  repeat' split
  all_goals simp [h]

@[simp] theorem State.perform_leads (h : o.Leads t.core) {p} : o.Leads (t.perform p).core := by
  unfold State.perform
  split <;> simp [h]

@[simp] theorem State.serveParked_leads (h : o.Leads t.core) : o.Leads t.serveParked.core := by simp [State.serveParked, h]

@[simp] theorem bar0BadAccess_core {off write} : (bar0BadAccess off write t).core = t.core := by simp [bar0BadAccess]

@[simp] theorem State.access_leads (h : o.Leads t.core) {port off size v} : o.Leads (t.access port off size v).core := by
  unfold State.access
  dsimp only
  repeat' split
  all_goals simp [h]

@[simp] theorem registerWrite_leads (h : o.Leads t.core) {port off size v} : o.Leads (registerWrite port off size v t).core := by
  simp [registerWrite, h]

@[simp] theorem registerRead_leads (h : o.Leads t.core) {port off size} : o.Leads (registerRead port off size t).core := by
  simp [registerRead, h]

@[simp] theorem wakeDoneServed_leads (h : o.Leads t.core) {d} : o.Leads (wakeDoneServed d t).core := by
  simp [wakeDoneServed, h]

@[simp] theorem demandServed_leads (h : o.Leads t.core) {d} : o.Leads (demandServed d t).core := by simp [demandServed, h]

@[simp] theorem bar4Access_leads (h : o.Leads t.core) {off size write v} : o.Leads (bar4Access off size write v t).core := by
  unfold bar4Access
  split <;> simp [h]

@[simp] theorem State.dbgKey_leads (h : o.Leads t.core) {dr} : o.Leads (t.dbgKey dr).core := by
  unfold State.dbgKey
  split <;> simp [h]

@[simp] theorem tapInstruction_leads (h : o.Leads t.core) {ir dr} : o.Leads (tapInstruction ir dr t).core := by
  unfold tapInstruction
  split <;> simp [h]

/-! ### Commands guarded -/

@[simp] theorem droopSeen_leads (h : o.Leads t.core) {d} : o.Leads (droopSeen d t).core := by simp [droopSeen, h]

@[simp] theorem syncInEdge_core {rising} : (syncInEdge rising t).core = t.core := by simp [syncInEdge]

/-! ### A command of any row, and a step -/

/-- What every opcode row does: the packet that it serves runs, and what waited goes on. -/
@[simp] theorem State.row_leads {c q op sel : Nat} {body : Cmd → State → CmdOut}
    (hb : ∀ k (u : State), (body k u).Led u.core) : s.core.Leads (s.runNeeding c q op sel body).settle.core :=
  State.settle_leads (State.runNeeding_leads .refl hb)

/-- Every command is the effect of its row, let through by its operands, and the effect leads on. -/
theorem exec_guards (i : Instr) : ∃ f, exec i = guarded i f ∧ ∀ s : State, s.core.Leads (f s).core := by
  cases i
  all_goals exact ⟨_, rfl, fun s => by simp⟩

theorem exec_leads {i : Instr} (h : exec i s = .next t) : s.core.Leads t.core := by
  obtain ⟨f, hexec, hf⟩ := exec_guards i
  rw [hexec, guarded] at h
  split at h
  · cases h
    exact hf s
  · cases h

/-- What a step starts from: the state without the command that it takes. -/
def State.taken (s : State) : State := { s with pending := s.pending.drop 1 }

theorem step_nil (hq : s.pending = []) : step s = .next (idle s) := by rw [step, hq]

theorem step_cons {i : Instr} {rest : List Instr} (hq : s.pending = i :: rest) : step s = exec i { s with pending := rest } := by
  rw [step, hq]

theorem step_leads (h : step s = .next t) : s.taken.core.Leads t.core := by
  cases hq : s.pending with
  | nil =>
    have htaken : s.taken.core = s.core := congrArg (fun l => { s.core with pending := l }) (by rw [hq]; rfl)
    rw [step_nil hq] at h
    cases h
    exact htaken ▸ idle_leads .refl
  | cons i rest =>
    have htaken : s.taken = { s with pending := rest } := congrArg (fun l => { s with pending := l }) (by rw [hq]; rfl)
    rw [step_cons hq] at h
    exact htaken ▸ exec_leads h

/-! ### A tick on an empty queue -/

theorem idle_of_last_tick (hlast : s.time % 500 = 499) : idle s = s := if_pos hlast

theorem idle_of_tick (htick : s.time % 500 ≠ 499) :
    idle s = if s.ready then (State.tickWork { s with time := s.time + 1 }).settle else { s with time := s.time + 1 } :=
  if_neg htick

/-- Settles O60: of the fuses and the queue every command and the tick change only what leads on from the state that the step
starts from. -/
theorem oneWay : Obligations.OneWay :=
  ⟨fun _ _ h => ⟨(step_leads h).svn, (step_leads h).rootRev, (step_leads h).provLock⟩, fun _ _ _ h => (exec_leads h).pending,
    fun _ _ h => (step_leads h).pending⟩

/-- Settles O59: memory and flash change by bytes written, spans cleared and spans moved, and each keeps the canonical form. -/
theorem canonicalMemory : Obligations.CanonicalMemory :=
  fun _ _ hmem hflash h => ⟨(step_leads h).mem hmem, (step_leads h).flash hflash⟩

/-- Settles O56: every row is guarded by its operands, and a guarded command takes its effect or stops. -/
theorem commandsComplete : Obligations.CommandsComplete := by
  intro i s
  obtain ⟨f, hexec, -⟩ := exec_guards i
  rw [hexec]
  exact ⟨fun hw => ⟨f s, guarded_next f s hw⟩, fun hw => by simp [guarded, hw]⟩

/-- Settles O55: a step looks at the queue, and on an empty one at the tick of the beat and at READY. -/
theorem stepRunsFront : Obligations.StepRunsFront := by
  refine ⟨fun s i rest hq => step_cons hq, fun s hq => ?_⟩
  rw [step_nil hq]
  exact ⟨fun hlast => by rw [idle_of_last_tick hlast], fun htick hready => by rw [idle_of_tick htick, hready]; rfl,
    fun htick hready => by rw [idle_of_tick htick, hready]; rfl⟩

end Sys2Proof.Machine

/-! ## Discarded accesses (R22, R431) -/

namespace Sys2Proof.Machine

section
variable {s : State} {off : Nat} {write : Bool}

/-- The count, offset and direction of a discarded access are written before anything else of it happens. -/
def State.discarded (s : State) (off : Nat) (write : Bool) : State :=
  ((s.incSat F.GLB_BADACC_COUNT).put F.GLB_BADACC_WRITE (b2n write)).put F.GLB_BADADDR_OFFSET off

theorem State.get_emit {o : Out} {f : Fld} : (s.emit o).get f = s.get f := by
  unfold State.get State.rd
  rw [State.emit_regs]

/-- What follows is an event and, for a read, its answer: neither changes another register. -/
theorem get_bar0BadAccess {f : Fld} (h : f.reg.key ≠ R.GLB_EVENT.key) :
    (bar0BadAccess off write s).get f = (s.discarded off write).get f := by
  rw [bar0BadAccess, State.raiseGlb, State.get_raise_ne _ _ _ _ _ h]
  split
  · rfl
  · exact State.get_emit

theorem badaccCount_discarded :
    (s.discarded off write).get F.GLB_BADACC_COUNT = min (s.get F.GLB_BADACC_COUNT + 1) 0xFFFF := by
  rw [State.discarded, State.get_put_ne _ _ (by decide),
    State.get_put_disjoint (f := F.GLB_BADACC_WRITE) (g := F.GLB_BADACC_COUNT) _ _ rfl (by decide) (by decide) (by decide),
    State.get_incSat_same _ _ _ (by decide) (by decide)]
  rfl

theorem badaccWrite_discarded : (s.discarded off write).get F.GLB_BADACC_WRITE = b2n write := by
  rw [State.discarded, State.get_put_ne _ _ (by decide), State.get_put_same _ _ _ (by decide) (by decide)]
  cases write <;> rfl

theorem badaddrOffset_discarded (hoff : off < 67108864) : (s.discarded off write).get F.GLB_BADADDR_OFFSET = off := by
  rw [State.discarded, State.get_put_same _ _ _ (by decide) (by decide)]
  exact Nat.mod_eq_of_lt hoff

end

/-- Settles O52: the count saturates in its own bits, and direction and offset read back as written. -/
theorem discardedAccess : Obligations.DiscardedAccess := by
  intro s off size w hoff hbad
  refine ⟨bar0BadAccess off w s, exec_bar0BadAccess s off size w (by simp [Instr.wellFormed, hoff, hbad]), rfl,
    ?count, ?direction, ?offset, ?mem, ?queues, ?plans⟩
  case count => exact (get_bar0BadAccess (by decide)).trans badaccCount_discarded
  case direction => exact (get_bar0BadAccess (by decide)).trans badaccWrite_discarded
  case offset => exact (get_bar0BadAccess (by decide)).trans (badaddrOffset_discarded hoff)
  case mem => cases w <;> simp [bar0BadAccess]
  case queues => cases w <;> simp [bar0BadAccess]
  case plans => cases w <;> simp [bar0BadAccess]

end Sys2Proof.Machine

/-! ## Joining, founding and leaving a Herd; windows (R380, R381, R388, R389, R394, R395)

Each Herd command gets an equation for every way it ends, and the entry of a Herd one for each check that it may fail. -/

namespace Sys2Proof.Machine

section
variable {s : State} {k : Cmd} {c : Nat} {e : HostEnv}

/-! ### HERD_JOIN (R380, R381) -/

section
variable (hm : pf k.par 9 1 ≤ 7)
include hm

theorem cmdHerdJoin_of_not_detached (hlo : 1 ≤ pf k.par 10 1) (hhi : pf k.par 10 1 ≤ 15) (h : s.herdState ≠ 0) :
    cmdHerdJoin k s = refuse s stHerdState := by
  simp [cmdHerdJoin, within, hm.not_gt, hlo, hhi, h]

theorem cmdHerdJoin_of_detached (hlo : 1 ≤ pf k.par 10 1) (hhi : pf k.par 10 1 ≤ 15) (h : s.herdState = 0) :
    cmdHerdJoin k s = .wait .join ((((s.trainLinks (pf k.par 10 1)).put F.HRD_STATUS_STATE 1).tellAll none [11]).onHerd
      (fun x => { x with
        joinT := (((s.trainLinks (pf k.par 10 1)).put F.HRD_STATUS_STATE 1).tellAll none [11]).time
        checked := false
        thetas := [] })) := by
  simp [cmdHerdJoin, within, hm.not_gt, hlo, hhi, h]

theorem cmdHerdFound_of_not_detached (hhi : pf k.par 10 1 ≤ 15) (h : s.herdState ≠ 0) :
    cmdHerdFound k s = refuse s stHerdState := by
  simp [cmdHerdFound, hm.not_gt, hhi.not_gt, h]

theorem cmdHerdFound_of_detached (hhi : pf k.par 10 1 ≤ 15) (h : s.herdState = 0) :
    cmdHerdFound k s = okay ((((((s.trainLinks (pf k.par 10 1)).put F.HRD_STATUS_STATE 3).put F.HRD_STATUS_SELF
      (pf k.par 9 1)).put F.HRD_STATUS_LEADER (pf k.par 9 1)).put F.HRD_STATUS_COUNT 1).wr R.HRD_EPOCH (pf k.par 12 4)) := by
  simp [cmdHerdFound, hm.not_gt, hhi.not_gt, h]

end

theorem cmdHerdEpoch_of_not_leader (hhi : pf k.par 10 1 ≤ 15) (h : s.isLeader = false) :
    cmdHerdEpoch k s = refuse s stHerdState := by
  simp [cmdHerdEpoch, hhi.not_gt, h]

theorem cmdHerdEpoch_of_leader (hhi : pf k.par 10 1 ≤ 15) (h : s.isLeader = true) (hlive : s.herd.members.any Member.live = false)
    (hplans : s.herdPlans = []) :
    cmdHerdEpoch k s = okay ((s.trainLinks (pf k.par 10 1)).wr R.HRD_EPOCH (pf k.par 12 4)) := by
  rw [cmdHerdEpoch, hlive, hplans, h]
  exact (if_neg hhi.not_gt).trans (if_neg (by decide))

/-! ### HERD_LEAVE (R394, R395) -/

theorem cmdHerdLeave_of_detached (h : s.inHerd = false) : cmdHerdLeave s = refuse s stHerdState := if_pos h

theorem cmdHerdLeave_of_inHerd (h : s.inHerd = true) :
    cmdHerdLeave s = .wait .leave (((s.tellAll none [4, s.self, s.herd.leaveAt.getD s.leaveBoundary]).onHerd
      (fun x => { x with leaveAt := some (s.herd.leaveAt.getD s.leaveBoundary) })).leaveBeat) :=
  if_neg (by simp [h])

theorem herdLeaveDone_of_waiting (h : s.on F.HRD_STATUS_LEAVING = false ∨ s.herdPlans ≠ []) : herdLeaveDone s = s :=
  if_pos (by simpa using h.elim (fun h => .inl (.inl h)) fun h => .inl (.inr h))

theorem herdLeaveDone_of_done (hleaving : s.on F.HRD_STATUS_LEAVING = true) (hplans : s.herdPlans = [])
    (halone : s.isLeader = false ∨ s.herd.members = []) :
    herdLeaveDone s = (((s.tellAll none [10, s.self]).revokeFrom (fun _ _ => true)).detach).endLeave :=
  if_neg (by simpa [hleaving, hplans, or_iff_not_imp_left] using halone)

/-! ### HERD_STATUS -/

section
variable (halign : pf k.par 16 8 % 64 = 0)
include halign

theorem cmdHerdStatus_of_unpinned (hpin : s.pinned c (pf k.par 16 8) 128 2 = none) :
    cmdHerdStatus c e k s = refuse s stUnpinned :=
  (if_neg (not_not.mpr halign)).trans (by rw [State.withDest, hpin])

theorem cmdHerdStatus_of_pinned {s1 : State} {g g1 : List Seg} (hpin : s.pinned c (pf k.par 16 8) 128 2 = some g)
    (hin : s.bringIn e c (pf k.par 16 8) 128 = (.ok (), s1)) (hpin1 : s1.pinned c (pf k.par 16 8) 128 2 = some g1) :
    cmdHerdStatus c e k s = okay (s1.writeSegs (Who.cpx c) g1 (clean s1.herdBlock)) :=
  (if_neg (not_not.mpr halign)).trans (State.withDest_of_ok _ hpin hin hpin1)

end

/-! ### WINDOW_EXPORT and its withdrawal (R388, R389) -/

section
variable {key : Nat} {r : Range} (hm : pf k.par 9 1 ≤ 63) (hoff : pf k.par 16 4 % 64 = 0) (hlen : pf k.par 20 4 % 64 = 0)
  (hmin : 64 ≤ pf k.par 20 4) (hin : s.inHerd = true) (hrange : s.rangeById c (pf k.par 12 2) = some (key, r))
include hm hoff hlen hmin hin hrange

/-- Past the checks of the fields and of the Herd, the window and the range decide. -/
theorem cmdWindowExport_of_range : cmdWindowExport c k s =
    if bit (s.rd (R.HRD_EXP (pf k.par 9 1))) 27 || r.len < pf k.par 16 4 + pf k.par 20 4 ||
        (bit (pf k.par 11 1) 2 && s.plannedWindow r (pf k.par 16 4) (pf k.par 20 4) = false) then refuse s stBadState
    else okay ((s.wr (R.HRD_EXP (pf k.par 9 1)) (pf k.par 12 2 + pf k.par 10 1 * 2 ^ 16 + pf k.par 11 1 * 2 ^ 24 + 2 ^ 27 +
      c * 2 ^ 32 + pf k.par 16 4 * 2 ^ 64 + pf k.par 20 4 * 2 ^ 96)).tellWindow (pf k.par 10 1) (pf k.par 9 1) (pf k.par 20 4)
        (pf k.par 11 1 % 4) (bits (pf k.par 11 1) 2 2)) := by
  simp [cmdWindowExport, hm.not_gt, hoff, hlen, hmin.not_gt, hin, hrange]

theorem cmdWindowExport_refused (h : bit (s.rd (R.HRD_EXP (pf k.par 9 1))) 27 = true ∨ r.len < pf k.par 16 4 + pf k.par 20 4 ∨
    (bit (pf k.par 11 1) 2 = true ∧ s.plannedWindow r (pf k.par 16 4) (pf k.par 20 4) = false)) :
    cmdWindowExport c k s = refuse s stBadState :=
  (cmdWindowExport_of_range hm hoff hlen hmin hin hrange).trans (if_pos (by simpa [or_assoc] using h))

theorem cmdWindowExport_exports (hfree : bit (s.rd (R.HRD_EXP (pf k.par 9 1))) 27 = false)
    (hfits : pf k.par 16 4 + pf k.par 20 4 ≤ r.len)
    (hplanned : bit (pf k.par 11 1) 2 = true → s.plannedWindow r (pf k.par 16 4) (pf k.par 20 4) = true) :
    cmdWindowExport c k s = okay ((s.wr (R.HRD_EXP (pf k.par 9 1)) (pf k.par 12 2 + pf k.par 10 1 * 2 ^ 16 +
      pf k.par 11 1 * 2 ^ 24 + 2 ^ 27 + c * 2 ^ 32 + pf k.par 16 4 * 2 ^ 64 + pf k.par 20 4 * 2 ^ 96)).tellWindow (pf k.par 10 1)
        (pf k.par 9 1) (pf k.par 20 4) (pf k.par 11 1 % 4) (bits (pf k.par 11 1) 2 2)) :=
  (cmdWindowExport_of_range hm hoff hlen hmin hin hrange).trans
    (if_neg (by simpa [hfree, hfits.not_gt] using hplanned))

end

section
variable (hm : pf k.par 9 1 ≤ 63)
include hm

theorem cmdWindowWithdraw_refused (h : bit (s.rd (R.HRD_EXP (pf k.par 9 1))) 27 = false ∨
    numField (s.rd (R.HRD_EXP (pf k.par 9 1))) 4 1 % 128 ≠ c ∨ s.windowPushed (pf k.par 9 1) = true) :
    cmdWindowWithdraw c k s = refuse s stBadState :=
  (if_neg hm.not_gt).trans (if_pos (by simpa [or_assoc] using h))

theorem cmdWindowWithdraw_withdraws (hexp : bit (s.rd (R.HRD_EXP (pf k.par 9 1))) 27 = true)
    (hown : numField (s.rd (R.HRD_EXP (pf k.par 9 1))) 4 1 % 128 = c) (hpush : s.windowPushed (pf k.par 9 1) = false) :
    cmdWindowWithdraw c k s = okay ((s.tellWindow (bits (s.rd (R.HRD_EXP (pf k.par 9 1))) 23 16) (pf k.par 9 1) 0 0 0).wr
      (R.HRD_EXP (pf k.par 9 1)) 0) :=
  (if_neg hm.not_gt).trans (if_neg (by simp [hexp, hown, hpush]))

end

/-! ### The checks of a device that joins (R381) -/

variable {x : LeaderInfo}

theorem State.joinChecks_of_version (h : x.fw ≠ s.fwMajorMinor) : s.joinChecks k x = some stHerdVersion :=
  if_pos (bne_iff_ne.mpr h)

theorem State.joinChecks_of_epoch (hfw : x.fw = s.fwMajorMinor) (h : pf k.par 12 4 ≠ x.epoch) :
    s.joinChecks k x = some stHerdState := by
  simp [State.joinChecks, hfw, h]

theorem State.joinChecks_of_plan (hfw : x.fw = s.fwMajorMinor) (hepoch : pf k.par 12 4 = x.epoch)
    (hfree : bit x.used (pf k.par 9 1) = false) (hroom : popcount x.used < 8) (hplan : s.planWorks = false)
    (hgiven : pf k.par 16 32 ≠ 0) (h : pf k.par 16 32 ≠ x.hash) : s.joinChecks k x = some stHerdPlan := by
  simp [State.joinChecks, hfw, hepoch, hfree, hroom.not_ge, hplan, hgiven, h]

end

/-- Settles O46: the fields of each packet are in range, and each clause is one way its command ends, above. -/
theorem herdCommands : Obligations.HerdCommands := by
  refine ⟨fun s c q x k e he => ⟨fun hs hm hlo hhi => ?join, fun hs hm hhi => ?found, fun hs hhi => ?epoch, fun hs => ?leave,
    fun s1 g g1 hs halign hpin hin hpin1 => ?status, fun hs halign hpin => ?unpinned,
    fun key r hs hm hoff hlen hmin hherd hr => ?window, fun hs hm => ?withdraw⟩, fun s => ?done, fun s k x => ?checks⟩
  case join =>
    exact ⟨fun h => exec_herdJoinJoin_answers he hs (cmdHerdJoin_of_not_detached hm hlo hhi h),
      fun h => exec_herdJoinJoin_waits he hs (cmdHerdJoin_of_detached hm hlo hhi h)⟩
  case found =>
    exact ⟨fun h => exec_herdJoinFound_answers he hs (cmdHerdFound_of_not_detached hm hhi h),
      fun h => exec_herdJoinFound_answers he hs (cmdHerdFound_of_detached hm hhi h)⟩
  case epoch =>
    exact ⟨fun h => exec_herdJoinEpoch_answers he hs (cmdHerdEpoch_of_not_leader hhi h),
      fun h hlive hplans => exec_herdJoinEpoch_answers he hs (cmdHerdEpoch_of_leader hhi h hlive hplans)⟩
  case leave =>
    exact ⟨fun h => exec_herdLeave_answers he hs (cmdHerdLeave_of_detached h),
      fun h => exec_herdLeave_waits he hs (cmdHerdLeave_of_inHerd h)⟩
  case status => exact exec_herdStatus_answers he hs (cmdHerdStatus_of_pinned halign hpin hin hpin1)
  case unpinned => exact exec_herdStatus_answers he hs (cmdHerdStatus_of_unpinned halign hpin)
  case window =>
    exact ⟨fun h => exec_windowExport_answers he hs (cmdWindowExport_refused hm hoff hlen hmin hherd hr h),
      fun hfree hfits hplanned =>
        exec_windowExport_answers he hs (cmdWindowExport_exports hm hoff hlen hmin hherd hr hfree hfits hplanned)⟩
  case withdraw =>
    exact ⟨fun h => exec_windowWithdraw_answers he hs (cmdWindowWithdraw_refused hm h),
      fun hexp hown hpush => exec_windowWithdraw_answers he hs (cmdWindowWithdraw_withdraws hm hexp hown hpush)⟩
  case done =>
    exact ⟨fun h => (exec_herdLeaveDone s rfl).trans (congrArg _ (herdLeaveDone_of_waiting h)),
      fun hleaving hplans halone => (exec_herdLeaveDone s rfl).trans (congrArg _ (herdLeaveDone_of_done hleaving hplans halone))⟩
  case checks =>
    exact ⟨State.joinChecks_of_version, State.joinChecks_of_epoch,
      fun hfw hepoch hfree hroom hplan hgiven h => State.joinChecks_of_plan hfw hepoch hfree hroom hplan hgiven h⟩

end Sys2Proof.Machine

/-! ## Training, width, loss and retraining of Herd links (R375, R376, R379) -/

namespace Sys2Proof.Machine

section
variable {s : State} {l : Nat}

/-! ### Training (R375) -/

/-- Some live plan claims a slot of the link. -/
def State.slotClaimed (s : State) (l : Nat) : Bool :=
  s.livePlans.any (fun p => p.2.2.img.claims.any (fun k => k.kind == 6 && (rangeFrom k.first k.count).any (fun n => n / 256 == l)))

theorem hrdLinkRetrain_of_claimed (h : s.slotClaimed l = true) : hrdLinkRetrain l s = s.incWrap F.HRD_STATUS_WIGN := if_pos h

theorem hrdLinkRetrain_of_free (h : s.slotClaimed l = false) : hrdLinkRetrain l s = s.train l :=
  if_neg (Bool.eq_false_iff.mp h)

theorem State.linkState_train : (s.train l).get (F.HRD_LINK_STATE_STATE l) = 1 :=
  State.get_put_same s (F.HRD_LINK_STATE_STATE l) 1 (Nat.zero_le _) (by simp [F.HRD_LINK_STATE_STATE, R.HRD_LINK_STATE])

theorem State.training_train : tfind (s.train l).herd.training l = some s.beat := tfind_tput_same ..

/-- The link UP at the end of its training, at the width of its healthy lanes. -/
def State.linkTrainedUp (s : State) (l lanes peer peerLink : Nat) : State :=
  ((((s.put (F.HRD_LINK_STATE_LANES l) lanes).put (F.HRD_LINK_STATE_PEER l) peer).put (F.HRD_LINK_STATE_PEER_LINK l)
    peerLink).setWidth l (lanesWidth lanes 4)).onHerd (fun h =>
      { h with training := tdel h.training l, goodBeat := tput h.goodBeat l s.beat })

section
variable {lanes peer peerLink : Nat}

theorem linkTrained_ignored (h : (tfind s.herd.training l).isNone = true ∨ lanesWidth lanes 4 = 0) :
    linkTrained l lanes peer peerLink s = s :=
  if_pos (by simpa using h)

variable (htrain : (tfind s.herd.training l).isSome = true) (hwidth : lanesWidth lanes 4 ≠ 0)
include htrain hwidth

/-- In a Herd the device tells the peer what it is and what it exports, before it goes on joining. -/
theorem linkTrained_of_training : linkTrained l lanes peer peerLink s =
    (if (s.linkTrainedUp l lanes peer peerLink).inHerd then
        ((s.linkTrainedUp l lanes peer peerLink).selfMsgs ++ (s.linkTrainedUp l lanes peer peerLink).exportMsgs peer).foldl
          (fun s m => s.tell l m) (s.linkTrainedUp l lanes peer peerLink)
      else s.linkTrainedUp l lanes peer peerLink).joinStep := by
  unfold linkTrained
  extract_lets w u v
  have hbeat : u.beat = s.beat := by simp [u, State.beat]
  have hup : v = s.linkTrainedUp l lanes peer peerLink := by
    simp only [v, hbeat]
    rfl
  rw [if_neg (by simpa [Option.isSome_iff_ne_none.mp htrain] using hwidth), hup]

theorem linkTrained_outside_herd (hout : (s.linkTrainedUp l lanes peer peerLink).inHerd = false) :
    linkTrained l lanes peer peerLink s = (s.linkTrainedUp l lanes peer peerLink).joinStep := by
  rw [linkTrained_of_training htrain hwidth, hout]
  rfl

theorem linkTrained_in_herd (hin : (s.linkTrainedUp l lanes peer peerLink).inHerd = true) :
    linkTrained l lanes peer peerLink s =
      (((s.linkTrainedUp l lanes peer peerLink).selfMsgs ++ (s.linkTrainedUp l lanes peer peerLink).exportMsgs peer).foldl
        (fun s m => s.tell l m) (s.linkTrainedUp l lanes peer peerLink)).joinStep := by
  rw [linkTrained_of_training htrain hwidth, hin]
  rfl

end

theorem linkTrainingTimeout_of_idle (h : tfind s.herd.training l = none) : linkTrainingTimeout l s = s := by
  rw [linkTrainingTimeout, h]

/-- Training is given up after 400 beats, and a link that was up before is lost. -/
theorem linkTrainingTimeout_of_training {k : Nat} (h : tfind s.herd.training l = some k) : linkTrainingTimeout l s =
    if s.beat < k + 400 then s
    else if (tfind s.herd.paths l).isSome then (s.put (F.HRD_LINK_STATE_STATE l) 2).linkLost l
    else (s.put (F.HRD_LINK_STATE_STATE l) 0).onHerd (fun h => { h with training := tdel h.training l }) := by
  rw [linkTrainingTimeout, h]

/-! ### Loss of a link and of a lane (R376) -/

theorem linkDown_of_silent (hup : s.linkUp l = true) (h : tget s.herd.goodBeat l 0 + 3 ≤ s.beat) : linkDown l s = s.linkLost l :=
  if_pos (by simp [hup, h])

theorem linkDown_of_heard (h : s.linkUp l = false ∨ s.beat < tget s.herd.goodBeat l 0 + 3) : linkDown l s = s :=
  if_neg (by simpa [or_iff_not_imp_left] using h)

/-- A lane is lost: the link's PLANNED flits of this beat and the next are lost, and the step down is counted. -/
def State.laneLost (s : State) (l lane : Nat) : State :=
  let u := s.putBit (F.HRD_LINK_STATE_LANES l) lane false
  ((u.herd.sent.filter (fun x => x.link == l && decide (u.beat ≤ x.beat) && decide (x.beat ≤ u.beat + 1))).foldl
    (fun s x => s.loseFlit x) u).incSat (F.HRD_LINK_CNT2_DEGRADE l)

section
variable {lane : Nat}

theorem laneFault_ignored (h : s.linkUp l = false ∨ s.getBit (F.HRD_LINK_STATE_LANES l) lane = false) : laneFault l lane s = s :=
  if_pos (by simpa using h)

/-- What is left of the lanes decides whether the link goes on, at no more than half its width. -/
theorem laneFault_of_up (hup : s.linkUp l = true) (hlane : s.getBit (F.HRD_LINK_STATE_LANES l) lane = true) :
    laneFault l lane s =
      if lanesWidth ((s.laneLost l lane).get (F.HRD_LINK_STATE_LANES l)) (s.linkWidth l / 2) = 0 then
        (s.laneLost l lane).linkLost l
      else (s.laneLost l lane).onHerd (fun h =>
        { h with stopped := tput h.stopped l ((s.laneLost l lane).beat + 1)
                 goodBeat := tput h.goodBeat l ((s.laneLost l lane).beat + 1) }) :=
  if_neg (by simp [hup, hlane])

end

/-! ### SYNC_OUT (R379) -/

theorem syncOutPulse_of_due (hlead : s.isLeader = true) (hen : s.on F.HRD_CFG_SYNC_OUT_EN = true) (htime : s.time % 100000 = 0) :
    syncOutPulse s = s.emit .syncOut :=
  if_pos (by simp [hlead, hen, htime])

theorem syncOutPulse_of_idle (h : s.isLeader = false ∨ s.on F.HRD_CFG_SYNC_OUT_EN = false ∨ s.time % 100000 ≠ 0) :
    syncOutPulse s = s := by
  obtain h | h | h := h
  · simp [syncOutPulse, h]
  · simp [syncOutPulse, h]
  · simp [syncOutPulse, h]

end

/-! ### The width that lanes allow (R376) -/

section
variable {lanes w : Nat}

theorem lanesWidth_le : lanesWidth lanes w ≤ w := by
  unfold lanesWidth
  split
  next h => simp at h; omega
  next =>
    split
    next h => simp at h; omega
    next =>
      split
      next h => simp at h; omega
      next => exact Nat.zero_le _

theorem lanesWidth_le_four : lanesWidth lanes w ≤ 4 := by
  unfold lanesWidth
  split
  · rfl
  · split
    · decide
    · split <;> decide

end

/-- Settles O47: each clause is one way its command ends, above. -/
theorem herdLinks : Obligations.HerdLinks := by
  refine ⟨fun s l hl => ⟨?claimed, ?free, State.linkState_train, State.training_train,
      fun lanes peer peerLink hlanes hpeer hpl => ?trained, fun k hk => ?timeout, fun h => ?untrained, fun hup h => ?silent,
      fun h => ?heard, fun lane hlane => ?lane⟩, fun s => ⟨fun hlead hen htime => ?due, fun h => ?idle⟩,
    fun lanes w _ => ⟨lanesWidth_le, lanesWidth_le_four, by decide, Nat.le_zero.mp lanesWidth_le⟩⟩
  case claimed => exact fun h => (exec_hrdLinkRetrain s l (decide_eq_true hl)).trans (congrArg _ (hrdLinkRetrain_of_claimed h))
  case free => exact fun h => (exec_hrdLinkRetrain s l (decide_eq_true hl)).trans (congrArg _ (hrdLinkRetrain_of_free h))
  case trained =>
    have hexec := exec_linkTrained s l lanes peer peerLink (by simp [Instr.wellFormed, hl, hlanes, hpeer, hpl])
    exact ⟨fun h => hexec.trans (congrArg _ (linkTrained_ignored h)), fun htrain hwidth =>
      ⟨fun hout => hexec.trans (congrArg _ (linkTrained_outside_herd htrain hwidth hout)),
        fun hin => hexec.trans (congrArg _ (linkTrained_in_herd htrain hwidth hin))⟩⟩
  case timeout =>
    have hexec := exec_linkTrainingTimeout s l (decide_eq_true hl)
    rw [hexec, linkTrainingTimeout_of_training hk]
    exact ⟨fun h => by rw [if_pos h], fun h hpath => by rw [if_neg h.not_gt, if_pos hpath],
      fun h hpath => by rw [if_neg h.not_gt, if_neg (by simp [hpath])]⟩
  case untrained => exact (exec_linkTrainingTimeout s l (decide_eq_true hl)).trans (congrArg _ (linkTrainingTimeout_of_idle h))
  case silent => exact (exec_linkDown s l (decide_eq_true hl)).trans (congrArg _ (linkDown_of_silent hup h))
  case heard => exact (exec_linkDown s l (decide_eq_true hl)).trans (congrArg _ (linkDown_of_heard h))
  case lane =>
    have hexec := exec_laneFault s l lane (by simp [Instr.wellFormed, hl, hlane])
    refine ⟨fun h => hexec.trans (congrArg _ (laneFault_ignored h)), fun hup hon => ?_⟩
    rw [hexec, laneFault_of_up hup hon]
    exact ⟨fun h => congrArg _ (if_pos h), fun h => congrArg _ (if_neg h)⟩
  case due => exact (exec_syncOutPulse s rfl).trans (congrArg _ (syncOutPulse_of_due hlead hen htime))
  case idle => exact (exec_syncOutPulse s rfl).trans (congrArg _ (syncOutPulse_of_idle h))

end Sys2Proof.Machine

/-! ## Flits and HERD_XFER (R371, R374, R386, R388, R391) -/

namespace Sys2Proof.Machine

section
variable {s : State} {l : Nat}

/-! ### A flit arrives (R371, R374) -/

section
variable {f : Flit} {e : HostEnv}

theorem flitReceive_of_stopped (h : s.linkUp l = false ∨ s.linkStopped l = true) : flitReceive l f e s = s :=
  if_pos (by simpa using h)

section
variable (hup : s.linkUp l = true) (hrun : s.linkStopped l = false)
include hup hrun

theorem flitReceive_of_bad_crc (h : f.crcOk = false) :
    flitReceive l f e s = s.emit (.flit l 0 [1, (s.lastGood l + 1) % 4096]) :=
  (if_neg (by simp [hup, hrun])).trans (if_pos h)

theorem flitReceive_of_good_crc (h : f.crcOk = true) : flitReceive l f e s =
    (s.onHerd (fun h => { h with goodBeat := tput h.goodBeat l s.beat })).takeFlit l f.typ e f.body :=
  (if_neg (by simp [hup, hrun])).trans (if_neg (by simp [h]))

end

theorem State.takeFlit_planned {seq slot w off : Nat} {d : List Nat} :
    s.takeFlit l 1 e (seq :: slot :: w :: off :: d) = (s.ack l seq).windowWrite l w off d true := rfl

theorem State.takeFlit_control {msg : List Nat} : s.takeFlit l 3 e msg = s.control l msg := rfl

theorem State.takeFlit_time {msg : List Nat} : s.takeFlit l 4 e msg = s.timeFlit l msg := rfl

end

/-! ### A write to a window (R388) -/

theorem State.windowWrite_rejected {w off : Nat} {d : List Nat} {planned : Bool}
    (h : s.windowOk l w off d.length 2 planned = false) : s.windowWrite l w off d planned = s.incSat F.HRD_CNT_REJECT :=
  if_pos h

theorem State.windowWrite_planned {w off : Nat} {d : List Nat} (h : s.windowOk l w off d.length 2 true = true) :
    s.windowWrite l w off d true =
      s.planWrite (linkWho l true) (cutSegs (s.windowSegs w) off d.length) (flitBytes d) :=
  if_neg (by simp [h])

/-! ### Replay and loss (R374, R386) -/

section
variable {id : Nat} {x : SentFlit}

/-- A flit that the link sent with this sequence number, and whose acknowledgement does not come. -/
def State.unacked? (s : State) (l id : Nat) : Option SentFlit :=
  s.herd.sent.find? (fun x => x.link == l && x.seq == id && (x.nak || s.tailOver x.beat))

theorem flitReplay_of_acked (h : s.unacked? l id = none) : flitReplay l id s = s := by
  rw [State.unacked?] at h
  rw [flitReplay, h]

theorem flitReplay_of_unacked (h : s.unacked? l id = some x) : flitReplay l id s =
    if 8 ≤ x.replays then s.fireDetector (0x0C + l) 0
    else ((s.onHerd (fun h => { h with sent := h.sent.map (fun y =>
      if y.link == l && y.seq == id then { y with replays := y.replays + 1, nak := false } else y) })).incSat
        (F.HRD_LINK_CNT_REPLAY l)).emit (.flit l 1 x.body) := by
  rw [State.unacked?] at h
  rw [flitReplay, h]

/-- A flit of the slot that has no good copy by the end of the tail of the beat after its own. -/
def State.overdue? (s : State) (l slot : Nat) : Option SentFlit :=
  s.herd.sent.find? (fun x => x.link == l && x.slot == slot && s.tailOver (x.beat + 1))

theorem flitLost_of_none (h : s.overdue? l id = none) : flitLost l id s = s := by
  rw [State.overdue?] at h
  rw [flitLost, h]

theorem flitLost_of_overdue (h : s.overdue? l id = some x) : flitLost l id s = s.loseFlit x := by
  rw [State.overdue?] at h
  rw [flitLost, h]

end

/-! ### RESULT flits (R391) -/

section
variable {id dev home : Nat} {f : Forward}

theorem resultUndelivered_of_none
    (h : s.herd.forwards.find? (fun f => f.id == id && f.dest == dev && s.tailOver (f.beat + 1)) = none) :
    resultUndelivered id dev s = s := by
  rw [resultUndelivered, h]

theorem resultUndelivered_of_due
    (h : s.herd.forwards.find? (fun f => f.id == id && f.dest == dev && s.tailOver (f.beat + 1)) = some f) :
    resultUndelivered id dev s =
      (s.onHerd (fun h => { h with forwards := h.forwards.filter (fun x => x != f) })).undelivered s.self f := by
  rw [resultUndelivered, h]

theorem State.undelivered_of_leader (h : s.isLeader = true) :
    s.undelivered home f = s.logUndelivered f.id home f.dest f.cls f.result (500 * f.beat) :=
  if_pos h

end

/-! ### HERD_XFER (R386) -/

section
variable {r : RecRun} {a : Act} (hdue : s.due? r 9 = some a)
include hdue

theorem herdXfer_not_yet (h : a.start ≠ s.beat) : herdXfer r s = s := by
  simp [herdXfer, hdue, h]

variable (hstart : a.start = s.beat)
include hstart

theorem herdXfer_faults (h : s.actDomains a = false) : herdXfer r s = (s.faultAct a).markRan r := by
  simp [herdXfer, hdue, hstart, h]

variable (hdom : s.actDomains a = true)
include hdom

theorem herdXfer_incomplete (h : s.linkUp a.rcd.xLink = false ∨ s.peer a.rcd.xLink ≠ a.rcd.xMember ∨
    ∃ x ∈ a.plan.img.slotsOf a.rcd a.rcd.xLink, 50 * s.linkWidth a.rcd.xLink ≤ x.1) :
    herdXfer r s = (s.incompleteAct a).markRan r := by
  have hfails : (s.linkUp a.rcd.xLink = false || s.peer a.rcd.xLink != a.rcd.xMember ||
      (a.plan.img.slotsOf a.rcd a.rcd.xLink).any (fun x => decide (50 * s.linkWidth a.rcd.xLink ≤ x.1))) = true := by
    simpa [or_assoc] using h
  simp only [herdXfer, hdue]
  rw [if_neg (not_not.mpr hstart), if_neg (by simp [hdom]), if_pos hfails]

theorem herdXfer_sends {b : Buf} (hup : s.linkUp a.rcd.xLink = true) (hpeer : s.peer a.rcd.xLink = a.rcd.xMember)
    (hslots : ∀ x ∈ a.plan.img.slotsOf a.rcd a.rcd.xLink, x.1 < 50 * s.linkWidth a.rcd.xLink)
    (hbuf : s.actBuf a a.rcd.inBuf = some b) :
    let x := s.readBuf (a.who (0x9000 + a.rcd.xLink)) b 0 a.rcd.xLen
    herdXfer r s = (((x.2.consume a (x.1.any (·.2) || b.revoked)).noteRun (0x9000 + a.rcd.xLink) r).sendParts a r x.1
      (a.xferParts (a.plan.img.slotsOf a.rcd a.rcd.xLink))).markRan r := by
  have hworks : ¬ (s.linkUp a.rcd.xLink = false || s.peer a.rcd.xLink != a.rcd.xMember ||
      (a.plan.img.slotsOf a.rcd a.rcd.xLink).any (fun x => decide (50 * s.linkWidth a.rcd.xLink ≤ x.1))) = true := by
    simpa [hup, hpeer] using hslots
  simp only [herdXfer, hdue]
  rw [if_neg (not_not.mpr hstart), if_neg (by simp [hdom]), if_neg hworks, hbuf]

end

end

/-- Settles O48: each clause is one way its command ends, above. -/
theorem herdFlits : Obligations.HerdFlits := by
  refine ⟨fun s l f e hl he => ?receive, fun s l w off d planned => ⟨State.windowWrite_rejected, State.windowWrite_planned⟩,
    fun s l id x hl => ?sent, fun s id dev hdev => ?result, fun s home f hlead => State.undelivered_of_leader hlead,
    fun s r a hr hdue => ?xfer⟩
  case receive =>
    have hexec := exec_flitReceive s l f e (by simp [Instr.wellFormed, hl, he])
    exact ⟨fun h => hexec.trans (congrArg _ (flitReceive_of_stopped h)),
      fun hup hrun h => hexec.trans (congrArg _ (flitReceive_of_bad_crc hup hrun h)),
      fun hup hrun h => ⟨hexec.trans (congrArg _ (flitReceive_of_good_crc hup hrun h)),
        fun seq slot w off d => State.takeFlit_planned, fun msg => State.takeFlit_control, fun msg => State.takeFlit_time⟩⟩
  case sent =>
    have hreplay := exec_flitReplay s l id (decide_eq_true hl)
    have hlost := exec_flitLost s l id (decide_eq_true hl)
    refine ⟨fun h => ?replayed, fun h => hreplay.trans (congrArg _ (flitReplay_of_acked h)),
      fun h => hlost.trans (congrArg _ (flitLost_of_overdue h)), fun h => hlost.trans (congrArg _ (flitLost_of_none h))⟩
    case replayed =>
      rw [hreplay, flitReplay_of_unacked h]
      exact ⟨fun h8 => congrArg _ (if_pos h8), fun h8 => congrArg _ (if_neg h8.not_ge)⟩
  case result =>
    have hexec := exec_resultUndelivered s id dev (decide_eq_true hdev)
    exact ⟨fun f h => hexec.trans (congrArg _ (resultUndelivered_of_due h)),
      fun h => hexec.trans (congrArg _ (resultUndelivered_of_none h))⟩
  case xfer =>
    have hexec := exec_herdXfer s r hr
    exact ⟨fun h => hexec.trans (congrArg _ (herdXfer_not_yet hdue h)),
      fun hstart h => hexec.trans (congrArg _ (herdXfer_faults hdue hstart h)),
      fun hstart hdom => ⟨fun h => hexec.trans (congrArg _ (herdXfer_incomplete hdue hstart hdom h)),
        fun b hup hpeer hslots hbuf => hexec.trans (congrArg _ (herdXfer_sends hdue hstart hdom hup hpeer hslots hbuf))⟩⟩

end Sys2Proof.Machine

/-! ## Firmware (R401, R402, R405 to R408)

Each firmware command gets an equation for every way it ends. -/

namespace Sys2Proof.Machine

section
variable {s : State} {k : Cmd} {c : Nat} {e : HostEnv}

/-! ### FW_DOWNLOAD (R405) -/

/-- The fields that FW_DOWNLOAD takes: source, offset and length aligned, and the bytes within the slot's image. -/
def Cmd.DownloadFields (k : Cmd) : Prop :=
  pf k.par 8 8 % 64 = 0 ∧ pf k.par 16 4 % 4096 = 0 ∧ pf k.par 20 4 % 64 = 0 ∧ 64 ≤ pf k.par 20 4 ∧
    pf k.par 16 4 + pf k.par 20 4 ≤ 0x7FF000

/-- What the inactive slot is erased of before the bytes are written: the whole slot where the packet asks for it, else its
marker. -/
def State.erasedFor (s : State) (k : Cmd) (slot : Nat) : State :=
  if bit (pf k.par 24 1) 0 then s.flashErase (slotAt slot) 0x800000 else s.flashErase (markerAt slot) 4096

theorem cmdFwDownload_eq [Decidable k.DownloadFields] : cmdFwDownload c e k s =
    if k.DownloadFields then
      if (s.pinned c (pf k.par 8 8) (pf k.par 20 4) 1).isNone then refuse s stUnpinned
      else if s.bootRec.trial then refuse s stBadState
      else s.withRead e c (pf k.par 8 8) (pf k.par 20 4) (fun b u =>
        okay ((u.erasedFor k s.inactiveSlot).flashWrite (slotAt s.inactiveSlot + pf k.par 16 4) b))
    else refuse s stBadParam := by
  rw [← ite_not]
  refine if_congr ?_ rfl rfl
  simp only [Cmd.DownloadFields, not_and_or, Bool.or_eq_true, decide_eq_true_eq, not_le, or_assoc, ne_eq]

theorem cmdFwDownload_of_bad_fields (h : ¬ k.DownloadFields) : cmdFwDownload c e k s = refuse s stBadParam := by
  classical exact cmdFwDownload_eq.trans (if_neg h)

section
variable (hfields : k.DownloadFields)
include hfields

theorem cmdFwDownload_of_unpinned (hpin : s.pinned c (pf k.par 8 8) (pf k.par 20 4) 1 = none) :
    cmdFwDownload c e k s = refuse s stUnpinned := by
  classical exact cmdFwDownload_eq.trans ((if_pos hfields).trans (if_pos (by rw [hpin]; rfl)))

variable (hpin : (s.pinned c (pf k.par 8 8) (pf k.par 20 4) 1).isSome = true)
include hpin

theorem cmdFwDownload_in_trial (htrial : s.bootRec.trial = true) : cmdFwDownload c e k s = refuse s stBadState := by
  classical exact cmdFwDownload_eq.trans ((if_pos hfields).trans
    ((if_neg (by simp [Option.isSome_iff_ne_none.mp hpin])).trans (if_pos htrial)))

theorem cmdFwDownload_of_read {b : Bytes} {s1 : State} (htrial : s.bootRec.trial = false)
    (hread : s.cmdRead e c (pf k.par 8 8) (pf k.par 20 4) = (.ok b, s1)) :
    cmdFwDownload c e k s = okay ((s1.erasedFor k s.inactiveSlot).flashWrite (slotAt s.inactiveSlot + pf k.par 16 4) b) := by
  classical exact cmdFwDownload_eq.trans ((if_pos hfields).trans ((if_neg (by simp [Option.isSome_iff_ne_none.mp hpin])).trans
    ((if_neg (by simp [htrial])).trans (State.withRead_of_ok _ hread))))

end

theorem State.erasedFor_of_whole {slot : Nat} (h : bit (pf k.par 24 1) 0 = true) :
    s.erasedFor k slot = s.flashErase (slotAt slot) 0x800000 := if_pos h

theorem State.erasedFor_of_marker {slot : Nat} (h : bit (pf k.par 24 1) 0 = false) :
    s.erasedFor k slot = s.flashErase (markerAt slot) 4096 := if_neg (Bool.eq_false_iff.mp h)

/-! ### FW_VERIFY (R402, R406) -/

theorem cmdFwVerify_in_trial (h : s.bootRec.trial = true) : cmdFwVerify s = refuse s stBadState := if_pos h

section
variable (htrial : s.bootRec.trial = false)
include htrial

theorem cmdFwVerify_of_bad_format (h : s.imgFormatOk s.inactiveSlot = false) :
    cmdFwVerify s = refuse (s.flashErase (markerAt s.inactiveSlot) 4096) stImageBad :=
  (if_neg (Bool.eq_false_iff.mp htrial)).trans (if_pos h)

theorem cmdFwVerify_of_unsigned (hform : s.imgFormatOk s.inactiveSlot = true) (h : s.imgSigned s.inactiveSlot = false) :
    cmdFwVerify s = refuse (s.flashErase (markerAt s.inactiveSlot) 4096) stAuthFail :=
  (if_neg (Bool.eq_false_iff.mp htrial)).trans ((if_neg (ne_false_of_eq_true hform)).trans (if_pos h))

theorem cmdFwVerify_of_authentic (h : s.authentic s.inactiveSlot = true) :
    cmdFwVerify s = okay (s.writeMarker s.inactiveSlot) (s.imgField s.inactiveSlot 0xC 3 +
      (s.imgField s.inactiveSlot 6 1 % 2) * 2 ^ 24 + (s.imgField s.inactiveSlot 0x10 4 % 128) * 2 ^ 25) := by
  obtain ⟨hform, hsigned⟩ := Bool.and_eq_true_iff.mp h
  exact (if_neg (Bool.eq_false_iff.mp htrial)).trans
    ((if_neg (ne_false_of_eq_true hform)).trans (if_neg (ne_false_of_eq_true hsigned)))

end

/-! ### FW_ACTIVATE (R407) -/

theorem cmdFwActivate_refused (h : s.bootRec.trial = true ∨ s.markerOk s.inactiveSlot = false ∨
    (bit (pf k.par 8 1) 0 = true ∧ s.planWorks = true)) : cmdFwActivate k s = refuse s stBadState :=
  if_pos (by simpa [or_assoc] using h)

section
variable (htrial : s.bootRec.trial = false) (hmarker : s.markerOk s.inactiveSlot = true)
  (hidle : bit (pf k.par 8 1) 0 = true → s.planWorks = false)
include htrial hmarker hidle

theorem cmdFwActivate_of_marker : cmdFwActivate k s =
    if s.markerMatches s.inactiveSlot = false then refuse s stImageBad
    else if s.authentic s.inactiveSlot = false then refuse s stAuthFail
    else okay (if bit (pf k.par 8 1) 0 then { s.newRecord s.inactiveSlot true 3 with resetAfter := some k.seq }
      else s.newRecord s.inactiveSlot true 3) :=
  if_neg (by simpa [htrial, hmarker] using hidle)

theorem cmdFwActivate_of_other_image (h : s.markerMatches s.inactiveSlot = false) :
    cmdFwActivate k s = refuse s stImageBad :=
  (cmdFwActivate_of_marker htrial hmarker hidle).trans (if_pos h)

variable (hmatch : s.markerMatches s.inactiveSlot = true)
include hmatch

theorem cmdFwActivate_of_not_authentic (h : s.authentic s.inactiveSlot = false) : cmdFwActivate k s = refuse s stAuthFail :=
  (cmdFwActivate_of_marker htrial hmarker hidle).trans ((if_neg (ne_false_of_eq_true hmatch)).trans (if_pos h))

theorem cmdFwActivate_of_authentic (h : s.authentic s.inactiveSlot = true) : cmdFwActivate k s =
    okay (if bit (pf k.par 8 1) 0 then { s.newRecord s.inactiveSlot true 3 with resetAfter := some k.seq }
      else s.newRecord s.inactiveSlot true 3) :=
  (cmdFwActivate_of_marker htrial hmarker hidle).trans
    ((if_neg (ne_false_of_eq_true hmatch)).trans (if_neg (ne_false_of_eq_true h)))

end

/-! ### FW_CONFIRM (R408) -/

section
variable {f : FwInfo} (hfw : s.fw = some f)
include hfw

/-- Only the slot that runs on trial is confirmed. -/
theorem cmdFwConfirm_of_running : cmdFwConfirm s =
    if s.bootRec.trial = false ∨ s.bootRec.active ≠ f.slot then refuse s stBadState
    else okay { s.newRecord f.slot false 0 with svn := max (s.newRecord f.slot false 0).svn f.svn }
      (max (s.newRecord f.slot false 0).svn f.svn) := by
  rw [cmdFwConfirm, hfw]
  exact if_congr (by simp) rfl rfl

theorem cmdFwConfirm_refused (h : s.bootRec.trial = false ∨ s.bootRec.active ≠ f.slot) :
    cmdFwConfirm s = refuse s stBadState :=
  (cmdFwConfirm_of_running hfw).trans (if_pos h)

theorem cmdFwConfirm_confirms (htrial : s.bootRec.trial = true) (hslot : s.bootRec.active = f.slot) : cmdFwConfirm s =
    okay { s.newRecord f.slot false 0 with svn := max (s.newRecord f.slot false 0).svn f.svn }
      (max (s.newRecord f.slot false 0).svn f.svn) :=
  (cmdFwConfirm_of_running hfw).trans (if_neg (by simp [htrial, hslot]))

end

end

/-- Settles O49: the flash is written apart from memory and registers, and each other clause is one way its command ends,
above. -/
theorem firmware : Obligations.Firmware := by
  refine ⟨fun s c q x k e he => ⟨fun hs => ?download, fun hs => ?verify, fun hs => ?activate, fun hs => ?confirm⟩,
    fun s a d => ⟨rfl, rfl, rfl, rfl⟩⟩
  case download =>
    refine ⟨fun h => exec_fwDownload_answers he hs (cmdFwDownload_of_bad_fields h),
      fun hok hpin => exec_fwDownload_answers he hs (cmdFwDownload_of_unpinned hok hpin), fun hok hpin =>
      ⟨fun htrial => exec_fwDownload_answers he hs (cmdFwDownload_in_trial hok hpin htrial), fun b s1 htrial hread => ?_⟩⟩
    rw [exec_fwDownload_answers he hs (cmdFwDownload_of_read hok hpin htrial hread)]
    exact ⟨fun h => by rw [State.erasedFor_of_whole h], fun h => by rw [State.erasedFor_of_marker h]⟩
  case verify =>
    exact ⟨fun h => exec_fwVerify_answers he hs (cmdFwVerify_in_trial h), fun htrial =>
      ⟨fun h => exec_fwVerify_answers he hs (cmdFwVerify_of_bad_format htrial h),
        fun hform h => exec_fwVerify_answers he hs (cmdFwVerify_of_unsigned htrial hform h),
        fun h => exec_fwVerify_answers he hs (cmdFwVerify_of_authentic htrial h)⟩⟩
  case activate =>
    refine ⟨fun h => exec_fwActivate_answers he hs (cmdFwActivate_refused h), fun htrial hmarker hidle =>
      ⟨fun h => exec_fwActivate_answers he hs (cmdFwActivate_of_other_image htrial hmarker hidle h),
        fun hmatch h => exec_fwActivate_answers he hs (cmdFwActivate_of_not_authentic htrial hmarker hidle hmatch h),
        fun hmatch h => ?_⟩⟩
    rw [exec_fwActivate_answers he hs (cmdFwActivate_of_authentic htrial hmarker hidle hmatch h)]
    exact ⟨fun hrst => by rw [if_neg (Bool.eq_false_iff.mp hrst)], fun hrst => by rw [if_pos hrst]⟩
  case confirm =>
    exact ⟨fun f hfw htrial hslot => exec_fwConfirm_answers he hs (cmdFwConfirm_confirms hfw htrial hslot),
      fun f hfw h => exec_fwConfirm_answers he hs (cmdFwConfirm_refused hfw h)⟩

end Sys2Proof.Machine

/-! ## Keys, debug unlock, fuses, tamper and TAP (R397, R410, R413 to R417, R419) -/

namespace Sys2Proof.Machine

section
variable {s : State} {slot : Nat}

/-! ### Keys (R410, R413) -/

/-- The key's slot is chosen before the command does anything else. -/
def State.onKeySlot (s : State) (slot : Nat) : State := s.put F.KSU_KEYCTL_SLOT slot

theorem State.provLock_onKeySlot : (s.onKeySlot slot).provLock = s.provLock := by simp [State.onKeySlot]

theorem State.fresh_onKeySlot : (s.onKeySlot slot).fresh = s.fresh := by simp [State.onKeySlot]

theorem ksuKeyLoad_in_debug (h : (s.onKeySlot slot).dbg = true) : ksuKeyLoad slot s = (s.onKeySlot slot).keyDone 2 := if_pos h

/-- What a blob holds, opened under the wrapping key of the device. -/
def openBlob (b : Bytes) : Option Bytes :=
  gcmOpen kwk ((b.drop 4).take 12) (b.take 4) ((b.drop 16).take 32) (b.drop 48)

section
variable {b : Bytes} (hdbg : (s.onKeySlot slot).dbg = false) (hb : (s.onKeySlot slot).regBytes R.KSU_BLOB 16 = b)
include hdbg hb

theorem ksuKeyLoad_of_bad_blob (h : openBlob b = none) : ksuKeyLoad slot s = (s.onKeySlot slot).keyDone 1 := by
  subst hb
  rw [openBlob] at h
  refine (if_neg (Bool.eq_false_iff.mp hdbg)).trans ?_
  dsimp only
  rw [← State.onKeySlot, h]

theorem ksuKeyLoad_of_blob {key : Bytes} (h : openBlob b = some key) : ksuKeyLoad slot s =
    ((State.putBit { s.onKeySlot slot with keys := tput (s.onKeySlot slot).keys slot (leField b 0 4, leNat key) }
      F.KSU_KEYVALID_VALID slot true).wr (R.KSU_KEYID slot) (leField b 0 4)).keyDone 0 := by
  subst hb
  rw [openBlob] at h
  refine (if_neg (Bool.eq_false_iff.mp hdbg)).trans ?_
  dsimp only
  rw [← State.onKeySlot, h]

end

theorem ksuKeyWrap_refused (h : (s.onKeySlot slot).dbg = true ∨ s.provLock = true) :
    ksuKeyWrap slot s = (s.onKeySlot slot).keyDone 2 := by
  rw [← s.provLock_onKeySlot (slot := slot)] at h
  exact if_pos (Bool.or_eq_true_iff.mpr h)

/-- The key that stands in KEYIN, sealed under the wrapping key with the device's next vector, and wiped from KEYIN. -/
def State.wrapKey (s : State) : State :=
  let id := leBytes 4 (s.rd R.KSU_KEYIN_ID)
  let iv := freeBytes s.fresh 12
  let r := gcmSeal kwk iv id (s.regBytes R.KSU_KEYIN 8)
  (State.setRegBytes { s with fresh := s.fresh + 12 } R.KSU_BLOB 16 (id ++ iv ++ r.1 ++ r.2)).clearRegs
    ((rangeFrom 0 8).map R.KSU_KEYIN)

theorem ksuKeyWrap_wraps (hdbg : (s.onKeySlot slot).dbg = false) (hlock : s.provLock = false) :
    ksuKeyWrap slot s = (s.onKeySlot slot).wrapKey.keyDone 0 := by
  rw [← s.provLock_onKeySlot (slot := slot)] at hlock
  exact if_neg (by rw [← State.onKeySlot, hdbg, hlock]; decide)

/-! ### UNLOCK (R414 to R416) -/

/-- The key that stands in the registers is the one chosen, and its signature is over the nonce and this device. -/
def State.unlockSigned (s : State) : Prop :=
  Config.debugDigest (s.get F.KSU_DBG_CTL_KEYSEL) = some (sha384 (s.regBytes R.KSU_DBG_PUB 24)) ∧
    ecdsaOk (s.regBytes R.KSU_DBG_PUB 24) (s.regBytes R.KSU_DBG_SIG 24) (sha384 s.unlockText) = true

/-- UNLOCK once the key is chosen: lockout, live plans and signature in this order. -/
theorem ksuDbgUnlock_eq {keysel : Nat} {t : State} (ht : s.put F.KSU_DBG_CTL_KEYSEL keysel = t) [Decidable t.unlockSigned] :
    ksuDbgUnlock keysel s =
      if t.on F.KSU_STATUS_DBG_LOCKOUT = true then (t.put F.KSU_DBG_CTL_RESULT 2).newNonce
      else if t.livePlans ≠ [] then (t.put F.KSU_DBG_CTL_RESULT 3).newNonce
      else if t.unlockSigned then ((t.put F.KSU_DBG_CTL_RESULT 0).put F.KSU_STATUS_DBG 1).warmReset 7 0xFF
      else
        let u := ((t.put F.KSU_DBG_CTL_RESULT 1).incSat F.KSU_DBG_CTL_FAILS).raiseKsu 2
        if 3 ≤ u.get F.KSU_DBG_CTL_FAILS then (u.put F.KSU_STATUS_DBG_LOCKOUT 1).newNonce else u.newNonce := by
  subst ht
  refine if_congr Iff.rfl rfl (if_congr (by simp) rfl (if_congr ?_ rfl (apply_ite State.newNonce ..)))
  simp only [State.unlockSigned, Bool.and_eq_true, beq_iff_eq]

/-! ### Fuses (R397, R419) -/

section
variable {v : Nat} {f : FwInfo} (hfw : s.fw = some f)
include hfw

theorem ksuRevoke_ignored (h : bits v 15 8 ≠ 0x5A ∨ bits v 1 0 = f.key) : ksuRevoke v s = s := by
  rw [ksuRevoke, hfw]
  exact if_pos (by simpa [or_assoc] using h.imp_right .inl)

theorem ksuRevoke_revokes (hcode : bits v 15 8 = 0x5A) (hkey : bits v 1 0 ≠ f.key) (hother : s.bootable (1 - f.slot) = false) :
    ksuRevoke v s = { s with rootRev := s.rootRev ||| 2 ^ bits v 1 0 } := by
  rw [ksuRevoke, hfw]
  exact if_neg (by simp [hcode, hkey, hother])

end

theorem ksuProvLock_of_set {v : Nat} (h : bit v 0 = true) :
    ksuProvLock v s = State.put { s with provLock := true } F.KSU_LOCKCTL_PROV_LOCK 1 := if_pos h

theorem ksuProvLock_of_clear {v : Nat} (h : bit v 0 = false) : ksuProvLock v s = s := if_neg (Bool.eq_false_iff.mp h)

/-! ### The TAP -/

variable {dr : Nat}

theorem tapInstruction_zero : tapInstruction 0 dr s = State.emit { s with tapIr := 0, tapHigh := false } (.tap 0) := rfl

theorem tapInstruction_one : tapInstruction 1 dr s = State.emit { s with tapIr := 1, tapHigh := false } (.tap 0x14832001) := rfl

theorem tapInstruction_of_high {ir : Nat} (h : ir = 4 ∨ ir = 5) :
    tapInstruction ir dr s = State.emit { s with tapIr := ir, tapHigh := true } (.tap 0) := by
  obtain rfl | rfl := h
  · rfl
  · rfl

theorem tapInstruction_six : tapInstruction 6 dr s = State.dbgKey { s with tapIr := 6, tapHigh := false } dr := rfl

end

/-- Settles O50: the key commands choose their slot first, UNLOCK makes its checks in one order, and each clause is one way its
command ends, above. -/
theorem keysAndFuses : Obligations.KeysAndFuses := by
  classical
  refine ⟨fun s slot hslot => ⟨?loadDebug, fun hdbg hb => ?load, ?clear, ?wrapRefused, fun hdbg hlock => ?wrap⟩,
    fun s keysel hkey => ?unlock, fun s v f hv => ⟨fun hfw => ?revoke, ?lock, ?unlocked⟩, fun s det hlo hhi => ?tamper,
    fun s dr => ?tap⟩
  case loadDebug =>
    exact fun h => (exec_ksuKeyLoad s slot (decide_eq_true hslot)).trans (congrArg _ (ksuKeyLoad_in_debug h))
  case load =>
    have hexec := exec_ksuKeyLoad s slot (decide_eq_true hslot)
    exact ⟨fun h => hexec.trans (congrArg _ (ksuKeyLoad_of_bad_blob hdbg hb h)),
      fun key h => hexec.trans (congrArg _ (ksuKeyLoad_of_blob hdbg hb h))⟩
  case clear => exact exec_ksuKeyClear s slot (decide_eq_true hslot)
  case wrapRefused =>
    exact fun h => (exec_ksuKeyWrap s slot (decide_eq_true hslot)).trans (congrArg _ (ksuKeyWrap_refused h))
  case wrap =>
    rw [← State.fresh_onKeySlot (slot := slot)]
    exact (exec_ksuKeyWrap s slot (decide_eq_true hslot)).trans (congrArg _ (ksuKeyWrap_wraps hdbg hlock))
  case unlock =>
    rw [exec_ksuDbgUnlock s keysel (decide_eq_true hkey), ksuDbgUnlock_eq rfl]
    exact ⟨fun h => congrArg _ (if_pos h),
      fun hfree h => congrArg _ ((if_neg (Bool.eq_false_iff.mp hfree)).trans (if_pos h)), fun hfree hidle =>
      ⟨fun h => congrArg _ ((if_neg (Bool.eq_false_iff.mp hfree)).trans ((if_neg (not_not.mpr hidle)).trans (if_pos h))),
        fun h => congrArg _ ((if_neg (Bool.eq_false_iff.mp hfree)).trans ((if_neg (not_not.mpr hidle)).trans (if_neg h)))⟩⟩
  case revoke =>
    have hexec := exec_ksuRevoke s v (decide_eq_true hv)
    exact ⟨fun h => hexec.trans (congrArg _ (ksuRevoke_ignored hfw h)),
      fun hcode hkey hother => hexec.trans (congrArg _ (ksuRevoke_revokes hfw hcode hkey hother))⟩
  case lock => exact fun h => (exec_ksuProvLock s v (decide_eq_true hv)).trans (congrArg _ (ksuProvLock_of_set h))
  case unlocked => exact fun h => (exec_ksuProvLock s v (decide_eq_true hv)).trans (congrArg _ (ksuProvLock_of_clear h))
  case tamper => exact exec_tamper s det (by simp [Instr.wellFormed, hlo, hhi])
  case tap =>
    exact ⟨exec_tapInstruction s 0 dr rfl, exec_tapInstruction s 1 dr rfl,
      fun ir h => (exec_tapInstruction s ir dr (decide_eq_true (by omega))).trans (congrArg _ (tapInstruction_of_high h)),
      exec_tapInstruction s 6 dr rfl⟩

end Sys2Proof.Machine
